-- ==== Sys2Proof/Word.lean ====
section
/-! DEFINITION. The words of the machine: registers are 32 bits wide (R3) and memory is bytes (R2). -/

namespace Sys2Proof

/-- A register (R3). -/
abbrev Word := BitVec 32

/-- A byte of a record, descriptor, frame or memory image (R2). -/
abbrev Byte := BitVec 8

end Sys2Proof
end

