-- ==== Sys2Proof/Syntax.lean ====
section
/-! DEFINITION. The commands of the block: one constructor of `Instr` per row of the opcode table, with the
operands that come from outside: who makes an access, the value written, the frame, sample or verdict that
arrives. -/

namespace Sys2Proof

/-- Who makes a register access (R340, R374, R115, R369): a PCI Express function (0 the PF, n virtual function n),
a control core, a descriptor of a command ring of a domain (R349), or the debug port. -/
inductive Requester where
  | fn (n : Fin 16)
  | core (n : Fin 4)
  | ring (d : Fin 16)
  | debug
  deriving DecidableEq, Repr

/-- An agent's request for a chain (R112). -/
structure AllocReq where
  agent : Fin 64
  nbuf : Fin 8
  dom : Fin 16
  de : Bool
  deriving DecidableEq, Repr

/-- A frame as it comes in at a port (R71): its bytes from the destination address up to the FCS, whether the FCS
is good, RS-FEC codewords corrected and uncorrectable, and the pool the receive agent asks (the manual names none). -/
structure RxFrame where
  bytes : List (BitVec 8)
  fcsOk : Bool
  corrected : Nat
  uncorrectable : Nat
  pool : Fin 8
  deriving DecidableEq, Repr

/-- The host's fields of a device-to-host entry (Table 20-6), as the host left them when it returned the entry. -/
structure HostFields where
  bufAddr : BitVec 64
  bufLen : BitVec 16
  action : BitVec 8
  deriving DecidableEq, Repr

/-- What cast-on meets (R396, R397): the manifest, firmware and pattern the NOR holds (none: no valid MAGIC),
whether the PCIe link reached L0 within 1 s, the controllers whose training failed, whether the isolation link came
up within 50 ms, the end of each step in µs (R396), and what Vadjaryn writes before READY: TIM_ESN_BASE (R66),
CLS_HASH_KEY (R83) and the P memory of each core (R161). -/
structure BootEnv where
  nor : Option (List (BitVec 8) × List (BitVec 8) × List (BitVec 8))
  hostLink : Bool
  trainFail : List (Fin 8)
  fldUp : Bool
  steps : List Nat
  esnBase : BitVec 64
  hashKey : BitVec 128
  pmem : List (Fin 96 × List (BitVec 8))
  deriving DecidableEq, Repr

/-- A command descriptor as HST fetched it (Table 20-3); `data` holds the words of DATA, or the words a DMA_WRITE
fetched, and `boot` what a cast-on meets that one of its writes starts. -/
structure CmdDesc where
  op : BitVec 3
  notify : Bool
  offset : BitVec 32
  count : BitVec 16
  tag : BitVec 16
  mask : Word
  data : List Word
  boot : BootEnv
  deriving DecidableEq, Repr

/-- An injection descriptor as HST fetched it (Table 20-4), with the frame it names. -/
structure InjDesc where
  kind : BitVec 2
  tsReq : Bool
  notify : Bool
  legValid : Bool
  tag : BitVec 16
  port : Fin 8
  leg : BitVec 13
  stream : BitVec 5
  frame : List (BitVec 8)
  deriving DecidableEq, Repr

/-- A BAR2 access (R343): bytes written, or how many are read, at an offset. -/
inductive Bar2Op where
  | write (offset : Nat) (bytes : List (BitVec 8))
  | read (offset : Nat) (len : Nat)
  deriving DecidableEq, Repr

/-- How an A register moves after an access (R146): by an S register, or by an immediate times the access size. -/
inductive Step where
  | reg (s : Fin 8)
  | imm (v : BitVec 4)
  deriving DecidableEq, Repr

/-- Operation of the ALU on D registers (Table 08-2). -/
inductive AluOp where
  | add | sub | compare | min | max | abs | and | or | xor | mov | add2 | sub2
  deriving DecidableEq, Repr

/-- Count of a LOOP (R147). -/
inductive LoopCount where
  | reg (d : Fin 16)
  | imm (n : BitVec 16)
  deriving DecidableEq, Repr

/-- One operation of a slot of an instruction word (Tables 08-2, 09-2 and 09-3). `form`: 0 fractional, 1 signed, 2
unsigned, 3 dual. `size`: 0 16-bit, 1 32-bit, 2 64-bit. Register numbers are those of Tables 08-1 and 09-1. `empty` is
the empty slot of a 64-bit word. -/
inductive SlotOp where
  | product (op : Fin 3) (form : Fin 4) (acc : Fin 4) (x y : Fin 16)
  | clr (acc : Fin 4)
  | accShift (acc : Fin 4) (amount : BitVec 7)
  | accAdd (dst src : Fin 4)
  | alu (op : AluOp) (d a b : Fin 16)
  | shift (d a : Fin 16) (amount : BitVec 6) (arith : Bool)
  | ext (d : Fin 16) (acc : Fin 4) (sh : BitVec 6)
  | ext2 (d : Fin 16) (j : Fin 2) (sh : BitVec 6)
  | expD (d a : Fin 16)
  | expAcc (d : Fin 16) (acc : Fin 4)
  | extN (d e : Fin 16) (acc : Fin 4)
  | load (y : Bool) (size : Fin 3) (r : Fin 64) (an : Fin 8) (step : Step)
  | store (y : Bool) (size : Fin 3) (r : Fin 64) (an : Fin 8) (step : Step)
  | ldi (r : Fin 64) (v : BitVec 16)
  | ldih (r : Fin 64) (v : BitVec 16)
  | move (toB2 : Bool) (dst : Fin 64) (fromB2 : Bool) (src : Fin 64)
  | pmov (r : Fin 64) (an : Fin 8) (step : Step)
  | xadd (d s : Fin 16) (an : Fin 8) (step : Step)
  | jmp (target : BitVec 16)
  | call (target : BitVec 16)
  | ret
  | br (cond : Fin 16) (target : BitVec 16)
  | loop (count : LoopCount) (last : BitVec 16)
  | lpop
  | rti
  | take
  | give
  | giveY
  | post (desc : BitVec 512)
  | fence
  | cinv
  | nop
  | empty
  deriving DecidableEq, Repr

/-- The fields of a unit slot that a core writes with a command (Table 09-5). -/
structure UnitCmd where
  irq : Bool
  src : Word
  dst : Word
  len : Word
  param0 : Word
  param1 : Word
  deriving DecidableEq, Repr
/-- The commands (spec/opcode_table.json), in the order of the table. -/
inductive Instr where
  /-- REGISTER_WRITE (R5): A write to a register with no row of its own takes effect according to its type (SH to the shadow, LV at the next unit of work, HL only while halted, RW, W1C). -/
  | registerWrite (q : Requester) (addr : Nat) (width : Nat) (v : BitVec 64) (boot : BootEnv)
  /-- LO_LATCH_READ (R384): A read of the LO half of a 64-bit counter or row/round number latches its HI half. -/
  | loLatchRead (q : Requester) (addr : Nat)
  /-- ESN_QUEUED_ISSUE (R64): Event arrivals queued beyond four per clock receive their ESNs and times in later clocks, in order. -/
  | esnQueuedIssue
  /-- ROW_TICK (R59): The row time base reaches a row boundary and TIM issues the row tick to every block. -/
  | rowTick
  /-- ROUND_TICK (R59): The round time base reaches a round boundary and TIM issues the round tick. -/
  | roundTick
  /-- UPDATE_TICK (R54): Every 1 µs each time base runs its slew limiter and every enabled shaper adds its rate to its credit. -/
  | updateTick
  /-- TB_LATCH_READ (R47): A read of TIM_TB_FRAC latches the whole time base for the following reads. -/
  | tbLatchRead (q : Requester) (k : Fin 8)
  /-- TB_STEP (R53): A write of TIM_TB_STEP.GO sets the time base to the step target if it is not in use. -/
  | tbStep (q : Requester) (k : Fin 8) (v : Word)
  /-- TB_PHASE_WRITE (R54): A write of TIM_TB_PHASE_HI adds the 48-bit correction to the remainder. -/
  | tbPhaseWrite (q : Requester) (k : Fin 8) (v : Word)
  /-- LOCK_IND_WRITE (R58): The servo writes LOCK_IND, moving the time base between ACQUIRE, LOCKED and PARTNER. -/
  | lockIndWrite (q : Requester) (k : Fin 8) (v : Word)
  /-- TB_MASTER_LOST (R57): No Sync has been timestamped for LOSS_MS and the time base declares its master lost. -/
  | tbMasterLost (k : Fin 8)
  /-- TICK_CTL_WRITE (R63): A write of TIM_TICK_CTL starts or stops row and round ticks. -/
  | tickCtlWrite (q : Requester) (v : Word)
  /-- ESN_RESV_WRITE (R66): A write of TIM_ESN_RESV_HI raises the reservation limit if it increases. -/
  | esnResvWrite (q : Requester) (v : Word)
  /-- TXTS_POP (R51): A read of TIM_PORT_TXTS_SEC_HI removes the oldest timestamp FIFO entry. -/
  | txtsPop (q : Requester) (p : Fin 8)
  /-- PORT_ENABLE (R70): NET_PORT_CTL.EN written 1 powers the SerDes and enters TRAINING or DOWN. -/
  | portEnable (q : Requester) (p : Fin 8)
  /-- PORT_DISABLE (R70): NET_PORT_CTL.EN written 0 takes the port to DISABLED. -/
  | portDisable (q : Requester) (p : Fin 8)
  /-- RETRAIN (R70): NET_PORT_CTL.RETRAIN written 1 restarts link training. -/
  | retrain (q : Requester) (p : Fin 8)
  /-- TRAINING_COMPLETE (R70): Link training completes and the port enters DOWN. -/
  | trainingComplete (p : Fin 8)
  /-- TRAIN_FAIL (R70): Training is incomplete after 500 ms and restarts. -/
  | trainFail (p : Fin 8)
  /-- LINK_UP (R70): Lock has held for 10 ms without a break and the port enters UP. -/
  | linkUp (p : Fin 8)
  /-- NO_LOCK_TIMEOUT (R70): A port in DOWN has had no lock for 100 ms and returns to TRAINING. -/
  | noLockTimeout (p : Fin 8)
  /-- LINK_DOWN (R70): Lock is lost or a local fault appears and the port enters DOWN. -/
  | linkDown (p : Fin 8) (locks : BitVec 3) (localFault : Bool) (receiving : Bool)
  /-- REMOTE_FAULT (R70): A remote fault is received and the port sends idles. -/
  | remoteFault (p : Fin 8)
  /-- REMOTE_FAULT_CLEAR (R70): The remote fault has been absent for 1 ms and the port returns to UP. -/
  | remoteFaultClear (p : Fin 8)
  /-- FRAME_RECEIVED (R71): A frame received on a port is checked by the MAC, timestamped, parsed, looked up, policed and handed on. -/
  | frameReceived (p : Fin 8) (f : RxFrame)
  /-- PAUSE_EXPIRY (R72): The pause quanta of a port-class node run out and the node resumes. -/
  | pauseExpiry (p : Fin 8) (c : Fin 8)
  /-- PFC_FRAME_SEND (R73): The MAC sends a PFC or PAUSE frame on assertion or deassertion of a priority. -/
  | pfcFrameSend (p : Fin 8)
  /-- PFC_REPEAT (R73): While a priority stays asserted, the PFC frame is repeated every QUANTA/2 quanta. -/
  | pfcRepeat (p : Fin 8)
  /-- CLS_INSERT (R81): CLS_CMD INSERT places the staged record in the flow store. -/
  | clsInsert (q : Requester) (d : Fin 16)
  /-- CLS_DELETE (R80): CLS_CMD DELETE removes the record with the staged key and refills the slot from the CAM. -/
  | clsDelete (q : Requester) (d : Fin 16)
  /-- CLS_REPLACE (R80): CLS_CMD REPLACE overwrites the non-key bytes of a record. -/
  | clsReplace (q : Requester) (d : Fin 16)
  /-- CLS_LOOKUP (R80): CLS_CMD LOOKUP copies a record into CLS_CMD_REC0–7. -/
  | clsLookup (q : Requester) (d : Fin 16)
  /-- HASH_KEY_WRITE (R83): A write of CLS_HASH_KEY is accepted only while the flow store is empty. -/
  | hashKeyWrite (q : Requester) (i : Fin 4) (v : Word)
  /-- POL_READ (R89): ING_POL_CMD READ copies a policer record to the window. -/
  | polRead (q : Requester) (d : Fin 16) (v : Word)
  /-- POL_WRITE_CFG (R89): ING_POL_CMD WRITE_CFG writes rates and bursts keeping the tokens. -/
  | polWriteCfg (q : Requester) (d : Fin 16) (v : Word)
  /-- POL_WRITE_ALL (R89): ING_POL_CMD WRITE_ALL writes the whole policer record. -/
  | polWriteAll (q : Requester) (d : Fin 16) (v : Word)
  /-- KEY_INSTALL (R96): CIP INSTALL checks and writes a key slot and starts derivation. -/
  | keyInstall (q : Requester) (d : Fin 16) (v : Word)
  /-- KEY_ERASE (R97): CIP ERASE zeroes a key slot to EMPTY. -/
  | keyErase (q : Requester) (d : Fin 16) (v : Word)
  /-- KEY_READ_STAT (R97): CIP READ_STAT fills the slot information registers. -/
  | keyReadStat (q : Requester) (d : Fin 16) (v : Word)
  /-- KEY_RELEASE (R102): CIP RELEASE returns a QUARANTINED slot to LIVE. -/
  | keyRelease (q : Requester) (d : Fin 16) (v : Word)
  /-- INDEX_READ (R95): CIP INDEX_READ copies an index record to the window. -/
  | indexRead (q : Requester) (d : Fin 16) (v : Word)
  /-- INDEX_SET (R103): CIP INDEX_SET writes ROC, SEQ, state and SRTCP index of an index record. -/
  | indexSet (q : Requester) (d : Fin 16) (v : Word)
  /-- DERIVATION_DONE (R97): Session key derivation ends and the slot becomes LIVE. -/
  | derivationDone (slot : Fin 32768)
  /-- TAG_VERDICT (R99): A packet's tag verdict arrives and every consumer of its plaintext commits or undoes. -/
  | tagVerdict (chain : BitVec 25) (ok : Bool)
  /-- LATE_VERDICT (R100): The FCS of a cut-through replica falls due before the verdict and the frame is ended. -/
  | lateVerdict (p : Fin 8)
  /-- FWD_WALK_RESUME (R275): A subscription walk that waited for an earlier packet's verdict proceeds. -/
  | fwdWalkResume (chain : BitVec 25)
  /-- ALLOC_REQUEST (R112): A hardware agent's allocation request is granted, refused or left waiting in the pool rotation. -/
  | allocRequest (p : Fin 8) (reqs : List AllocReq)
  /-- CACHE_REFILL (R108): A DRAM pool's on-die ID cache refills and waiting requests proceed. -/
  | cacheRefill (p : Fin 8)
  /-- CHAIN_SHARE (R113): A SHARE sets a chain's owners and last owner. -/
  | chainShare (agent : Fin 64) (id : BitVec 25) (mask : BitVec 64) (last : Fin 64)
  /-- CHAIN_DROP (R114): An owner gives back its share of a chain. -/
  | chainDrop (agent : Fin 64) (id : BitVec 25)
  /-- CHAIN_FREE (R114): The last owner frees a chain, returning it when no share remains. -/
  | chainFree (agent : Fin 64) (id : BitVec 25)
  /-- BPM_CMD_ALLOC (R115): A window ALLOC requests a chain for the window's domain. -/
  | bpmCmdAlloc (q : Requester) (d : Fin 16) (v : Word)
  /-- BPM_CMD_SHARE (R115): A window SHARE shares a chain. -/
  | bpmCmdShare (q : Requester) (d : Fin 16) (v : Word)
  /-- BPM_CMD_DROP (R115): A window DROP gives back a share. -/
  | bpmCmdDrop (q : Requester) (d : Fin 16) (v : Word)
  /-- BPM_CMD_FREE (R115): A window FREE frees a chain. -/
  | bpmCmdFree (q : Requester) (d : Fin 16) (v : Word)
  /-- BPM_CMD_READ (R115): A window READ copies a descriptor to BPM_DESC. -/
  | bpmCmdRead (q : Requester) (d : Fin 16) (v : Word)
  /-- TASK_SUBMIT (R118): A hardware agent submits a task to Hook, which queues or refuses it. -/
  | taskSubmit (agent : Fin 64) (dom : Fin 16) (desc : BitVec 512)
  /-- SUB_CMD_GO (R118): HOK_SUB_CMD.GO submits the staged descriptor from a window. -/
  | subCmdGo (q : Requester) (d : Fin 16) (v : Word)
  /-- TAKE (R121): A core executes TAKE and receives a task or sleeps. -/
  | take (n : Fin 96)
  /-- GIVE (R123): A core ends its task: stamp, completion record, descriptor freed. `atTick`: it reaches Hook in the clock of
  the last row tick (R436). -/
  | give (n : Fin 96) (atTick : Bool)
  /-- GIVE_Y (R128): GIVE.Y returns the running task to the head of its group with affinity. -/
  | giveY (n : Fin 96)
  /-- SWEEP_END (R125): Hook's sweep of queued overdue tasks ends and the overrun is reported. -/
  | sweepEnd
  /-- CQ_POP (R124): HOK_CQ_POP removes the oldest completion record. -/
  | cqPop (q : Requester) (d : Fin 16) (v : Word)
  /-- MPY (R133): The MAC slot writes a product into an accumulator. -/
  | mpy (n : Fin 96) (form : Fin 4) (acc : Fin 4) (x y : Fin 16) (rest : List SlotOp)
  /-- MAC (R134): The MAC slot adds a product to an accumulator. -/
  | mac (n : Fin 96) (form : Fin 4) (acc : Fin 4) (x y : Fin 16) (rest : List SlotOp)
  /-- MSU (R134): The MAC slot subtracts a product from an accumulator. -/
  | msu (n : Fin 96) (form : Fin 4) (acc : Fin 4) (x y : Fin 16) (rest : List SlotOp)
  /-- CLR (R130): The MAC slot clears an accumulator. -/
  | clr (n : Fin 96) (acc : Fin 4) (rest : List SlotOp)
  /-- ACC_SHIFT (R134): An accumulator is shifted by a signed amount. -/
  | accShift (n : Fin 96) (acc : Fin 4) (amount : BitVec 7) (rest : List SlotOp)
  /-- ACC_ADD (R134): One accumulator is added to another. -/
  | accAdd (n : Fin 96) (dst src : Fin 4) (rest : List SlotOp)
  /-- ADD (R153): ALU 32-bit add. -/
  | aluAdd (n : Fin 96) (d x y : Fin 16) (rest : List SlotOp)
  /-- SUB (R153): ALU 32-bit subtract. -/
  | aluSub (n : Fin 96) (d x y : Fin 16) (rest : List SlotOp)
  /-- COMPARE (R130): ALU compare setting flags. -/
  | aluCompare (n : Fin 96) (x y : Fin 16) (rest : List SlotOp)
  /-- MIN (R153): ALU minimum. -/
  | aluMin (n : Fin 96) (d x y : Fin 16) (rest : List SlotOp)
  /-- MAX (R153): ALU maximum. -/
  | aluMax (n : Fin 96) (d x y : Fin 16) (rest : List SlotOp)
  /-- ABS (R153): ALU absolute value. -/
  | aluAbs (n : Fin 96) (d x : Fin 16) (rest : List SlotOp)
  /-- AND (R153): ALU logical and. -/
  | aluAnd (n : Fin 96) (d x y : Fin 16) (rest : List SlotOp)
  /-- OR (R153): ALU logical or. -/
  | aluOr (n : Fin 96) (d x y : Fin 16) (rest : List SlotOp)
  /-- XOR (R153): ALU logical exclusive or. -/
  | aluXor (n : Fin 96) (d x y : Fin 16) (rest : List SlotOp)
  /-- MOV (R153): ALU register move. -/
  | aluMov (n : Fin 96) (d x : Fin 16) (rest : List SlotOp)
  /-- ADD2 (R153): ALU dual 16-bit add. -/
  | aluAdd2 (n : Fin 96) (d x y : Fin 16) (rest : List SlotOp)
  /-- SUB2 (R153): ALU dual 16-bit subtract. -/
  | aluSub2 (n : Fin 96) (d x y : Fin 16) (rest : List SlotOp)
  /-- BARREL_SHIFT (R130): ALU barrel shift of a D register. -/
  | barrelShift (n : Fin 96) (d x : Fin 16) (amount : BitVec 6) (arith : Bool) (rest : List SlotOp)
  /-- EXT (R135): Extraction of an accumulator to Q1.31 with convergent rounding. -/
  | ext (n : Fin 96) (d : Fin 16) (acc : Fin 4) (sh : BitVec 6) (rest : List SlotOp)
  /-- EXT2 (R135): Dual extraction of two accumulators to Q1.15. -/
  | ext2 (n : Fin 96) (d : Fin 16) (j : Fin 2) (sh : BitVec 6) (rest : List SlotOp)
  /-- EXP (R136): Exponent of a D register or accumulator. -/
  | exp (n : Fin 96) (d : Fin 16) (ofAcc : Bool) (x : Fin 16) (rest : List SlotOp)
  /-- EXT_N (R136): Normalising extraction writing value and shift. -/
  | extN (n : Fin 96) (d e : Fin 16) (acc : Fin 4) (rest : List SlotOp)
  /-- LOAD (R146): An X or Y move loads memory through An and post-steps it. -/
  | dspLoad (n : Fin 96) (y : Bool) (size : Fin 3) (r : Fin 64) (an : Fin 8) (step : Step) (rest : List SlotOp)
  /-- STORE (R146): An X or Y move stores to memory through An and post-steps it. -/
  | dspStore (n : Fin 96) (y : Bool) (size : Fin 3) (r : Fin 64) (an : Fin 8) (step : Step) (rest : List SlotOp)
  /-- LDI (R153): Load of a sign-extended 16-bit immediate. -/
  | ldi (n : Fin 96) (r : Fin 64) (v : BitVec 16) (rest : List SlotOp)
  /-- LDIH (R153): Load of an immediate into the high half. -/
  | ldih (n : Fin 96) (r : Fin 64) (v : BitVec 16) (rest : List SlotOp)
  /-- REG_MOVE (R145): A register move within or between banks, bank-2 writes taking effect two words later. -/
  | regMove (n : Fin 96) (toB2 : Bool) (dst : Fin 64) (fromB2 : Bool) (src : Fin 64) (rest : List SlotOp)
  /-- PMOV (R131): A read of P memory as data on the X slot. -/
  | pmov (n : Fin 96) (r : Fin 64) (an : Fin 8) (step : Step) (rest : List SlotOp)
  /-- XADD (R154): Atomic add to a shared-memory word returning the old value. -/
  | xadd (n : Fin 96) (d s : Fin 16) (an : Fin 8) (step : Step) (rest : List SlotOp)
  /-- JMP (R137): Jump with two delay slots. -/
  | jmp (n : Fin 96) (target : BitVec 16)
  /-- CALL (R153): Call writing RA. -/
  | call (n : Fin 96) (target : BitVec 16)
  /-- RET (R153): Return to RA. -/
  | ret (n : Fin 96)
  /-- BR (R153): Conditional branch on COND. -/
  | br (n : Fin 96) (cond : Fin 16) (target : BitVec 16)
  /-- LOOP (R147): LOOP starts a hardware loop and pushes the loop stack. -/
  | loop (n : Fin 96) (count : LoopCount) (last : BitVec 16)
  /-- LPOP (R148): LPOP pops the loop stack without a jump. -/
  | lpop (n : Fin 96)
  /-- RTI (R149): Return from interrupt restoring FLG and GIE. -/
  | rti (n : Fin 96)
  /-- POST (R154): POST fences and submits a task to Hook. -/
  | post (n : Fin 96) (desc : BitVec 512)
  /-- FENCE (R154): FENCE stalls until the core's shared stores drain. -/
  | fence (n : Fin 96)
  /-- CINV (R140): CINV invalidates the loop cache. -/
  | cinv (n : Fin 96)
  /-- NOP (R153): No operation. -/
  | nop (n : Fin 96)
  /-- CYC_MATCH (R149): CYC_LO equals CYCCMP and interrupt source 0 becomes pending. -/
  | cycMatch (n : Fin 96)
  /-- INTERRUPT_ENTRY (R149): A pending enabled interrupt is taken at a word boundary. -/
  | interruptEntry (n : Fin 96)
  /-- MDCT (R158): Codec assist MDCT command. -/
  | mdct (n : Fin 96) (c : UnitCmd)
  /-- IMDCT (R158): Codec assist IMDCT command. -/
  | imdct (n : Fin 96) (c : UnitCmd)
  /-- RC_DECODE (R158): Codec assist range decode command. -/
  | rcDecode (n : Fin 96) (c : UnitCmd)
  /-- RC_ENCODE (R158): Codec assist range encode command. -/
  | rcEncode (n : Fin 96) (c : UnitCmd)
  /-- PVQ_DECODE (R158): Codec assist PVQ decode command. -/
  | pvqDecode (n : Fin 96) (c : UnitCmd)
  /-- PVQ_SEARCH (R158): Codec assist PVQ search command. -/
  | pvqSearch (n : Fin 96) (c : UnitCmd)
  /-- CONVERT (R159): ASRC CONVERT produces output samples from a context. -/
  | convert (n : Fin 96) (c : UnitCmd)
  /-- SET_RATIO (R159): ASRC SET_RATIO sets a context's ratio. -/
  | setRatio (n : Fin 96) (c : UnitCmd)
  /-- ASRC_RESET (R159): ASRC RESET clears a context's history and phase. -/
  | asrcReset (n : Fin 96) (c : UnitCmd)
  /-- TO_BUF (R160): Copy unit TO_BUF copies shared memory into a chain. -/
  | toBuf (n : Fin 96) (c : UnitCmd)
  /-- FROM_BUF (R160): Copy unit FROM_BUF copies a chain to shared memory. -/
  | fromBuf (n : Fin 96) (c : UnitCmd)
  /-- COPY_ALLOC (R160): Copy unit ALLOC requests a chain for the skein. -/
  | copyAlloc (n : Fin 96) (c : UnitCmd)
  /-- COPY_FREE (R160): Copy unit FREE releases a chain. -/
  | copyFree (n : Fin 96) (c : UnitCmd)
  /-- COPY_DROP (R160): Copy unit DROP gives back a share. -/
  | copyDrop (n : Fin 96) (c : UnitCmd)
  /-- UNIT_DONE (R158): A skein unit command completes, sets DONE or ERR and may raise its interrupt. -/
  | unitDone (sk : Fin 6) (unit : Fin 3)
  /-- CORE_HALT (R161): DSP_CORE_CTL.HALT halts a core at the next word boundary. -/
  | coreHalt (q : Requester) (n : Fin 96) (v : Word)
  /-- CORE_RESUME (R161): DSP_CORE_CTL.RESUME continues a halted core's task. -/
  | coreResume (q : Requester) (n : Fin 96) (v : Word)
  /-- CORE_STEP (R161): DSP_CORE_CTL.STEP issues one word then halts. -/
  | coreStep (q : Requester) (n : Fin 96) (v : Word)
  /-- CORE_RELEASE (R161): DSP_CORE_CTL.RELEASE discards any task and returns the core to TAKE. -/
  | coreRelease (q : Requester) (n : Fin 96) (v : Word)
  /-- REGDATA_ACCESS (R161): An access to DSP_CORE_REGDATA reads or writes a halted core's register. -/
  | regdataAccess (q : Requester) (n : Fin 96) (w : Option Word)
  /-- MEM_DATA_ACCESS (R161): An access to DSP_CORE_MEM_DATA reads or writes local memory and advances WORD. -/
  | memDataAccess (q : Requester) (n : Fin 96) (w : Option Word)
  /-- DSP_BREAK (R161): A core reaches an enabled breakpoint address and halts with its task kept. -/
  | dspBreak (n : Fin 96)
  /-- JBF_READ_ACTIVE (R176): JBF READ_ACTIVE copies an active record to JBF_REC. -/
  | jbfReadActive (q : Requester) (d : Fin 16) (v : Word)
  /-- JBF_READ_SHADOW (R176): JBF READ_SHADOW copies a shadow record to JBF_REC. -/
  | jbfReadShadow (q : Requester) (d : Fin 16) (v : Word)
  /-- JBF_WRITE_CFG (R176): JBF WRITE_CFG writes configuration bytes into the shadow bank. -/
  | jbfWriteCfg (q : Requester) (d : Fin 16) (v : Word)
  /-- JBF_WRITE_LIVE (R176): JBF WRITE_LIVE writes TARGET or encode group live bytes. -/
  | jbfWriteLive (q : Requester) (d : Fin 16) (v : Word)
  /-- JBF_RESET (R176): JBF RESET turns a leg OFF at the next tick. -/
  | jbfReset (q : Requester) (d : Fin 16) (v : Word)
  /-- CABLE_MIX_START (R181): START_DLY after the tick Cable sums buses, forms outputs and updates meters for the row. -/
  | cableMixStart
  /-- SWAP_REQ (R33): A write to PAT_SWAP_REQ requests a swap of the named scopes. -/
  | swapReq (q : Requester) (v : Word)
  /-- SWAP_ACCEPT (R35): Once the requester's earlier writes have arrived PAT accepts, fixes the boundary and seals, or rejects. -/
  | swapAccept
  /-- SWAP_CANCEL (R36): A write to PAT_SWAP_CANCEL cancels pending swaps in time. -/
  | swapCancel (q : Requester) (v : Word)
  /-- SWAP_ACK (R39): The selvedge die's acknowledgement of an audio swap arrives. -/
  | swapAck
  /-- SWAP_ACK_TIMEOUT (R39): No acknowledgement within 250 µs aborts the audio swap and any network swap with it. -/
  | swapAckTimeout
  /-- SWAP_DONE (R31): A scope's bank copy ends, it settles, the generation increments and the seal lifts. -/
  | swapDone (scope : Fin 3)
  /-- GEN_REPORT (R40): The selvedge die's generation report arrives and PAT compares it. -/
  | genReport
  /-- SPLIT_MUTE (R40): The mute command reaches the selvedge die, which mutes field outputs and the slip path. -/
  | splitMute
  /-- LOAD_START (R44): PAT_LOAD_CTL.START begins an image load. -/
  | loadStart (q : Requester) (v : Word)
  /-- LOAD_RESUME (R34): A live load that waited on a sealed scope continues when the seal lifts. -/
  | loadResume
  /-- LOAD_DONE (R44): An image load ends, having written its live runs or failed a check. -/
  | loadDone
  /-- CMP_COMMIT (R247): CMP_COMMIT.GO requests a layer-descriptor commit of an instance. -/
  | cmpCommit (q : Requester) (inst : Fin 64) (v : Word)
  /-- CG_ENABLE (R208): FLD_CG_CTL.EN written 1 enables a clock group into ACQUIRE. -/
  | cgEnable (q : Requester) (k : Fin 32)
  /-- CG_DISABLE (R208): FLD_CG_CTL.EN written 0 turns a clock group OFF. -/
  | cgDisable (q : Requester) (k : Fin 32)
  /-- CG_ACK (R208): FLD_CG_CTL.ACK releases a HELD group to ACQUIRE. -/
  | cgAck (q : Requester) (k : Fin 32)
  /-- CG_LOST (R207): A slave group's clock is lost and it enters LOST. -/
  | cgLost (k : Fin 32)
  /-- CG_EDGES_RESUME (R208): BCLK and WS edges resume on a LOST group, which enters MUTED. -/
  | cgEdgesResume (k : Fin 32)
  /-- CG_RATE_CHANGE (R207): Sixteen frames off the expected period mute the group. -/
  | cgRateChange (k : Fin 32)
  /-- CG_STABLE (R207): Sixteen stable frames resume the group, track a new rate or hold it. -/
  | cgStable (k : Fin 32) (rate : BitVec 32)
  /-- CG_GLITCH (R207): A short BCLK phase is removed and counted. -/
  | cgGlitch (k : Fin 32) (n : Nat)
  /-- LOOP_HOLD (R204): A tension loop's reference is lost and it holds its frequency word. -/
  | loopHold (k : Fin 32)
  /-- LOOP_LOCK (R204): A tension loop locks again; a master group in ACQUIRE qualifies. -/
  | loopLock (k : Fin 32)
  /-- GAUGE_WINDOW (R206): The 1 ms gauge window closes and the frame rate is reported. -/
  | gaugeWindow (k : Fin 32) (n : Nat) (span : Nat)
  /-- TICK_COPY (R202): The selvedge die receives its copy of a row tick and sends FIFO frames, applies masks and reports its generation. -/
  | tickCopy
  /-- LINK_CRC (R216): A bad isolation link frame is retried or its audio words replaced. -/
  | linkCrc (words : List (Bool × Fin 1024 × Fin 24))
  /-- FLD_LINK_DOWN (R216): The isolation link goes down and field inputs go absent. -/
  | fldLinkDown (locks : BitVec 8)
  /-- FLD_LINK_UP (R216): The isolation link retrains and held selvedge events are sent. -/
  | fldLinkUp
  /-- DECODE_START (R220): A ready picture starts decoding on its core. -/
  | decodeStart (core : Fin 16)
  /-- DECODE_END (R223): A picture's decode ends and it commits if all verdicts passed. -/
  | decodeEnd (core : Fin 16)
  /-- VDE_PIC_LOST (R225): HOLD_MS ends with packets missing and the picture is lost. -/
  | vdePicLost (ctx : Fin 1024)
  /-- VDE_READ_ACTIVE (R236): VDE READ_ACTIVE copies a context record. -/
  | vdeReadActive (q : Requester) (d : Fin 16) (v : Word)
  /-- VDE_READ_SHADOW (R236): VDE READ_SHADOW copies a shadow record. -/
  | vdeReadShadow (q : Requester) (d : Fin 16) (v : Word)
  /-- VDE_WRITE_CFG (R236): VDE WRITE_CFG writes bytes 0–63 to the shadow. -/
  | vdeWriteCfg (q : Requester) (d : Fin 16) (v : Word)
  /-- VDE_WRITE_LIVE (R236): VDE WRITE_LIVE writes TARGET. -/
  | vdeWriteLive (q : Requester) (d : Fin 16) (v : Word)
  /-- VDE_RESET (R236): VDE RESET turns a context OFF and back on at the next round. -/
  | vdeReset (q : Requester) (d : Fin 16) (v : Word)
  /-- ENC_BAND_START (R246): An encode band starts once its rows have been published. -/
  | encBandStart (ctx : Fin 512) (band : Fin 4)
  /-- ENCODE_DONE (R235): A frame's encode ends and its packets are handed to forwarding. -/
  | encodeDone (ctx : Fin 512)
  /-- VEN_READ_ACTIVE (R236): VEN READ_ACTIVE copies a context record. -/
  | venReadActive (q : Requester) (d : Fin 16) (v : Word)
  /-- VEN_READ_SHADOW (R236): VEN READ_SHADOW copies a shadow record. -/
  | venReadShadow (q : Requester) (d : Fin 16) (v : Word)
  /-- VEN_WRITE_CFG (R236): VEN WRITE_CFG writes bytes 0–47 to the shadow. -/
  | venWriteCfg (q : Requester) (d : Fin 16) (v : Word)
  /-- VEN_WRITE_LIVE (R236): VEN WRITE_LIVE writes bytes 48–79. -/
  | venWriteLive (q : Requester) (d : Fin 16) (v : Word)
  /-- VEN_RESET (R236): VEN RESET clears the rate buffers and forces a key frame. -/
  | venReset (q : Requester) (d : Fin 16) (v : Word)
  /-- CACHE_REBUILD (R249): CMP_CACHE_CTL.REBUILD schedules a flatten cache rebuild. -/
  | cacheRebuild (q : Requester) (inst : Fin 64) (v : Word)
  /-- CMP_FRAME_DONE (R245): A compositor frame's last row is written and it becomes the newest. -/
  | cmpFrameDone (inst : Fin 64)
  /-- DPO_ENABLE (R252): DPO_CTL.EN written 1 enables an output if its timing is valid. -/
  | dpoEnable (q : Requester) (o : Fin 2)
  /-- DPO_DISABLE (R252): DPO_CTL.EN written 0 disables the output. -/
  | dpoDisable (q : Requester) (o : Fin 2)
  /-- DPO_RETRAIN (R252): DPO_CTL.RETRAIN restarts training. -/
  | dpoRetrain (q : Requester) (o : Fin 2)
  /-- DPO_HPD (R252): HPD has been high for 100 ms and training starts. -/
  | dpoHpd (o : Fin 2)
  /-- HPD_LOW (R252): HPD has been low for 2 ms and the output returns to WAIT_HPD. -/
  | hpdLow (o : Fin 2)
  /-- DPO_LINK_UP (R252): Equalisation completes and the output is ACTIVE. -/
  | dpoLinkUp (o : Fin 2) (levels : BitVec 16)
  /-- DPO_TRAIN_FAIL (R252): Training fails and the output enters FAILED. -/
  | dpoTrainFail (o : Fin 2) (cause : Fin 3)
  /-- TRAIN_RETRY (R252): One second in FAILED with HPD high restarts training. -/
  | trainRetry (o : Fin 2)
  /-- HPD_IRQ (R252): An HPD IRQ pulse showing a lane out of lock starts retraining. -/
  | hpdIrq (o : Fin 2)
  /-- VBLANK (R254): At vertical blank the output takes the newest complete frame and releases the previous one. -/
  | vblank (o : Fin 2)
  /-- DPO_UNDERFLOW (R255): A pixel falls due with the FIFO empty and black is sent to line end. -/
  | dpoUnderflow (o : Fin 2)
  /-- AUX_NATIVE_READ (R256): AUX native read transaction. -/
  | auxNativeRead (q : Requester) (o : Fin 2) (v : Word)
  /-- AUX_NATIVE_WRITE (R256): AUX native write transaction. -/
  | auxNativeWrite (q : Requester) (o : Fin 2) (v : Word)
  /-- AUX_I2C_READ (R256): AUX I²C-over-AUX read transaction. -/
  | auxI2cRead (q : Requester) (o : Fin 2) (v : Word)
  /-- AUX_I2C_WRITE (R256): AUX I²C-over-AUX write transaction. -/
  | auxI2cWrite (q : Requester) (o : Fin 2) (v : Word)
  /-- AUX_REPLY (R256): An AUX reply arrives and ends or defers the transaction. -/
  | auxReply (o : Fin 2) (reply : Fin 3) (bytes : List Byte)
  /-- AUX_DEFER_RETRY (R256): 400 µs after a DEFER the transaction is retried. -/
  | auxDeferRetry (o : Fin 2)
  /-- AUX_TIMEOUT (R256): No reply within 500 µs ends the transaction with TIMEOUT. -/
  | auxTimeout (o : Fin 2)
  /-- TILE_PICTURE_LOST (R264): A tile picture's HOLD_MS wait ends and it is lost. -/
  | tilePictureLost (tile : Fin 16384)
  /-- SQS_FRAME_DONE (R267): A gallery frame is stitched and handed to forwarding. -/
  | sqsFrameDone (gallery : Fin 64)
  /-- SQS_READ_ACTIVE (R268): SQS READ_ACTIVE copies a gallery or tile record. -/
  | sqsReadActive (q : Requester) (d : Fin 16) (v : Word)
  /-- SQS_READ_SHADOW (R268): SQS READ_SHADOW copies a shadow record. -/
  | sqsReadShadow (q : Requester) (d : Fin 16) (v : Word)
  /-- SQS_WRITE_CFG (R268): SQS WRITE_CFG writes shadow bytes. -/
  | sqsWriteCfg (q : Requester) (d : Fin 16) (v : Word)
  /-- SQS_WRITE_LIVE (R268): SQS WRITE_LIVE writes KEY_REQ. -/
  | sqsWriteLive (q : Requester) (d : Fin 16) (v : Word)
  /-- SQS_RESET (R268): SQS RESET puts a gallery or tile through OFF. -/
  | sqsReset (q : Requester) (d : Fin 16) (v : Word)
  /-- SUB_READ (R273): FWD SUB_READ copies a subscription entry. -/
  | subRead (q : Requester) (d : Fin 16) (v : Word)
  /-- SUB_WRITE (R273): FWD SUB_WRITE writes a disabled entry and sets SYNC. -/
  | subWrite (q : Requester) (d : Fin 16) (v : Word)
  /-- SUB_WANT (R273): FWD SUB_WANT writes an entry's WANT. -/
  | subWant (q : Requester) (d : Fin 16) (v : Word)
  /-- SUB_DISABLE (R273): FWD SUB_DISABLE clears an entry's EN and its ownership. -/
  | subDisable (q : Requester) (d : Fin 16) (v : Word)
  /-- SRC_READ (R269): FWD SRC_READ copies a source state. -/
  | srcRead (q : Requester) (d : Fin 16) (v : Word)
  /-- SRC_WRITE (R269): FWD SRC_WRITE writes a source's KIND and SIM_RANK. -/
  | srcWrite (q : Requester) (d : Fin 16) (v : Word)
  /-- LEG_READ_ACTIVE (R287): LEG READ_ACTIVE copies a leg header or outbound stream record. -/
  | legReadActive (q : Requester) (d : Fin 16) (v : Word)
  /-- LEG_READ_SHADOW (R287): LEG READ_SHADOW copies a shadow record. -/
  | legReadShadow (q : Requester) (d : Fin 16) (v : Word)
  /-- LEG_WRITE_CFG (R287): LEG WRITE_CFG writes shadowed leg bytes. -/
  | legWriteCfg (q : Requester) (d : Fin 16) (v : Word)
  /-- LEG_WRITE_LIVE (R286): LEG WRITE_LIVE writes RATE, CEIL, FEC_K or live stream fields. -/
  | legWriteLive (q : Requester) (d : Fin 16) (v : Word)
  /-- LEG_SUSPEND (R289): LEG SUSPEND stops a leg sending and receiving replicas. -/
  | legSuspend (q : Requester) (d : Fin 16) (v : Word)
  /-- LEG_RESUME (R289): LEG RESUME returns a suspended leg to ACTIVE. -/
  | legResume (q : Requester) (d : Fin 16) (v : Word)
  /-- DEQUEUE_DECISION (R295): A port's transmitter nears free and EGS chooses and starts the next frame. -/
  | dequeueDecision (p : Fin 8) (lead : Fin 16)
  /-- FRAME_TX_END (R292): A frame's last byte leaves the MAC: chain released, completion record and timestamp written. -/
  | frameTxEnd (p : Fin 8)
  /-- GATE_CHANGE (R301): EGS_GATE_CTL.CHANGE schedules the admin list for t_c. -/
  | gateChange (q : Requester) (p : Fin 8) (v : Word)
  /-- GATE_CHANGED (R301): At t_c the admin gate list becomes the oper list. -/
  | gateChanged (p : Fin 8)
  /-- EGS_FLUSH (R294): A port out of UP for DOWN_FLUSH_MS has its queues flushed. -/
  | egsFlush (p : Fin 8)
  /-- DRAM_REQUEST (R311): A requester port's request enters a controller queue under hazard and domain checks. -/
  | dramRequest (port : Fin 16) (dom : Fin 16) (addr : BitVec 36) (data : Option (BitVec 512))
  /-- REFRESH_DUE (R310): A refresh falls due and OWED rises, forcing a refresh at 8. -/
  | refreshDue (k : Fin 8)
  /-- MR4_POLL (R309): Every 16 ms the controller reads MR4 and sets tREFI. -/
  | mr4Poll (k : Fin 8) (mr4 : BitVec 8) (rate : Fin 5) (above : Bool) (wrErr : Nat)
  /-- DELAY_UPDATE (R308): The controller measures its oscillator and updates its delays. -/
  | delayUpdate (k : Fin 8)
  /-- DMC_PANIC_LONG (R312): Panic has held beyond PANIC_WARN. -/
  | dmcPanicLong (k : Fin 8) (port : Fin 16)
  /-- NFC_MOUNT (R328): NFC_CTL.MOUNT mounts the record store. -/
  | nfcMount (q : Requester)
  /-- NFC_OPEN (R324): NFC OPEN arms a track slot and writes TRACK_OPEN. -/
  | nfcOpen (q : Requester) (d : Fin 16) (v : Word)
  /-- NFC_CLOSE (R324): NFC CLOSE sets a track's END_ROW. -/
  | nfcClose (q : Requester) (d : Fin 16) (v : Word)
  /-- READ_TRACK (R335): NFC READ_TRACK copies a track record. -/
  | readTrack (q : Requester) (d : Fin 16) (v : Word)
  /-- READ_UNIT (R334): NFC READ_UNIT reads and decrypts a unit to DRAM. -/
  | readUnit (q : Requester) (w : Fin 16)
  /-- APPEND_HOUSE (R334): NFC APPEND_HOUSE appends a HOUSE unit. -/
  | appendHouse (q : Requester) (w : Fin 16)
  /-- NFC_RELEASE (R333): NFC RELEASE raises NFC_RELEASE_LSN. -/
  | nfcRelease (q : Requester) (w : Fin 16)
  /-- NFC_FORMAT (R338): NFC FORMAT erases every good block in the background. -/
  | nfcFormat (q : Requester) (w : Fin 16)
  /-- NFC_FORMAT_DONE (R338): FORMAT ends and the store is READY and empty. -/
  | nfcFormatDone (failed : List (BitVec 16 × Fin 64))
  /-- PAGE_PROGRAM_DONE (R327): A page program completes, advancing durability or retiring the block. -/
  | pageProgramDone (ok : Bool)
  /-- ERASE_DONE (R330): A superblock erase completes and it becomes FREE or RETIRED. -/
  | eraseDone (block : BitVec 16) (failed : List (Fin 64))
  /-- PAD_FILL (R327): DURABLE has lagged HEAD for 100 ms and open word lines are padded. -/
  | padFill
  /-- CHECKPOINT (R327): Every CKPT_MS NFC writes CHECKPOINT units and a ROOT. -/
  | checkpoint
  /-- PATROL (R332): Patrol reads a FULL superblock and marks it for refresh if weak. -/
  | patrol (block : BitVec 16)
  /-- REFRESH_DONE (R330): A superblock's valid units have been copied and it goes to ERASING. -/
  | refreshDone (block : BitVec 16)
  /-- DOORBELL_PI (R346): A doorbell write of a host-to-device ring sets its producer index. -/
  | doorbellPi (fn : Fin 16) (d : Fin 16) (r : Fin 6) (v : Word)
  /-- DOORBELL_LIMIT (R347): A doorbell write of a device-to-host ring advances LIMIT and returns entries. -/
  | doorbellLimit (fn : Fin 16) (d : Fin 16) (r : Fin 10) (v : Word) (entries : List HostFields)
  /-- CMD_WRITE (R349): A command descriptor WRITE writes words to BAR0. -/
  | cmdWrite (d : Fin 16) (r : Fin 2) (desc : CmdDesc)
  /-- CMD_READ (R349): A command descriptor READ reads a word into its record. -/
  | cmdRead (d : Fin 16) (r : Fin 2) (desc : CmdDesc)
  /-- CMD_WAIT (R349): A command descriptor WAIT begins polling a register. -/
  | cmdWait (d : Fin 16) (r : Fin 2) (desc : CmdDesc)
  /-- WAIT_POLL (R349): Every 1 µs a WAIT reads its register and ends on match or TIMEOUT. -/
  | waitPoll (d : Fin 16) (r : Fin 2)
  /-- CMD_DMA_WRITE (R349): A command descriptor DMA_WRITE copies host words to BAR0. -/
  | cmdDmaWrite (d : Fin 16) (r : Fin 2) (desc : CmdDesc)
  /-- CMD_NOP (R349): A command descriptor NOP. -/
  | cmdNop (d : Fin 16) (r : Fin 2) (desc : CmdDesc)
  /-- INJECT_RAW (R350): An injection descriptor RAW sends a frame as written. -/
  | injectRaw (d : Fin 16) (r : Fin 4) (desc : InjDesc)
  /-- INJECT_SRTCP (R350): An injection descriptor SRTCP seals and queues an RTCP compound. -/
  | injectSrtcp (d : Fin 16) (r : Fin 4) (desc : InjDesc)
  /-- INJECT_RTP (R350): An injection descriptor RTP numbers, seals and queues an RTP packet. -/
  | injectRtp (d : Fin 16) (r : Fin 4) (desc : InjDesc)
  /-- MSIX_COAL_TIMEOUT (R354): COAL_US after an unsignalled entry the ring sends its MSI-X message. -/
  | msixCoalTimeout (d : Fin 16) (src : Fin 17)
  /-- DMA_ERR (R356): A device read of host memory fails and its ring stops. -/
  | dmaErr (d : Fin 16) (r : Fin 6)
  /-- RING_EN_WRITE (R358): A write of HST_RING_CFG.EN enables a ring or disables and clears it. -/
  | ringEnWrite (q : Requester) (d : Fin 16) (r : Fin 16) (v : Word)
  /-- HST_FLR (R357): A VF function-level reset disables its domain's rings. -/
  | hstFlr (fn : Fin 16)
  /-- HST_LINK (R357): The PCIe link changes speed, width or state. -/
  | hstLink (v : Word)
  /-- BAR2_ACCESS (R343): A BAR2 access reaches device DRAM through the function's window. -/
  | bar2Access (fn : Fin 16) (op : Bar2Op)
  /-- LC_CMD (R361): SEC_LC_CMD requests a life-cycle change and runs the change sequence. -/
  | lcCmd (q : Requester) (v : Word) (boot : BootEnv)
  /-- OTP_READ (R359): SEC_OTP_CMD READ fills the OTP data registers. -/
  | otpRead (q : Requester) (v : Word)
  /-- OTP_PROGRAM (R359): SEC_OTP_CMD PROGRAM programs a write-once OTP field. -/
  | otpProgram (q : Requester) (v : Word)
  /-- FLOOR_CMD (R366): SEC_FLOOR_CMD raises an anti-rollback floor. -/
  | floorCmd (q : Requester) (v : Word)
  /-- REVOKE (R366): SEC_REVOKE sets a key's REVOKE bit. -/
  | revoke (q : Requester) (v : Word)
  /-- DBG_CHALLENGE (R367): SEC_DBG_CTL CHALLENGE fills a fresh challenge. -/
  | dbgChallenge (q : Requester) (v : Word)
  /-- CHALLENGE_EXPIRY (R367): A challenge expires 60 s after issue. -/
  | challengeExpiry
  /-- DBG_UNLOCK (R367): SEC_DBG_CTL UNLOCK verifies the response and raises the level. -/
  | dbgUnlock (q : Requester) (v : Word)
  /-- DBG_SET (R370): SEC_DBG_CTL SET moves the debug level directly. -/
  | dbgSet (q : Requester) (v : Word)
  /-- BIND_CMD (R375): SEC_BIND_CMD starts the bind-off of a domain. -/
  | bindCmd (q : Requester) (v : Word)
  /-- SEC_DOM_BOUND (R375): A domain's bind-off wipe ends. -/
  | secDomBound
  /-- RNG_READ (R376): A read of SEC_RNG returns 32 random bits. -/
  | rngRead (q : Requester)
  /-- SEC_RNG_FAIL (R376): The entropy health test fails. -/
  | secRngFail
  /-- SEC_MON_TRIP (R377): A supply or SYSREF monitor trips and resets the device cold. -/
  | secMonTrip (cause : Fin 3) (boot : BootEnv)
  /-- SWT_TRIG (R378): SWT_TRIG.GO fires the HOST swatch source. -/
  | swtTrig (q : Requester) (v : Word)
  /-- SWATCH_IN_EDGE (R378): The chosen edge of SWATCH_IN fires the PIN source. -/
  | swatchInEdge (falling : Bool)
  /-- TIME_MATCH (R378): The match time base reaches SWT_MATCH and the TIME source fires. -/
  | timeMatch
  /-- DEBUG_TRIGGER (R378): A trigger from the debug port fires the DEBUG source. -/
  | debugTrigger
  /-- SWT_SWATCH (R381): The swatch's ESN is issued at T0+384 and its record written. -/
  | swtSwatch
  /-- LOG_RD_WRITE (R386): A write of SWT_LOG_RD frees log space and may write a lost-records record. -/
  | logRdWrite (q : Requester) (d : Fin 16) (v : Word)
  /-- LOG_EN_WRITE (R386): A write of SWT_LOG_CFG.EN enables a log or zeroes its indices. -/
  | logEnWrite (q : Requester) (d : Fin 16) (v : Word)
  /-- POWER_ON_RESET (R393): VDD_AON rises and the device runs cast-on from step 1. -/
  | powerOnReset (boot : BootEnv)
  /-- RESET_PIN (R393): RESET_N held low resets the device cold. -/
  | resetPin
  /-- THERMAL_TRIP (R393): Tj reaches 125 °C and the device is held in cold reset. -/
  | thermalTrip
  /-- RST_CMD_COLD (R393): SYS_RST_CMD.COLD with the key resets the device cold. -/
  | rstCmdCold (q : Requester) (v : Word) (boot : BootEnv)
  /-- RST_CMD_WARM (R393): SYS_RST_CMD.WARM with the key resets the device warm. -/
  | rstCmdWarm (q : Requester) (v : Word) (boot : BootEnv)
  /-- PCIE_PERST (R393): PCIE_PERST_N asserted after READY resets with the scope of SYS_RST_CFG.PERST. -/
  | pciePerst (boot : BootEnv)
  /-- PCIE_HOT_RESET (R393): A hot reset received on the link resets with its configured scope. -/
  | pcieHotReset (boot : BootEnv)
  /-- PF_FLR (R393): A PF function-level reset resets with its configured scope. -/
  | pfFlr (boot : BootEnv)
  /-- SYS_PUSH (R399): SYS_PUSH.GO resumes cast-on at step 4 with pushed images. -/
  | sysPush (q : Requester) (v : Word) (boot : BootEnv)
  /-- PWR_CMD_P0 (R400): SYS_PWR_CMD to P0 powers blocks back up. -/
  | pwrCmdP0 (q : Requester)
  /-- PWR_CMD_P1 (R400): SYS_PWR_CMD to P1 powers video blocks down or up. -/
  | pwrCmdP1 (q : Requester)
  /-- PWR_CMD_P2 (R400): SYS_PWR_CMD to P2 powers down the blocks of Table 23-8. -/
  | pwrCmdP2 (q : Requester)
  /-- PWR_CMD_P3 (R400): SYS_PWR_CMD to P3 prepares entry pending D3hot. -/
  | pwrCmdP3 (q : Requester)
  /-- PF_D3HOT (R400): The host sets the PF to D3hot and P3 entry completes. -/
  | pfD3hot
  /-- WAKE (R400): SYS_WAKE_N or the PF set to D0 wakes the device from P3. -/
  | wake (pcie : Bool)
  /-- SYS_PWR_DONE (R402): A power transition completes. -/
  | sysPwrDone
  /-- SYS_REF_LOST (R391): SDSREF or PCIE_REFCLK stops. -/
  | sysRefLost (ref : Fin 4)
  /-- SYS_TEMP_WARN (R393): Tj rises through TEMP_WARN. -/
  | sysTempWarn (tj : BitVec 16)
  /-- CG_FRAME_START (R203): A frame starts on a field clock group: slots are captured and driven, the slip path adds its side-tone, and an empty output FIFO or output ring repeats or plays zeros. -/
  | cgFrameStart (k : Fin 32) (house : BitVec 32) (clk : BitVec 17) (slots : List Word)
  /-- DRAM_COMMAND_SLOT (R312): At each command slot a DRAM controller chooses a forced, owed or pulled-in refresh or a queued request, ages request classes, and closes idle pages. -/
  | dramCommandSlot (k : Fin 8) (link : Fin 4)
  /-- RNG_VALID_RESTORED (R376): The entropy source passes its health test again and SEC_RNG_STAT.VALID is set, releasing every internal user that was waiting. -/
  | rngValidRestored
  /-- RESET_N_RELEASE (R396): RESET_N rises after being held low and cast-on starts at step 1. -/
  | resetNRelease (boot : BootEnv)
  /-- THERMAL_TRIP_END (R393): Tj falls below 115 °C, the thermal reset hold ends, SYS_THERMTRIP_N is released and cast-on starts. -/
  | thermalTripEnd (boot : BootEnv)
  /-- BUS_MASTER_ENABLE (R356): The host changes a function's Bus Master Enable in configuration space, stopping or resuming the fetches and writes of its rings. -/
  | busMasterEnable (fn : Fin 16) (on : Bool)
  deriving DecidableEq, Repr

end Sys2Proof
end

