-- ==== Sys2Proof/Decode.lean ====
section
/-! DEFINITION. Commands that words spell. The opcode table gives its rows no bits: commands come in as the operations they
are, never as encoded words. -/

namespace Sys2Proof

/-- The command that a word of the table's bits spells: none, since no row of the table has bits. -/
def decodeTableWord (_nbits _w : Nat) : Option Instr := none

end Sys2Proof
end

