-- ==== Sys2Proof/Config.lean ====
section
/-! DEFINITION. What the manual leaves open: values some rule says exist and no rule states. Each is opaque, so a
statement about it holds for every value. Those drawn more than once take a counter of the state. -/

namespace Sys2Proof.Config

/-- Random bytes of SEC (R376), by draw (assumption 110). -/
opaque randomByte : Nat → BitVec 8

/-- The Ethernet, IP and UDP headers of a packet the device sends to a leg: the manual gives no record that holds
them (assumption 92). -/
opaque egressHeader (leg : Nat) : List (BitVec 8)

/-- The pool the pipe of an egress port asks for a replica's own buffers: the manual names none. -/
opaque replicaPool (port : Nat) : Fin 8

/-- Byte `i` of a payload encrypted or decrypted under a transform, key, salt and packet index (RFC 3711, RFC 7714): the manual
names the transforms, which keep the payload's length, and does not state their arithmetic (assumption 48). -/
opaque cipherByte (encrypt : Bool) (transform key salt index : Nat) (bytes : List (BitVec 8)) (i : Nat) : BitVec 8

/-- Authentication tag appended to a sent packet (R90): only its length is stated (assumption 48). -/
opaque tagByte (transform key index i : Nat) : BitVec 8

/-- Derived session keys (RFC 3711 section 4.3): number `i` of the six fields of Table 05-2 (assumption 48). -/
opaque derivedKey (transform key salt i : Nat) : Nat

/-- The skein at which Hook's rotation stands in a clock (R121), by draw (assumption 54). -/
opaque skeinStart : Nat → Nat

/-- Stall cycles of a load from skein shared memory beyond the least, by draw (R137: 14 to 40 cycles) (assumption 59). -/
opaque sharedStall : Nat → Nat

/-- ABS of the most negative number: Table 08-2 names the operation and states no result there (assumption 58). -/
opaque absMin : BitVec 32

/-- CY after a subtraction: the manual does not say whether it is a carry or a borrow (assumption 58). -/
opaque subCarry : BitVec 32 → BitVec 32 → Bool

/-- CY after a dual 16-bit addition or subtraction (assumption 58). -/
opaque dualCarry : Bool → BitVec 32 → BitVec 32 → Bool

/-- Bytes a codec assist command writes, by operation, slot and shared memory: the transforms and coders are not stated
(assumption 62) (assumption 62). -/
opaque unitByte (op slot : Nat) (mem : List (Nat × BitVec 8)) (i : Nat) : BitVec 8

/-- Counts and indices a codec assist command returns (assumption 62). -/
opaque unitCount (op slot : Nat) (mem : List (Nat × BitVec 8)) : Nat

/-- Input samples an ASRC conversion consumes, by ratio, phase, input and outputs asked (assumption 63). -/
opaque asrcUsed (ratio phase : Nat) (input : List Word) (want : Nat) : Nat

/-- Output samples an ASRC conversion can produce (assumption 63). -/
opaque asrcMade (ratio phase : Nat) (input : List Word) (want : Nat) : Nat

/-- Output sample `i` of an ASRC conversion: the filter's coefficients are not stated (assumption 63). -/
opaque asrcSample (ratio phase : Nat) (samples : List Word) (i : Nat) : Word

/-- Phase of an ASRC context after a conversion (assumption 63). -/
opaque asrcPhase (ratio phase used made : Nat) : Nat

/-- The bank pair a per-bank refresh covers (R309), by draw (assumption 97). -/
opaque refreshPair : Nat → Nat

/-- Byte lanes that fail when a controller's training fails (R307), by draw. -/
opaque failLanes : Nat → BitVec 8

/-- ENTRY of the tasks JBF issues, by KIND of Table 10-2: the manual names no register that holds it (assumption 68). -/
opaque jbfEntry (kind : Nat) : Nat

/-- Error of a level of Cable's meters, by 262,144 × the row's draw + 4 × record + which level: R194 gives levels to within
1 unit (0 to 2 stand for -1 to +1) (assumption 73). -/
opaque meterErr : Nat → Fin 3

/-- Where a tension loop's frequency word stands within STEER_MAX (R204), by draw, in 1/65,536 of the whole range
(assumption 75) (assumption 75). -/
opaque loopWord : Nat → Fin 65537

/-- What a picture's header says of it (R217, R226): a key picture; a reference picture; picture slots it references and those
whose references it ends or replaces; size in luma samples of the layer decoded; temporal and spatial layer; 10 bits; within
Table 13-1. -/
structure PicHeader where
  key : Bool
  reference : Bool
  refs : BitVec 16
  refresh : BitVec 16
  width : Nat
  height : Nat
  temporal : Nat
  layer : Nat
  ten : Bool
  tools : Bool
  deriving Inhabited, DecidableEq, Repr

/-- The header of a picture, by codec, draw and first payload: the coding standards say how it is read (assumption 78). -/
opaque picHeader (codec z : Nat) (first : List (BitVec 8)) : PicHeader

/-- A picture's bitstream has no syntax error (assumption 78). -/
opaque bitstreamOk (codec z : Nat) (payloads : List (List (BitVec 8))) : Bool

/-- The next frame received shows by its chain_diffs that the decode target's chain is intact (R226) (assumption 78). -/
opaque chainIntact (z : Nat) : Bool

/-- Which of the free picture slots a decode takes (R223), by draw (assumption 79). -/
opaque freeSlot : Nat → Nat

/-- Bytes the video engines write (decoded pictures and state, composed pixels, cache and reference areas), by draw and
place: what they hold is set by the coding standards and by filters whose coefficients are not stated (assumption 79). -/
opaque videoByte (z i : Nat) : BitVec 8

/-- Lengths of the payloads of a coded frame (R233, R235, R266), by draw: the device chooses quantisers for a budget
(assumption 82) (assumption 82). -/
opaque codedLens (z : Nat) : List Nat

/-- Byte `i` of payload `k` of a coded frame (assumption 82). -/
opaque codedByte (z k i : Nat) : BitVec 8

/-- The dependency descriptor of packet `k` of a coded AV1 frame (Table 13-6, R262) (assumption 82). -/
opaque codedDescriptor (z k : Nat) : List (BitVec 8)

/-- What the check of a tile's picture finds (R258): it meets Tables 15-1 and 15-2, it is an entry picture, temporal and
spatial layer. -/
structure TileInfo where
  ok : Bool
  entry : Bool
  temporal : Nat
  spatial : Nat
  deriving Inhabited, DecidableEq, Repr

/-- The check of a tile's picture, by codec, draw and first payload (assumption 78). -/
opaque tileInfo (codec z : Nat) (first : List (BitVec 8)) : TileInfo

/-- What a read of a NAND unit finds (R329, R332): lost after every retry step, a tag failure, retry steps used, corrected
bits. -/
structure NandRead where
  lost : Bool
  tag : Bool
  steps : Nat
  bits : Nat
  deriving Inhabited, DecidableEq, Repr

/-- The read of a unit, by draw: NAND errors are the medium's (assumption 100). -/
opaque nandRead : Nat → NandRead

/-- A page whose program a reset or power loss cuts off can still be read (R328), by draw (assumption 100). -/
opaque pageKept : Nat → Bool

/-- A root block can be read at mount (R328), by draw (assumption 100). -/
opaque rootReadable : Nat → Bool

/-- A block bears a factory mark (R330), by member and superblock (assumption 100). -/
opaque factoryMark (member block : Nat) : Bool

/-- CHECKPOINT units a checkpoint takes (R327), by draw: the format is NFC's own (assumption 103). -/
opaque checkpointUnits : Nat → Nat

/-- Bytes of a CHECKPOINT unit's payload (assumption 103). -/
opaque checkpointByte (z i : Nat) : BitVec 8

end Sys2Proof.Config
end

