-- ==== Sys2Proof/Machine/Bits.lean ====
section
/-! DEFINITION. Bit fields (R2), byte order (R2: little-endian), signed readings, saturating counters
(R384) and the order of 32-bit tick numbers (R22). -/

namespace Sys2Proof.Machine

/-- Field `[hi:lo]` of a word, both ends included (R2). -/
def wfld (w : Word) (hi lo : Nat) : Nat := (w.toNat >>> lo) % 2 ^ (hi + 1 - lo)

/-- Bit `i` of a word. -/
def wbit (w : Word) (i : Nat) : Bool := w.toNat.testBit i

/-- Field `[hi:lo]` of a natural number. -/
def nfld (n hi lo : Nat) : Nat := (n >>> lo) % 2 ^ (hi + 1 - lo)

/-- A word with field `[hi:lo]` replaced by `v`. -/
def wset (w : Word) (hi lo v : Nat) : Word :=
  BitVec.ofNat 32 (w.toNat - (wfld w hi lo) * 2 ^ lo + (v % 2 ^ (hi + 1 - lo)) * 2 ^ lo)

/-- A word with bit `i` set to `b`. -/
def wsetBit (w : Word) (i : Nat) (b : Bool) : Word := wset w i i b.toNat

/-- A word from a natural number, modulo 2^32. -/
def w32 (n : Nat) : Word := BitVec.ofNat 32 n

/-- A byte from a natural number, modulo 2^8. -/
def b8 (n : Nat) : Byte := BitVec.ofNat 8 n

/-- Unsigned value of little-endian bytes (R2). -/
def leNat : List Byte → Nat
  | [] => 0
  | b :: t => b.toNat + 256 * leNat t

/-- Unsigned value of big-endian bytes (the signatures of R27 and the wire's own fields). -/
def beNat (l : List Byte) : Nat := leNat l.reverse

/-- `n` as `k` little-endian bytes (R2). -/
def leBytes : Nat → Nat → List Byte
  | 0, _ => []
  | k + 1, n => b8 n :: leBytes k (n / 256)

/-- `n` as `k` big-endian bytes. -/
def beBytes (k n : Nat) : List Byte := (leBytes k n).reverse

/-- Bytes `[i, i+k)` of a list as an unsigned little-endian number; bytes past the end read zero. -/
def leAt (l : List Byte) (i k : Nat) : Nat := leNat ((l.drop i).take k)

/-- Bytes `[i, i+k)` of a list as an unsigned big-endian number, short when the list is. -/
def beAt (l : List Byte) (i k : Nat) : Nat := beNat ((l.drop i).take k)

/-- Byte `i` of a list, zero past its end. -/
def byteAt (l : List Byte) (i : Nat) : Nat := leAt l i 1

/-- A list of bytes with bytes `[i, i+v.length)` replaced. -/
def patch (l : List Byte) (i : Nat) (v : List Byte) : List Byte :=
  l.take i ++ v ++ l.drop (i + v.length)

/-- Two's complement reading of the low `n` bits. -/
def sInt (n v : Nat) : Int :=
  let m := v % 2 ^ n
  if m < 2 ^ (n - 1) then (m : Int) else (m : Int) - 2 ^ n

/-- The low `n` bits of an integer, as an unsigned number. -/
def uNat (n : Nat) (v : Int) : Nat := (v % (2 ^ n : Int)).toNat

/-- A word holding an integer modulo 2^32. -/
def wInt (v : Int) : Word := BitVec.ofNat 32 (uNat 32 v)

/-- Signed value of a word. -/
def wSigned (w : Word) : Int := sInt 32 w.toNat

/-- Clamp to a closed interval. -/
def clampI (lo hi v : Int) : Int := if v < lo then lo else if hi < v then hi else v

/-- `after(a, b)` of R22 on 32-bit tick numbers and ring indices. -/
def after (a b : Nat) : Bool :=
  let d := (a + 2 ^ 32 - b % 2 ^ 32) % 2 ^ 32
  decide (d ≠ 0 ∧ d < 0x80000000)

/-- Difference of 32-bit numbers modulo 2^32 (R22). -/
def sub32 (a b : Nat) : Nat := (a + 2 ^ 32 - b % 2 ^ 32) % 2 ^ 32

/-- Saturating increase of a 32-bit counter (R384). -/
def satAdd (w : Word) (k : Nat) : Word := w32 (min (w.toNat + k) 0xFFFFFFFF)

/-- Division rounded to nearest, halves away from zero (R56). -/
def roundDiv (a : Int) (b : Nat) : Int :=
  if 0 ≤ a then (2 * a + b) / (2 * b) else -((2 * (-a) + b) / (2 * b))

/-- Division that truncates toward zero (R54). -/
def truncDiv (a : Int) (b : Nat) : Int := if 0 ≤ a then a / b else -((-a) / b)

/-- One's complement sum of two 16-bit numbers. -/
def onesAdd (a b : Nat) : Nat := (a + b) % 0x10000 + (a + b) / 0x10000

/-- One's complement sum of big-endian 16-bit words. -/
def onesSum : List Byte → Nat
  | a :: b :: t => onesAdd (a.toNat * 256 + b.toNat) (onesSum t)
  | [a] => a.toNat * 256
  | [] => 0

end Sys2Proof.Machine
end

