-- ==== Sys2Proof/Machine/Events.lean ====
section
/-! DEFINITION. Event codes and severities, from the event tables of the chapters (R11, R12, R425). -/

namespace Sys2Proof.Machine

namespace Ev

/-- SYS_WHILE_RUN, severity 1 (chapter 23). -/
abbrev SYS_WHILE_RUN : Nat := 0x0000
/-- SYS_READY, severity 0 (chapter 23). -/
abbrev SYS_READY : Nat := 0x0001
/-- SYS_PWR_DONE, severity 0 (chapter 23). -/
abbrev SYS_PWR_DONE : Nat := 0x0002
/-- SYS_PWR_REFUSED, severity 1 (chapter 23). -/
abbrev SYS_PWR_REFUSED : Nat := 0x0003
/-- SYS_REF_LOST, severity 2 (chapter 23). -/
abbrev SYS_REF_LOST : Nat := 0x0004
/-- SYS_TEMP_WARN, severity 1 (chapter 23). -/
abbrev SYS_TEMP_WARN : Nat := 0x0005
/-- SEC_WHILE_RUN, severity 1 (chapter 21). -/
abbrev SEC_WHILE_RUN : Nat := 0x0100
/-- SEC_DBG_LEVEL, severity 0 (chapter 21). -/
abbrev SEC_DBG_LEVEL : Nat := 0x0101
/-- SEC_UNLOCK_FAIL, severity 1 (chapter 21). -/
abbrev SEC_UNLOCK_FAIL : Nat := 0x0102
/-- SEC_DBG_LOCKED, severity 2 (chapter 21). -/
abbrev SEC_DBG_LOCKED : Nat := 0x0103
/-- SEC_KEYS_BOUND, severity 1 (chapter 21). -/
abbrev SEC_KEYS_BOUND : Nat := 0x0104
/-- SEC_LC_DONE, severity 0 (chapter 21). -/
abbrev SEC_LC_DONE : Nat := 0x0105
/-- SEC_DOM_BOUND, severity 0 (chapter 21). -/
abbrev SEC_DOM_BOUND : Nat := 0x0106
/-- SEC_REFUSED, severity 1 (chapter 21). -/
abbrev SEC_REFUSED : Nat := 0x0107
/-- SEC_MON_TRIP, severity 2 (chapter 21). -/
abbrev SEC_MON_TRIP : Nat := 0x0108
/-- SEC_RNG_FAIL, severity 2 (chapter 21). -/
abbrev SEC_RNG_FAIL : Nat := 0x0109
/-- PAT_WHILE_RUN, severity 1 (chapter 02). -/
abbrev PAT_WHILE_RUN : Nat := 0x0200
/-- SWAP_DONE, severity 0 (chapter 02). -/
abbrev SWAP_DONE : Nat := 0x0201
/-- SWAP_LATE, severity 1 (chapter 02). -/
abbrev SWAP_LATE : Nat := 0x0202
/-- SWAP_BUSY, severity 1 (chapter 02). -/
abbrev SWAP_BUSY : Nat := 0x0203
/-- SWAP_RANGE, severity 1 (chapter 02). -/
abbrev SWAP_RANGE : Nat := 0x0204
/-- SWAP_ABORT, severity 2 (chapter 02). -/
abbrev SWAP_ABORT : Nat := 0x0205
/-- SWAP_SPLIT, severity 2 (chapter 02). -/
abbrev SWAP_SPLIT : Nat := 0x0206
/-- SHADOW_SEALED, severity 1 (chapter 02). -/
abbrev SHADOW_SEALED : Nat := 0x0207
/-- CANCEL_DONE, severity 0 (chapter 02). -/
abbrev CANCEL_DONE : Nat := 0x0208
/-- CANCEL_LATE, severity 1 (chapter 02). -/
abbrev CANCEL_LATE : Nat := 0x0209
/-- LOAD_DONE, severity 0 (chapter 02). -/
abbrev LOAD_DONE : Nat := 0x020A
/-- LOAD_FORMAT, severity 2 (chapter 02). -/
abbrev LOAD_FORMAT : Nat := 0x020B
/-- LOAD_SIG, severity 2 (chapter 02). -/
abbrev LOAD_SIG : Nat := 0x020C
/-- LOAD_ROLLBACK, severity 2 (chapter 02). -/
abbrev LOAD_ROLLBACK : Nat := 0x020D
/-- LOAD_FIXED_DIFF, severity 2 (chapter 02). -/
abbrev LOAD_FIXED_DIFF : Nat := 0x020E
/-- LOAD_BASE, severity 2 (chapter 02). -/
abbrev LOAD_BASE : Nat := 0x020F
/-- LOAD_TARGET, severity 2 (chapter 02). -/
abbrev LOAD_TARGET : Nat := 0x0210
/-- SWAP_POWER, severity 1 (chapter 02). -/
abbrev SWAP_POWER : Nat := 0x0211
/-- TIM_WHILE_RUN, severity 1 (chapter 03). -/
abbrev TIM_WHILE_RUN : Nat := 0x0300
/-- TB_LOCKED, severity 0 (chapter 03). -/
abbrev TB_LOCKED : Nat := 0x0301
/-- TB_MASTER_LOST, severity 1 (chapter 03). -/
abbrev TB_MASTER_LOST : Nat := 0x0302
/-- TB_HOLDOVER, severity 1 (chapter 03). -/
abbrev TB_HOLDOVER : Nat := 0x0303
/-- TB_PARTNER_TAKEOVER, severity 1 (chapter 03). -/
abbrev TB_PARTNER_TAKEOVER : Nat := 0x0304
/-- TB_PARTNER_LOST, severity 2 (chapter 03). -/
abbrev TB_PARTNER_LOST : Nat := 0x0305
/-- TB_REVERT, severity 0 (chapter 03). -/
abbrev TB_REVERT : Nat := 0x0306
/-- TB_FAR, severity 1 (chapter 03). -/
abbrev TB_FAR : Nat := 0x0307
/-- TB_STEP_REFUSED, severity 1 (chapter 03). -/
abbrev TB_STEP_REFUSED : Nat := 0x0308
/-- TB_STEP_DONE, severity 0 (chapter 03). -/
abbrev TB_STEP_DONE : Nat := 0x0309
/-- TB_RATE_CLAMP, severity 1 (chapter 03). -/
abbrev TB_RATE_CLAMP : Nat := 0x030A
/-- TXTS_OVERFLOW, severity 1 (chapter 03). -/
abbrev TXTS_OVERFLOW : Nat := 0x030B
/-- ESN_RESV_LOW, severity 1 (chapter 03). -/
abbrev ESN_RESV_LOW : Nat := 0x030C
/-- ESN_RESV_OVER, severity 2 (chapter 03). -/
abbrev ESN_RESV_OVER : Nat := 0x030D
/-- SWT_WHILE_RUN, severity 1 (chapter 22). -/
abbrev SWT_WHILE_RUN : Nat := 0x0400
/-- SWT_SWATCH, severity 0 (chapter 22). -/
abbrev SWT_SWATCH : Nat := 0x0401
/-- SWT_LOG_LOST, severity 1 (chapter 22). -/
abbrev SWT_LOG_LOST : Nat := 0x0402
/-- SWT_TRIG_LOST, severity 1 (chapter 22). -/
abbrev SWT_TRIG_LOST : Nat := 0x0403
/-- SWT_DOMAIN, severity 1 (chapter 22). -/
abbrev SWT_DOMAIN : Nat := 0x0404
/-- HST_WHILE_RUN, severity 1 (chapter 20). -/
abbrev HST_WHILE_RUN : Nat := 0x0500
/-- HST_RING_ERR, severity 2 (chapter 20). -/
abbrev HST_RING_ERR : Nat := 0x0501
/-- RING_FULL, severity 1 (chapter 20). -/
abbrev RING_FULL : Nat := 0x0502
/-- DB_BAD, severity 1 (chapter 20). -/
abbrev DB_BAD : Nat := 0x0503
/-- DMA_ERR, severity 2 (chapter 20). -/
abbrev DMA_ERR : Nat := 0x0504
/-- HST_FLR, severity 1 (chapter 20). -/
abbrev HST_FLR : Nat := 0x0505
/-- HST_LINK, severity 1 (chapter 20). -/
abbrev HST_LINK : Nat := 0x0506
/-- HST_DOMAIN, severity 1 (chapter 20). -/
abbrev HST_DOMAIN : Nat := 0x0507
/-- NET_WHILE_RUN, severity 1 (chapter 04). -/
abbrev NET_WHILE_RUN : Nat := 0x0800
/-- LINK_UP, severity 0 (chapter 04). -/
abbrev LINK_UP : Nat := 0x0801
/-- LINK_DOWN, severity 2 (chapter 04). -/
abbrev LINK_DOWN : Nat := 0x0802
/-- TRAIN_FAIL, severity 1 (chapter 04). -/
abbrev TRAIN_FAIL : Nat := 0x0803
/-- REMOTE_FAULT, severity 1 (chapter 04). -/
abbrev REMOTE_FAULT : Nat := 0x0804
/-- FEC_UNCORR, severity 1 (chapter 04). -/
abbrev FEC_UNCORR : Nat := 0x0805
/-- CLS_WHILE_RUN, severity 1 (chapter 04). -/
abbrev CLS_WHILE_RUN : Nat := 0x0A00
/-- FLOW_FULL, severity 2 (chapter 04). -/
abbrev FLOW_FULL : Nat := 0x0A01
/-- FLOW_DOMAIN, severity 1 (chapter 04). -/
abbrev FLOW_DOMAIN : Nat := 0x0A02
/-- CAM_HIGH, severity 1 (chapter 04). -/
abbrev CAM_HIGH : Nat := 0x0A03
/-- FLOW_OVER_GUARANTEE, severity 1 (chapter 04). -/
abbrev FLOW_OVER_GUARANTEE : Nat := 0x0A04
/-- CIP_WHILE_RUN, severity 1 (chapter 05). -/
abbrev CIP_WHILE_RUN : Nat := 0x0C00
/-- CIP_AUTH_FAIL, severity 2 (chapter 05). -/
abbrev CIP_AUTH_FAIL : Nat := 0x0C01
/-- LEG_QUARANTINE, severity 2 (chapter 05). -/
abbrev LEG_QUARANTINE : Nat := 0x0C02
/-- CTX_EXHAUSTED, severity 2 (chapter 05). -/
abbrev CTX_EXHAUSTED : Nat := 0x0C03
/-- KEY_DUPLICATE, severity 1 (chapter 05). -/
abbrev KEY_DUPLICATE : Nat := 0x0C04
/-- KEY_DOMAIN, severity 1 (chapter 05). -/
abbrev KEY_DOMAIN : Nat := 0x0C05
/-- KEY_MISMATCH, severity 2 (chapter 05). -/
abbrev KEY_MISMATCH : Nat := 0x0C06
/-- NO_KEY, severity 1 (chapter 05). -/
abbrev NO_KEY : Nat := 0x0C07
/-- LATE_VERDICT, severity 2 (chapter 05). -/
abbrev LATE_VERDICT : Nat := 0x0C08
/-- BPM_WHILE_RUN, severity 1 (chapter 06). -/
abbrev BPM_WHILE_RUN : Nat := 0x0E00
/-- DOUBLE_FREE, severity 2 (chapter 06). -/
abbrev DOUBLE_FREE : Nat := 0x0E01
/-- WRONG_OWNER, severity 2 (chapter 06). -/
abbrev WRONG_OWNER : Nat := 0x0E02
/-- NOT_HEAD, severity 2 (chapter 06). -/
abbrev NOT_HEAD : Nat := 0x0E03
/-- SHARE_REFUSED, severity 1 (chapter 06). -/
abbrev SHARE_REFUSED : Nat := 0x0E04
/-- POOL_WARN, severity 1 (chapter 06). -/
abbrev POOL_WARN : Nat := 0x0E05
/-- POOL_THROTTLE, severity 1 (chapter 06). -/
abbrev POOL_THROTTLE : Nat := 0x0E06
/-- POOL_STOP, severity 2 (chapter 06). -/
abbrev POOL_STOP : Nat := 0x0E07
/-- POOL_NORMAL, severity 0 (chapter 06). -/
abbrev POOL_NORMAL : Nat := 0x0E08
/-- ALLOC_NONE, severity 1 (chapter 06). -/
abbrev ALLOC_NONE : Nat := 0x0E09
/-- BPM_DOMAIN, severity 1 (chapter 06). -/
abbrev BPM_DOMAIN : Nat := 0x0E0A
/-- ING_WHILE_RUN, severity 1 (chapter 04). -/
abbrev ING_WHILE_RUN : Nat := 0x0F00
/-- TIGHTEN_ON, severity 1 (chapter 04). -/
abbrev TIGHTEN_ON : Nat := 0x0F01
/-- TIGHTEN_OFF, severity 0 (chapter 04). -/
abbrev TIGHTEN_OFF : Nat := 0x0F02
/-- POL_RANGE, severity 1 (chapter 04). -/
abbrev POL_RANGE : Nat := 0x0F03
/-- EGS_WHILE_RUN, severity 1 (chapter 17). -/
abbrev EGS_WHILE_RUN : Nat := 0x1000
/-- GATE_OVERSIZE, severity 2 (chapter 17). -/
abbrev GATE_OVERSIZE : Nat := 0x1001
/-- GATE_CHANGED, severity 0 (chapter 17). -/
abbrev GATE_CHANGED : Nat := 0x1002
/-- GATE_PENDING, severity 1 (chapter 17). -/
abbrev GATE_PENDING : Nat := 0x1003
/-- EGS_TAIL, severity 1 (chapter 17). -/
abbrev EGS_TAIL : Nat := 0x1004
/-- EGS_FLUSH, severity 1 (chapter 17). -/
abbrev EGS_FLUSH : Nat := 0x1005
/-- EGS_DOMAIN, severity 1 (chapter 17). -/
abbrev EGS_DOMAIN : Nat := 0x1006
/-- HOK_WHILE_RUN, severity 1 (chapter 07). -/
abbrev HOK_WHILE_RUN : Nat := 0x1400
/-- ROW_OVERRUN, severity 2 (chapter 07). -/
abbrev ROW_OVERRUN : Nat := 0x1401
/-- SUBMIT_REFUSED, severity 1 (chapter 07). -/
abbrev SUBMIT_REFUSED : Nat := 0x1402
/-- SUBMIT_DOMAIN, severity 1 (chapter 07). -/
abbrev SUBMIT_DOMAIN : Nat := 0x1403
/-- GIVE_NO_TASK, severity 2 (chapter 07). -/
abbrev GIVE_NO_TASK : Nat := 0x1404
/-- CQ_OVERFLOW, severity 1 (chapter 07). -/
abbrev CQ_OVERFLOW : Nat := 0x1405
/-- DSP_WHILE_RUN, severity 1 (chapter 09). -/
abbrev DSP_WHILE_RUN : Nat := 0x1800
/-- DSP_MEM_CORR, severity 0 (chapter 08). -/
abbrev DSP_MEM_CORR : Nat := 0x1801
/-- DSP_MEM_UNCORR, severity 2 (chapter 08). -/
abbrev DSP_MEM_UNCORR : Nat := 0x1802
/-- DSP_ILLEGAL, severity 2 (chapter 08). -/
abbrev DSP_ILLEGAL : Nat := 0x1803
/-- DSP_ADDR_FAULT, severity 2 (chapter 08). -/
abbrev DSP_ADDR_FAULT : Nat := 0x1804
/-- DSP_LOOP_STACK, severity 2 (chapter 09). -/
abbrev DSP_LOOP_STACK : Nat := 0x1805
/-- DSP_BREAK, severity 0 (chapter 09). -/
abbrev DSP_BREAK : Nat := 0x1806
/-- DSP_DEBUG_DENIED, severity 1 (chapter 09). -/
abbrev DSP_DEBUG_DENIED : Nat := 0x1807
/-- DSP_UNIT_ERR, severity 1 (chapter 09). -/
abbrev DSP_UNIT_ERR : Nat := 0x1808
/-- CAB_WHILE_RUN, severity 1 (chapter 11). -/
abbrev CAB_WHILE_RUN : Nat := 0x2000
/-- CAB_OVERRUN, severity 2 (chapter 11). -/
abbrev CAB_OVERRUN : Nat := 0x2001
/-- CAB_BUS_SAT, severity 1 (chapter 11). -/
abbrev CAB_BUS_SAT : Nat := 0x2002
/-- CAB_INPUT_MISSING, severity 1 (chapter 11). -/
abbrev CAB_INPUT_MISSING : Nat := 0x2003
/-- CAB_DOMAIN, severity 1 (chapter 11). -/
abbrev CAB_DOMAIN : Nat := 0x2004
/-- CAB_LIST_BAD, severity 2 (chapter 11). -/
abbrev CAB_LIST_BAD : Nat := 0x2005
/-- CAB_FADE_FULL, severity 1 (chapter 11). -/
abbrev CAB_FADE_FULL : Nat := 0x2006
/-- CAB_RANK_CHANGE, severity 0 (chapter 11). -/
abbrev CAB_RANK_CHANGE : Nat := 0x2007
/-- JBF_WHILE_RUN, severity 1 (chapter 10). -/
abbrev JBF_WHILE_RUN : Nat := 0x2200
/-- JBF_STALL, severity 1 (chapter 10). -/
abbrev JBF_STALL : Nat := 0x2201
/-- JBF_RESUME, severity 0 (chapter 10). -/
abbrev JBF_RESUME : Nat := 0x2202
/-- JBF_LATE, severity 1 (chapter 10). -/
abbrev JBF_LATE : Nat := 0x2203
/-- JBF_ADJ_FORCED, severity 1 (chapter 10). -/
abbrev JBF_ADJ_FORCED : Nat := 0x2204
/-- JBF_DECODE_MISSED, severity 2 (chapter 10). -/
abbrev JBF_DECODE_MISSED : Nat := 0x2205
/-- JBF_ENC_MISS, severity 2 (chapter 10). -/
abbrev JBF_ENC_MISS : Nat := 0x2206
/-- JBF_NONE, severity 1 (chapter 10). -/
abbrev JBF_NONE : Nat := 0x2207
/-- JBF_SUBMIT_FAIL, severity 2 (chapter 10). -/
abbrev JBF_SUBMIT_FAIL : Nat := 0x2208
/-- JBF_CFG_ERR, severity 2 (chapter 10). -/
abbrev JBF_CFG_ERR : Nat := 0x2209
/-- LEG_WHILE_RUN, severity 1 (chapter 16). -/
abbrev LEG_WHILE_RUN : Nat := 0x2300
/-- LEG_STATE, severity 0 (chapter 16). -/
abbrev LEG_STATE : Nat := 0x2301
/-- FWD_WHILE_RUN, severity 1 (chapter 16). -/
abbrev FWD_WHILE_RUN : Nat := 0x2400
/-- FWD_SUB_SYNCED, severity 0 (chapter 16). -/
abbrev FWD_SUB_SYNCED : Nat := 0x2401
/-- FWD_NO_LAYER, severity 1 (chapter 16). -/
abbrev FWD_NO_LAYER : Nat := 0x2402
/-- FWD_SUB_BAD, severity 2 (chapter 16). -/
abbrev FWD_SUB_BAD : Nat := 0x2403
/-- FWD_HIST_MISS, severity 0 (chapter 16). -/
abbrev FWD_HIST_MISS : Nat := 0x2404
/-- VDE_WHILE_RUN, severity 1 (chapter 13). -/
abbrev VDE_WHILE_RUN : Nat := 0x2800
/-- VDE_ROLLBACK, severity 2 (chapter 13). -/
abbrev VDE_ROLLBACK : Nat := 0x2801
/-- VDE_PIC_LOST, severity 1 (chapter 13). -/
abbrev VDE_PIC_LOST : Nat := 0x2802
/-- VDE_KEY_WAIT, severity 1 (chapter 13). -/
abbrev VDE_KEY_WAIT : Nat := 0x2803
/-- VDE_RECOVERED, severity 0 (chapter 13). -/
abbrev VDE_RECOVERED : Nat := 0x2804
/-- VDE_UNSUPPORTED, severity 2 (chapter 13). -/
abbrev VDE_UNSUPPORTED : Nat := 0x2805
/-- VDE_BITSTREAM, severity 2 (chapter 13). -/
abbrev VDE_BITSTREAM : Nat := 0x2806
/-- VDE_BACKLOG, severity 2 (chapter 13). -/
abbrev VDE_BACKLOG : Nat := 0x2807
/-- VDE_OVERCOMMIT, severity 1 (chapter 13). -/
abbrev VDE_OVERCOMMIT : Nat := 0x2808
/-- VDE_NO_SLOT, severity 1 (chapter 13). -/
abbrev VDE_NO_SLOT : Nat := 0x2809
/-- VDE_CFG_ERR, severity 2 (chapter 13). -/
abbrev VDE_CFG_ERR : Nat := 0x280A
/-- VEN_WHILE_RUN, severity 1 (chapter 13). -/
abbrev VEN_WHILE_RUN : Nat := 0x2900
/-- VEN_LATE, severity 1 (chapter 13). -/
abbrev VEN_LATE : Nat := 0x2901
/-- VEN_NONE, severity 1 (chapter 13). -/
abbrev VEN_NONE : Nat := 0x2902
/-- VEN_OVERCOMMIT, severity 1 (chapter 13). -/
abbrev VEN_OVERCOMMIT : Nat := 0x2903
/-- VEN_CFG_ERR, severity 2 (chapter 13). -/
abbrev VEN_CFG_ERR : Nat := 0x2904
/-- CMP_WHILE_RUN, severity 1 (chapter 14). -/
abbrev CMP_WHILE_RUN : Nat := 0x2A00
/-- CMP_LATE, severity 1 (chapter 14). -/
abbrev CMP_LATE : Nat := 0x2A01
/-- CMP_NO_SURF, severity 1 (chapter 14). -/
abbrev CMP_NO_SURF : Nat := 0x2A02
/-- CMP_LAYER_BAD, severity 2 (chapter 14). -/
abbrev CMP_LAYER_BAD : Nat := 0x2A03
/-- CMP_CACHE_REBUILT, severity 0 (chapter 14). -/
abbrev CMP_CACHE_REBUILT : Nat := 0x2A04
/-- CMP_CACHE_SMALL, severity 1 (chapter 14). -/
abbrev CMP_CACHE_SMALL : Nat := 0x2A05
/-- CMP_OVERCOMMIT, severity 1 (chapter 14). -/
abbrev CMP_OVERCOMMIT : Nat := 0x2A06
/-- CMP_DOMAIN, severity 1 (chapter 14). -/
abbrev CMP_DOMAIN : Nat := 0x2A07
/-- CMP_COMMIT_DONE, severity 0 (chapter 14). -/
abbrev CMP_COMMIT_DONE : Nat := 0x2A08
/-- SQS_WHILE_RUN, severity 1 (chapter 15). -/
abbrev SQS_WHILE_RUN : Nat := 0x2C00
/-- SQS_TILE_HOLD, severity 1 (chapter 15). -/
abbrev SQS_TILE_HOLD : Nat := 0x2C01
/-- SQS_TILE_JOIN, severity 0 (chapter 15). -/
abbrev SQS_TILE_JOIN : Nat := 0x2C02
/-- SQS_KEY, severity 0 (chapter 15). -/
abbrev SQS_KEY : Nat := 0x2C03
/-- SQS_LATE, severity 1 (chapter 15). -/
abbrev SQS_LATE : Nat := 0x2C04
/-- SQS_NONE, severity 1 (chapter 15). -/
abbrev SQS_NONE : Nat := 0x2C05
/-- SQS_CFG_ERR, severity 2 (chapter 15). -/
abbrev SQS_CFG_ERR : Nat := 0x2C06
/-- SQS_DOMAIN, severity 1 (chapter 15). -/
abbrev SQS_DOMAIN : Nat := 0x2C07
/-- DPO_WHILE_RUN, severity 1 (chapter 14). -/
abbrev DPO_WHILE_RUN : Nat := 0x2D00
/-- DPO_LINK_UP, severity 0 (chapter 14). -/
abbrev DPO_LINK_UP : Nat := 0x2D01
/-- DPO_TRAIN_FAIL, severity 2 (chapter 14). -/
abbrev DPO_TRAIN_FAIL : Nat := 0x2D02
/-- DPO_LINK_LOST, severity 2 (chapter 14). -/
abbrev DPO_LINK_LOST : Nat := 0x2D03
/-- DPO_HPD, severity 0 (chapter 14). -/
abbrev DPO_HPD : Nat := 0x2D04
/-- DPO_UNDERFLOW, severity 2 (chapter 14). -/
abbrev DPO_UNDERFLOW : Nat := 0x2D05
/-- DPO_LOCK_LOST, severity 1 (chapter 14). -/
abbrev DPO_LOCK_LOST : Nat := 0x2D06
/-- DPO_CFG_ERR, severity 2 (chapter 14). -/
abbrev DPO_CFG_ERR : Nat := 0x2D07
/-- DMC_WHILE_RUN, severity 1 (chapter 18). -/
abbrev DMC_WHILE_RUN : Nat := 0x3000
/-- DMC_TRAIN_FAIL, severity 3 (chapter 18). -/
abbrev DMC_TRAIN_FAIL : Nat := 0x3001
/-- DMC_LECC_CORR, severity 0 (chapter 18). -/
abbrev DMC_LECC_CORR : Nat := 0x3002
/-- DMC_LECC_UNCORR, severity 2 (chapter 18). -/
abbrev DMC_LECC_UNCORR : Nat := 0x3003
/-- DMC_REF_FORCED, severity 1 (chapter 18). -/
abbrev DMC_REF_FORCED : Nat := 0x3004
/-- DMC_HOT, severity 2 (chapter 18). -/
abbrev DMC_HOT : Nat := 0x3005
/-- DMC_DOMAIN, severity 1 (chapter 18). -/
abbrev DMC_DOMAIN : Nat := 0x3006
/-- DMC_RANGE, severity 1 (chapter 18). -/
abbrev DMC_RANGE : Nat := 0x3007
/-- DMC_PANIC_LONG, severity 1 (chapter 18). -/
abbrev DMC_PANIC_LONG : Nat := 0x3008
/-- NFC_WHILE_RUN, severity 1 (chapter 19). -/
abbrev NFC_WHILE_RUN : Nat := 0x3800
/-- NFC_MOUNTED, severity 0 (chapter 19). -/
abbrev NFC_MOUNTED : Nat := 0x3801
/-- NFC_MOUNT_FAIL, severity 2 (chapter 19). -/
abbrev NFC_MOUNT_FAIL : Nat := 0x3802
/-- NFC_EPOCH, severity 2 (chapter 19). -/
abbrev NFC_EPOCH : Nat := 0x3803
/-- NFC_BAD_BLOCK, severity 1 (chapter 19). -/
abbrev NFC_BAD_BLOCK : Nat := 0x3804
/-- NFC_UNCORR, severity 2 (chapter 19). -/
abbrev NFC_UNCORR : Nat := 0x3805
/-- NFC_REFRESH, severity 0 (chapter 19). -/
abbrev NFC_REFRESH : Nat := 0x3806
/-- NFC_LOW, severity 1 (chapter 19). -/
abbrev NFC_LOW : Nat := 0x3807
/-- NFC_FULL, severity 2 (chapter 19). -/
abbrev NFC_FULL : Nat := 0x3808
/-- NFC_GAP, severity 1 (chapter 19). -/
abbrev NFC_GAP : Nat := 0x3809
/-- NFC_TRACK, severity 0 (chapter 19). -/
abbrev NFC_TRACK : Nat := 0x380A
/-- NFC_FORMAT_DONE, severity 0 (chapter 19). -/
abbrev NFC_FORMAT_DONE : Nat := 0x380B
/-- NFC_TAG_FAIL, severity 2 (chapter 19). -/
abbrev NFC_TAG_FAIL : Nat := 0x380C
/-- FLD_WHILE_RUN, severity 1 (chapter 12). -/
abbrev FLD_WHILE_RUN : Nat := 0x3C00
/-- CG_LOST, severity 2 (chapter 12). -/
abbrev CG_LOST : Nat := 0x3C01
/-- CG_RATE_CHANGE, severity 2 (chapter 12). -/
abbrev CG_RATE_CHANGE : Nat := 0x3C02
/-- CG_HELD, severity 2 (chapter 12). -/
abbrev CG_HELD : Nat := 0x3C03
/-- CG_RESUMED, severity 0 (chapter 12). -/
abbrev CG_RESUMED : Nat := 0x3C04
/-- CG_GLITCH, severity 1 (chapter 12). -/
abbrev CG_GLITCH : Nat := 0x3C05
/-- CG_SLIP, severity 1 (chapter 12). -/
abbrev CG_SLIP : Nat := 0x3C06
/-- LOOP_HOLD, severity 1 (chapter 12). -/
abbrev LOOP_HOLD : Nat := 0x3C07
/-- LOOP_LOCK, severity 0 (chapter 12). -/
abbrev LOOP_LOCK : Nat := 0x3C08
/-- FLD_RING_ERR, severity 1 (chapter 12). -/
abbrev FLD_RING_ERR : Nat := 0x3C09
/-- SLIP_INVALID, severity 1 (chapter 12). -/
abbrev SLIP_INVALID : Nat := 0x3C0A
/-- LINK_CRC, severity 1 (chapter 12). -/
abbrev LINK_CRC : Nat := 0x3C0B
/-- FLD_LINK_DOWN, severity 2 (chapter 12). -/
abbrev FLD_LINK_DOWN : Nat := 0x3C0C
/-- FLD_LINK_UP, severity 0 (chapter 12). -/
abbrev FLD_LINK_UP : Nat := 0x3C0D
/-- FLD_DOMAIN, severity 1 (chapter 12). -/
abbrev FLD_DOMAIN : Nat := 0x3C0E

end Ev

/-- Severities of one block's events, in the order of their low byte (event tables). -/
def blockSeverities (b : Nat) : List Nat :=
  if b = 0x00 then [1, 0, 0, 1, 2, 1]
  else if b = 0x01 then [1, 0, 1, 2, 1, 0, 0, 1, 2, 2]
  else if b = 0x02 then [1, 0, 1, 1, 1, 2, 2, 1, 0, 1, 0, 2, 2, 2, 2, 2, 2, 1]
  else if b = 0x03 then [1, 0, 1, 1, 1, 2, 0, 1, 1, 0, 1, 1, 1, 2]
  else if b = 0x04 then [1, 0, 1, 1, 1]
  else if b = 0x05 then [1, 2, 1, 1, 2, 1, 1, 1]
  else if b = 0x08 then [1, 0, 2, 1, 1, 1]
  else if b = 0x0A then [1, 2, 1, 1, 1]
  else if b = 0x0C then [1, 2, 2, 2, 1, 1, 2, 1, 2]
  else if b = 0x0E then [1, 2, 2, 2, 1, 1, 1, 2, 0, 1, 1]
  else if b = 0x0F then [1, 1, 0, 1]
  else if b = 0x10 then [1, 2, 0, 1, 1, 1, 1]
  else if b = 0x14 then [1, 2, 1, 1, 2, 1]
  else if b = 0x18 then [1, 0, 2, 2, 2, 2, 0, 1, 1]
  else if b = 0x20 then [1, 2, 1, 1, 1, 2, 1, 0]
  else if b = 0x22 then [1, 1, 0, 1, 1, 2, 2, 1, 2, 2]
  else if b = 0x23 then [1, 0]
  else if b = 0x24 then [1, 0, 1, 2, 0]
  else if b = 0x28 then [1, 2, 1, 1, 0, 2, 2, 2, 1, 1, 2]
  else if b = 0x29 then [1, 1, 1, 1, 2]
  else if b = 0x2A then [1, 1, 1, 2, 0, 1, 1, 1, 0]
  else if b = 0x2C then [1, 1, 0, 0, 1, 1, 2, 1]
  else if b = 0x2D then [1, 0, 2, 2, 0, 2, 1, 2]
  else if b = 0x30 then [1, 3, 0, 2, 1, 2, 1, 1, 1]
  else if b = 0x38 then [1, 0, 2, 2, 1, 2, 0, 1, 2, 1, 0, 0, 2]
  else if b = 0x3C then [1, 2, 2, 2, 0, 1, 1, 1, 0, 1, 1, 1, 2, 0, 1]
  else []

/-- Severity of an event code (R12). -/
def severity (code : Nat) : Nat := (blockSeverities (code / 256)).getD (code % 256) 0

end Sys2Proof.Machine
end

