-- ==== Sys2Proof/Machine/Registers.lean ====
section
/-! DEFINITION. The register map: every register of spec/ chapters 02 to 23 at its BAR0 address
(R3, R419), with its type (R5, Table 00-2), its reset value and its implemented bits (R4).
Names are the manual's. A name that takes arguments is an array of registers; its arguments are
the instance numbers in the order the manual's description line gives them. -/

namespace Sys2Proof.Machine

/-- Register types of Table 00-2 (R5). A W1C field is a mask of `RegRow`. -/
inductive RegTy where
  | SH | LV | HL | RO | WO | RW
  deriving DecidableEq, Repr

/-- One description line of the manual: `base` is the BAR0 address of the first register,
`dims` the (count, stride) pairs of the array, outermost first; `structural` marks the registers
only a pattern's fixed sections write (R26); `mask` the bits that are not reserved (R4); `ro`, `w1c` and `wo`
the fields whose type differs from the register's. -/
structure RegRow where
  name : String
  base : Nat
  dims : List (Nat × Nat)
  ty : RegTy
  structural : Bool
  reset : Nat
  mask : Nat
  ro : Nat
  w1c : Nat
  wo : Nat
  deriving DecidableEq, Repr

/-- Whether a displacement names an element of an array of registers. -/
def coversFrom : List (Nat × Nat) → Nat → Bool
  | [], r => r == 0
  | (c, st) :: t, r => decide (r / st < c) && coversFrom t (r % st)

/-- Whether a register row holds the register at BAR0 address `a`. -/
def rowCovers (row : RegRow) (a : Nat) : Bool :=
  decide (row.base ≤ a) && coversFrom row.dims (a - row.base)

namespace Reg

abbrev SYS_CFG : Nat := 0x0
abbrev SYS_RST_CFG : Nat := 0x4
abbrev SYS_RST_CMD : Nat := 0x8
abbrev SYS_CASTON : Nat := 0x10
abbrev SYS_PUSH : Nat := 0x20
abbrev SYS_CLK_STAT : Nat := 0x24
abbrev SYS_PWR_CMD : Nat := 0x30
abbrev SYS_PWR_CFG : Nat := 0x34
abbrev SYS_PWR_STAT : Nat := 0x38
abbrev SYS_STEP_T (i : Nat) : Nat := 0x40 + 4 * (i - 1)
abbrev SYS_TEMP : Nat := 0x80
abbrev SYS_TEMP_WARN : Nat := 0x84
abbrev SYS_RST_STAT : Nat := 0xC
abbrev SEC_LC_STAT : Nat := 0x100000
abbrev SEC_LC_CMD : Nat := 0x100004
abbrev SEC_CMD_STAT : Nat := 0x100008
abbrev SEC_UID_LO : Nat := 0x100010
abbrev SEC_UID_HI : Nat := 0x100014
abbrev SEC_FW_VERSION : Nat := 0x100018
abbrev SEC_FLOORS : Nat := 0x10001C
abbrev SEC_FLOOR_CMD : Nat := 0x100020
abbrev SEC_REVOKE : Nat := 0x100024
abbrev SEC_BOOT_STAT : Nat := 0x100028
abbrev SEC_OTP_CMD : Nat := 0x100030
abbrev SEC_OTP_DATA (i : Nat) : Nat := 0x100040 + 0x4 * i
abbrev SEC_DBG_CTL : Nat := 0x100080
abbrev SEC_DBG_STAT : Nat := 0x100084
abbrev SEC_DBG_CHAL (i : Nat) : Nat := 0x100100 + 0x4 * i
abbrev SEC_DBG_RESP (i : Nat) : Nat := 0x100140 + 0x4 * i
abbrev SEC_BIND_CMD : Nat := 0x100200
abbrev SEC_RNG : Nat := 0x100300
abbrev SEC_RNG_STAT : Nat := 0x100304
abbrev SEC_DOM_LEG (i : Nat) : Nat := 0x101000 + 0x4 * i
abbrev SEC_MON_STAT : Nat := 0x100400
abbrev PAT_ID : Nat := 0x200000
abbrev PAT_SWAP_REQ : Nat := 0x200010
abbrev PAT_SWAP_TARGET : Nat := 0x200014
abbrev PAT_SWAP_CANCEL : Nat := 0x200018
abbrev PAT_SWAP_STAT : Nat := 0x200020
abbrev PAT_SWAP_AT_AUD : Nat := 0x200024
abbrev PAT_SWAP_AT_NET : Nat := 0x200028
abbrev PAT_SWAP_AT_VID : Nat := 0x20002C
abbrev PAT_GEN_AUD : Nat := 0x200030
abbrev PAT_GEN_NET : Nat := 0x200034
abbrev PAT_GEN_VID : Nat := 0x200038
abbrev PAT_GEN_FLD : Nat := 0x20003C
abbrev PAT_LOAD_ADDR_LO : Nat := 0x200050
abbrev PAT_LOAD_ADDR_HI : Nat := 0x200054
abbrev PAT_LOAD_LEN : Nat := 0x200058
abbrev PAT_LOAD_CTL : Nat := 0x20005C
abbrev PAT_LOAD_STAT : Nat := 0x200060
abbrev PAT_FIXED_DIGEST (i : Nat) : Nat := 0x200080 + 0x4 * i
abbrev PAT_PATTERN_DIGEST (i : Nat) : Nat := 0x2000C0 + 0x4 * i
abbrev PAT_SEC_VERSION : Nat := 0x200100
abbrev PAT_SEAL_DROPS : Nat := 0x200110
abbrev TIM_TICK_SRC : Nat := 0x300000
abbrev TIM_ROW_OFFSET : Nat := 0x300004
abbrev TIM_TICK_CTL : Nat := 0x300008
abbrev TIM_ROW_NOW : Nat := 0x300010
abbrev TIM_ROUND_NOW : Nat := 0x300014
abbrev TIM_ROW_NOW_HI : Nat := 0x300018
abbrev TIM_ROUND_NOW_HI : Nat := 0x30001C
abbrev TIM_ESN_LO : Nat := 0x300020
abbrev TIM_ESN_HI : Nat := 0x300024
abbrev TIM_ESN_BASE_LO : Nat := 0x300028
abbrev TIM_ESN_BASE_HI : Nat := 0x30002C
abbrev TIM_ESN_RESV_LO : Nat := 0x300030
abbrev TIM_ESN_RESV_HI : Nat := 0x300034
abbrev TIM_TB_CFG (i : Nat) : Nat := 0x301000 + 0x100 * i
abbrev TIM_TB_STAT (i : Nat) : Nat := 0x301004 + 0x100 * i
abbrev TIM_TB_CTL (i : Nat) : Nat := 0x301008 + 0x100 * i
abbrev TIM_TB_FRAC (i : Nat) : Nat := 0x30100C + 0x100 * i
abbrev TIM_TB_NS (i : Nat) : Nat := 0x301010 + 0x100 * i
abbrev TIM_TB_SEC_LO (i : Nat) : Nat := 0x301014 + 0x100 * i
abbrev TIM_TB_SEC_HI (i : Nat) : Nat := 0x301018 + 0x100 * i
abbrev TIM_TB_SET_NS (i : Nat) : Nat := 0x301020 + 0x100 * i
abbrev TIM_TB_SET_SEC_LO (i : Nat) : Nat := 0x301024 + 0x100 * i
abbrev TIM_TB_SET_SEC_HI (i : Nat) : Nat := 0x301028 + 0x100 * i
abbrev TIM_TB_STEP (i : Nat) : Nat := 0x30102C + 0x100 * i
abbrev TIM_TB_ADJ (i : Nat) : Nat := 0x301030 + 0x100 * i
abbrev TIM_TB_PHASE_LO (i : Nat) : Nat := 0x301034 + 0x100 * i
abbrev TIM_TB_PHASE_HI (i : Nat) : Nat := 0x301038 + 0x100 * i
abbrev TIM_TB_SLEW_MAX (i : Nat) : Nat := 0x30103C + 0x100 * i
abbrev TIM_TB_RATE_STEP (i : Nat) : Nat := 0x301040 + 0x100 * i
abbrev TIM_TB_LOSS (i : Nat) : Nat := 0x301044 + 0x100 * i
abbrev TIM_TB_HOLD_ADJ (i : Nat) : Nat := 0x301048 + 0x100 * i
abbrev TIM_TB_RATE_EFF (i : Nat) : Nat := 0x30104C + 0x100 * i
abbrev TIM_TB_FAR_LIMIT (i : Nat) : Nat := 0x301050 + 0x100 * i
abbrev TIM_TB_SYNC_CNT (i : Nat) : Nat := 0x301054 + 0x100 * i
abbrev TIM_PORT_CFG (i : Nat) : Nat := 0x302000 + 0x40 * i
abbrev TIM_PORT_IN_LAT (i : Nat) : Nat := 0x302004 + 0x40 * i
abbrev TIM_PORT_OUT_LAT (i : Nat) : Nat := 0x302008 + 0x40 * i
abbrev TIM_PORT_TXTS_STAT (i : Nat) : Nat := 0x30200C + 0x40 * i
abbrev TIM_PORT_TXTS_TAG (i : Nat) : Nat := 0x302010 + 0x40 * i
abbrev TIM_PORT_TXTS_FRAC (i : Nat) : Nat := 0x302014 + 0x40 * i
abbrev TIM_PORT_TXTS_NS (i : Nat) : Nat := 0x302018 + 0x40 * i
abbrev TIM_PORT_TXTS_SEC_LO (i : Nat) : Nat := 0x30201C + 0x40 * i
abbrev TIM_PORT_TXTS_SEC_HI (i : Nat) : Nat := 0x302020 + 0x40 * i
abbrev TIM_PORT_ONESTEP_ERR (i : Nat) : Nat := 0x302024 + 0x40 * i
abbrev SWT_CTL : Nat := 0x400000
abbrev SWT_TRIG : Nat := 0x400004
abbrev SWT_STAT : Nat := 0x400008
abbrev SWT_ESN_LO : Nat := 0x400010
abbrev SWT_ESN_HI : Nat := 0x400014
abbrev SWT_TIME_LO : Nat := 0x400018
abbrev SWT_TIME_HI : Nat := 0x40001C
abbrev SWT_COUNT : Nat := 0x400020
abbrev SWT_TRIG_LOST : Nat := 0x400024
abbrev SWT_MATCH_CFG : Nat := 0x400030
abbrev SWT_MATCH_NS : Nat := 0x400034
abbrev SWT_MATCH_SEC_LO : Nat := 0x400038
abbrev SWT_MATCH_SEC_HI : Nat := 0x40003C
abbrev SWT_EVT_MATCH : Nat := 0x400040
abbrev SWT_VIEW : Nat := 0x400080
abbrev SWT_LOG_BASE_LO (i : Nat) : Nat := 0x401000 + 0x40 * i
abbrev SWT_LOG_BASE_HI (i : Nat) : Nat := 0x401004 + 0x40 * i
abbrev SWT_LOG_CFG (i : Nat) : Nat := 0x401008 + 0x40 * i
abbrev SWT_LOG_COAL (i : Nat) : Nat := 0x40100C + 0x40 * i
abbrev SWT_LOG_WR (i : Nat) : Nat := 0x401010 + 0x40 * i
abbrev SWT_LOG_RD (i : Nat) : Nat := 0x401014 + 0x40 * i
abbrev SWT_LOG_LOST (i : Nat) : Nat := 0x401018 + 0x40 * i
abbrev HST_LINK_STAT : Nat := 0x500000
abbrev HST_BAR2_SIZE : Nat := 0x500004
abbrev HST_BAR2_BASE_LO : Nat := 0x500008
abbrev HST_BAR2_BASE_HI : Nat := 0x50000C
abbrev HST_INJ_POOL : Nat := 0x500010
abbrev HST_VF_DOM (i : Nat) : Nat := 0x500040 + 0x4 * i
abbrev HST_VF_WIN_LO (i : Nat) : Nat := 0x500080 + 0x8 * i
abbrev HST_VF_WIN_HI (i : Nat) : Nat := 0x500084 + 0x8 * i
abbrev HST_DB_BAD : Nat := 0x500100
abbrev HST_DMA_ERR : Nat := 0x500104
abbrev HST_REINJ_REFUSED : Nat := 0x500108
abbrev HST_BAR0_UR : Nat := 0x50010C
abbrev HST_RING_BASE_LO (i j : Nat) : Nat := 0x501000 + 0x400 * i + 0x40 * j
abbrev HST_RING_BASE_HI (i j : Nat) : Nat := 0x501004 + 0x400 * i + 0x40 * j
abbrev HST_RING_CFG (i j : Nat) : Nat := 0x501008 + 0x400 * i + 0x40 * j
abbrev HST_RING_COAL (i j : Nat) : Nat := 0x50100C + 0x400 * i + 0x40 * j
abbrev HST_RING_DEV (i j : Nat) : Nat := 0x501010 + 0x400 * i + 0x40 * j
abbrev HST_RING_HOST (i j : Nat) : Nat := 0x501014 + 0x400 * i + 0x40 * j
abbrev HST_RING_STAT (i j : Nat) : Nat := 0x501018 + 0x400 * i + 0x40 * j
abbrev HST_RING_DROPS (i j : Nat) : Nat := 0x50101C + 0x400 * i + 0x40 * j
abbrev HST_EXC_MAP (i : Nat) : Nat := 0x505000 + 0x4 * i
abbrev HST_MIR_IN (i : Nat) : Nat := 0x506000 + 0x4 * i
abbrev HST_MIR_OUT (i : Nat) : Nat := 0x506400 + 0x4 * i
abbrev NET_LANE_MODE : Nat := 0x800000
abbrev NET_PORT_CFG (i : Nat) : Nat := 0x801000 + 0x100 * i
abbrev NET_PORT_CTL (i : Nat) : Nat := 0x801004 + 0x100 * i
abbrev NET_PORT_STAT (i : Nat) : Nat := 0x801008 + 0x100 * i
abbrev NET_PORT_MAC_LO (i : Nat) : Nat := 0x80100C + 0x100 * i
abbrev NET_PORT_MAC_HI (i : Nat) : Nat := 0x801010 + 0x100 * i
abbrev NET_PFC_CFG (i : Nat) : Nat := 0x801020 + 0x100 * i
abbrev NET_PFC_POOL (i : Nat) : Nat := 0x801024 + 0x100 * i
abbrev NET_PFC_LEVEL (i : Nat) : Nat := 0x801028 + 0x100 * i
abbrev NET_PFC_STAT (i : Nat) : Nat := 0x80102C + 0x100 * i
abbrev NET_RX_FRAMES_LO (i : Nat) : Nat := 0x801040 + 0x100 * i
abbrev NET_RX_FRAMES_HI (i : Nat) : Nat := 0x801044 + 0x100 * i
abbrev NET_RX_BYTES_LO (i : Nat) : Nat := 0x801048 + 0x100 * i
abbrev NET_RX_BYTES_HI (i : Nat) : Nat := 0x80104C + 0x100 * i
abbrev NET_TX_FRAMES_LO (i : Nat) : Nat := 0x801050 + 0x100 * i
abbrev NET_TX_FRAMES_HI (i : Nat) : Nat := 0x801054 + 0x100 * i
abbrev NET_TX_BYTES_LO (i : Nat) : Nat := 0x801058 + 0x100 * i
abbrev NET_TX_BYTES_HI (i : Nat) : Nat := 0x80105C + 0x100 * i
abbrev NET_RX_FCS_ERR (i : Nat) : Nat := 0x801060 + 0x100 * i
abbrev NET_RX_RUNT (i : Nat) : Nat := 0x801064 + 0x100 * i
abbrev NET_RX_OVERSIZE (i : Nat) : Nat := 0x801068 + 0x100 * i
abbrev NET_RX_MAC_MISS (i : Nat) : Nat := 0x80106C + 0x100 * i
abbrev NET_FEC_CORR (i : Nat) : Nat := 0x801070 + 0x100 * i
abbrev NET_FEC_UNCORR (i : Nat) : Nat := 0x801074 + 0x100 * i
abbrev NET_RX_PAUSE (i : Nat) : Nat := 0x801078 + 0x100 * i
abbrev NET_TX_PAUSE (i : Nat) : Nat := 0x80107C + 0x100 * i
abbrev NET_LOCK_LOSS (i : Nat) : Nat := 0x801080 + 0x100 * i
abbrev CLS_HASH_KEY (i : Nat) : Nat := 0xA00000 + 0x4 * i
abbrev CLS_PARSE_CFG : Nat := 0xA00010
abbrev CLS_OCC : Nat := 0xA00020
abbrev CLS_CAM_OCC : Nat := 0xA00024
abbrev CLS_NO_CONSUMER : Nat := 0xA00028
abbrev CLS_EXC_POL (i : Nat) : Nat := 0xA00040 + 0x4 * i
abbrev CLS_EXC_CNT (i : Nat) : Nat := 0xA00080 + 0x4 * i
abbrev CLS_CMD_REC (i j : Nat) : Nat := 0xA01000 + 0x40 * i + 0x4 * j
abbrev CLS_CMD (i : Nat) : Nat := 0xA01020 + 0x40 * i
abbrev CLS_CMD_STAT (i : Nat) : Nat := 0xA01024 + 0x40 * i
abbrev CLS_LOCAL_ADDR (i j : Nat) : Nat := 0xA04000 + 0x20 * i + 0x4 * j
abbrev CLS_LOCAL_CTL (i : Nat) : Nat := 0xA04010 + 0x20 * i
abbrev CLS_EXT_PROFILE_A (i : Nat) : Nat := 0xA06000 + 0x8 * i
abbrev CLS_EXT_PROFILE_B (i : Nat) : Nat := 0xA06004 + 0x8 * i
abbrev CIP_PAGE_DOM (i : Nat) : Nat := 0xC00000 + 0x4 * i
abbrev CIP_AUTH_FAIL_LO : Nat := 0xC00200
abbrev CIP_AUTH_FAIL_HI : Nat := 0xC00204
abbrev CIP_REPLAY_LO : Nat := 0xC00208
abbrev CIP_REPLAY_HI : Nat := 0xC0020C
abbrev CIP_STITCH (i : Nat) : Nat := 0xC00220 + 0x4 * i
abbrev CIP_LATE_STITCH (i : Nat) : Nat := 0xC00240 + 0x4 * i
abbrev CIP_NO_KEY : Nat := 0xC00260
abbrev CIP_SHORT : Nat := 0xC00264
abbrev CIP_TOO_LONG : Nat := 0xC00268
abbrev CIP_QUAR_DROP : Nat := 0xC0026C
abbrev CIP_EXH_DROP : Nat := 0xC00270
abbrev CIP_KEY_MISMATCH : Nat := 0xC00274
abbrev CIP_KEY_STAGE (i j : Nat) : Nat := 0xC01000 + 0x80 * i + 0x4 * j
abbrev CIP_KEY_CFG (i : Nat) : Nat := 0xC01030 + 0x80 * i
abbrev CIP_KEY_CMD (i : Nat) : Nat := 0xC01034 + 0x80 * i
abbrev CIP_KEY_STAT (i : Nat) : Nat := 0xC01038 + 0x80 * i
abbrev CIP_SLOT_INFO (i : Nat) : Nat := 0xC0103C + 0x80 * i
abbrev CIP_SLOT_FAIL_RUN (i : Nat) : Nat := 0xC01040 + 0x80 * i
abbrev CIP_SLOT_FAIL_TOTAL (i : Nat) : Nat := 0xC01044 + 0x80 * i
abbrev CIP_SLOT_SERIAL (i : Nat) : Nat := 0xC01048 + 0x80 * i
abbrev CIP_IDX_REC (i j : Nat) : Nat := 0xC01050 + 0x80 * i + 0x4 * j
abbrev CIP_QUAR_RUN (i : Nat) : Nat := 0xC01070 + 0x80 * i
abbrev BPM_POOL_BASE_LO (i : Nat) : Nat := 0xE01000 + 0x100 * i
abbrev BPM_POOL_BASE_HI (i : Nat) : Nat := 0xE01004 + 0x100 * i
abbrev BPM_POOL_CFG (i : Nat) : Nat := 0xE0100C + 0x100 * i
abbrev BPM_WARN (i : Nat) : Nat := 0xE01010 + 0x100 * i
abbrev BPM_THROTTLE (i : Nat) : Nat := 0xE01014 + 0x100 * i
abbrev BPM_STOP (i : Nat) : Nat := 0xE01018 + 0x100 * i
abbrev BPM_HYST (i : Nat) : Nat := 0xE0101C + 0x100 * i
abbrev BPM_FLOOR (i j : Nat) : Nat := 0xE01020 + 0x100 * i + 0x4 * j
abbrev BPM_FREE (i : Nat) : Nat := 0xE01040 + 0x100 * i
abbrev BPM_MIN_FREE (i : Nat) : Nat := 0xE01044 + 0x100 * i
abbrev BPM_NONE_CNT (i : Nat) : Nat := 0xE01048 + 0x100 * i
abbrev BPM_LEVEL (i : Nat) : Nat := 0xE0104C + 0x100 * i
abbrev BPM_CMD_ID (i : Nat) : Nat := 0xE03000 + 0x80 * i
abbrev BPM_CMD_MASK_LO (i : Nat) : Nat := 0xE03004 + 0x80 * i
abbrev BPM_CMD_MASK_HI (i : Nat) : Nat := 0xE03008 + 0x80 * i
abbrev BPM_CMD (i : Nat) : Nat := 0xE0300C + 0x80 * i
abbrev BPM_CMD_STAT (i : Nat) : Nat := 0xE03010 + 0x80 * i
abbrev BPM_DESC (i j : Nat) : Nat := 0xE03040 + 0x80 * i + 0x4 * j
abbrev BPM_QUOTA (i j : Nat) : Nat := 0xE02000 + 0x40 * i + 0x4 * j
abbrev BPM_HELD (i j : Nat) : Nat := 0xE02020 + 0x40 * i + 0x4 * j
abbrev BPM_POOL_COUNT (i : Nat) : Nat := 0xE01008 + 0x100 * i
abbrev BPM_AGENT_CLASS0 : Nat := 0xE00000
abbrev BPM_AGENT_CLASS1 : Nat := 0xE00004
abbrev BPM_AGENT_CLASS2 : Nat := 0xE00008
abbrev BPM_AGENT_CLASS3 : Nat := 0xE0000C
abbrev ING_DOM_POL (i : Nat) : Nat := 0xF00100 + 0x4 * i
abbrev ING_TIGHTEN : Nat := 0xF00300
abbrev ING_STAT : Nat := 0xF00304
abbrev ING_GREEN_LO : Nat := 0xF00310
abbrev ING_GREEN_HI : Nat := 0xF00314
abbrev ING_YELLOW_LO : Nat := 0xF00318
abbrev ING_YELLOW_HI : Nat := 0xF0031C
abbrev ING_RED_LO : Nat := 0xF00320
abbrev ING_RED_HI : Nat := 0xF00324
abbrev ING_DROP_LO : Nat := 0xF00328
abbrev ING_DROP_HI : Nat := 0xF0032C
abbrev ING_POL_REC (i j : Nat) : Nat := 0xF01000 + 0x40 * i + 0x4 * j
abbrev ING_POL_CMD (i : Nat) : Nat := 0xF01020 + 0x40 * i
abbrev ING_POL_STAT (i : Nat) : Nat := 0xF01024 + 0x40 * i
abbrev ING_DSCP_MAP (i j : Nat) : Nat := 0xF00200 + 0x20 * i + 0x4 * j
abbrev ING_PCP_MAP (i : Nat) : Nat := 0xF00210 + 0x20 * i
abbrev EGS_PORT_CFG (i : Nat) : Nat := 0x1000000 + 0x100 * i
abbrev EGS_PORT_STAT (i : Nat) : Nat := 0x1000004 + 0x100 * i
abbrev EGS_GATE_ADMIN_CFG (i : Nat) : Nat := 0x1000010 + 0x100 * i
abbrev EGS_GATE_ADMIN_CYCLE (i : Nat) : Nat := 0x1000014 + 0x100 * i
abbrev EGS_GATE_OPER_CYCLE (i : Nat) : Nat := 0x100002C + 0x100 * i
abbrev EGS_GATE_CTL (i : Nat) : Nat := 0x1000024 + 0x100 * i
abbrev EGS_GATE_STAT (i : Nat) : Nat := 0x1000028 + 0x100 * i
abbrev EGS_TAIL_DROP (i : Nat) : Nat := 0x1000040 + 0x100 * i
abbrev EGS_OVERSIZE (i : Nat) : Nat := 0x1000044 + 0x100 * i
abbrev EGS_FLUSHED (i : Nat) : Nat := 0x1000048 + 0x100 * i
abbrev EGS_GATE_DROP (i : Nat) : Nat := 0x100004C + 0x100 * i
abbrev EGS_GATE_WAITS (i : Nat) : Nat := 0x1000050 + 0x100 * i
abbrev EGS_Q_STAT (i : Nat) : Nat := 0x1200000 + 0x4 * i
abbrev EGS_PC_CFG (i : Nat) : Nat := 0x1020000 + 0x40 * i
abbrev EGS_LG_CFG (i : Nat) : Nat := 0x1030000 + 0x40 * i
abbrev EGS_LEG_CFG (i : Nat) : Nat := 0x1100000 + 0x40 * i
abbrev EGS_PC_RATE (i : Nat) : Nat := 0x1020004 + 0x40 * i
abbrev EGS_LG_RATE (i : Nat) : Nat := 0x1030004 + 0x40 * i
abbrev EGS_LEG_RATE (i : Nat) : Nat := 0x1100004 + 0x40 * i
abbrev EGS_PC_HI (i : Nat) : Nat := 0x1020008 + 0x40 * i
abbrev EGS_LG_HI (i : Nat) : Nat := 0x1030008 + 0x40 * i
abbrev EGS_LEG_HI (i : Nat) : Nat := 0x1100008 + 0x40 * i
abbrev EGS_PC_CREDIT_LO (i : Nat) : Nat := 0x102000C + 0x40 * i
abbrev EGS_LG_CREDIT_LO (i : Nat) : Nat := 0x103000C + 0x40 * i
abbrev EGS_LEG_CREDIT_LO (i : Nat) : Nat := 0x110000C + 0x40 * i
abbrev EGS_PC_CREDIT_HI (i : Nat) : Nat := 0x1020010 + 0x40 * i
abbrev EGS_LG_CREDIT_HI (i : Nat) : Nat := 0x1030010 + 0x40 * i
abbrev EGS_LEG_CREDIT_HI (i : Nat) : Nat := 0x1100010 + 0x40 * i
abbrev EGS_PC_MAP (i : Nat) : Nat := 0x1020014 + 0x40 * i
abbrev EGS_LG_MAP (i : Nat) : Nat := 0x1030014 + 0x40 * i
abbrev EGS_LEG_MAP (i : Nat) : Nat := 0x1100014 + 0x40 * i
abbrev EGS_PC_DEF (i : Nat) : Nat := 0x1020020 + 0x40 * i
abbrev EGS_LG_DEF (i : Nat) : Nat := 0x1030020 + 0x40 * i
abbrev EGS_LEG_DEF (i : Nat) : Nat := 0x1100020 + 0x40 * i
abbrev EGS_LEG_LEAF (i : Nat) : Nat := 0x1100018 + 0x40 * i
abbrev EGS_LEG_LIMIT (i : Nat) : Nat := 0x110001C + 0x40 * i
abbrev EGS_GATE_ADMIN_BASE_NS (i : Nat) : Nat := 0x1000018 + 0x100 * i
abbrev EGS_GATE_OPER_BASE_NS (i : Nat) : Nat := 0x1000030 + 0x100 * i
abbrev EGS_GATE_ADMIN_BASE_SEC_LO (i : Nat) : Nat := 0x100001C + 0x100 * i
abbrev EGS_GATE_OPER_BASE_SEC_LO (i : Nat) : Nat := 0x1000034 + 0x100 * i
abbrev EGS_GATE_ADMIN_BASE_SEC_HI (i : Nat) : Nat := 0x1000020 + 0x100 * i
abbrev EGS_GATE_OPER_BASE_SEC_HI (i : Nat) : Nat := 0x1000038 + 0x100 * i
abbrev EGS_GCL_ADMIN_T (i j : Nat) : Nat := 0x1010000 + 0x800 * i + 0x8 * j
abbrev EGS_GCL_OPER_T (i j : Nat) : Nat := 0x1014000 + 0x800 * i + 0x8 * j
abbrev EGS_GCL_ADMIN_G (i j : Nat) : Nat := 0x1010004 + 0x800 * i + 0x8 * j
abbrev EGS_GCL_OPER_G (i j : Nat) : Nat := 0x1014004 + 0x800 * i + 0x8 * j
abbrev HOK_STAT : Nat := 0x1400000
abbrev HOK_AFF_WIN0 : Nat := 0x1400010
abbrev HOK_AFF_WIN1 : Nat := 0x1400014
abbrev HOK_OVR_RUN : Nat := 0x1400020
abbrev HOK_OVR_DISCARD : Nat := 0x1400024
abbrev HOK_OVR_LATE : Nat := 0x1400028
abbrev HOK_SUB_REFUSED : Nat := 0x140002C
abbrev HOK_YIELD_CNT : Nat := 0x1400030
abbrev HOK_CQ_LOST : Nat := 0x1400034
abbrev HOK_DOM_QUOTA (i : Nat) : Nat := 0x1400100 + 0x4 * i
abbrev HOK_DOM_OUT (i : Nat) : Nat := 0x1400140 + 0x4 * i
abbrev HOK_CORE_STAT (i : Nat) : Nat := 0x1400400 + 0x4 * i
abbrev HOK_GRP_DOM (i : Nat) : Nat := 0x1401000 + 0x4 * i
abbrev HOK_GRP (i : Nat) : Nat := 0x1402000 + 0x4 * i
abbrev HOK_GRP_DEPTH (i : Nat) : Nat := 0x1406000 + 0x4 * i
abbrev HOK_STAMP (i : Nat) : Nat := 0x1410000 + 0x4 * i
abbrev HOK_SUB (i j : Nat) : Nat := 0x140C000 + 0x80 * i + 0x4 * j
abbrev HOK_SUB_CMD (i : Nat) : Nat := 0x140C040 + 0x80 * i
abbrev HOK_SUB_STAT (i : Nat) : Nat := 0x140C044 + 0x80 * i
abbrev HOK_CQ (i j : Nat) : Nat := 0x140C050 + 0x80 * i + 0x4 * j
abbrev HOK_CQ_POP (i : Nat) : Nat := 0x140C060 + 0x80 * i
abbrev HOK_CQ_STAT (i : Nat) : Nat := 0x140C064 + 0x80 * i
abbrev DSP_SK_CFG (i : Nat) : Nat := 0x1800000 + 0x100000 * i
abbrev DSP_SHM_RGN_ADDR (i j : Nat) : Nat := 0x1800100 + 0x100000 * i + 0x8 * j
abbrev DSP_SHM_RGN_GRP (i j : Nat) : Nat := 0x1800104 + 0x100000 * i + 0x8 * j
abbrev DSP_CORE_CTL (i j : Nat) : Nat := 0x1801000 + 0x100000 * i + 0x100 * j
abbrev DSP_CORE_STAT (i j : Nat) : Nat := 0x1801004 + 0x100000 * i + 0x100 * j
abbrev DSP_CORE_BP (i j k : Nat) : Nat := 0x1801010 + 0x100000 * i + 0x100 * j + 0x4 * k
abbrev DSP_CORE_REGSEL (i j : Nat) : Nat := 0x1801020 + 0x100000 * i + 0x100 * j
abbrev DSP_CORE_REGDATA (i j : Nat) : Nat := 0x1801024 + 0x100000 * i + 0x100 * j
abbrev DSP_CORE_MEM_ADDR (i j : Nat) : Nat := 0x1801040 + 0x100000 * i + 0x100 * j
abbrev DSP_CORE_MEM_DATA (i j : Nat) : Nat := 0x1801044 + 0x100000 * i + 0x100 * j
abbrev DSP_CORE_TASKS (i j : Nat) : Nat := 0x1801050 + 0x100000 * i + 0x100 * j
abbrev DSP_CORE_BUSY_LO (i j : Nat) : Nat := 0x1801054 + 0x100000 * i + 0x100 * j
abbrev DSP_CORE_BUSY_HI (i j : Nat) : Nat := 0x1801058 + 0x100000 * i + 0x100 * j
abbrev CAB_CFG : Nat := 0x2000000
abbrev CAB_CFG2 : Nat := 0x2000004
abbrev CAB_METER_ADDR_LO : Nat := 0x2000008
abbrev CAB_METER_ADDR_HI : Nat := 0x200000C
abbrev CAB_STAT : Nat := 0x2000010
abbrev CAB_ROW_LOAD : Nat := 0x2000014
abbrev CAB_PEAK_LOAD : Nat := 0x2000018
abbrev CAB_OVR_ROWS : Nat := 0x2000020
abbrev CAB_IN_MISSING : Nat := 0x2000024
abbrev CAB_SAT_TOTAL : Nat := 0x2000028
abbrev CAB_CLIP : Nat := 0x200002C
abbrev CAB_FORCED_RAMP : Nat := 0x2000030
abbrev CAB_FADE_CUT : Nat := 0x2000034
abbrev CAB_LIST_BAD_CNT : Nat := 0x2000038
abbrev CAB_XP_PAGE (i : Nat) : Nat := 0x2000040 + 0x4 * i
abbrev CAB_DOM_XP (i : Nat) : Nat := 0x20000C0 + 0x4 * i
abbrev CAB_BUS_CFG (i : Nat) : Nat := 0x2000100 + 0x8 * i
abbrev CAB_BUS_LEN (i : Nat) : Nat := 0x2000104 + 0x8 * i
abbrev CAB_BUS_DOM (i : Nat) : Nat := 0x2004400 + 0x4 * i
abbrev CAB_BUS_SAT (i : Nat) : Nat := 0x2004800 + 0x4 * i
abbrev CAB_BUS_SATCNT (i : Nat) : Nat := 0x2005000 + 0x4 * i
abbrev CAB_RANK_CFG (i : Nat) : Nat := 0x2008000 + 0x8 * i
abbrev CAB_RANK_PARAM (i : Nat) : Nat := 0x2008004 + 0x8 * i
abbrev CAB_FOUT_A (i : Nat) : Nat := 0x200C000 + 0x8 * i
abbrev CAB_FOUT_B (i : Nat) : Nat := 0x200C004 + 0x8 * i
abbrev CAB_LEG_IN_A (i : Nat) : Nat := 0x2020000 + 0x8 * i
abbrev CAB_LEG_IN_B (i : Nat) : Nat := 0x2020004 + 0x8 * i
abbrev CAB_STAGE_A (i : Nat) : Nat := 0x2040000 + 0x10 * i
abbrev CAB_STAGE_B (i : Nat) : Nat := 0x2040004 + 0x10 * i
abbrev CAB_STAGE_C (i : Nat) : Nat := 0x2040008 + 0x10 * i
abbrev CAB_STAGE_D (i : Nat) : Nat := 0x204000C + 0x10 * i
abbrev CAB_RANK_LIST (i j : Nat) : Nat := 0x2010000 + 0x20 * i + 0x4 * j
abbrev JBF_TX_POOL : Nat := 0x2200000
abbrev JBF_REDO_MARGIN : Nat := 0x2200004
abbrev JBF_ENC_DOM (i : Nat) : Nat := 0x2200100 + 0x4 * i
abbrev JBF_DUP : Nat := 0x2200800
abbrev JBF_LATE_DROP : Nat := 0x2200804
abbrev JBF_EARLY_DROP : Nat := 0x2200808
abbrev JBF_SLOT_OVF : Nat := 0x220080C
abbrev JBF_CONCEALED : Nat := 0x2200810
abbrev JBF_REDONE : Nat := 0x2200814
abbrev JBF_ADJ_DROP : Nat := 0x2200818
abbrev JBF_ADJ_INSERT : Nat := 0x220081C
abbrev JBF_DEC_MISSED : Nat := 0x2200820
abbrev JBF_REC (i j : Nat) : Nat := 0x2201000 + 0x80 * i + 0x4 * j
abbrev JBF_CMD (i : Nat) : Nat := 0x2201060 + 0x80 * i
abbrev JBF_CMD_STAT (i : Nat) : Nat := 0x2201064 + 0x80 * i
abbrev LEG_ACTIVE : Nat := 0x2300000
abbrev LEG_REC (i j : Nat) : Nat := 0x2301000 + 0x80 * i + 0x4 * j
abbrev LEG_CMD (i : Nat) : Nat := 0x2301040 + 0x80 * i
abbrev LEG_CMD_STAT (i : Nat) : Nat := 0x2301044 + 0x80 * i
abbrev FWD_CFG : Nat := 0x2400000
abbrev FWD_DOM_SUB (i : Nat) : Nat := 0x2400100 + 0x4 * i
abbrev FWD_DOM_HIST (i : Nat) : Nat := 0x2400140 + 0x4 * i
abbrev FWD_HIST_ADDR_LO : Nat := 0x2400200
abbrev FWD_TWLOG_ADDR_LO : Nat := 0x2400210
abbrev FWD_HIST_ADDR_HI : Nat := 0x2400204
abbrev FWD_TWLOG_ADDR_HI : Nat := 0x2400214
abbrev FWD_HIST_COUNT : Nat := 0x2400208
abbrev FWD_FB_ROUTE (i : Nat) : Nat := 0x2400300 + 0x4 * i
abbrev FWD_REPLICAS_LO : Nat := 0x2400400
abbrev FWD_REPLICAS_HI : Nat := 0x2400404
abbrev FWD_CT_LO : Nat := 0x2400408
abbrev FWD_CT_HI : Nat := 0x240040C
abbrev FWD_NOT_OWNER : Nat := 0x2400410
abbrev FWD_NO_LAYER_CNT : Nat := 0x2400414
abbrev FWD_SUB_BAD_CNT : Nat := 0x2400418
abbrev FWD_RTX : Nat := 0x240041C
abbrev FWD_FEC : Nat := 0x2400420
abbrev FWD_HIST_MISS_CNT : Nat := 0x2400424
abbrev FWD_CT_DENIED : Nat := 0x2400428
abbrev FWD_REC (i j : Nat) : Nat := 0x2401000 + 0x80 * i + 0x4 * j
abbrev FWD_CMD (i : Nat) : Nat := 0x2401040 + 0x80 * i
abbrev FWD_CMD_STAT (i : Nat) : Nat := 0x2401044 + 0x80 * i
abbrev VDE_CTX_DOM (i : Nat) : Nat := 0x2800100 + 0x4 * i
abbrev VDE_CORE_DECL (i : Nat) : Nat := 0x2800300 + 0x4 * i
abbrev VDE_CORE_BUSY (i : Nat) : Nat := 0x2800340 + 0x4 * i
abbrev VDE_UNSUP_PKT : Nat := 0x2800400
abbrev VDE_ROLLBACKS : Nat := 0x2800404
abbrev VDE_LOST : Nat := 0x2800408
abbrev VDE_SKIPPED : Nat := 0x280040C
abbrev VDE_PLI : Nat := 0x2800410
abbrev VDE_FIR : Nat := 0x2800414
abbrev VDE_REC (i j : Nat) : Nat := 0x2801000 + 0x100 * i + 0x4 * j
abbrev VDE_CMD (i : Nat) : Nat := 0x2801080 + 0x100 * i
abbrev VDE_CMD_STAT (i : Nat) : Nat := 0x2801084 + 0x100 * i
abbrev VEN_TX_POOL : Nat := 0x2900000
abbrev VEN_CTX_DOM (i : Nat) : Nat := 0x2900100 + 0x4 * i
abbrev VEN_FRAMES : Nat := 0x2900400
abbrev VEN_SKIP_RATE : Nat := 0x2900404
abbrev VEN_SKIP_LATE : Nat := 0x2900408
abbrev VEN_KEYS : Nat := 0x290040C
abbrev VEN_OVERSIZE : Nat := 0x2900410
abbrev VEN_CORE_DECL (i : Nat) : Nat := 0x2900300 + 0x4 * i
abbrev VEN_CORE_BUSY (i : Nat) : Nat := 0x2900340 + 0x4 * i
abbrev VEN_REC (i j : Nat) : Nat := 0x2901000 + 0x100 * i + 0x4 * j
abbrev VEN_CMD (i : Nat) : Nat := 0x2901080 + 0x100 * i
abbrev VEN_CMD_STAT (i : Nat) : Nat := 0x2901084 + 0x100 * i
abbrev CMP_PP_DECL (i : Nat) : Nat := 0x2A00000 + 0x4 * i
abbrev CMP_PP_BUSY (i : Nat) : Nat := 0x2A00020 + 0x4 * i
abbrev CMP_LATE_CNT : Nat := 0x2A00040
abbrev CMP_NO_SURF_CNT : Nat := 0x2A00044
abbrev CMP_LAYER_BAD_CNT : Nat := 0x2A00048
abbrev CMP_REBUILDS : Nat := 0x2A0004C
abbrev CMP_CI_CFG (i : Nat) : Nat := 0x2A01000 + 0x100 * i
abbrev CMP_CI_SIZE (i : Nat) : Nat := 0x2A01004 + 0x100 * i
abbrev CMP_CI_SURF_LO (i : Nat) : Nat := 0x2A01008 + 0x100 * i
abbrev CMP_CACHE_LO (i : Nat) : Nat := 0x2A01010 + 0x100 * i
abbrev CMP_CI_SURF_HI (i : Nat) : Nat := 0x2A0100C + 0x100 * i
abbrev CMP_CACHE_HI (i : Nat) : Nat := 0x2A01014 + 0x100 * i
abbrev CMP_CACHE_BYTES (i : Nat) : Nat := 0x2A01018 + 0x100 * i
abbrev CMP_CI_CTL (i : Nat) : Nat := 0x2A01020 + 0x100 * i
abbrev CMP_CI_BG (i : Nat) : Nat := 0x2A01024 + 0x100 * i
abbrev CMP_COMMIT (i : Nat) : Nat := 0x2A01028 + 0x100 * i
abbrev CMP_CACHE_CTL (i : Nat) : Nat := 0x2A01034 + 0x100 * i
abbrev CMP_COMMIT_STAT (i : Nat) : Nat := 0x2A0102C + 0x100 * i
abbrev CMP_COMMIT_AT (i : Nat) : Nat := 0x2A01030 + 0x100 * i
abbrev CMP_CI_FRAME (i : Nat) : Nat := 0x2A0103C + 0x100 * i
abbrev CMP_CI_STAT (i : Nat) : Nat := 0x2A01038 + 0x100 * i
abbrev CMP_LAYER (i j k : Nat) : Nat := 0x2A10000 + 0x200 * i + 0x40 * j + 0x4 * k
abbrev SQS_TX_POOL : Nat := 0x2C00000
abbrev SQS_GAL_DOM (i : Nat) : Nat := 0x2C00100 + 0x4 * i
abbrev SQS_UNIT_BUSY (i : Nat) : Nat := 0x2C00300 + 0x4 * i
abbrev SQS_FRAMES : Nat := 0x2C00400
abbrev SQS_GEN_TILES : Nat := 0x2C00404
abbrev SQS_SKIP_LATE : Nat := 0x2C00408
abbrev SQS_TILE_LOST : Nat := 0x2C0040C
abbrev SQS_STRUCT_ERR : Nat := 0x2C00410
abbrev SQS_RING_DROP : Nat := 0x2C00414
abbrev SQS_REC (i j : Nat) : Nat := 0x2C01000 + 0x100 * i + 0x4 * j
abbrev SQS_CMD (i : Nat) : Nat := 0x2C01080 + 0x100 * i
abbrev SQS_CMD_STAT (i : Nat) : Nat := 0x2C01084 + 0x100 * i
abbrev DPO_CFG (i : Nat) : Nat := 0x2D01000 + 0x100 * i
abbrev DPO_HTIME_A (i : Nat) : Nat := 0x2D01004 + 0x100 * i
abbrev DPO_VTIME_A (i : Nat) : Nat := 0x2D0100C + 0x100 * i
abbrev DPO_HTIME_B (i : Nat) : Nat := 0x2D01008 + 0x100 * i
abbrev DPO_VTIME_B (i : Nat) : Nat := 0x2D01010 + 0x100 * i
abbrev DPO_PCLK (i : Nat) : Nat := 0x2D01014 + 0x100 * i
abbrev DPO_CTL (i : Nat) : Nat := 0x2D01020 + 0x100 * i
abbrev DPO_STAT (i : Nat) : Nat := 0x2D01024 + 0x100 * i
abbrev DPO_LOCK_OFFSET (i : Nat) : Nat := 0x2D01028 + 0x100 * i
abbrev DPO_PANIC (i : Nat) : Nat := 0x2D0102C + 0x100 * i
abbrev DPO_TRAIN_STAT (i : Nat) : Nat := 0x2D01030 + 0x100 * i
abbrev DPO_UNDERFLOW_LINES (i : Nat) : Nat := 0x2D01040 + 0x100 * i
abbrev DPO_REPEAT (i : Nat) : Nat := 0x2D01044 + 0x100 * i
abbrev DPO_DROP (i : Nat) : Nat := 0x2D01048 + 0x100 * i
abbrev DPO_RETRAINS (i : Nat) : Nat := 0x2D0104C + 0x100 * i
abbrev DPO_FRAMES (i : Nat) : Nat := 0x2D01050 + 0x100 * i
abbrev DPO_AUX_CMD (i : Nat) : Nat := 0x2D01060 + 0x100 * i
abbrev DPO_AUX_DATA (i j : Nat) : Nat := 0x2D01064 + 0x100 * i + 0x4 * j
abbrev DPO_AUX_STAT (i : Nat) : Nat := 0x2D01074 + 0x100 * i
abbrev DMC_CFG (i : Nat) : Nat := 0x3000000 + 0x100000 * i
abbrev DMC_STAT (i : Nat) : Nat := 0x3000004 + 0x100000 * i
abbrev DMC_PAGE (i : Nat) : Nat := 0x3000008 + 0x100000 * i
abbrev DMC_QOS (i : Nat) : Nat := 0x300000C + 0x100000 * i
abbrev DMC_RETRAIN (i : Nat) : Nat := 0x3000010 + 0x100000 * i
abbrev DMC_PANIC_STAT (i : Nat) : Nat := 0x3000014 + 0x100000 * i
abbrev DMC_RD_LO (i : Nat) : Nat := 0x3000020 + 0x100000 * i
abbrev DMC_RD_HI (i : Nat) : Nat := 0x3000024 + 0x100000 * i
abbrev DMC_WR_LO (i : Nat) : Nat := 0x3000028 + 0x100000 * i
abbrev DMC_WR_HI (i : Nat) : Nat := 0x300002C + 0x100000 * i
abbrev DMC_PAGE_HIT (i : Nat) : Nat := 0x3000030 + 0x100000 * i
abbrev DMC_PAGE_MISS (i : Nat) : Nat := 0x3000034 + 0x100000 * i
abbrev DMC_HAZARD_WAIT (i : Nat) : Nat := 0x3000038 + 0x100000 * i
abbrev DMC_REF_FORCED (i : Nat) : Nat := 0x300003C + 0x100000 * i
abbrev DMC_LECC_CORR (i : Nat) : Nat := 0x3000040 + 0x100000 * i
abbrev DMC_LECC_UNCORR (i : Nat) : Nat := 0x3000044 + 0x100000 * i
abbrev DMC_LECC_WR (i : Nat) : Nat := 0x3000048 + 0x100000 * i
abbrev DMC_PANIC_CYC (i : Nat) : Nat := 0x300004C + 0x100000 * i
abbrev DMC_ILV : Nat := 0x3001000
abbrev DMC_CO_A (i : Nat) : Nat := 0x3002000 + 0x8 * i
abbrev DMC_CO_B (i : Nat) : Nat := 0x3002004 + 0x8 * i
abbrev NFC_CFG : Nat := 0x3800000
abbrev NFC_GEOM : Nat := 0x3800004
abbrev NFC_BLOCKS : Nat := 0x3800008
abbrev NFC_AREA_LO : Nat := 0x380000C
abbrev NFC_AREA_HI : Nat := 0x3800010
abbrev NFC_RR_CFG : Nat := 0x380003C
abbrev NFC_CTL : Nat := 0x3800100
abbrev NFC_STAT : Nat := 0x3800104
abbrev NFC_HEAD_LSN_LO : Nat := 0x3800110
abbrev NFC_HEAD_LSN_HI : Nat := 0x3800114
abbrev NFC_DURABLE_LSN_LO : Nat := 0x3800118
abbrev NFC_DURABLE_LSN_HI : Nat := 0x380011C
abbrev NFC_RELEASE_LSN_LO : Nat := 0x3800120
abbrev NFC_RELEASE_LSN_HI : Nat := 0x3800124
abbrev NFC_UNITS_LO : Nat := 0x3800128
abbrev NFC_UNITS_HI : Nat := 0x380012C
abbrev NFC_SPACE : Nat := 0x3800130
abbrev NFC_PATROL : Nat := 0x3800138
abbrev NFC_CKPT : Nat := 0x380013C
abbrev NFC_FREE : Nat := 0x3800134
abbrev NFC_RETRY : Nat := 0x3800200
abbrev NFC_UNCORR_CNT : Nat := 0x3800204
abbrev NFC_TAG_FAIL : Nat := 0x3800208
abbrev NFC_BAD_CNT : Nat := 0x380020C
abbrev NFC_REFRESHED : Nat := 0x3800210
abbrev NFC_GAP_ROWS : Nat := 0x3800214
abbrev NFC_EC_MAX : Nat := 0x3800218
abbrev NFC_EC_MIN : Nat := 0x380021C
abbrev NFC_REC (i j : Nat) : Nat := 0x3801000 + 0x80 * i + 0x4 * j
abbrev NFC_CMD (i : Nat) : Nat := 0x3801040 + 0x80 * i
abbrev NFC_CMD_STAT (i : Nat) : Nat := 0x3801044 + 0x80 * i
abbrev NFC_RR_A (i : Nat) : Nat := 0x3800040 + 0x8 * i
abbrev NFC_RR_B (i : Nat) : Nat := 0x3800044 + 0x8 * i
abbrev FLD_LINK_STAT : Nat := 0x3C00000
abbrev FLD_LINK_CRC : Nat := 0x3C00004
abbrev FLD_LINK_LOST_WR : Nat := 0x3C00008
abbrev FLD_LINK_DOWNS : Nat := 0x3C0000C
abbrev FLD_RING_OVF : Nat := 0x3C00020
abbrev FLD_RING_UNDER : Nat := 0x3C00024
abbrev FLD_TAP_LATE : Nat := 0x3C00028
abbrev FLD_TAP_ADDR_LO : Nat := 0x3C00010
abbrev FLD_TAP_ADDR_HI : Nat := 0x3C00014
abbrev FLD_RING_IN_A (i : Nat) : Nat := 0x3C01000 + 0x10 * i
abbrev FLD_RING_OUT_A (i : Nat) : Nat := 0x3C01008 + 0x10 * i
abbrev FLD_RING_IN_B (i : Nat) : Nat := 0x3C01004 + 0x10 * i
abbrev FLD_RING_OUT_B (i : Nat) : Nat := 0x3C0100C + 0x10 * i
abbrev FLD_GAUGE_MIRROR (i : Nat) : Nat := 0x3C01400 + 0x4 * i
abbrev FLD_STATE_MIRROR (i : Nat) : Nat := 0x3C01480 + 0x4 * i
abbrev FLD_IN_SLOT (i : Nat) : Nat := 0x3C02000 + 0x8 * i
abbrev FLD_IN_STAMP (i : Nat) : Nat := 0x3C02004 + 0x8 * i
abbrev FLD_OUT_SLOT (i : Nat) : Nat := 0x3C04000 + 0x4 * i
abbrev FLD_SEL_ID : Nat := 0x3D00000
abbrev FLD_SEL_GEN : Nat := 0x3D00004
abbrev FLD_SLIP_SAT : Nat := 0x3D00008
abbrev FLD_CG_CFG_A (i : Nat) : Nat := 0x3D01000 + 0x40 * i
abbrev FLD_CG_CFG_B (i : Nat) : Nat := 0x3D01004 + 0x40 * i
abbrev FLD_CG_CTL (i : Nat) : Nat := 0x3D01008 + 0x40 * i
abbrev FLD_CG_STAT (i : Nat) : Nat := 0x3D0100C + 0x40 * i
abbrev FLD_CG_GAUGE (i : Nat) : Nat := 0x3D01010 + 0x40 * i
abbrev FLD_CG_FIFO (i : Nat) : Nat := 0x3D01014 + 0x40 * i
abbrev FLD_CG_LOOP (i : Nat) : Nat := 0x3D01018 + 0x40 * i
abbrev FLD_CG_FREQ (i : Nat) : Nat := 0x3D0101C + 0x40 * i
abbrev FLD_CG_GLITCH (i : Nat) : Nat := 0x3D01020 + 0x40 * i
abbrev FLD_CG_SLIP (i : Nat) : Nat := 0x3D01024 + 0x40 * i
abbrev FLD_CG_LOSS (i : Nat) : Nat := 0x3D01028 + 0x40 * i
abbrev FLD_PORT_MAP (i : Nat) : Nat := 0x3D02000 + 0x10 * i
abbrev FLD_PORT_MASK (i : Nat) : Nat := 0x3D02004 + 0x10 * i
abbrev FLD_SLIP_A (i : Nat) : Nat := 0x3D03000 + 0x8 * i
abbrev FLD_SLIP_B (i : Nat) : Nat := 0x3D03004 + 0x8 * i

end Reg

/-- Registers of SYS. -/
def rowsSys : List RegRow := [
  ⟨"SYS_CFG", 0x0, [], .HL, true, 0x0, 0x1, 0x0, 0x0, 0x0⟩,
  ⟨"SYS_RST_CFG", 0x4, [], .RW, false, 0x1, 0x3F, 0x0, 0x0, 0x0⟩,
  ⟨"SYS_RST_CMD", 0x8, [], .WO, false, 0x0, 0xFFFF0003, 0x0, 0x0, 0x0⟩,
  ⟨"SYS_CASTON", 0x10, [], .RO, false, 0x0, 0xC0000FFF, 0x0, 0x0, 0x0⟩,
  ⟨"SYS_PUSH", 0x20, [], .WO, false, 0x0, 0x1, 0x0, 0x0, 0x0⟩,
  ⟨"SYS_CLK_STAT", 0x24, [], .RO, false, 0x0, 0xFFF, 0x0, 0x0, 0x0⟩,
  ⟨"SYS_PWR_CMD", 0x30, [], .WO, false, 0x0, 0x80000003, 0x0, 0x0, 0x0⟩,
  ⟨"SYS_PWR_CFG", 0x34, [], .RW, false, 0x3, 0x33, 0x0, 0x0, 0x0⟩,
  ⟨"SYS_PWR_STAT", 0x38, [], .RO, false, 0x0, 0x80000073, 0x0, 0x0, 0x0⟩,
  ⟨"SYS_STEP_T", 0x40, [(11, 0x4)], .RO, false, 0x0, 0xFFFFFFFF, 0x0, 0x0, 0x0⟩,
  ⟨"SYS_TEMP", 0x80, [], .RO, false, 0x0, 0xFFFF, 0x0, 0x0, 0x0⟩,
  ⟨"SYS_TEMP_WARN", 0x84, [], .LV, false, 0x320, 0xFFFF, 0x0, 0x0, 0x0⟩,
  ⟨"SYS_RST_STAT", 0xC, [], .RO, false, 0x1, 0x3FF, 0x0, 0x3FF, 0x0⟩]

/-- Registers of SEC. -/
def rowsSec : List RegRow := [
  ⟨"SEC_LC_STAT", 0x100000, [], .RO, false, 0x0, 0x33F7, 0x0, 0x0, 0x0⟩,
  ⟨"SEC_LC_CMD", 0x100004, [], .WO, false, 0x0, 0x80000007, 0x0, 0x0, 0x0⟩,
  ⟨"SEC_CMD_STAT", 0x100008, [], .RO, false, 0x0, 0x8000000F, 0x0, 0x0, 0x0⟩,
  ⟨"SEC_UID_LO", 0x100010, [], .RO, false, 0x0, 0xFFFFFFFF, 0x0, 0x0, 0x0⟩,
  ⟨"SEC_UID_HI", 0x100014, [], .RO, false, 0x0, 0xFFFFFFFF, 0x0, 0x0, 0x0⟩,
  ⟨"SEC_FW_VERSION", 0x100018, [], .RO, false, 0x0, 0xFFFFFFFF, 0x0, 0x0, 0x0⟩,
  ⟨"SEC_FLOORS", 0x10001C, [], .RO, false, 0x0, 0xFFFFFFFF, 0x0, 0x0, 0x0⟩,
  ⟨"SEC_FLOOR_CMD", 0x100020, [], .WO, false, 0x0, 0x800000FF, 0x0, 0x0, 0x0⟩,
  ⟨"SEC_REVOKE", 0x100024, [], .WO, false, 0x0, 0x800000FF, 0x0, 0x0, 0x0⟩,
  ⟨"SEC_BOOT_STAT", 0x100028, [], .RO, false, 0x0, 0xF7F, 0x0, 0x0, 0x0⟩,
  ⟨"SEC_OTP_CMD", 0x100030, [], .WO, false, 0x0, 0xC000000F, 0x0, 0x0, 0x0⟩,
  ⟨"SEC_OTP_DATA", 0x100040, [(12, 0x4)], .RW, false, 0x0, 0xFFFFFFFF, 0x0, 0x0, 0x0⟩,
  ⟨"SEC_DBG_CTL", 0x100080, [], .WO, false, 0x0, 0xF0000003, 0x0, 0x0, 0x0⟩,
  ⟨"SEC_DBG_STAT", 0x100084, [], .RO, false, 0x0, 0xC00000FF, 0x0, 0x0, 0x0⟩,
  ⟨"SEC_DBG_CHAL", 0x100100, [(12, 0x4)], .RO, false, 0x0, 0xFFFFFFFF, 0x0, 0x0, 0x0⟩,
  ⟨"SEC_DBG_RESP", 0x100140, [(24, 0x4)], .WO, false, 0x0, 0xFFFFFFFF, 0x0, 0x0, 0x0⟩,
  ⟨"SEC_BIND_CMD", 0x100200, [], .WO, false, 0x0, 0x8000000F, 0x0, 0x0, 0x0⟩,
  ⟨"SEC_RNG", 0x100300, [], .RO, false, 0x0, 0xFFFFFFFF, 0x0, 0x0, 0x0⟩,
  ⟨"SEC_RNG_STAT", 0x100304, [], .RO, false, 0x0, 0x1, 0x0, 0x0, 0x0⟩,
  ⟨"SEC_DOM_LEG", 0x101000, [(16, 0x4)], .HL, true, 0x0, 0xFF007F, 0x0, 0x0, 0x0⟩,
  ⟨"SEC_MON_STAT", 0x100400, [], .RO, false, 0x0, 0xFF000007, 0x0, 0x7, 0x0⟩]

/-- Registers of PAT. -/
def rowsPat : List RegRow := [
  ⟨"PAT_ID", 0x200000, [], .RO, false, 0x960000A1, 0xFFFFFFFF, 0x0, 0x0, 0x0⟩,
  ⟨"PAT_SWAP_REQ", 0x200010, [], .WO, false, 0x0, 0x87, 0x0, 0x0, 0x0⟩,
  ⟨"PAT_SWAP_TARGET", 0x200014, [], .RW, false, 0x0, 0xFFFFFFFF, 0x0, 0x0, 0x0⟩,
  ⟨"PAT_SWAP_CANCEL", 0x200018, [], .WO, false, 0x0, 0x7, 0x0, 0x0, 0x0⟩,
  ⟨"PAT_SWAP_STAT", 0x200020, [], .RO, false, 0x0, 0xFFF, 0x0, 0x0, 0x0⟩,
  ⟨"PAT_SWAP_AT_AUD", 0x200024, [], .RO, false, 0x0, 0xFFFFFFFF, 0x0, 0x0, 0x0⟩,
  ⟨"PAT_SWAP_AT_NET", 0x200028, [], .RO, false, 0x0, 0xFFFFFFFF, 0x0, 0x0, 0x0⟩,
  ⟨"PAT_SWAP_AT_VID", 0x20002C, [], .RO, false, 0x0, 0xFFFFFFFF, 0x0, 0x0, 0x0⟩,
  ⟨"PAT_GEN_AUD", 0x200030, [], .RO, false, 0x0, 0xFFFF, 0x0, 0x0, 0x0⟩,
  ⟨"PAT_GEN_NET", 0x200034, [], .RO, false, 0x0, 0xFFFF, 0x0, 0x0, 0x0⟩,
  ⟨"PAT_GEN_VID", 0x200038, [], .RO, false, 0x0, 0xFFFF, 0x0, 0x0, 0x0⟩,
  ⟨"PAT_GEN_FLD", 0x20003C, [], .RO, false, 0x0, 0xFFFF, 0x0, 0x0, 0x0⟩,
  ⟨"PAT_LOAD_ADDR_LO", 0x200050, [], .HL, false, 0x0, 0xFFFFFFC0, 0x0, 0x0, 0x0⟩,
  ⟨"PAT_LOAD_ADDR_HI", 0x200054, [], .HL, false, 0x0, 0xF, 0x0, 0x0, 0x0⟩,
  ⟨"PAT_LOAD_LEN", 0x200058, [], .HL, false, 0x0, 0x1FFFFFF, 0x0, 0x0, 0x0⟩,
  ⟨"PAT_LOAD_CTL", 0x20005C, [], .HL, false, 0x0, 0x3, 0x0, 0x0, 0x0⟩,
  ⟨"PAT_LOAD_STAT", 0x200060, [], .RO, false, 0x0, 0x83FF00FF, 0x0, 0x0, 0x0⟩,
  ⟨"PAT_FIXED_DIGEST", 0x200080, [(12, 0x4)], .RO, false, 0x0, 0xFFFFFFFF, 0x0, 0x0, 0x0⟩,
  ⟨"PAT_PATTERN_DIGEST", 0x2000C0, [(12, 0x4)], .RO, false, 0x0, 0xFFFFFFFF, 0x0, 0x0, 0x0⟩,
  ⟨"PAT_SEC_VERSION", 0x200100, [], .RO, false, 0x0, 0xFFFFFFFF, 0x0, 0x0, 0x0⟩,
  ⟨"PAT_SEAL_DROPS", 0x200110, [], .RO, false, 0x0, 0xFFFFFFFF, 0x0, 0x0, 0x0⟩]

/-- Registers of TIM, part 1. -/
def rowsTim1 : List RegRow := [
  ⟨"TIM_TICK_SRC", 0x300000, [], .HL, true, 0x0, 0xDC7, 0x0, 0x0, 0x0⟩,
  ⟨"TIM_ROW_OFFSET", 0x300004, [], .HL, true, 0x0, 0x7FFFF, 0x0, 0x0, 0x0⟩,
  ⟨"TIM_TICK_CTL", 0x300008, [], .RW, false, 0x0, 0x3, 0x0, 0x0, 0x0⟩,
  ⟨"TIM_ROW_NOW", 0x300010, [], .RO, false, 0x0, 0xFFFFFFFF, 0x0, 0x0, 0x0⟩,
  ⟨"TIM_ROUND_NOW", 0x300014, [], .RO, false, 0x0, 0xFFFFFFFF, 0x0, 0x0, 0x0⟩,
  ⟨"TIM_ROW_NOW_HI", 0x300018, [], .RO, false, 0x0, 0xFFFF, 0x0, 0x0, 0x0⟩,
  ⟨"TIM_ROUND_NOW_HI", 0x30001C, [], .RO, false, 0x0, 0xFFFF, 0x0, 0x0, 0x0⟩,
  ⟨"TIM_ESN_LO", 0x300020, [], .RO, false, 0x0, 0xFFFFFFFF, 0x0, 0x0, 0x0⟩,
  ⟨"TIM_ESN_HI", 0x300024, [], .RO, false, 0x0, 0xFFFFFFFF, 0x0, 0x0, 0x0⟩,
  ⟨"TIM_ESN_BASE_LO", 0x300028, [], .HL, false, 0x0, 0xFFFFFFFF, 0x0, 0x0, 0x0⟩,
  ⟨"TIM_ESN_BASE_HI", 0x30002C, [], .HL, false, 0x0, 0xFFFFFFFF, 0x0, 0x0, 0x0⟩,
  ⟨"TIM_ESN_RESV_LO", 0x300030, [], .RW, false, 0x0, 0xFFFFFFFF, 0x0, 0x0, 0x0⟩,
  ⟨"TIM_ESN_RESV_HI", 0x300034, [], .RW, false, 0x0, 0xFFFFFFFF, 0x0, 0x0, 0x0⟩,
  ⟨"TIM_TB_CFG", 0x301000, [(8, 0x100)], .HL, true, 0x0, 0xFF000373, 0x0, 0x0, 0x0⟩,
  ⟨"TIM_TB_STAT", 0x301004, [(8, 0x100)], .RO, false, 0x0, 0x77, 0x0, 0x20, 0x0⟩,
  ⟨"TIM_TB_CTL", 0x301008, [(8, 0x100)], .LV, false, 0x0, 0x1, 0x0, 0x0, 0x0⟩,
  ⟨"TIM_TB_FRAC", 0x30100C, [(8, 0x100)], .RO, false, 0x0, 0xFFFF, 0x0, 0x0, 0x0⟩,
  ⟨"TIM_TB_NS", 0x301010, [(8, 0x100)], .RO, false, 0x0, 0x3FFFFFFF, 0x0, 0x0, 0x0⟩,
  ⟨"TIM_TB_SEC_LO", 0x301014, [(8, 0x100)], .RO, false, 0x0, 0xFFFFFFFF, 0x0, 0x0, 0x0⟩,
  ⟨"TIM_TB_SEC_HI", 0x301018, [(8, 0x100)], .RO, false, 0x0, 0xFFFF, 0x0, 0x0, 0x0⟩,
  ⟨"TIM_TB_SET_NS", 0x301020, [(8, 0x100)], .RW, false, 0x0, 0x3FFFFFFF, 0x0, 0x0, 0x0⟩,
  ⟨"TIM_TB_SET_SEC_LO", 0x301024, [(8, 0x100)], .RW, false, 0x0, 0xFFFFFFFF, 0x0, 0x0, 0x0⟩,
  ⟨"TIM_TB_SET_SEC_HI", 0x301028, [(8, 0x100)], .RW, false, 0x0, 0xFFFF, 0x0, 0x0, 0x0⟩,
  ⟨"TIM_TB_STEP", 0x30102C, [(8, 0x100)], .WO, false, 0x0, 0x1, 0x0, 0x0, 0x0⟩,
  ⟨"TIM_TB_ADJ", 0x301030, [(8, 0x100)], .LV, false, 0x0, 0xFFFFFFFF, 0x0, 0x0, 0x0⟩,
  ⟨"TIM_TB_PHASE_LO", 0x301034, [(8, 0x100)], .LV, false, 0x0, 0xFFFFFFFF, 0x0, 0x0, 0x0⟩,
  ⟨"TIM_TB_PHASE_HI", 0x301038, [(8, 0x100)], .LV, false, 0x0, 0xFFFF, 0x0, 0x0, 0x0⟩,
  ⟨"TIM_TB_SLEW_MAX", 0x30103C, [(8, 0x100)], .LV, false, 0x0, 0x7FFFFFFF, 0x0, 0x0, 0x0⟩,
  ⟨"TIM_TB_RATE_STEP", 0x301040, [(8, 0x100)], .LV, false, 0x0, 0xFFFFFF, 0x0, 0x0, 0x0⟩,
  ⟨"TIM_TB_LOSS", 0x301044, [(8, 0x100)], .LV, false, 0x0, 0xFFFFF, 0x0, 0x0, 0x0⟩]

/-- Registers of TIM, part 2. -/
def rowsTim2 : List RegRow := [
  ⟨"TIM_TB_HOLD_ADJ", 0x301048, [(8, 0x100)], .RO, false, 0x0, 0xFFFFFFFF, 0x0, 0x0, 0x0⟩,
  ⟨"TIM_TB_RATE_EFF", 0x30104C, [(8, 0x100)], .RO, false, 0x0, 0xFFFFFFFF, 0x0, 0x0, 0x0⟩,
  ⟨"TIM_TB_FAR_LIMIT", 0x301050, [(8, 0x100)], .LV, false, 0xFFFFFFFF, 0xFFFFFFFF, 0x0, 0x0, 0x0⟩,
  ⟨"TIM_TB_SYNC_CNT", 0x301054, [(8, 0x100)], .RO, false, 0x0, 0xFFFFFFFF, 0x0, 0x0, 0x0⟩,
  ⟨"TIM_PORT_CFG", 0x302000, [(8, 0x40)], .LV, false, 0x0, 0x702, 0x0, 0x0, 0x0⟩,
  ⟨"TIM_PORT_IN_LAT", 0x302004, [(8, 0x40)], .LV, false, 0x0, 0xFFFFFFFF, 0x0, 0x0, 0x0⟩,
  ⟨"TIM_PORT_OUT_LAT", 0x302008, [(8, 0x40)], .LV, false, 0x0, 0xFFFFFFFF, 0x0, 0x0, 0x0⟩,
  ⟨"TIM_PORT_TXTS_STAT", 0x30200C, [(8, 0x40)], .RO, false, 0x0, 0x17F, 0x0, 0x100, 0x0⟩,
  ⟨"TIM_PORT_TXTS_TAG", 0x302010, [(8, 0x40)], .RO, false, 0x0, 0xFFFF, 0x0, 0x0, 0x0⟩,
  ⟨"TIM_PORT_TXTS_FRAC", 0x302014, [(8, 0x40)], .RO, false, 0x0, 0xFFFF, 0x0, 0x0, 0x0⟩,
  ⟨"TIM_PORT_TXTS_NS", 0x302018, [(8, 0x40)], .RO, false, 0x0, 0x3FFFFFFF, 0x0, 0x0, 0x0⟩,
  ⟨"TIM_PORT_TXTS_SEC_LO", 0x30201C, [(8, 0x40)], .RO, false, 0x0, 0xFFFFFFFF, 0x0, 0x0, 0x0⟩,
  ⟨"TIM_PORT_TXTS_SEC_HI", 0x302020, [(8, 0x40)], .RO, false, 0x0, 0xFFFF, 0x0, 0x0, 0x0⟩,
  ⟨"TIM_PORT_ONESTEP_ERR", 0x302024, [(8, 0x40)], .RO, false, 0x0, 0xFFFFFFFF, 0x0, 0x0, 0x0⟩]

/-- Registers of TIM. -/
def rowsTim : List RegRow := rowsTim1 ++ rowsTim2

/-- Registers of SWT. -/
def rowsSwt : List RegRow := [
  ⟨"SWT_CTL", 0x400000, [], .RW, false, 0x80, 0xFF, 0x0, 0x0, 0x0⟩,
  ⟨"SWT_TRIG", 0x400004, [], .WO, false, 0x0, 0x1, 0x0, 0x0, 0x0⟩,
  ⟨"SWT_STAT", 0x400008, [], .RO, false, 0x0, 0x8000001F, 0x0, 0x0, 0x0⟩,
  ⟨"SWT_ESN_LO", 0x400010, [], .RO, false, 0x0, 0xFFFFFFFF, 0x0, 0x0, 0x0⟩,
  ⟨"SWT_ESN_HI", 0x400014, [], .RO, false, 0x0, 0xFFFFFFFF, 0x0, 0x0, 0x0⟩,
  ⟨"SWT_TIME_LO", 0x400018, [], .RO, false, 0x0, 0xFFFFFFFF, 0x0, 0x0, 0x0⟩,
  ⟨"SWT_TIME_HI", 0x40001C, [], .RO, false, 0x0, 0xFFFFFFFF, 0x0, 0x0, 0x0⟩,
  ⟨"SWT_COUNT", 0x400020, [], .RO, false, 0x0, 0xFFFFFFFF, 0x0, 0x0, 0x0⟩,
  ⟨"SWT_TRIG_LOST", 0x400024, [], .RO, false, 0x0, 0xFFFFFFFF, 0x0, 0x0, 0x0⟩,
  ⟨"SWT_MATCH_CFG", 0x400030, [], .RW, false, 0x0, 0x80000007, 0x0, 0x0, 0x0⟩,
  ⟨"SWT_MATCH_NS", 0x400034, [], .RW, false, 0x0, 0x3FFFFFFF, 0x0, 0x0, 0x0⟩,
  ⟨"SWT_MATCH_SEC_LO", 0x400038, [], .RW, false, 0x0, 0xFFFFFFFF, 0x0, 0x0, 0x0⟩,
  ⟨"SWT_MATCH_SEC_HI", 0x40003C, [], .RW, false, 0x0, 0xFFFF, 0x0, 0x0, 0x0⟩,
  ⟨"SWT_EVT_MATCH", 0x400040, [], .RW, false, 0x0, 0xFFFFFFFF, 0x0, 0x0, 0x0⟩,
  ⟨"SWT_VIEW", 0x400080, [], .RW, false, 0x0, 0x1, 0x0, 0x0, 0x0⟩,
  ⟨"SWT_LOG_BASE_LO", 0x401000, [(16, 0x40)], .HL, false, 0x0, 0xFFFFF000, 0x0, 0x0, 0x0⟩,
  ⟨"SWT_LOG_BASE_HI", 0x401004, [(16, 0x40)], .HL, false, 0x0, 0xF, 0x0, 0x0, 0x0⟩,
  ⟨"SWT_LOG_CFG", 0x401008, [(16, 0x40)], .HL, false, 0x0, 0xE01F07FF, 0x0, 0x0, 0x0⟩,
  ⟨"SWT_LOG_COAL", 0x40100C, [(16, 0x40)], .LV, false, 0x1, 0xFFFFFFFF, 0x0, 0x0, 0x0⟩,
  ⟨"SWT_LOG_WR", 0x401010, [(16, 0x40)], .RO, false, 0x0, 0xFFFFFFFF, 0x0, 0x0, 0x0⟩,
  ⟨"SWT_LOG_RD", 0x401014, [(16, 0x40)], .RW, false, 0x0, 0xFFFFFFFF, 0x0, 0x0, 0x0⟩,
  ⟨"SWT_LOG_LOST", 0x401018, [(16, 0x40)], .RO, false, 0x0, 0xFFFFFFFF, 0x0, 0x0, 0x0⟩]

/-- Registers of HST. -/
def rowsHst : List RegRow := [
  ⟨"HST_LINK_STAT", 0x500000, [], .RO, false, 0x0, 0x1FF3F, 0x0, 0x0, 0x0⟩,
  ⟨"HST_BAR2_SIZE", 0x500004, [], .RO, false, 0x20, 0x3F, 0x0, 0x0, 0x0⟩,
  ⟨"HST_BAR2_BASE_LO", 0x500008, [], .RW, false, 0x0, 0xC0000000, 0x0, 0x0, 0x0⟩,
  ⟨"HST_BAR2_BASE_HI", 0x50000C, [], .RW, false, 0x0, 0xF, 0x0, 0x0, 0x0⟩,
  ⟨"HST_INJ_POOL", 0x500010, [], .HL, true, 0x0, 0x7, 0x0, 0x0, 0x0⟩,
  ⟨"HST_VF_DOM", 0x500044, [(15, 0x4)], .HL, true, 0x0, 0xF, 0x0, 0x0, 0x0⟩,
  ⟨"HST_VF_WIN_LO", 0x500088, [(15, 0x8)], .RW, false, 0x0, 0xF0000000, 0x0, 0x0, 0x0⟩,
  ⟨"HST_VF_WIN_HI", 0x50008C, [(15, 0x8)], .RW, false, 0x0, 0xF, 0x0, 0x0, 0x0⟩,
  ⟨"HST_DB_BAD", 0x500100, [], .RO, false, 0x0, 0xFFFFFFFF, 0x0, 0x0, 0x0⟩,
  ⟨"HST_DMA_ERR", 0x500104, [], .RO, false, 0x0, 0xFFFFFFFF, 0x0, 0x0, 0x0⟩,
  ⟨"HST_REINJ_REFUSED", 0x500108, [], .RO, false, 0x0, 0xFFFFFFFF, 0x0, 0x0, 0x0⟩,
  ⟨"HST_BAR0_UR", 0x50010C, [], .RO, false, 0x0, 0xFFFFFFFF, 0x0, 0x0, 0x0⟩,
  ⟨"HST_RING_BASE_LO", 0x501000, [(16, 0x400), (16, 0x40)], .HL, false, 0x0, 0xFFFFF000, 0x0, 0x0, 0x0⟩,
  ⟨"HST_RING_BASE_HI", 0x501004, [(16, 0x400), (16, 0x40)], .HL, false, 0x0, 0xFFFFFFFF, 0x0, 0x0, 0x0⟩,
  ⟨"HST_RING_CFG", 0x501008, [(16, 0x400), (16, 0x40)], .HL, false, 0x0, 0x801F01FF, 0x0, 0x0, 0x0⟩,
  ⟨"HST_RING_COAL", 0x50100C, [(16, 0x400), (16, 0x40)], .LV, false, 0x1, 0xFFFFFFFF, 0x0, 0x0, 0x0⟩,
  ⟨"HST_RING_DEV", 0x501010, [(16, 0x400), (16, 0x40)], .RO, false, 0x0, 0xFFFFFFFF, 0x0, 0x0, 0x0⟩,
  ⟨"HST_RING_HOST", 0x501014, [(16, 0x400), (16, 0x40)], .RO, false, 0x0, 0xFFFFFFFF, 0x0, 0x0, 0x0⟩,
  ⟨"HST_RING_STAT", 0x501018, [(16, 0x400), (16, 0x40)], .RO, false, 0x0, 0x800000FF, 0x0, 0x0, 0x0⟩,
  ⟨"HST_RING_DROPS", 0x50101C, [(16, 0x400), (16, 0x40)], .RO, false, 0x0, 0xFFFFFFFF, 0x0, 0x0, 0x0⟩,
  ⟨"HST_EXC_MAP", 0x505000, [(16, 0x4)], .LV, false, 0x0, 0xFFFFFFFF, 0x0, 0x0, 0x0⟩,
  ⟨"HST_MIR_IN", 0x506000, [(256, 0x4)], .LV, false, 0x0, 0xFFFFFFFF, 0x0, 0x0, 0x0⟩,
  ⟨"HST_MIR_OUT", 0x506400, [(256, 0x4)], .LV, false, 0x0, 0xFFFFFFFF, 0x0, 0x0, 0x0⟩]

/-- Registers of NET. -/
def rowsNet : List RegRow := [
  ⟨"NET_LANE_MODE", 0x800000, [], .HL, true, 0x0, 0x7, 0x0, 0x0, 0x0⟩,
  ⟨"NET_PORT_CFG", 0x801000, [(8, 0x100)], .HL, true, 0x5EE0000, 0x3FFF071B, 0x0, 0x0, 0x0⟩,
  ⟨"NET_PORT_CTL", 0x801004, [(8, 0x100)], .RW, false, 0x0, 0x3, 0x0, 0x0, 0x2⟩,
  ⟨"NET_PORT_STAT", 0x801008, [(8, 0x100)], .RO, false, 0x0, 0x1FF, 0x0, 0x100, 0x0⟩,
  ⟨"NET_PORT_MAC_LO", 0x80100C, [(8, 0x100)], .HL, true, 0x0, 0xFFFFFFFF, 0x0, 0x0, 0x0⟩,
  ⟨"NET_PORT_MAC_HI", 0x801010, [(8, 0x100)], .HL, true, 0x0, 0xFFFF, 0x0, 0x0, 0x0⟩,
  ⟨"NET_PFC_CFG", 0x801020, [(8, 0x100)], .SH, false, 0x0, 0xFFFF0003, 0x0, 0x0, 0x0⟩,
  ⟨"NET_PFC_POOL", 0x801024, [(8, 0x100)], .SH, false, 0x0, 0xFFFFFF, 0x0, 0x0, 0x0⟩,
  ⟨"NET_PFC_LEVEL", 0x801028, [(8, 0x100)], .SH, false, 0x0, 0xFFFF, 0x0, 0x0, 0x0⟩,
  ⟨"NET_PFC_STAT", 0x80102C, [(8, 0x100)], .RO, false, 0x0, 0xFFFF, 0x0, 0x0, 0x0⟩,
  ⟨"NET_RX_FRAMES_LO", 0x801040, [(8, 0x100)], .RO, false, 0x0, 0xFFFFFFFF, 0x0, 0x0, 0x0⟩,
  ⟨"NET_RX_FRAMES_HI", 0x801044, [(8, 0x100)], .RO, false, 0x0, 0xFFFFFFFF, 0x0, 0x0, 0x0⟩,
  ⟨"NET_RX_BYTES_LO", 0x801048, [(8, 0x100)], .RO, false, 0x0, 0xFFFFFFFF, 0x0, 0x0, 0x0⟩,
  ⟨"NET_RX_BYTES_HI", 0x80104C, [(8, 0x100)], .RO, false, 0x0, 0xFFFFFFFF, 0x0, 0x0, 0x0⟩,
  ⟨"NET_TX_FRAMES_LO", 0x801050, [(8, 0x100)], .RO, false, 0x0, 0xFFFFFFFF, 0x0, 0x0, 0x0⟩,
  ⟨"NET_TX_FRAMES_HI", 0x801054, [(8, 0x100)], .RO, false, 0x0, 0xFFFFFFFF, 0x0, 0x0, 0x0⟩,
  ⟨"NET_TX_BYTES_LO", 0x801058, [(8, 0x100)], .RO, false, 0x0, 0xFFFFFFFF, 0x0, 0x0, 0x0⟩,
  ⟨"NET_TX_BYTES_HI", 0x80105C, [(8, 0x100)], .RO, false, 0x0, 0xFFFFFFFF, 0x0, 0x0, 0x0⟩,
  ⟨"NET_RX_FCS_ERR", 0x801060, [(8, 0x100)], .RO, false, 0x0, 0xFFFFFFFF, 0x0, 0x0, 0x0⟩,
  ⟨"NET_RX_RUNT", 0x801064, [(8, 0x100)], .RO, false, 0x0, 0xFFFFFFFF, 0x0, 0x0, 0x0⟩,
  ⟨"NET_RX_OVERSIZE", 0x801068, [(8, 0x100)], .RO, false, 0x0, 0xFFFFFFFF, 0x0, 0x0, 0x0⟩,
  ⟨"NET_RX_MAC_MISS", 0x80106C, [(8, 0x100)], .RO, false, 0x0, 0xFFFFFFFF, 0x0, 0x0, 0x0⟩,
  ⟨"NET_FEC_CORR", 0x801070, [(8, 0x100)], .RO, false, 0x0, 0xFFFFFFFF, 0x0, 0x0, 0x0⟩,
  ⟨"NET_FEC_UNCORR", 0x801074, [(8, 0x100)], .RO, false, 0x0, 0xFFFFFFFF, 0x0, 0x0, 0x0⟩,
  ⟨"NET_RX_PAUSE", 0x801078, [(8, 0x100)], .RO, false, 0x0, 0xFFFFFFFF, 0x0, 0x0, 0x0⟩,
  ⟨"NET_TX_PAUSE", 0x80107C, [(8, 0x100)], .RO, false, 0x0, 0xFFFFFFFF, 0x0, 0x0, 0x0⟩,
  ⟨"NET_LOCK_LOSS", 0x801080, [(8, 0x100)], .RO, false, 0x0, 0xFFFFFFFF, 0x0, 0x0, 0x0⟩]

/-- Registers of CLS. -/
def rowsCls : List RegRow := [
  ⟨"CLS_HASH_KEY", 0xA00000, [(4, 0x4)], .WO, false, 0x0, 0xFFFFFFFF, 0x0, 0x0, 0x0⟩,
  ⟨"CLS_PARSE_CFG", 0xA00010, [], .SH, false, 0x18100, 0x1FFFF, 0x0, 0x0, 0x0⟩,
  ⟨"CLS_OCC", 0xA00020, [], .RO, false, 0x0, 0x3FFFFF, 0x0, 0x0, 0x0⟩,
  ⟨"CLS_CAM_OCC", 0xA00024, [], .RO, false, 0x0, 0x1FFF, 0x0, 0x0, 0x0⟩,
  ⟨"CLS_NO_CONSUMER", 0xA00028, [], .RO, false, 0x0, 0xFFFFFFFF, 0x0, 0x0, 0x0⟩,
  ⟨"CLS_EXC_POL", 0xA00040, [(16, 0x4)], .SH, false, 0x0, 0xFFFF, 0x0, 0x0, 0x0⟩,
  ⟨"CLS_EXC_CNT", 0xA00080, [(14, 0x4)], .RO, false, 0x0, 0xFFFFFFFF, 0x0, 0x0, 0x0⟩,
  ⟨"CLS_CMD_REC", 0xA01000, [(16, 0x40), (8, 0x4)], .RW, false, 0x0, 0xFFFFFFFF, 0x0, 0x0, 0x0⟩,
  ⟨"CLS_CMD", 0xA01020, [(16, 0x40)], .WO, false, 0x0, 0x7, 0x0, 0x0, 0x0⟩,
  ⟨"CLS_CMD_STAT", 0xA01024, [(16, 0x40)], .RO, false, 0x0, 0x871FFFFF, 0x0, 0x0, 0x0⟩,
  ⟨"CLS_LOCAL_ADDR", 0xA04000, [(256, 0x20), (4, 0x4)], .SH, false, 0x0, 0xFFFFFFFF, 0x0, 0x0, 0x0⟩,
  ⟨"CLS_LOCAL_CTL", 0xA04010, [(256, 0x20)], .SH, false, 0x0, 0x8000000F, 0x0, 0x0, 0x0⟩,
  ⟨"CLS_EXT_PROFILE_A", 0xA06000, [(256, 0x8)], .SH, false, 0x0, 0xFFFFFF, 0x0, 0x0, 0x0⟩,
  ⟨"CLS_EXT_PROFILE_B", 0xA06004, [(256, 0x8)], .SH, false, 0x0, 0xFFFF, 0x0, 0x0, 0x0⟩]

/-- Registers of CIP. -/
def rowsCip : List RegRow := [
  ⟨"CIP_PAGE_DOM", 0xC00000, [(64, 0x4)], .HL, true, 0x0, 0xF, 0x0, 0x0, 0x0⟩,
  ⟨"CIP_AUTH_FAIL_LO", 0xC00200, [], .RO, false, 0x0, 0xFFFFFFFF, 0x0, 0x0, 0x0⟩,
  ⟨"CIP_AUTH_FAIL_HI", 0xC00204, [], .RO, false, 0x0, 0xFFFFFFFF, 0x0, 0x0, 0x0⟩,
  ⟨"CIP_REPLAY_LO", 0xC00208, [], .RO, false, 0x0, 0xFFFFFFFF, 0x0, 0x0, 0x0⟩,
  ⟨"CIP_REPLAY_HI", 0xC0020C, [], .RO, false, 0x0, 0xFFFFFFFF, 0x0, 0x0, 0x0⟩,
  ⟨"CIP_STITCH", 0xC00220, [(8, 0x4)], .RO, false, 0x0, 0xFFFFFFFF, 0x0, 0x0, 0x0⟩,
  ⟨"CIP_LATE_STITCH", 0xC00240, [(8, 0x4)], .RO, false, 0x0, 0xFFFFFFFF, 0x0, 0x0, 0x0⟩,
  ⟨"CIP_NO_KEY", 0xC00260, [], .RO, false, 0x0, 0xFFFFFFFF, 0x0, 0x0, 0x0⟩,
  ⟨"CIP_SHORT", 0xC00264, [], .RO, false, 0x0, 0xFFFFFFFF, 0x0, 0x0, 0x0⟩,
  ⟨"CIP_TOO_LONG", 0xC00268, [], .RO, false, 0x0, 0xFFFFFFFF, 0x0, 0x0, 0x0⟩,
  ⟨"CIP_QUAR_DROP", 0xC0026C, [], .RO, false, 0x0, 0xFFFFFFFF, 0x0, 0x0, 0x0⟩,
  ⟨"CIP_EXH_DROP", 0xC00270, [], .RO, false, 0x0, 0xFFFFFFFF, 0x0, 0x0, 0x0⟩,
  ⟨"CIP_KEY_MISMATCH", 0xC00274, [], .RO, false, 0x0, 0xFFFFFFFF, 0x0, 0x0, 0x0⟩,
  ⟨"CIP_KEY_STAGE", 0xC01000, [(16, 0x80), (12, 0x4)], .WO, false, 0x0, 0xFFFFFFFF, 0x0, 0x0, 0x0⟩,
  ⟨"CIP_KEY_CFG", 0xC01030, [(16, 0x80)], .RW, false, 0x0, 0x1FFF0107, 0x0, 0x0, 0x0⟩,
  ⟨"CIP_KEY_CMD", 0xC01034, [(16, 0x80)], .WO, false, 0x0, 0xF07F7FFF, 0x0, 0x0, 0x0⟩,
  ⟨"CIP_KEY_STAT", 0xC01038, [(16, 0x80)], .RO, false, 0x0, 0x8000000F, 0x0, 0x0, 0x0⟩,
  ⟨"CIP_SLOT_INFO", 0xC0103C, [(16, 0x80)], .RO, false, 0x0, 0xFFFF0107, 0x0, 0x0, 0x0⟩,
  ⟨"CIP_SLOT_FAIL_RUN", 0xC01040, [(16, 0x80)], .RO, false, 0x0, 0xFFFF, 0x0, 0x0, 0x0⟩,
  ⟨"CIP_SLOT_FAIL_TOTAL", 0xC01044, [(16, 0x80)], .RO, false, 0x0, 0xFFFFFFFF, 0x0, 0x0, 0x0⟩,
  ⟨"CIP_SLOT_SERIAL", 0xC01048, [(16, 0x80)], .RO, false, 0x0, 0xFFFFFFFF, 0x0, 0x0, 0x0⟩,
  ⟨"CIP_IDX_REC", 0xC01050, [(16, 0x80), (8, 0x4)], .RW, false, 0x0, 0xFFFFFFFF, 0x0, 0x0, 0x0⟩,
  ⟨"CIP_QUAR_RUN", 0xC01070, [(16, 0x80)], .LV, false, 0x40, 0xFFFF, 0x0, 0x0, 0x0⟩]

/-- Registers of BPM. -/
def rowsBpm : List RegRow := [
  ⟨"BPM_POOL_BASE_LO", 0xE01000, [(8, 0x100)], .HL, true, 0x0, 0xFFFFF800, 0x0, 0x0, 0x0⟩,
  ⟨"BPM_POOL_BASE_HI", 0xE01004, [(8, 0x100)], .HL, true, 0x0, 0xF, 0x0, 0x0, 0x0⟩,
  ⟨"BPM_POOL_CFG", 0xE0100C, [(8, 0x100)], .HL, true, 0x0, 0xFF, 0x0, 0x0, 0x0⟩,
  ⟨"BPM_WARN", 0xE01010, [(8, 0x100)], .SH, false, 0x0, 0x7FFFFF, 0x0, 0x0, 0x0⟩,
  ⟨"BPM_THROTTLE", 0xE01014, [(8, 0x100)], .SH, false, 0x0, 0x7FFFFF, 0x0, 0x0, 0x0⟩,
  ⟨"BPM_STOP", 0xE01018, [(8, 0x100)], .SH, false, 0x0, 0x7FFFFF, 0x0, 0x0, 0x0⟩,
  ⟨"BPM_HYST", 0xE0101C, [(8, 0x100)], .SH, false, 0x0, 0x7FFFFF, 0x0, 0x0, 0x0⟩,
  ⟨"BPM_FLOOR", 0xE01020, [(8, 0x100), (4, 0x4)], .SH, false, 0x0, 0x7FFFFF, 0x0, 0x0, 0x0⟩,
  ⟨"BPM_FREE", 0xE01040, [(8, 0x100)], .RO, false, 0x0, 0x7FFFFF, 0x0, 0x0, 0x0⟩,
  ⟨"BPM_MIN_FREE", 0xE01044, [(8, 0x100)], .RO, false, 0x0, 0x7FFFFF, 0x0, 0x0, 0x0⟩,
  ⟨"BPM_NONE_CNT", 0xE01048, [(8, 0x100)], .RO, false, 0x0, 0xFFFFFFFF, 0x0, 0x0, 0x0⟩,
  ⟨"BPM_LEVEL", 0xE0104C, [(8, 0x100)], .RO, false, 0x0, 0x3, 0x0, 0x0, 0x0⟩,
  ⟨"BPM_CMD_ID", 0xE03000, [(16, 0x80)], .RW, false, 0x0, 0x1FFFFFF, 0x0, 0x0, 0x0⟩,
  ⟨"BPM_CMD_MASK_LO", 0xE03004, [(16, 0x80)], .RW, false, 0x0, 0xFFFFFFFF, 0x0, 0x0, 0x0⟩,
  ⟨"BPM_CMD_MASK_HI", 0xE03008, [(16, 0x80)], .RW, false, 0x0, 0xFFFFFFFF, 0x0, 0x0, 0x0⟩,
  ⟨"BPM_CMD", 0xE0300C, [(16, 0x80)], .WO, false, 0x0, 0xFFFF0000, 0x0, 0x0, 0x0⟩,
  ⟨"BPM_CMD_STAT", 0xE03010, [(16, 0x80)], .RO, false, 0x0, 0x8000000F, 0x0, 0x0, 0x0⟩,
  ⟨"BPM_DESC", 0xE03040, [(16, 0x80), (16, 0x4)], .RO, false, 0x0, 0xFFFFFFFF, 0x0, 0x0, 0x0⟩,
  ⟨"BPM_QUOTA", 0xE02000, [(16, 0x40), (8, 0x4)], .SH, false, 0x7FFFFF, 0x7FFFFF, 0x0, 0x0, 0x0⟩,
  ⟨"BPM_HELD", 0xE02020, [(16, 0x40), (8, 0x4)], .RO, false, 0x0, 0x7FFFFF, 0x0, 0x0, 0x0⟩,
  ⟨"BPM_POOL_COUNT_BP0", 0xE01008, [], .RO, false, 0x6000, 0x7FFFFF, 0x0, 0x0, 0x0⟩,
  ⟨"BPM_POOL_COUNT", 0xE01008, [(8, 0x100)], .HL, true, 0x0, 0x7FFFFF, 0x0, 0x0, 0x0⟩,
  ⟨"BPM_AGENT_CLASS0", 0xE00000, [], .HL, true, 0x55000000, 0xFFFFFFFF, 0x0, 0x0, 0x0⟩,
  ⟨"BPM_AGENT_CLASS1", 0xE00004, [], .HL, true, 0x25555, 0xFFFFFFFF, 0x0, 0x0, 0x0⟩,
  ⟨"BPM_AGENT_CLASS2", 0xE00008, [], .HL, true, 0xFFF55555, 0xFFFFFFFF, 0x0, 0x0, 0x0⟩,
  ⟨"BPM_AGENT_CLASS3", 0xE0000C, [], .HL, true, 0xD, 0xFFFFFFFF, 0x0, 0x0, 0x0⟩]

/-- Registers of ING. -/
def rowsIng : List RegRow := [
  ⟨"ING_DOM_POL", 0xF00100, [(16, 0x4)], .HL, true, 0x0, 0x1FF00FF, 0x0, 0x0, 0x0⟩,
  ⟨"ING_TIGHTEN", 0xF00300, [], .SH, false, 0x0, 0xFF07, 0x0, 0x0, 0x0⟩,
  ⟨"ING_STAT", 0xF00304, [], .RO, false, 0x0, 0x1, 0x0, 0x0, 0x0⟩,
  ⟨"ING_GREEN_LO", 0xF00310, [], .RO, false, 0x0, 0xFFFFFFFF, 0x0, 0x0, 0x0⟩,
  ⟨"ING_GREEN_HI", 0xF00314, [], .RO, false, 0x0, 0xFFFFFFFF, 0x0, 0x0, 0x0⟩,
  ⟨"ING_YELLOW_LO", 0xF00318, [], .RO, false, 0x0, 0xFFFFFFFF, 0x0, 0x0, 0x0⟩,
  ⟨"ING_YELLOW_HI", 0xF0031C, [], .RO, false, 0x0, 0xFFFFFFFF, 0x0, 0x0, 0x0⟩,
  ⟨"ING_RED_LO", 0xF00320, [], .RO, false, 0x0, 0xFFFFFFFF, 0x0, 0x0, 0x0⟩,
  ⟨"ING_RED_HI", 0xF00324, [], .RO, false, 0x0, 0xFFFFFFFF, 0x0, 0x0, 0x0⟩,
  ⟨"ING_DROP_LO", 0xF00328, [], .RO, false, 0x0, 0xFFFFFFFF, 0x0, 0x0, 0x0⟩,
  ⟨"ING_DROP_HI", 0xF0032C, [], .RO, false, 0x0, 0xFFFFFFFF, 0x0, 0x0, 0x0⟩,
  ⟨"ING_POL_REC", 0xF01000, [(16, 0x40), (8, 0x4)], .RW, false, 0x0, 0xFFFFFFFF, 0x0, 0x0, 0x0⟩,
  ⟨"ING_POL_CMD", 0xF01020, [(16, 0x40)], .WO, false, 0x0, 0xC000FFFF, 0x0, 0x0, 0x0⟩,
  ⟨"ING_POL_STAT", 0xF01024, [(16, 0x40)], .RO, false, 0x0, 0x80000003, 0x0, 0x0, 0x0⟩,
  ⟨"ING_DSCP_MAP", 0xF00200, [(8, 0x20), (4, 0x4)], .SH, false, 0x0, 0xFFFFFFFF, 0x0, 0x0, 0x0⟩,
  ⟨"ING_PCP_MAP", 0xF00210, [(8, 0x20)], .SH, false, 0x0, 0xFFFF, 0x0, 0x0, 0x0⟩]

/-- Registers of EGS, part 1. -/
def rowsEgs1 : List RegRow := [
  ⟨"EGS_PORT_CFG", 0x1000000, [(8, 0x100)], .SH, false, 0xC80007, 0xFFF0007, 0x0, 0x0, 0x0⟩,
  ⟨"EGS_PORT_STAT", 0x1000004, [(8, 0x100)], .RO, false, 0x0, 0x1FFFFFF, 0x0, 0x0, 0x0⟩,
  ⟨"EGS_GATE_ADMIN_CFG", 0x1000010, [(8, 0x100)], .RW, false, 0x0, 0x800001FF, 0x0, 0x0, 0x0⟩,
  ⟨"EGS_GATE_ADMIN_CYCLE", 0x1000014, [(8, 0x100)], .RW, false, 0x0, 0x3FFFFFFF, 0x0, 0x0, 0x0⟩,
  ⟨"EGS_GATE_OPER_CYCLE", 0x100002C, [(8, 0x100)], .RO, false, 0x0, 0x3FFFFFFF, 0x0, 0x0, 0x0⟩,
  ⟨"EGS_GATE_CTL", 0x1000024, [(8, 0x100)], .WO, false, 0x0, 0x1, 0x0, 0x0, 0x0⟩,
  ⟨"EGS_GATE_STAT", 0x1000028, [(8, 0x100)], .RO, false, 0x0, 0xC1FF00FF, 0x0, 0x0, 0x0⟩,
  ⟨"EGS_TAIL_DROP", 0x1000040, [(8, 0x100)], .RO, false, 0x0, 0xFFFFFFFF, 0x0, 0x0, 0x0⟩,
  ⟨"EGS_OVERSIZE", 0x1000044, [(8, 0x100)], .RO, false, 0x0, 0xFFFFFFFF, 0x0, 0x0, 0x0⟩,
  ⟨"EGS_FLUSHED", 0x1000048, [(8, 0x100)], .RO, false, 0x0, 0xFFFFFFFF, 0x0, 0x0, 0x0⟩,
  ⟨"EGS_GATE_DROP", 0x100004C, [(8, 0x100)], .RO, false, 0x0, 0xFFFFFFFF, 0x0, 0x0, 0x0⟩,
  ⟨"EGS_GATE_WAITS", 0x1000050, [(8, 0x100)], .RO, false, 0x0, 0xFFFFFFFF, 0x0, 0x0, 0x0⟩,
  ⟨"EGS_Q_STAT", 0x1200000, [(16384, 0x4)], .RO, false, 0x0, 0xFFFFFFFF, 0x0, 0x0, 0x0⟩,
  ⟨"EGS_PC_CFG", 0x1020000, [(64, 0x40)], .SH, false, 0x140000, 0x80FF0000, 0x0, 0x0, 0x0⟩,
  ⟨"EGS_LG_CFG", 0x1030000, [(1024, 0x40)], .SH, false, 0x140000, 0x80FFFF00, 0x0, 0x0, 0x0⟩,
  ⟨"EGS_LEG_CFG", 0x1100000, [(8192, 0x40)], .SH, false, 0x140000, 0x80FFFF00, 0x0, 0x0, 0x0⟩,
  ⟨"EGS_PC_RATE", 0x1020004, [(64, 0x40)], .LV, false, 0x0, 0xFFFFFFFF, 0x0, 0x0, 0x0⟩,
  ⟨"EGS_LG_RATE", 0x1030004, [(1024, 0x40)], .LV, false, 0x0, 0xFFFFFFFF, 0x0, 0x0, 0x0⟩,
  ⟨"EGS_LEG_RATE", 0x1100004, [(8192, 0x40)], .LV, false, 0x0, 0xFFFFFFFF, 0x0, 0x0, 0x0⟩,
  ⟨"EGS_PC_HI", 0x1020008, [(64, 0x40)], .SH, false, 0x0, 0xFFFFFF, 0x0, 0x0, 0x0⟩,
  ⟨"EGS_LG_HI", 0x1030008, [(1024, 0x40)], .SH, false, 0x0, 0xFFFFFF, 0x0, 0x0, 0x0⟩,
  ⟨"EGS_LEG_HI", 0x1100008, [(8192, 0x40)], .SH, false, 0x0, 0xFFFFFF, 0x0, 0x0, 0x0⟩,
  ⟨"EGS_PC_CREDIT_LO", 0x102000C, [(64, 0x40)], .RO, false, 0x0, 0xFFFFFFFF, 0x0, 0x0, 0x0⟩,
  ⟨"EGS_LG_CREDIT_LO", 0x103000C, [(1024, 0x40)], .RO, false, 0x0, 0xFFFFFFFF, 0x0, 0x0, 0x0⟩,
  ⟨"EGS_LEG_CREDIT_LO", 0x110000C, [(8192, 0x40)], .RO, false, 0x0, 0xFFFFFFFF, 0x0, 0x0, 0x0⟩,
  ⟨"EGS_PC_CREDIT_HI", 0x1020010, [(64, 0x40)], .RO, false, 0x0, 0xFFFF, 0x0, 0x0, 0x0⟩,
  ⟨"EGS_LG_CREDIT_HI", 0x1030010, [(1024, 0x40)], .RO, false, 0x0, 0xFFFF, 0x0, 0x0, 0x0⟩,
  ⟨"EGS_LEG_CREDIT_HI", 0x1100010, [(8192, 0x40)], .RO, false, 0x0, 0xFFFF, 0x0, 0x0, 0x0⟩,
  ⟨"EGS_PC_MAP", 0x1020014, [(64, 0x40)], .HL, true, 0x0, 0x0, 0x0, 0x0, 0x0⟩,
  ⟨"EGS_LG_MAP", 0x1030014, [(1024, 0x40)], .HL, true, 0x0, 0xF000003F, 0x0, 0x0, 0x0⟩]

/-- Registers of EGS, part 2. -/
def rowsEgs2 : List RegRow := [
  ⟨"EGS_LEG_MAP", 0x1100014, [(8192, 0x40)], .HL, true, 0x0, 0x3FF, 0x0, 0x0, 0x0⟩,
  ⟨"EGS_PC_DEF", 0x1020020, [(64, 0x40)], .RO, false, 0x0, 0x0, 0x0, 0x0, 0x0⟩,
  ⟨"EGS_LG_DEF", 0x1030020, [(1024, 0x40)], .RO, false, 0x0, 0x1FFFFFF, 0x0, 0x0, 0x0⟩,
  ⟨"EGS_LEG_DEF", 0x1100020, [(8192, 0x40)], .RO, false, 0x0, 0x1FFFFFF, 0x0, 0x0, 0x0⟩,
  ⟨"EGS_LEG_LEAF", 0x1100018, [(8192, 0x40)], .SH, false, 0x0, 0xFFFF, 0x0, 0x0, 0x0⟩,
  ⟨"EGS_LEG_LIMIT", 0x110001C, [(8192, 0x40)], .SH, false, 0x0, 0xFFFFFFFF, 0x0, 0x0, 0x0⟩,
  ⟨"EGS_GATE_ADMIN_BASE_NS", 0x1000018, [(8, 0x100)], .RW, false, 0x0, 0x3FFFFFFF, 0x0, 0x0, 0x0⟩,
  ⟨"EGS_GATE_OPER_BASE_NS", 0x1000030, [(8, 0x100)], .RO, false, 0x0, 0x3FFFFFFF, 0x0, 0x0, 0x0⟩,
  ⟨"EGS_GATE_ADMIN_BASE_SEC_LO", 0x100001C, [(8, 0x100)], .RW, false, 0x0, 0xFFFFFFFF, 0x0, 0x0, 0x0⟩,
  ⟨"EGS_GATE_OPER_BASE_SEC_LO", 0x1000034, [(8, 0x100)], .RO, false, 0x0, 0xFFFFFFFF, 0x0, 0x0, 0x0⟩,
  ⟨"EGS_GATE_ADMIN_BASE_SEC_HI", 0x1000020, [(8, 0x100)], .RW, false, 0x0, 0xFFFF, 0x0, 0x0, 0x0⟩,
  ⟨"EGS_GATE_OPER_BASE_SEC_HI", 0x1000038, [(8, 0x100)], .RO, false, 0x0, 0xFFFF, 0x0, 0x0, 0x0⟩,
  ⟨"EGS_GCL_ADMIN_T", 0x1010000, [(8, 0x800), (256, 0x8)], .RW, false, 0x0, 0x3FFFFFFF, 0x0, 0x0, 0x0⟩,
  ⟨"EGS_GCL_OPER_T", 0x1014000, [(8, 0x800), (256, 0x8)], .RO, false, 0x0, 0x3FFFFFFF, 0x0, 0x0, 0x0⟩,
  ⟨"EGS_GCL_ADMIN_G", 0x1010004, [(8, 0x800), (256, 0x8)], .RW, false, 0x0, 0xFF, 0x0, 0x0, 0x0⟩,
  ⟨"EGS_GCL_OPER_G", 0x1014004, [(8, 0x800), (256, 0x8)], .RO, false, 0x0, 0xFF, 0x0, 0x0, 0x0⟩]

/-- Registers of EGS. -/
def rowsEgs : List RegRow := rowsEgs1 ++ rowsEgs2

/-- Registers of HOK. -/
def rowsHok : List RegRow := [
  ⟨"HOK_STAT", 0x1400000, [], .RO, false, 0x0, 0x8001FFFF, 0x0, 0x0, 0x0⟩,
  ⟨"HOK_AFF_WIN0", 0x1400010, [], .SH, false, 0x10101010, 0xFFFFFFFF, 0x0, 0x0, 0x0⟩,
  ⟨"HOK_AFF_WIN1", 0x1400014, [], .SH, false, 0x10101010, 0xFFFFFFFF, 0x0, 0x0, 0x0⟩,
  ⟨"HOK_OVR_RUN", 0x1400020, [], .RO, false, 0x0, 0xFFFFFFFF, 0x0, 0x0, 0x0⟩,
  ⟨"HOK_OVR_DISCARD", 0x1400024, [], .RO, false, 0x0, 0xFFFFFFFF, 0x0, 0x0, 0x0⟩,
  ⟨"HOK_OVR_LATE", 0x1400028, [], .RO, false, 0x0, 0xFFFFFFFF, 0x0, 0x0, 0x0⟩,
  ⟨"HOK_SUB_REFUSED", 0x140002C, [], .RO, false, 0x0, 0xFFFFFFFF, 0x0, 0x0, 0x0⟩,
  ⟨"HOK_YIELD_CNT", 0x1400030, [], .RO, false, 0x0, 0xFFFFFFFF, 0x0, 0x0, 0x0⟩,
  ⟨"HOK_CQ_LOST", 0x1400034, [], .RO, false, 0x0, 0xFFFFFFFF, 0x0, 0x0, 0x0⟩,
  ⟨"HOK_DOM_QUOTA", 0x1400100, [(16, 0x4)], .SH, false, 0x10000, 0x1FFFF, 0x0, 0x0, 0x0⟩,
  ⟨"HOK_DOM_OUT", 0x1400140, [(16, 0x4)], .RO, false, 0x0, 0x1FFFF, 0x0, 0x0, 0x0⟩,
  ⟨"HOK_CORE_STAT", 0x1400400, [(96, 0x4)], .RO, false, 0x0, 0xFFF0033, 0x0, 0x0, 0x0⟩,
  ⟨"HOK_GRP_DOM", 0x1401000, [(512, 0x4)], .HL, true, 0x0, 0xFFFFFFFF, 0x0, 0x0, 0x0⟩,
  ⟨"HOK_GRP", 0x1402000, [(4096, 0x4)], .SH, false, 0x0, 0x873F00FF, 0x0, 0x0, 0x0⟩,
  ⟨"HOK_GRP_DEPTH", 0x1406000, [(4096, 0x4)], .RO, false, 0x0, 0x1FFFF, 0x0, 0x0, 0x0⟩,
  ⟨"HOK_STAMP", 0x1410000, [(32768, 0x4)], .RO, false, 0x0, 0xFFFFFFFF, 0x0, 0x0, 0x0⟩,
  ⟨"HOK_SUB", 0x140C000, [(16, 0x80), (16, 0x4)], .WO, false, 0x0, 0xFFFFFFFF, 0x0, 0x0, 0x0⟩,
  ⟨"HOK_SUB_CMD", 0x140C040, [(16, 0x80)], .WO, false, 0x0, 0x1, 0x0, 0x0, 0x0⟩,
  ⟨"HOK_SUB_STAT", 0x140C044, [(16, 0x80)], .RO, false, 0x0, 0x80000007, 0x0, 0x0, 0x0⟩,
  ⟨"HOK_CQ", 0x140C050, [(16, 0x80), (4, 0x4)], .RO, false, 0x0, 0xFFFFFFFF, 0x0, 0x0, 0x0⟩,
  ⟨"HOK_CQ_POP", 0x140C060, [(16, 0x80)], .WO, false, 0x0, 0x1, 0x0, 0x0, 0x0⟩,
  ⟨"HOK_CQ_STAT", 0x140C064, [(16, 0x80)], .RO, false, 0x0, 0x800007FF, 0x0, 0x80000000, 0x0⟩]

/-- Registers of DSP. -/
def rowsDsp : List RegRow := [
  ⟨"DSP_SK_CFG", 0x1800000, [(6, 0x100000)], .HL, true, 0x0, 0xF, 0x0, 0x0, 0x0⟩,
  ⟨"DSP_SHM_RGN_ADDR", 0x1800100, [(6, 0x100000), (16, 0x8)], .SH, false, 0x0, 0x3FF01FF, 0x0, 0x0, 0x0⟩,
  ⟨"DSP_SHM_RGN_GRP", 0x1800104, [(6, 0x100000), (16, 0x8)], .SH, false, 0x0, 0xFFF0FFF, 0x0, 0x0, 0x0⟩,
  ⟨"DSP_CORE_CTL", 0x1801000, [(6, 0x100000), (16, 0x100)], .WO, false, 0x0, 0xF, 0x0, 0x0, 0x0⟩,
  ⟨"DSP_CORE_STAT", 0x1801004, [(6, 0x100000), (16, 0x100)], .RO, false, 0x20000, 0x703FFFF, 0x0, 0x0, 0x0⟩,
  ⟨"DSP_CORE_BP", 0x1801010, [(6, 0x100000), (16, 0x100), (4, 0x4)], .RW, false, 0x0, 0x8000FFFF, 0x0, 0x0, 0x0⟩,
  ⟨"DSP_CORE_REGSEL", 0x1801020, [(6, 0x100000), (16, 0x100)], .RW, false, 0x0, 0x7F, 0x0, 0x0, 0x0⟩,
  ⟨"DSP_CORE_REGDATA", 0x1801024, [(6, 0x100000), (16, 0x100)], .HL, false, 0x0, 0xFFFFFFFF, 0x0, 0x0, 0x0⟩,
  ⟨"DSP_CORE_MEM_ADDR", 0x1801040, [(6, 0x100000), (16, 0x100)], .RW, false, 0x0, 0xC000FFFC, 0x0, 0x0, 0x0⟩,
  ⟨"DSP_CORE_MEM_DATA", 0x1801044, [(6, 0x100000), (16, 0x100)], .HL, false, 0x0, 0xFFFFFFFF, 0x0, 0x0, 0x0⟩,
  ⟨"DSP_CORE_TASKS", 0x1801050, [(6, 0x100000), (16, 0x100)], .RO, false, 0x0, 0xFFFFFFFF, 0x0, 0x0, 0x0⟩,
  ⟨"DSP_CORE_BUSY_LO", 0x1801054, [(6, 0x100000), (16, 0x100)], .RO, false, 0x0, 0xFFFFFFFF, 0x0, 0x0, 0x0⟩,
  ⟨"DSP_CORE_BUSY_HI", 0x1801058, [(6, 0x100000), (16, 0x100)], .RO, false, 0x0, 0xFFFFFFFF, 0x0, 0x0, 0x0⟩]

/-- Registers of CAB, part 1. -/
def rowsCab1 : List RegRow := [
  ⟨"CAB_CFG", 0x2000000, [], .SH, false, 0x1E04906, 0x3FFFFFF, 0x0, 0x0, 0x0⟩,
  ⟨"CAB_CFG2", 0x2000004, [], .SH, false, 0x7D00004, 0xFFFFFFF, 0x0, 0x0, 0x0⟩,
  ⟨"CAB_METER_ADDR_LO", 0x2000008, [], .SH, false, 0x0, 0xFFFFFFC0, 0x0, 0x0, 0x0⟩,
  ⟨"CAB_METER_ADDR_HI", 0x200000C, [], .SH, false, 0x0, 0xF, 0x0, 0x0, 0x0⟩,
  ⟨"CAB_STAT", 0x2000010, [], .RO, false, 0x0, 0x30001, 0x0, 0x1, 0x0⟩,
  ⟨"CAB_ROW_LOAD", 0x2000014, [], .RO, false, 0x0, 0xFFFFFFFF, 0x0, 0x0, 0x0⟩,
  ⟨"CAB_PEAK_LOAD", 0x2000018, [], .RO, false, 0x0, 0xFFFFFFFF, 0x0, 0x0, 0x0⟩,
  ⟨"CAB_OVR_ROWS", 0x2000020, [], .RO, false, 0x0, 0xFFFFFFFF, 0x0, 0x0, 0x0⟩,
  ⟨"CAB_IN_MISSING", 0x2000024, [], .RO, false, 0x0, 0xFFFFFFFF, 0x0, 0x0, 0x0⟩,
  ⟨"CAB_SAT_TOTAL", 0x2000028, [], .RO, false, 0x0, 0xFFFFFFFF, 0x0, 0x0, 0x0⟩,
  ⟨"CAB_CLIP", 0x200002C, [], .RO, false, 0x0, 0xFFFFFFFF, 0x0, 0x0, 0x0⟩,
  ⟨"CAB_FORCED_RAMP", 0x2000030, [], .RO, false, 0x0, 0xFFFFFFFF, 0x0, 0x0, 0x0⟩,
  ⟨"CAB_FADE_CUT", 0x2000034, [], .RO, false, 0x0, 0xFFFFFFFF, 0x0, 0x0, 0x0⟩,
  ⟨"CAB_LIST_BAD_CNT", 0x2000038, [], .RO, false, 0x0, 0xFFFFFFFF, 0x0, 0x0, 0x0⟩,
  ⟨"CAB_XP_PAGE", 0x2000040, [(17, 0x4)], .RW, false, 0x0, 0x7, 0x0, 0x0, 0x0⟩,
  ⟨"CAB_DOM_XP", 0x20000C0, [(16, 0x4)], .HL, true, 0x0, 0x3FF01FF, 0x0, 0x0, 0x0⟩,
  ⟨"CAB_BUS_CFG", 0x2000100, [(2048, 0x8)], .SH, false, 0x0, 0xC007FFFF, 0x0, 0x0, 0x0⟩,
  ⟨"CAB_BUS_LEN", 0x2000104, [(2048, 0x8)], .SH, false, 0x0, 0xFFFFF, 0x0, 0x0, 0x0⟩,
  ⟨"CAB_BUS_DOM", 0x2004400, [(256, 0x4)], .HL, true, 0x0, 0xFFFFFFFF, 0x0, 0x0, 0x0⟩,
  ⟨"CAB_BUS_SAT", 0x2004800, [(64, 0x4)], .RO, false, 0x0, 0xFFFFFFFF, 0x0, 0xFFFFFFFF, 0x0⟩,
  ⟨"CAB_BUS_SATCNT", 0x2005000, [(2048, 0x4)], .RO, false, 0x0, 0xFFFFFFFF, 0x0, 0x0, 0x0⟩,
  ⟨"CAB_RANK_CFG", 0x2008000, [(1024, 0x8)], .SH, false, 0x0, 0xC01F07FF, 0x0, 0x0, 0x0⟩,
  ⟨"CAB_RANK_PARAM", 0x2008004, [(1024, 0x8)], .SH, false, 0x0, 0x3FFFFFFF, 0x0, 0x0, 0x0⟩,
  ⟨"CAB_FOUT_A", 0x200C000, [(1024, 0x8)], .SH, false, 0x0, 0x800007FF, 0x0, 0x0, 0x0⟩,
  ⟨"CAB_FOUT_B", 0x200C004, [(1024, 0x8)], .SH, false, 0x0, 0x7FFFFF, 0x0, 0x0, 0x0⟩,
  ⟨"CAB_LEG_IN_A", 0x2020000, [(8192, 0x8)], .SH, false, 0x0, 0x80071FFF, 0x0, 0x0, 0x0⟩,
  ⟨"CAB_LEG_IN_B", 0x2020004, [(8192, 0x8)], .SH, false, 0x0, 0x7FFF, 0x0, 0x0, 0x0⟩,
  ⟨"CAB_STAGE_A", 0x2040000, [(8192, 0x10)], .SH, false, 0x0, 0xC00007FF, 0x0, 0x0, 0x0⟩,
  ⟨"CAB_STAGE_B", 0x2040004, [(8192, 0x10)], .SH, false, 0x0, 0x3FFF, 0x0, 0x0, 0x0⟩,
  ⟨"CAB_STAGE_C", 0x2040008, [(8192, 0x10)], .SH, false, 0x0, 0x7FFFFF, 0x0, 0x0, 0x0⟩]

/-- Registers of CAB, part 2. -/
def rowsCab2 : List RegRow := [
  ⟨"CAB_STAGE_D", 0x204000C, [(8192, 0x10)], .SH, false, 0x0, 0x1FFFFFF, 0x0, 0x0, 0x0⟩,
  ⟨"CAB_RANK_LIST", 0x2010000, [(1024, 0x20), (8, 0x4)], .RO, false, 0x0, 0xBFFFBFFF, 0x0, 0x0, 0x0⟩]

/-- Registers of CAB. -/
def rowsCab : List RegRow := rowsCab1 ++ rowsCab2

/-- Registers of JBF. -/
def rowsJbf : List RegRow := [
  ⟨"JBF_TX_POOL", 0x2200000, [], .HL, true, 0x0, 0x7, 0x0, 0x0, 0x0⟩,
  ⟨"JBF_REDO_MARGIN", 0x2200004, [], .SH, false, 0x64, 0x1FF, 0x0, 0x0, 0x0⟩,
  ⟨"JBF_ENC_DOM", 0x2200100, [(256, 0x4)], .HL, true, 0x0, 0xFFFFFFFF, 0x0, 0x0, 0x0⟩,
  ⟨"JBF_DUP", 0x2200800, [], .RO, false, 0x0, 0xFFFFFFFF, 0x0, 0x0, 0x0⟩,
  ⟨"JBF_LATE_DROP", 0x2200804, [], .RO, false, 0x0, 0xFFFFFFFF, 0x0, 0x0, 0x0⟩,
  ⟨"JBF_EARLY_DROP", 0x2200808, [], .RO, false, 0x0, 0xFFFFFFFF, 0x0, 0x0, 0x0⟩,
  ⟨"JBF_SLOT_OVF", 0x220080C, [], .RO, false, 0x0, 0xFFFFFFFF, 0x0, 0x0, 0x0⟩,
  ⟨"JBF_CONCEALED", 0x2200810, [], .RO, false, 0x0, 0xFFFFFFFF, 0x0, 0x0, 0x0⟩,
  ⟨"JBF_REDONE", 0x2200814, [], .RO, false, 0x0, 0xFFFFFFFF, 0x0, 0x0, 0x0⟩,
  ⟨"JBF_ADJ_DROP", 0x2200818, [], .RO, false, 0x0, 0xFFFFFFFF, 0x0, 0x0, 0x0⟩,
  ⟨"JBF_ADJ_INSERT", 0x220081C, [], .RO, false, 0x0, 0xFFFFFFFF, 0x0, 0x0, 0x0⟩,
  ⟨"JBF_DEC_MISSED", 0x2200820, [], .RO, false, 0x0, 0xFFFFFFFF, 0x0, 0x0, 0x0⟩,
  ⟨"JBF_REC", 0x2201000, [(16, 0x80), (24, 0x4)], .RW, false, 0x0, 0xFFFFFFFF, 0x0, 0x0, 0x0⟩,
  ⟨"JBF_CMD", 0x2201060, [(16, 0x80)], .WO, false, 0x0, 0xF8001FFF, 0x0, 0x0, 0x0⟩,
  ⟨"JBF_CMD_STAT", 0x2201064, [(16, 0x80)], .RO, false, 0x0, 0x80000007, 0x0, 0x0, 0x0⟩]

/-- Registers of LEG. -/
def rowsLeg : List RegRow := [
  ⟨"LEG_ACTIVE", 0x2300000, [], .RO, false, 0x0, 0x3FFF, 0x0, 0x0, 0x0⟩,
  ⟨"LEG_REC", 0x2301000, [(16, 0x80), (16, 0x4)], .RW, false, 0x0, 0xFFFFFFFF, 0x0, 0x0, 0x0⟩,
  ⟨"LEG_CMD", 0x2301040, [(16, 0x80)], .WO, false, 0x0, 0xF803FFFF, 0x0, 0x0, 0x0⟩,
  ⟨"LEG_CMD_STAT", 0x2301044, [(16, 0x80)], .RO, false, 0x0, 0x80000003, 0x0, 0x0, 0x0⟩]

/-- Registers of FWD. -/
def rowsFwd : List RegRow := [
  ⟨"FWD_CFG", 0x2400000, [], .SH, false, 0xC8, 0x3FF, 0x0, 0x0, 0x0⟩,
  ⟨"FWD_DOM_SUB", 0x2400100, [(16, 0x4)], .HL, true, 0x0, 0x1FF00FF, 0x0, 0x0, 0x0⟩,
  ⟨"FWD_DOM_HIST", 0x2400140, [(16, 0x4)], .HL, true, 0x0, 0x1FFF0FFF, 0x0, 0x0, 0x0⟩,
  ⟨"FWD_HIST_ADDR_LO", 0x2400200, [], .HL, true, 0x0, 0xFFFFF000, 0x0, 0x0, 0x0⟩,
  ⟨"FWD_TWLOG_ADDR_LO", 0x2400210, [], .HL, true, 0x0, 0xFFFFF000, 0x0, 0x0, 0x0⟩,
  ⟨"FWD_HIST_ADDR_HI", 0x2400204, [], .HL, true, 0x0, 0xF, 0x0, 0x0, 0x0⟩,
  ⟨"FWD_TWLOG_ADDR_HI", 0x2400214, [], .HL, true, 0x0, 0xF, 0x0, 0x0, 0x0⟩,
  ⟨"FWD_HIST_COUNT", 0x2400208, [], .HL, true, 0x0, 0x1FFFF, 0x0, 0x0, 0x0⟩,
  ⟨"FWD_FB_ROUTE", 0x2400300, [(16, 0x4)], .SH, false, 0x11555, 0x13FFF, 0x0, 0x0, 0x0⟩,
  ⟨"FWD_REPLICAS_LO", 0x2400400, [], .RO, false, 0x0, 0xFFFFFFFF, 0x0, 0x0, 0x0⟩,
  ⟨"FWD_REPLICAS_HI", 0x2400404, [], .RO, false, 0x0, 0xFFFFFFFF, 0x0, 0x0, 0x0⟩,
  ⟨"FWD_CT_LO", 0x2400408, [], .RO, false, 0x0, 0xFFFFFFFF, 0x0, 0x0, 0x0⟩,
  ⟨"FWD_CT_HI", 0x240040C, [], .RO, false, 0x0, 0xFFFFFFFF, 0x0, 0x0, 0x0⟩,
  ⟨"FWD_NOT_OWNER", 0x2400410, [], .RO, false, 0x0, 0xFFFFFFFF, 0x0, 0x0, 0x0⟩,
  ⟨"FWD_NO_LAYER_CNT", 0x2400414, [], .RO, false, 0x0, 0xFFFFFFFF, 0x0, 0x0, 0x0⟩,
  ⟨"FWD_SUB_BAD_CNT", 0x2400418, [], .RO, false, 0x0, 0xFFFFFFFF, 0x0, 0x0, 0x0⟩,
  ⟨"FWD_RTX", 0x240041C, [], .RO, false, 0x0, 0xFFFFFFFF, 0x0, 0x0, 0x0⟩,
  ⟨"FWD_FEC", 0x2400420, [], .RO, false, 0x0, 0xFFFFFFFF, 0x0, 0x0, 0x0⟩,
  ⟨"FWD_HIST_MISS_CNT", 0x2400424, [], .RO, false, 0x0, 0xFFFFFFFF, 0x0, 0x0, 0x0⟩,
  ⟨"FWD_CT_DENIED", 0x2400428, [], .RO, false, 0x0, 0xFFFFFFFF, 0x0, 0x0, 0x0⟩,
  ⟨"FWD_REC", 0x2401000, [(16, 0x80), (16, 0x4)], .RW, false, 0x0, 0xFFFFFFFF, 0x0, 0x0, 0x0⟩,
  ⟨"FWD_CMD", 0x2401040, [(16, 0x80)], .WO, false, 0x0, 0xF00FFFFF, 0x0, 0x0, 0x0⟩,
  ⟨"FWD_CMD_STAT", 0x2401044, [(16, 0x80)], .RO, false, 0x0, 0x80000003, 0x0, 0x0, 0x0⟩]

/-- Registers of VDE. -/
def rowsVde : List RegRow := [
  ⟨"VDE_CTX_DOM", 0x2800100, [(128, 0x4)], .HL, true, 0x0, 0xFFFFFFFF, 0x0, 0x0, 0x0⟩,
  ⟨"VDE_CORE_DECL", 0x2800300, [(16, 0x4)], .RO, false, 0x0, 0xFFFF, 0x0, 0x0, 0x0⟩,
  ⟨"VDE_CORE_BUSY", 0x2800340, [(16, 0x4)], .RO, false, 0x0, 0xFFFF, 0x0, 0x0, 0x0⟩,
  ⟨"VDE_UNSUP_PKT", 0x2800400, [], .RO, false, 0x0, 0xFFFFFFFF, 0x0, 0x0, 0x0⟩,
  ⟨"VDE_ROLLBACKS", 0x2800404, [], .RO, false, 0x0, 0xFFFFFFFF, 0x0, 0x0, 0x0⟩,
  ⟨"VDE_LOST", 0x2800408, [], .RO, false, 0x0, 0xFFFFFFFF, 0x0, 0x0, 0x0⟩,
  ⟨"VDE_SKIPPED", 0x280040C, [], .RO, false, 0x0, 0xFFFFFFFF, 0x0, 0x0, 0x0⟩,
  ⟨"VDE_PLI", 0x2800410, [], .RO, false, 0x0, 0xFFFFFFFF, 0x0, 0x0, 0x0⟩,
  ⟨"VDE_FIR", 0x2800414, [], .RO, false, 0x0, 0xFFFFFFFF, 0x0, 0x0, 0x0⟩,
  ⟨"VDE_REC", 0x2801000, [(16, 0x100), (32, 0x4)], .RW, false, 0x0, 0xFFFFFFFF, 0x0, 0x0, 0x0⟩,
  ⟨"VDE_CMD", 0x2801080, [(16, 0x100)], .WO, false, 0x0, 0xF00003FF, 0x0, 0x0, 0x0⟩,
  ⟨"VDE_CMD_STAT", 0x2801084, [(16, 0x100)], .RO, false, 0x0, 0x80000007, 0x0, 0x0, 0x0⟩]

/-- Registers of VEN. -/
def rowsVen : List RegRow := [
  ⟨"VEN_TX_POOL", 0x2900000, [], .HL, true, 0x0, 0x7, 0x0, 0x0, 0x0⟩,
  ⟨"VEN_CTX_DOM", 0x2900100, [(64, 0x4)], .HL, true, 0x0, 0xFFFFFFFF, 0x0, 0x0, 0x0⟩,
  ⟨"VEN_FRAMES", 0x2900400, [], .RO, false, 0x0, 0xFFFFFFFF, 0x0, 0x0, 0x0⟩,
  ⟨"VEN_SKIP_RATE", 0x2900404, [], .RO, false, 0x0, 0xFFFFFFFF, 0x0, 0x0, 0x0⟩,
  ⟨"VEN_SKIP_LATE", 0x2900408, [], .RO, false, 0x0, 0xFFFFFFFF, 0x0, 0x0, 0x0⟩,
  ⟨"VEN_KEYS", 0x290040C, [], .RO, false, 0x0, 0xFFFFFFFF, 0x0, 0x0, 0x0⟩,
  ⟨"VEN_OVERSIZE", 0x2900410, [], .RO, false, 0x0, 0xFFFFFFFF, 0x0, 0x0, 0x0⟩,
  ⟨"VEN_CORE_DECL", 0x2900300, [(16, 0x4)], .RO, false, 0x0, 0xFFFF, 0x0, 0x0, 0x0⟩,
  ⟨"VEN_CORE_BUSY", 0x2900340, [(16, 0x4)], .RO, false, 0x0, 0xFFFF, 0x0, 0x0, 0x0⟩,
  ⟨"VEN_REC", 0x2901000, [(16, 0x100), (32, 0x4)], .RW, false, 0x0, 0xFFFFFFFF, 0x0, 0x0, 0x0⟩,
  ⟨"VEN_CMD", 0x2901080, [(16, 0x100)], .WO, false, 0x0, 0xF00001FF, 0x0, 0x0, 0x0⟩,
  ⟨"VEN_CMD_STAT", 0x2901084, [(16, 0x100)], .RO, false, 0x0, 0x80000007, 0x0, 0x0, 0x0⟩]

/-- Registers of CMP. -/
def rowsCmp : List RegRow := [
  ⟨"CMP_PP_DECL", 0x2A00000, [(8, 0x4)], .RO, false, 0x0, 0xFFFF, 0x0, 0x0, 0x0⟩,
  ⟨"CMP_PP_BUSY", 0x2A00020, [(8, 0x4)], .RO, false, 0x0, 0xFFFF, 0x0, 0x0, 0x0⟩,
  ⟨"CMP_LATE_CNT", 0x2A00040, [], .RO, false, 0x0, 0xFFFFFFFF, 0x0, 0x0, 0x0⟩,
  ⟨"CMP_NO_SURF_CNT", 0x2A00044, [], .RO, false, 0x0, 0xFFFFFFFF, 0x0, 0x0, 0x0⟩,
  ⟨"CMP_LAYER_BAD_CNT", 0x2A00048, [], .RO, false, 0x0, 0xFFFFFFFF, 0x0, 0x0, 0x0⟩,
  ⟨"CMP_REBUILDS", 0x2A0004C, [], .RO, false, 0x0, 0xFFFFFFFF, 0x0, 0x0, 0x0⟩,
  ⟨"CMP_CI_CFG", 0x2A01000, [(64, 0x100)], .HL, true, 0x0, 0xF7F1F000, 0x0, 0x0, 0x0⟩,
  ⟨"CMP_CI_SIZE", 0x2A01004, [(64, 0x100)], .HL, true, 0x0, 0xFFFFFFFF, 0x0, 0x0, 0x0⟩,
  ⟨"CMP_CI_SURF_LO", 0x2A01008, [(64, 0x100)], .HL, true, 0x0, 0xFFFFF000, 0x0, 0x0, 0x0⟩,
  ⟨"CMP_CACHE_LO", 0x2A01010, [(64, 0x100)], .HL, true, 0x0, 0xFFFFF000, 0x0, 0x0, 0x0⟩,
  ⟨"CMP_CI_SURF_HI", 0x2A0100C, [(64, 0x100)], .HL, true, 0x0, 0xF, 0x0, 0x0, 0x0⟩,
  ⟨"CMP_CACHE_HI", 0x2A01014, [(64, 0x100)], .HL, true, 0x0, 0xF, 0x0, 0x0, 0x0⟩,
  ⟨"CMP_CACHE_BYTES", 0x2A01018, [(64, 0x100)], .HL, true, 0x0, 0xFFFFFFFF, 0x0, 0x0, 0x0⟩,
  ⟨"CMP_CI_CTL", 0x2A01020, [(64, 0x100)], .SH, false, 0x1, 0x80000077, 0x0, 0x0, 0x0⟩,
  ⟨"CMP_CI_BG", 0x2A01024, [(64, 0x100)], .SH, false, 0x808010, 0xFFFFFF, 0x0, 0x0, 0x0⟩,
  ⟨"CMP_COMMIT", 0x2A01028, [(64, 0x100)], .WO, false, 0x0, 0x1, 0x0, 0x0, 0x0⟩,
  ⟨"CMP_CACHE_CTL", 0x2A01034, [(64, 0x100)], .WO, false, 0x0, 0x1, 0x0, 0x0, 0x0⟩,
  ⟨"CMP_COMMIT_STAT", 0x2A0102C, [(64, 0x100)], .RO, false, 0x0, 0x80000000, 0x0, 0x0, 0x0⟩,
  ⟨"CMP_COMMIT_AT", 0x2A01030, [(64, 0x100)], .RO, false, 0x0, 0xFFFFFFFF, 0x0, 0x0, 0x0⟩,
  ⟨"CMP_CI_FRAME", 0x2A0103C, [(64, 0x100)], .RO, false, 0x0, 0xFFFFFFFF, 0x0, 0x0, 0x0⟩,
  ⟨"CMP_CI_STAT", 0x2A01038, [(64, 0x100)], .RO, false, 0x0, 0xC7000FFF, 0x0, 0x0, 0x0⟩,
  ⟨"CMP_LAYER", 0x2A10000, [(64, 0x200), (8, 0x40), (16, 0x4)], .SH, false, 0x0, 0xFFFFFFFF, 0x0, 0x0, 0x0⟩]

/-- Registers of SQS. -/
def rowsSqs : List RegRow := [
  ⟨"SQS_TX_POOL", 0x2C00000, [], .HL, true, 0x0, 0x7, 0x0, 0x0, 0x0⟩,
  ⟨"SQS_GAL_DOM", 0x2C00100, [(8, 0x4)], .HL, true, 0x0, 0xFFFFFFFF, 0x0, 0x0, 0x0⟩,
  ⟨"SQS_UNIT_BUSY", 0x2C00300, [(2, 0x4)], .RO, false, 0x0, 0xFFFF, 0x0, 0x0, 0x0⟩,
  ⟨"SQS_FRAMES", 0x2C00400, [], .RO, false, 0x0, 0xFFFFFFFF, 0x0, 0x0, 0x0⟩,
  ⟨"SQS_GEN_TILES", 0x2C00404, [], .RO, false, 0x0, 0xFFFFFFFF, 0x0, 0x0, 0x0⟩,
  ⟨"SQS_SKIP_LATE", 0x2C00408, [], .RO, false, 0x0, 0xFFFFFFFF, 0x0, 0x0, 0x0⟩,
  ⟨"SQS_TILE_LOST", 0x2C0040C, [], .RO, false, 0x0, 0xFFFFFFFF, 0x0, 0x0, 0x0⟩,
  ⟨"SQS_STRUCT_ERR", 0x2C00410, [], .RO, false, 0x0, 0xFFFFFFFF, 0x0, 0x0, 0x0⟩,
  ⟨"SQS_RING_DROP", 0x2C00414, [], .RO, false, 0x0, 0xFFFFFFFF, 0x0, 0x0, 0x0⟩,
  ⟨"SQS_REC", 0x2C01000, [(16, 0x100), (16, 0x4)], .RW, false, 0x0, 0xFFFFFFFF, 0x0, 0x0, 0x0⟩,
  ⟨"SQS_CMD", 0x2C01080, [(16, 0x100)], .WO, false, 0x0, 0xF8003FFF, 0x0, 0x0, 0x0⟩,
  ⟨"SQS_CMD_STAT", 0x2C01084, [(16, 0x100)], .RO, false, 0x0, 0x80000007, 0x0, 0x0, 0x0⟩]

/-- Registers of DPO. -/
def rowsDpo : List RegRow := [
  ⟨"DPO_CFG", 0x2D01000, [(2, 0x100)], .HL, true, 0x0, 0xFFFF0000, 0x0, 0x0, 0x0⟩,
  ⟨"DPO_HTIME_A", 0x2D01004, [(2, 0x100)], .HL, true, 0x0, 0xFFFFFFFF, 0x0, 0x0, 0x0⟩,
  ⟨"DPO_VTIME_A", 0x2D0100C, [(2, 0x100)], .HL, true, 0x0, 0xFFFFFFFF, 0x0, 0x0, 0x0⟩,
  ⟨"DPO_HTIME_B", 0x2D01008, [(2, 0x100)], .HL, true, 0x0, 0xFFFFFFFF, 0x0, 0x0, 0x0⟩,
  ⟨"DPO_VTIME_B", 0x2D01010, [(2, 0x100)], .HL, true, 0x0, 0xFFFFFFFF, 0x0, 0x0, 0x0⟩,
  ⟨"DPO_PCLK", 0x2D01014, [(2, 0x100)], .HL, true, 0x0, 0xFFFFF, 0x0, 0x0, 0x0⟩,
  ⟨"DPO_CTL", 0x2D01020, [(2, 0x100)], .RW, false, 0x0, 0x3, 0x0, 0x0, 0x2⟩,
  ⟨"DPO_STAT", 0x2D01024, [(2, 0x100)], .RO, false, 0x0, 0x3F7, 0x0, 0x0, 0x0⟩,
  ⟨"DPO_LOCK_OFFSET", 0x2D01028, [(2, 0x100)], .SH, false, 0x0, 0x7FFF, 0x0, 0x0, 0x0⟩,
  ⟨"DPO_PANIC", 0x2D0102C, [(2, 0x100)], .SH, false, 0x804, 0x1F1F, 0x0, 0x0, 0x0⟩,
  ⟨"DPO_TRAIN_STAT", 0x2D01030, [(2, 0x100)], .RO, false, 0x0, 0xFFFF, 0x0, 0x0, 0x0⟩,
  ⟨"DPO_UNDERFLOW_LINES", 0x2D01040, [(2, 0x100)], .RO, false, 0x0, 0xFFFFFFFF, 0x0, 0x0, 0x0⟩,
  ⟨"DPO_REPEAT", 0x2D01044, [(2, 0x100)], .RO, false, 0x0, 0xFFFFFFFF, 0x0, 0x0, 0x0⟩,
  ⟨"DPO_DROP", 0x2D01048, [(2, 0x100)], .RO, false, 0x0, 0xFFFFFFFF, 0x0, 0x0, 0x0⟩,
  ⟨"DPO_RETRAINS", 0x2D0104C, [(2, 0x100)], .RO, false, 0x0, 0xFFFFFFFF, 0x0, 0x0, 0x0⟩,
  ⟨"DPO_FRAMES", 0x2D01050, [(2, 0x100)], .RO, false, 0x0, 0xFFFFFFFF, 0x0, 0x0, 0x0⟩,
  ⟨"DPO_AUX_CMD", 0x2D01060, [(2, 0x100)], .WO, false, 0x0, 0xFF0FFFFF, 0x0, 0x0, 0x0⟩,
  ⟨"DPO_AUX_DATA", 0x2D01064, [(2, 0x100), (4, 0x4)], .RW, false, 0x0, 0xFFFFFFFF, 0x0, 0x0, 0x0⟩,
  ⟨"DPO_AUX_STAT", 0x2D01074, [(2, 0x100)], .RO, false, 0x0, 0x80000007, 0x0, 0x0, 0x0⟩]

/-- Registers of DMC. -/
def rowsDmc : List RegRow := [
  ⟨"DMC_CFG", 0x3000000, [(8, 0x100000)], .HL, true, 0x0, 0x8000037C, 0x0, 0x0, 0x0⟩,
  ⟨"DMC_STAT", 0x3000004, [(8, 0x100000)], .RO, false, 0x0, 0xFF1F0FF3, 0x0, 0x0, 0x0⟩,
  ⟨"DMC_PAGE", 0x3000008, [(8, 0x100000)], .LV, false, 0x20, 0x3FF, 0x0, 0x0, 0x0⟩,
  ⟨"DMC_QOS", 0x300000C, [(8, 0x100000)], .LV, false, 0x6403E8, 0xFFFFFFFF, 0x0, 0x0, 0x0⟩,
  ⟨"DMC_RETRAIN", 0x3000010, [(8, 0x100000)], .LV, false, 0x20064, 0xFFFFF, 0x0, 0x0, 0x0⟩,
  ⟨"DMC_PANIC_STAT", 0x3000014, [(8, 0x100000)], .RO, false, 0x0, 0xFFFF, 0x0, 0x0, 0x0⟩,
  ⟨"DMC_RD_LO", 0x3000020, [(8, 0x100000)], .RO, false, 0x0, 0xFFFFFFFF, 0x0, 0x0, 0x0⟩,
  ⟨"DMC_RD_HI", 0x3000024, [(8, 0x100000)], .RO, false, 0x0, 0xFFFFFFFF, 0x0, 0x0, 0x0⟩,
  ⟨"DMC_WR_LO", 0x3000028, [(8, 0x100000)], .RO, false, 0x0, 0xFFFFFFFF, 0x0, 0x0, 0x0⟩,
  ⟨"DMC_WR_HI", 0x300002C, [(8, 0x100000)], .RO, false, 0x0, 0xFFFFFFFF, 0x0, 0x0, 0x0⟩,
  ⟨"DMC_PAGE_HIT", 0x3000030, [(8, 0x100000)], .RO, false, 0x0, 0xFFFFFFFF, 0x0, 0x0, 0x0⟩,
  ⟨"DMC_PAGE_MISS", 0x3000034, [(8, 0x100000)], .RO, false, 0x0, 0xFFFFFFFF, 0x0, 0x0, 0x0⟩,
  ⟨"DMC_HAZARD_WAIT", 0x3000038, [(8, 0x100000)], .RO, false, 0x0, 0xFFFFFFFF, 0x0, 0x0, 0x0⟩,
  ⟨"DMC_REF_FORCED", 0x300003C, [(8, 0x100000)], .RO, false, 0x0, 0xFFFFFFFF, 0x0, 0x0, 0x0⟩,
  ⟨"DMC_LECC_CORR", 0x3000040, [(8, 0x100000)], .RO, false, 0x0, 0xFFFFFFFF, 0x0, 0x0, 0x0⟩,
  ⟨"DMC_LECC_UNCORR", 0x3000044, [(8, 0x100000)], .RO, false, 0x0, 0xFFFFFFFF, 0x0, 0x0, 0x0⟩,
  ⟨"DMC_LECC_WR", 0x3000048, [(8, 0x100000)], .RO, false, 0x0, 0xFFFFFFFF, 0x0, 0x0, 0x0⟩,
  ⟨"DMC_PANIC_CYC", 0x300004C, [(8, 0x100000)], .RO, false, 0x0, 0xFFFFFFFF, 0x0, 0x0, 0x0⟩,
  ⟨"DMC_ILV", 0x3001000, [], .HL, true, 0x0, 0x3, 0x0, 0x0, 0x0⟩,
  ⟨"DMC_CO_A", 0x3002000, [(32, 0x8)], .HL, true, 0x0, 0x8F0F7FFF, 0x0, 0x0, 0x0⟩,
  ⟨"DMC_CO_B", 0x3002004, [(32, 0x8)], .HL, true, 0x0, 0xFFFF, 0x0, 0x0, 0x0⟩]

/-- Registers of NFC, part 1. -/
def rowsNfc1 : List RegRow := [
  ⟨"NFC_CFG", 0x3800000, [], .HL, true, 0x0, 0xFFC0FFFF, 0x0, 0x0, 0x0⟩,
  ⟨"NFC_GEOM", 0x3800004, [], .HL, true, 0x0, 0xFFFF0FFF, 0x0, 0x0, 0x0⟩,
  ⟨"NFC_BLOCKS", 0x3800008, [], .HL, true, 0x0, 0x1FFFF, 0x0, 0x0, 0x0⟩,
  ⟨"NFC_AREA_LO", 0x380000C, [], .HL, true, 0x0, 0xFFE00000, 0x0, 0x0, 0x0⟩,
  ⟨"NFC_AREA_HI", 0x3800010, [], .HL, true, 0x0, 0xF, 0x0, 0x0, 0x0⟩,
  ⟨"NFC_RR_CFG", 0x380003C, [], .HL, true, 0x0, 0x1F, 0x0, 0x0, 0x0⟩,
  ⟨"NFC_CTL", 0x3800100, [], .RW, false, 0x0, 0x1F, 0x0, 0x0, 0x10⟩,
  ⟨"NFC_STAT", 0x3800104, [], .RO, false, 0x0, 0x307, 0x0, 0x0, 0x0⟩,
  ⟨"NFC_HEAD_LSN_LO", 0x3800110, [], .RO, false, 0x0, 0xFFFFFFFF, 0x0, 0x0, 0x0⟩,
  ⟨"NFC_HEAD_LSN_HI", 0x3800114, [], .RO, false, 0x0, 0xFFFFFFFF, 0x0, 0x0, 0x0⟩,
  ⟨"NFC_DURABLE_LSN_LO", 0x3800118, [], .RO, false, 0x0, 0xFFFFFFFF, 0x0, 0x0, 0x0⟩,
  ⟨"NFC_DURABLE_LSN_HI", 0x380011C, [], .RO, false, 0x0, 0xFFFFFFFF, 0x0, 0x0, 0x0⟩,
  ⟨"NFC_RELEASE_LSN_LO", 0x3800120, [], .RO, false, 0x0, 0xFFFFFFFF, 0x0, 0x0, 0x0⟩,
  ⟨"NFC_RELEASE_LSN_HI", 0x3800124, [], .RO, false, 0x0, 0xFFFFFFFF, 0x0, 0x0, 0x0⟩,
  ⟨"NFC_UNITS_LO", 0x3800128, [], .RO, false, 0x0, 0xFFFFFFFF, 0x0, 0x0, 0x0⟩,
  ⟨"NFC_UNITS_HI", 0x380012C, [], .RO, false, 0x0, 0xFFFFFFFF, 0x0, 0x0, 0x0⟩,
  ⟨"NFC_SPACE", 0x3800130, [], .LV, false, 0x100004, 0xFFFFFFFF, 0x0, 0x0, 0x0⟩,
  ⟨"NFC_PATROL", 0x3800138, [], .LV, false, 0xA841F478, 0xFFFFFFFF, 0x0, 0x0, 0x0⟩,
  ⟨"NFC_CKPT", 0x380013C, [], .LV, false, 0x3E8, 0xFFFF, 0x0, 0x0, 0x0⟩,
  ⟨"NFC_FREE", 0x3800134, [], .RO, false, 0x0, 0xFFFFFFFF, 0x0, 0x0, 0x0⟩,
  ⟨"NFC_RETRY", 0x3800200, [], .RO, false, 0x0, 0xFFFFFFFF, 0x0, 0x0, 0x0⟩,
  ⟨"NFC_UNCORR_CNT", 0x3800204, [], .RO, false, 0x0, 0xFFFFFFFF, 0x0, 0x0, 0x0⟩,
  ⟨"NFC_TAG_FAIL", 0x3800208, [], .RO, false, 0x0, 0xFFFFFFFF, 0x0, 0x0, 0x0⟩,
  ⟨"NFC_BAD_CNT", 0x380020C, [], .RO, false, 0x0, 0xFFFFFFFF, 0x0, 0x0, 0x0⟩,
  ⟨"NFC_REFRESHED", 0x3800210, [], .RO, false, 0x0, 0xFFFFFFFF, 0x0, 0x0, 0x0⟩,
  ⟨"NFC_GAP_ROWS", 0x3800214, [], .RO, false, 0x0, 0xFFFFFFFF, 0x0, 0x0, 0x0⟩,
  ⟨"NFC_EC_MAX", 0x3800218, [], .RO, false, 0x0, 0xFFFFFFFF, 0x0, 0x0, 0x0⟩,
  ⟨"NFC_EC_MIN", 0x380021C, [], .RO, false, 0x0, 0xFFFFFFFF, 0x0, 0x0, 0x0⟩,
  ⟨"NFC_REC", 0x3801000, [(16, 0x80), (16, 0x4)], .RW, false, 0x0, 0xFFFFFFFF, 0x0, 0x0, 0x0⟩,
  ⟨"NFC_CMD", 0x3801040, [(16, 0x80)], .WO, false, 0x0, 0xF00003FF, 0x0, 0x0, 0x0⟩]

/-- Registers of NFC, part 2. -/
def rowsNfc2 : List RegRow := [
  ⟨"NFC_CMD_STAT", 0x3801044, [(16, 0x80)], .RO, false, 0x0, 0x80000007, 0x0, 0x0, 0x0⟩,
  ⟨"NFC_RR_A", 0x3800040, [(16, 0x8)], .HL, true, 0x0, 0xFF, 0x0, 0x0, 0x0⟩,
  ⟨"NFC_RR_B", 0x3800044, [(16, 0x8)], .HL, true, 0x0, 0xFFFFFFFF, 0x0, 0x0, 0x0⟩]

/-- Registers of NFC. -/
def rowsNfc : List RegRow := rowsNfc1 ++ rowsNfc2

/-- Registers of FLD. -/
def rowsFld : List RegRow := [
  ⟨"FLD_LINK_STAT", 0x3C00000, [], .RO, false, 0x0, 0x1FF, 0x0, 0x0, 0x0⟩,
  ⟨"FLD_LINK_CRC", 0x3C00004, [], .RO, false, 0x0, 0xFFFFFFFF, 0x0, 0x0, 0x0⟩,
  ⟨"FLD_LINK_LOST_WR", 0x3C00008, [], .RO, false, 0x0, 0xFFFFFFFF, 0x0, 0x0, 0x0⟩,
  ⟨"FLD_LINK_DOWNS", 0x3C0000C, [], .RO, false, 0x0, 0xFFFFFFFF, 0x0, 0x0, 0x0⟩,
  ⟨"FLD_RING_OVF", 0x3C00020, [], .RO, false, 0x0, 0xFFFFFFFF, 0x0, 0x0, 0x0⟩,
  ⟨"FLD_RING_UNDER", 0x3C00024, [], .RO, false, 0x0, 0xFFFFFFFF, 0x0, 0x0, 0x0⟩,
  ⟨"FLD_TAP_LATE", 0x3C00028, [], .RO, false, 0x0, 0xFFFFFFFF, 0x0, 0x0, 0x0⟩,
  ⟨"FLD_TAP_ADDR_LO", 0x3C00010, [], .SH, false, 0x0, 0xFFFFFFC0, 0x0, 0x0, 0x0⟩,
  ⟨"FLD_TAP_ADDR_HI", 0x3C00014, [], .SH, false, 0x0, 0xF, 0x0, 0x0, 0x0⟩,
  ⟨"FLD_RING_IN_A", 0x3C01000, [(32, 0x10)], .HL, true, 0x0, 0x870101FF, 0x0, 0x0, 0x0⟩,
  ⟨"FLD_RING_OUT_A", 0x3C01008, [(32, 0x10)], .HL, true, 0x0, 0x870101FF, 0x0, 0x0, 0x0⟩,
  ⟨"FLD_RING_IN_B", 0x3C01004, [(32, 0x10)], .HL, true, 0x0, 0xFFF, 0x0, 0x0, 0x0⟩,
  ⟨"FLD_RING_OUT_B", 0x3C0100C, [(32, 0x10)], .HL, true, 0x0, 0xFFF, 0x0, 0x0, 0x0⟩,
  ⟨"FLD_GAUGE_MIRROR", 0x3C01400, [(32, 0x4)], .RO, false, 0x0, 0xFFFFFFFF, 0x0, 0x0, 0x0⟩,
  ⟨"FLD_STATE_MIRROR", 0x3C01480, [(4, 0x4)], .RO, false, 0x0, 0xFFFFFFFF, 0x0, 0x0, 0x0⟩,
  ⟨"FLD_IN_SLOT", 0x3C02000, [(1024, 0x8)], .SH, false, 0x0, 0xC0071FFF, 0x0, 0x0, 0x0⟩,
  ⟨"FLD_IN_STAMP", 0x3C02004, [(1024, 0x8)], .SH, false, 0x0, 0x7FFF, 0x0, 0x0, 0x0⟩,
  ⟨"FLD_OUT_SLOT", 0x3C04000, [(1024, 0x4)], .SH, false, 0x0, 0x80071FFF, 0x0, 0x0, 0x0⟩]

/-- Registers of FLDSel. -/
def rowsFLDSel : List RegRow := [
  ⟨"FLD_SEL_ID", 0x3D00000, [], .RO, false, 0x96F100A1, 0xFFFFFFFF, 0x0, 0x0, 0x0⟩,
  ⟨"FLD_SEL_GEN", 0x3D00004, [], .RO, false, 0x0, 0xFFFF, 0x0, 0x0, 0x0⟩,
  ⟨"FLD_SLIP_SAT", 0x3D00008, [], .RO, false, 0x0, 0xFFFFFFFF, 0x0, 0x0, 0x0⟩,
  ⟨"FLD_CG_CFG_A", 0x3D01000, [(32, 0x40)], .HL, true, 0x0, 0xFFFF0FFE, 0x0, 0x0, 0x0⟩,
  ⟨"FLD_CG_CFG_B", 0x3D01004, [(32, 0x40)], .HL, true, 0x0, 0x33000, 0x0, 0x0, 0x0⟩,
  ⟨"FLD_CG_CTL", 0x3D01008, [(32, 0x40)], .RW, false, 0x0, 0x3, 0x0, 0x0, 0x2⟩,
  ⟨"FLD_CG_STAT", 0x3D0100C, [(32, 0x40)], .RO, false, 0x0, 0xC0007, 0x0, 0x0, 0x0⟩,
  ⟨"FLD_CG_GAUGE", 0x3D01010, [(32, 0x40)], .RO, false, 0x0, 0xFFFFFFFF, 0x0, 0x0, 0x0⟩,
  ⟨"FLD_CG_FIFO", 0x3D01014, [(32, 0x40)], .LV, false, 0xC, 0x3F001F, 0x3F0000, 0x0, 0x0⟩,
  ⟨"FLD_CG_LOOP", 0x3D01018, [(32, 0x40)], .LV, false, 0x6404, 0xFFF0F, 0x0, 0x0, 0x0⟩,
  ⟨"FLD_CG_FREQ", 0x3D0101C, [(32, 0x40)], .RO, false, 0x0, 0xFFFFFFFF, 0x0, 0x0, 0x0⟩,
  ⟨"FLD_CG_GLITCH", 0x3D01020, [(32, 0x40)], .RO, false, 0x0, 0xFFFFFFFF, 0x0, 0x0, 0x0⟩,
  ⟨"FLD_CG_SLIP", 0x3D01024, [(32, 0x40)], .RO, false, 0x0, 0xFFFFFFFF, 0x0, 0x0, 0x0⟩,
  ⟨"FLD_CG_LOSS", 0x3D01028, [(32, 0x40)], .RO, false, 0x0, 0xFFFFFFFF, 0x0, 0x0, 0x0⟩,
  ⟨"FLD_PORT_MAP", 0x3D02000, [(256, 0x10)], .HL, true, 0x0, 0x83FF83FF, 0x0, 0x0, 0x0⟩,
  ⟨"FLD_PORT_MASK", 0x3D02004, [(256, 0x10)], .SH, false, 0x0, 0x1FFFF, 0x0, 0x0, 0x0⟩,
  ⟨"FLD_SLIP_A", 0x3D03000, [(64, 0x8)], .SH, false, 0x0, 0x83FF03FF, 0x0, 0x0, 0x0⟩,
  ⟨"FLD_SLIP_B", 0x3D03004, [(64, 0x8)], .SH, false, 0x0, 0x7FFFFF, 0x0, 0x0, 0x0⟩]

/-- The rows of a BAR0 region (Table 25-1, R419). A region that holds nothing has none. -/
def regionRows (n : Nat) : List RegRow :=
  if n = 0 then rowsSys else if n = 1 then rowsSec else if n = 2 then rowsPat
  else if n = 3 then rowsTim else if n = 4 then rowsSwt else if n = 5 then rowsHst
  else if n = 8 then rowsNet else if n = 10 ∨ n = 11 then rowsCls
  else if n = 12 ∨ n = 13 then rowsCip else if n = 14 then rowsBpm else if n = 15 then rowsIng
  else if 16 ≤ n ∧ n ≤ 19 then rowsEgs else if n = 20 then rowsHok
  else if 24 ≤ n ∧ n ≤ 29 then rowsDsp else if n = 32 ∨ n = 33 then rowsCab
  else if n = 34 then rowsJbf else if n = 35 then rowsLeg else if n = 36 then rowsFwd
  else if n = 40 then rowsVde else if n = 41 then rowsVen else if n = 42 ∨ n = 43 then rowsCmp
  else if n = 44 then rowsSqs else if n = 45 then rowsDpo
  else if 48 ≤ n ∧ n ≤ 55 then rowsDmc else if n = 56 then rowsNfc
  else if n = 60 then rowsFld else if n = 61 then rowsFLDSel else []

/-- The register row at a BAR0 address of an active copy. -/
def regRow (a : Nat) : Option RegRow :=
  (regionRows (a / 0x100000)).find? (fun r => rowCovers r a)

/-- The value a register holds at reset, as its description line gives it: that of the row that covers it, most being zero
(assumption 10) (assumption 10). -/
def regReset (a : Nat) : Word :=
  match (regionRows (a / 0x100000)).find? (fun r => r.reset != 0 && rowCovers r a) with
  | some r => BitVec.ofNat 32 r.reset
  | none => 0

end Sys2Proof.Machine
end

