-- ==== Sys2Proof/Machine/Tbl.lean ====
section
/-! DEFINITION. Sparse tables: a list of (key, value) pairs in one canonical form, keys strictly rising and
no value equal to what an unlisted key reads as. Register files, memories, descriptor stores and rings
of the machine are tables of this kind. -/

namespace Sys2Proof.Machine

/-- A sparse table. -/
abbrev Tbl (α : Type) := List (Nat × α)

variable {α : Type}

/-- The listed value of a key. -/
def lookup : Tbl α → Nat → Option α
  | [], _ => none
  | (k, v) :: t, j => if k = j then some v else lookup t j

/-- The value of a key, where an unlisted key `j` reads as `dflt j`. -/
def tget (dflt : Nat → α) (m : Tbl α) (j : Nat) : α := (lookup m j).getD (dflt j)

/-- The table without key `j`. -/
def terase : Tbl α → Nat → Tbl α
  | [], _ => []
  | (k, v) :: t, j => if k = j then terase t j else (k, v) :: terase t j

/-- The table with `(j, v)` placed before the first larger key. -/
def tinsert : Tbl α → Nat → α → Tbl α
  | [], j, v => [(j, v)]
  | (k, u) :: t, j, v => if j < k then (j, v) :: (k, u) :: t else (k, u) :: tinsert t j v

/-- The table with key `j` holding `v`; the value an unlisted key reads as is not listed. -/
def tput [DecidableEq α] (dflt : Nat → α) (m : Tbl α) (j : Nat) (v : α) : Tbl α :=
  if v = dflt j then terase m j else tinsert (terase m j) j v

/-- Canonical form: keys strictly rising from above `lo`, no value equal to the unlisted one. -/
def wfFrom [DecidableEq α] (dflt : Nat → α) : Nat → Tbl α → Bool
  | _, [] => true
  | lo, (k, v) :: t => decide (lo ≤ k) && decide (v ≠ dflt k) && wfFrom dflt (k + 1) t

/-- The canonical form of a table. -/
def Tbl.wf [DecidableEq α] (dflt : Nat → α) (m : Tbl α) : Bool := wfFrom dflt 0 m

/-- Write `vs` at keys `j, j+1, …`. -/
def tputs [DecidableEq α] (dflt : Nat → α) (m : Tbl α) (j : Nat) : List α → Tbl α
  | [] => m
  | v :: t => tputs dflt (tput dflt m j v) (j + 1) t

/-- Read `n` values at keys `j, j+1, …`. -/
def tgets (dflt : Nat → α) (m : Tbl α) (j : Nat) : Nat → List α
  | 0 => []
  | n + 1 => tget dflt m j :: tgets dflt m (j + 1) n

/-- Remove every key in `[lo, hi)`. -/
def tclear (m : Tbl α) (lo hi : Nat) : Tbl α := m.filter (fun p => decide (p.1 < lo ∨ hi ≤ p.1))

/-- The last of two tables wins: every listed key of `u` is written into `m`. -/
def tmerge [DecidableEq α] (dflt : Nat → α) (m : Tbl α) : Tbl α → Tbl α
  | [] => m
  | (k, v) :: t => tmerge dflt (tput dflt m k v) t

end Sys2Proof.Machine
end

