-- ==== Sys2Proof/Machine/Types/Audio.lean ====
section
/-! DEFINITION. State of the audio blocks: jitter buffers (chapter 10), Cable (11) and field audio (12). -/

namespace Sys2Proof.Machine

/-- An entry of the slot memory (R164): chain, sequence number, timestamp, audio level (none: no element), ticks of the
timestamp clock its payload covers, arrival as a 48 kHz house index, and whether it is verified. -/
structure JbfSlot where
  chain : Nat
  seq : Nat
  ts : Nat
  level : Option Nat
  ticks : Nat
  arrival : Nat
  verified : Bool
  deriving DecidableEq, Repr

/-- A scheduled frame until it is delivered: house index of its first sample, length, PCM parity, sequence number, whether
a CONCEAL task was issued for it and may still be redone, whether it is silent, and whether its delivery has begun. -/
structure JbfFrame where
  start : Nat
  len : Nat
  parity : Nat
  seq : Nat
  concealed : Bool
  silent : Bool
  begun : Bool
  deriving DecidableEq, Repr

/-- What a leg record does not show: frames being delivered, oldest first; whether the last delivery had sound; whether it
found a decode stamp unmet; LATE, EARLY and SLOT_OVF packets of the row; arrival and timestamp of the packet JITTER was last
updated from; ticks of the last frame; and whether RESET waits for the tick (R176). -/
structure JbfLeg where
  play : List JbfFrame := []
  sound : Bool := false
  unmet : Bool := false
  late : Nat := 0
  early : Nat := 0
  ovf : Nat := 0
  last : Option (Nat × Nat) := none
  ticks : Nat := 0
  reset : Bool := false
  deriving DecidableEq, Repr

/-- JBF: leg records by leg and encode group records by group, active and shadow; the slot memory; the rest of each leg;
frames being encoded by group as (row E, rows, payload chain); and the JBF_NONE mark of the row. -/
structure Jbf where
  recs : Tbl Nat := []
  recSh : Tbl Nat := []
  enc : Tbl Nat := []
  encSh : Tbl Nat := []
  slots : Tbl (Option JbfSlot) := []
  legs : Tbl JbfLeg := []
  pend : Tbl (Option (Nat × Nat × Option Nat)) := []
  noneMark : Bool := false
  deriving DecidableEq, Repr

/-- A gain that steps or ramps (R189). -/
structure Gain where
  cur : Nat := 0
  tgt : Nat := 0
  start : Nat := 0
  k : Nat := 0
  ramping : Bool := false
  wait : Nat := 0
  deriving DecidableEq, Repr

/-- What an output hears: enabled, bus, MINUS_EN and MINUS_SRC (R187, R191). -/
structure Hears where
  en : Bool := false
  bus : Nat := 0
  minus : Bool := false
  src : Nat := 0
  deriving DecidableEq, Repr

/-- A meter (R194): PEAK in 1/256 units, HOLD and the rows it is still kept, the two running mean squares in units of
2^-80, CLIP since the last dump, VAD and ABSENT of the last row. -/
structure Meter where
  peak : Nat := 1023 * 256
  hold : Nat := 1023
  left : Nat := 0
  slow : Nat := 0
  fast : Nat := 0
  clip : Bool := false
  vad : Bool := false
  absent : Bool := false
  deriving DecidableEq, Repr

/-- Work of a row that its tick will abandon (R181): buses and outputs not done, and the stages whose ring row is to be
zeroed. -/
structure Undone where
  buses : Nat
  outputs : Nat
  stages : List Nat
  deriving DecidableEq, Repr

/-- Cable. Crosspoints by entry, active and shadow (R182); gains of crosspoints by 16,384 × bus + source and of outputs by
stage, field outputs from 8,192 on; fade entries by bus with the source and its gain (R190); a bus's depth of before the
swap while it sums only fades; what an output heard before the swap of this row (R191); the last sample of each source and
output (x_prev); field inputs of the slot row that were taken at the tick, absent sources, whether the row is to be mixed,
skipped after a restart (R442), or already done; work left undone; ranker members (source, hold); meters by record number
of R195; rows since the last dump and dumps made; and the once-per-swap and once-per-row marks. -/
structure Cab where
  xp : Tbl Nat := []
  xpSh : Tbl Nat := []
  gain : Tbl Gain := []
  out : Tbl Gain := []
  fade : Tbl (List (Nat × Gain)) := []
  oldDepth : Tbl Nat := []
  was : Tbl (Option Hears) := []
  prev : Tbl Int := []
  fin : Tbl (List Int) := []
  absent : List Nat := []
  due : Bool := false
  skip : Bool := false
  undone : Option Undone := none
  rank : Tbl (List (Nat × Nat)) := []
  meters : Tbl Meter := []
  dumpRows : Nat := 0
  dumps : Nat := 0
  badMark : List Nat := []
  domMark : List Nat := []
  deriving DecidableEq, Repr

/-- A mute or unmute (R208): whether it leads to sound, words it has run, and the words it mutes from. -/
structure Ramp where
  on : Bool := false
  k : Nat := 24
  base : List Int := []
  deriving DecidableEq, Repr

/-- A slip channel's settings as a destination group last used them, those before them, and frames of the crossfade run
(R214). -/
structure SlipFade where
  now : Nat × Nat := (0, 0)
  old : Nat × Nat := (0, 0)
  k : Nat := 32
  deriving DecidableEq, Repr

/-- A clock group on the selvedge die and its near end. Words of a frame are listed by 8 × port + slot of the group.
`rate` is the expected frame rate in 1/16 Hz (R207), `idx` and `edge` count frames and selvedge clocks since the tick copy
(R449), `cap` and `capPrev` are the last two captured frames as sent, `input` and `output` their mutes, `inFifo` and
`outFifo` the row FIFOs (R203), `newest` and `played` the frames they repeat, `joined` whether an emitted row has joined
since RUN, `first` whether the first send since RUN is still to come, `linkK` frames since the link went down, `cable` the
last words of Cable, `words` frames of the ring's row (R209), `pins` what the last frame drove (none: high impedance), and
the row's marks of CG_GLITCH and CG_SLIP. -/
structure Group where
  rate : Nat := 0
  idx : Nat := 0
  edge : Nat := 0
  cap : List Int := []
  capPrev : List Int := []
  input : Ramp := {}
  output : Ramp := {}
  inFifo : List (List Int) := []
  outFifo : List (List Int) := []
  newest : List Int := []
  played : Option (List Int) := none
  joined : Bool := false
  first : Bool := false
  linkK : Nat := 0
  cable : List Int := []
  words : Nat := 0
  pins : List (Option Nat) := []
  glitchMark : Bool := false
  slipMark : Bool := false
  deriving DecidableEq, Repr

/-- FLD: clock groups; words received from the selvedge die by field input channel and parity of the slot row, as the row
and its words so far; words sent to it by field output channel and parity of the emitted row; slip channels by
32 × channel + group; the row of the last tick copy; the first slot row present since the link came up (R216); events held
while it is down, oldest first, and how many were discarded (R448); and the marks of the row (RING_ERR by group,
LINK_CRC). -/
structure Fld where
  groups : Tbl Group := []
  rx : Tbl (Nat × List Int) := []
  tx : Tbl (Nat × List Int) := []
  slips : Tbl SlipFade := []
  selRow : Nat := 0
  okRow : Option Nat := none
  held : List (Nat × Nat × Nat × List Byte) := []
  discarded : Nat := 0
  ringMark : List Nat := []
  crcMark : Bool := false
  deriving DecidableEq, Repr

end Sys2Proof.Machine
end

