-- ==== Sys2Proof/Machine/Types/Net.lean ====
section
/-! DEFINITION. State of the packet path: buffer pools (06), ports, flow store and policers (04), cipher (05),
forwarding and leg records (16), egress (17). A record the manual lays out in bytes is held as the number its
little-endian bytes spell (R2). -/

namespace Sys2Proof.Machine

/-- A buffer descriptor (Table 06-1). `ts` is the ingress time in 2^-40 ns; `use` is AGENT_USE. -/
structure Desc where
  next : Nat := 0
  more : Bool := false
  dataLen : Nat := 0
  dataOff : Nat := 0
  head : Bool := false
  de : Bool := false
  verified : Bool := false
  frameLen : Nat := 0
  nbuf : Nat := 0
  state : Nat := 0
  owners : Nat := 0
  last : Nat := 0
  lastDone : Bool := false
  shares : Nat := 0
  dom : Nat := 0
  ts : Nat := 0
  leg : Nat := 0
  stream : Nat := 0
  esn : Nat := 0
  use : Nat := 0
  deriving DecidableEq, Repr

/-- A pool: its free list as runs (first index, count) from head to tail (R107), how many IDs at its head are
cached on die (R108), the rotation start and the waiting requests (R112), the ALLOC_NONE mark of the row. -/
structure Pool where
  free : List (Nat × Nat) := []
  cached : Nat := 0
  rr : Nat := 0
  waiting : List AllocReq := []
  noneMark : Bool := false
  deriving DecidableEq, Repr

/-- BPM: pools, descriptors and frame data by buffer ID (frame data by head), and the replies of the last clock
in which each agent was answered (`some id` or NONE). -/
structure Bpm where
  pools : Tbl Pool := []
  descs : Tbl Desc := []
  data : Tbl (List Byte) := []
  replies : Tbl (Option (Option Nat)) := []
  deriving DecidableEq, Repr

/-- A packet whose verdict is awaited (R99), once classified: what its records said of it, where its UDP payload starts,
its layer attributes (none: R270 forwards it to no one), and the forwarding changes it holds (R275) as (entry, new
value). `macBad` says that the MAC fails it (R444), `walked` that its list has been walked, `cut` lists the replicas
cut through, by entry, and `sel` the others selected. -/
structure Packet where
  chain : Nat
  port : Nat
  leg : Nat
  stream : Nat
  dom : Nat
  slot : Nat
  transform : Nat
  clear : Bool
  rtcp : Bool
  index : Nat
  seq : Nat
  ts : Nat
  ssrc : Nat
  l4Off : Nat
  media : Nat
  term : Bool
  fwd : Bool
  subPtr : Nat
  profile : Nat
  macBad : Bool
  len : Nat
  time : Nat
  attrs : Option Nat
  walked : Bool
  changes : List (Nat × Nat)
  sel : List Nat
  cut : List Nat
  deriving DecidableEq, Repr

/-- NET: the quanta left by port-class node (R72), FEC_UNCORR marks of the row by port, PFC or PAUSE frames sent
(port, priorities, quanta; newest first), Vadjaryn's PTP queue (port, ingress time, frame; oldest first), and the
frames that have left (port, bytes without the FCS, whether it ended with an inverted FCS; newest first). -/
structure Net where
  quanta : Tbl Nat := []
  fecMark : List Nat := []
  pfcSent : List (Nat × Nat × Nat) := []
  ptp : List (Nat × Nat × List Byte) := []
  sent : List (Nat × List Byte × Bool) := []
  deriving DecidableEq, Repr

/-- CLS: flow records by 262,144 × way + bucket, CAM records by entry, and the hash key (R77). -/
structure Cls where
  ways : Tbl Nat := []
  cam : Tbl Nat := []
  key : Nat := 0
  deriving DecidableEq, Repr

/-- ING: policer records by index (Table 04-5). -/
structure Ing where
  pol : Tbl Nat := []
  deriving DecidableEq, Repr

/-- CIP: key slots (Table 05-2) and index records (Table 05-3, by 40L + i), the last SERIAL, the fingerprint secret
by domain (R96), the staged key bytes by window, and the once-per-row marks: CIP_AUTH_FAIL counts by leg,
KEY_MISMATCH and NO_KEY by leg, LATE_VERDICT by port. -/
structure Cip where
  slots : Tbl Nat := []
  index : Tbl Nat := []
  serial : Nat := 0
  secrets : Tbl Nat := []
  stage : Tbl Nat := []
  failRow : Tbl Nat := []
  mismatchMark : List Nat := []
  noKeyMark : List Nat := []
  lateMark : List Nat := []
  deriving DecidableEq, Repr

/-- What the governor, the key requests and the video blocks' NACKs and key requests post to Vadjaryn's feedback queue
(R225, R227, R274, R284). -/
inductive Feedback where
  | rtcp (leg kind : Nat) (owner : Option Nat) (bytes : List Byte)
  | keyNeed (source rank : Nat)
  | nack (leg stream : Nat) (seqs : List Nat)
  | keyRequest (leg stream : Nat) (fir : Option Nat)
  deriving DecidableEq, Repr

/-- A run of media packets an FEC repair packet will cover (R283): how many, the first sequence number, the XOR of
the packets so far as a little-endian number with the longest length in bytes, the last out timestamp, the owner of
the stream and FEC_K when the run began. -/
structure FecRun where
  count : Nat := 0
  first : Nat := 0
  parity : Nat := 0
  len : Nat := 0
  ts : Nat := 0
  owner : Nat := 0
  k : Nat := 0
  deriving DecidableEq, Repr

/-- FWD: subscription entries (Table 16-3), source states (Table 16-1), which templates each source's held structure
covers (R271), the attributes of each source's last packet, packets in flight (oldest first), key requests made this
round by entry, how many history entries name a chain (R281), repair runs by outbound stream, the feedback queue, payload and dependency
descriptor of producers' chains that history rings name, and the once-per-row marks. -/
structure Fwd where
  subs : Tbl Nat := []
  src : Tbl Nat := []
  cover : Tbl Nat := []
  attr : Tbl Nat := []
  flight : List Packet := []
  keyMark : List Nat := []
  hist : Tbl Nat := []
  runs : Tbl FecRun := []
  feedback : List Feedback := []
  made : Tbl (List Byte × List Byte) := []
  noLayerMark : List Nat := []
  subBadMark : List Nat := []
  histMark : List Nat := []
  deriving DecidableEq, Repr

/-- LEG: active headers and outbound records (Tables 16-4, 16-5; outbound by 32L + o), and their shadow copies. -/
structure Leg where
  hdr : Tbl Nat := []
  hdrSh : Tbl Nat := []
  out : Tbl Nat := []
  outSh : Tbl Nat := []
  deriving DecidableEq, Repr

/-- A frame in an egress queue: its chain, buffers and length through the FCS, its leg and leaf (none in a control
queue), the outbound stream it is counted to (32 L + o), the timestamp request and tag (R51), the ring whose
descriptor waits for it (16 d + r) and NOTIFY, the chain of the packet it is a cut-through replica of, its
transport-wide number, and the time W of its first failed gate check (R303). -/
structure QFrame where
  chain : Nat
  nbuf : Nat
  len : Nat
  leg : Option Nat := none
  leaf : Option Nat := none
  stream : Option Nat := none
  tsReq : Bool := false
  tag : Nat := 0
  ring : Option Nat := none
  notify : Bool := false
  cutOf : Option Nat := none
  twcc : Option Nat := none
  w : Option Nat := none
  deriving DecidableEq, Repr

/-- A frame on the wire: the time of its port's time base at which its first byte left (units of 2^-40 ns), and
whether it ends with an inverted FCS (R100). -/
structure TxFrame where
  frame : QFrame
  start : Nat
  bad : Bool
  deriving DecidableEq, Repr

/-- EGS: leaf queues, control queues, DRR rings by node (class n, group 64 + g, leg pair 1,088 + L), DEF and FRESH of
leaves, CREDIT by the address of the shaper's CFG, frame on the wire by port, change instants t_c by port (ns of the
port's time base), flushed ports, once-per-row marks by leg and by port. -/
structure Egs where
  leaves : Tbl (List QFrame) := []
  cq : Tbl (List QFrame) := []
  rings : Tbl (List Nat) := []
  leafDef : Tbl (Nat × Bool) := []
  credit : Tbl Int := []
  tx : Tbl (Option TxFrame) := []
  change : Tbl Nat := []
  flushed : List Nat := []
  tailMark : List Nat := []
  gateMark : List Nat := []
  deriving DecidableEq, Repr

end Sys2Proof.Machine
end

