-- ==== Sys2Proof/Machine/Types/Core.lean ====
section
/-! DEFINITION. State of the control blocks: time bases and the event sequence (chapter 03), patterns and
swaps (02), the host interface (20), security (21), swatches and logs (22), supplies and resets (23). What a
register shows is held in the register file; these records hold what no register shows. -/

namespace Sys2Proof.Machine

/-- A time base (R45, R46): `time` is the count since the PTP epoch in units of 2^-40 ns. `latch` is what R47
latched, `rem` the phase remainder of R54, `hold` the ADJ samples of R56 as (value, how often), newest first,
`ownSync` whether its own Sync has been timestamped since its master was lost (R58). -/
structure TimeBase where
  time : Nat := 0
  latch : Nat := 0
  rem : Int := 0
  hold : List (Int × Nat) := []
  ownSync : Bool := false
  deriving DecidableEq, Repr

/-- An entry of a port's timestamp FIFO (R51). -/
structure TxStamp where
  tag : Nat
  time : Nat
  deriving DecidableEq, Repr

/-- What waits for an ESN (R64, R65): an event record (R13), a packet received at a port, with its chain when it got one, a
record for a device-to-host ring (R348) whose ESN goes to byte `esnAt` and is that of the packet in chain `packet` when it is
a packet's entry, a completion record of Hook for a domain's queue (R123), or a swatch (R381). -/
inductive Arrival where
  | event (code inst dom sev : Nat) (args : List Byte)
  | packet (port : Nat) (chain : Option Nat)
  | ring (ring : Nat) (esnAt : Nat) (bytes : List Byte) (packet : Option Nat)
  | cq (dom : Nat) (bytes : List Byte)
  | swatch
  deriving DecidableEq, Repr

/-- An event record (Table 00-6). -/
structure EventRec where
  esn : Nat
  time : Nat
  code : Nat
  inst : Nat
  dom : Nat
  sev : Nat
  args : List Byte
  deriving DecidableEq, Repr

/-- TIM: `row` and `round` are the full counts N' and M' (R60), `clocks` the fabric clocks that have passed,
`rowRan` whether a row tick has run since cast-on, `rowFresh` and `roundFresh` whether none
has run since its enable was last set (R63), `esn` the next ESN, `limit` the
reservation limit in force, `low` and `pastLimit` whether its two events are still to be raised (R66), `queue`
what waits for an ESN, `stamps` the timestamp FIFOs by port. `free` counts the free values drawn so far and
`reported` lists every event record issued, newest first: these two are the model's own. -/
structure Tim where
  tbs : Tbl TimeBase := []
  row : Nat := 0
  round : Nat := 0
  clocks : Nat := 0
  rowRan : Bool := false
  rowFresh : Bool := true
  roundFresh : Bool := true
  esn : Nat := 0
  limit : Nat := 0
  low : Bool := true
  pastLimit : Bool := true
  queue : List Arrival := []
  stamps : Tbl (List TxStamp) := []
  free : Nat := 0
  reported : List EventRec := []
  deriving DecidableEq, Repr

/-- A write run of a pattern section (R26): BAR0 address of its first word, and the words. -/
structure WriteRun where
  addr : Nat
  words : List Word
  deriving DecidableEq, Repr

/-- An image load in progress (R44): its live runs, the scopes they touch (mask of R440), what the image says
of itself, its result so far (low byte of the event code of Table 02-6; 0x0A when every check passed), whether its runs
are written, and the key that signed it when one was checked. -/
structure Load where
  runs : List (List WriteRun)
  touched : Nat
  full : Bool
  digest : Nat
  secVersion : Nat
  swapAfter : Bool
  result : Nat
  written : Bool
  key : Option Nat
  deriving DecidableEq, Repr

/-- A swap request that has been written and not yet accepted (R33). -/
structure SwapReq where
  mask : Nat
  atTarget : Bool
  deriving DecidableEq, Repr

/-- PAT: requests before acceptance, whether the pending audio and network swaps came in one request (R39),
whether the audio swap has been sent and acknowledged, the boundary and generation the selvedge die holds, whether a
split has been reported and not ended (R40), whether the selvedge die holds its outputs muted for it, whether its next
report reads 0 (KB-1), and the load in progress. -/
structure Pat where
  reqs : List SwapReq := []
  joint : Bool := false
  sent : Bool := false
  acked : Bool := false
  sel : Option (Nat × Nat) := none
  split : Bool := false
  muted : Bool := false
  zeroReport : Bool := false
  load : Option Load := none
  deriving DecidableEq, Repr

/-- SWT: the captured copies of registers, of 64-bit counters and of the TIM and EGS state that other registers show
(R382), whether any were taken and whether the selvedge die's were not (R448), the VIEW bits by accessor (R383), records
dropped since a log last had space as (count, first ESN) by domain (R386), messages not yet sent by domain
(count), marks of SWT_TRIG_LOST this row, and the early buffer (R399). -/
structure Swt where
  copy : Tbl Word := []
  cntCopy : Tbl Nat := []
  timCopy : Tim := {}
  egsCopy : Egs := {}
  taken : Bool := false
  noSel : Bool := false
  view : Tbl Nat := []
  lost : Tbl (Nat × Nat) := []
  unsig : Tbl Nat := []
  trigMark : Bool := false
  early : List Arrival := []
  deriving DecidableEq, Repr

/-- An MSI-X table entry (R421). -/
structure Msix where
  addr : Nat := 0
  data : Nat := 0
  mask : Bool := true
  deriving DecidableEq, Repr

/-- The host's fields of a device-to-host entry (Table 20-6). -/
structure HostEntry where
  bufAddr : Nat := 0
  bufLen : Nat := 0
  action : Nat := 0
  deriving DecidableEq, Repr

/-- An entry that waits for its return (R352): its index, the chain, whether HST holds a share of it, the cause and the
port its frame came in at. -/
structure HeldEntry where
  index : Nat
  chain : Nat
  share : Bool
  cause : Nat
  port : Nat
  deriving DecidableEq, Repr

/-- A WAIT descriptor that is polling (R349). -/
structure Waiting where
  addr : Nat
  mask : Nat
  value : Nat
  left : Nat
  tag : Nat
  notify : Bool
  deriving DecidableEq, Repr

/-- HST: MSI-X entries by 512 × function + vector and the pending bits set, Bus Master Enable by function,
entries not yet signalled, WAITs, reserved completion entries, held chains and host fields by
16 × domain + ring (host fields by ring × 65,536 + slot), injections that wait for buffers with the row ticks they have
waited (R350), RING_FULL marks of the row,
bytes the device has written to host memory, and the messages sent (newest first). -/
structure Hst where
  msix : Tbl Msix := []
  pba : List Nat := []
  bme : Tbl Nat := []
  unsig : Tbl Nat := []
  waits : Tbl (Option Waiting) := []
  resv : Tbl Nat := []
  held : Tbl (List HeldEntry) := []
  fields : Tbl HostEntry := []
  inject : Tbl (Option (InjDesc × Nat)) := []
  fullMark : List Nat := []
  hostMem : List (Nat × Byte) := []
  msgs : List (Nat × Nat) := []
  deriving DecidableEq, Repr

/-- OTP (Table 21-1). Hashes, seeds and floors are numbers, little-endian over their bytes. -/
structure Otp where
  lc : Nat := 0
  uid : Nat := 0
  uidSet : Bool := false
  bootCfg : Nat := 0
  bootSet : Bool := false
  keyHash : Tbl Nat := []
  hashSet : List Nat := []
  revoke : Nat := 0
  fwFloor : Nat := 0
  patFloor : Nat := 0
  seeds : Tbl Nat := []
  deriving DecidableEq, Repr

/-- SEC: OTP, the accepted manifest keys by entry (R364), the record key (R362), the domain being bound off
(R375), the keys that signed the running firmware and the last full pattern applied (R366), a CHALLENGE that waits for
random bytes (R376), the states of a life-cycle change to report after READY, and a monitor trip to report (R377). -/
structure Sec where
  otp : Otp := {}
  keys : Tbl (List Byte) := []
  recordKey : Nat := 0
  binding : Option Nat := none
  fwKey : Option Nat := none
  patKey : Option Nat := none
  chalWait : Bool := false
  lcDone : Option (Nat × Nat) := none
  monTrip : Bool := false
  deriving DecidableEq, Repr

/-- SYS: RESET_N held low, thermal hold, the scope of the reset whose cast-on has not reached READY (0 none, 1 PCIe, 2 Warm,
3 Cold, 4 Power-on) and whether it wipes DRAM, whether P3 entry waits for D3hot, the states a power transition leaves and
enters, whether FLD_LINK_DOWN is to be raised after READY
(R399), the firmware's load address and entry (R398), and whether structural registers are still HL (R26). -/
structure Sys where
  pinLow : Bool := false
  thermal : Bool := false
  scope : Nat := 4
  wipe : Bool := false
  d3wait : Bool := false
  pwrOld : Nat := 0
  pwrTo : Nat := 0
  linkLate : Bool := false
  fwLoad : Nat := 0
  fwEntry : Nat := 0
  structOpen : Bool := true
  deriving DecidableEq, Repr

end Sys2Proof.Machine
end

