-- ==== Sys2Proof/Machine/Types/Dsp.lean ====
section
/-! DEFINITION. State of Hook (chapter 07) and of the ADSP cores, their shared memories and units (08, 09). -/

namespace Sys2Proof.Machine

/-- A row tick whose sweep has not ended (R125): running tasks marked late, the lowest group among them, whether rows
jumped (R126). -/
structure Sweep where
  running : Nat
  lowest : Option Nat
  jump : Bool
  deriving DecidableEq, Repr

/-- Hook: the queued descriptors of each group as numbers (little-endian over Table 07-1), AGE and CR by group, PTR by
level, the core last woken by skein, the completion queue records by domain, the sweep under way, the
once-per-row marks: SUBMIT_REFUSED by agent, CQ_OVERFLOW by domain, and whether the GIVE in hand came in the clock of the row
tick (R436). -/
structure Hok where
  groups : Tbl (List Nat) := []
  age : Tbl Nat := []
  cr : Tbl Nat := []
  ptr : Tbl Nat := []
  woken : Tbl Nat := []
  cq : Tbl (List (List Byte)) := []
  sweep : Option Sweep := none
  refMark : List Nat := []
  cqMark : List Nat := []
  atTick : Bool := false
  deriving DecidableEq, Repr

/-- Where a result goes: a core register (Table 08-1), a bank-2 register (Table 09-1), or bytes of X or Y memory. -/
inductive DspDest where
  | reg (r : Nat)
  | bank2 (r : Nat)
  | mem (y : Bool) (addr : Nat) (n : Nat)
  deriving DecidableEq, Repr

/-- A result on its way (R137): it lands when `left` more words have issued. -/
structure DspWrite where
  dest : DspDest
  value : Nat
  left : Nat
  deriving DecidableEq, Repr

/-- An ADSP core. `regs` holds the core registers but accumulators and FLG, `acc` and `flg` the accumulators (72 bits)
and FLG as they stand, `accOld` and `flgOld` as they stood before the last word (R137), `pipe` the results on their way,
oldest first. `branch` is a flow operation under way: its target if taken, the delay slots left and whether it is RTI. `state` is
HOK_CORE_STAT.STATE, `task` the held descriptor, `ending` a GIVE (1) or GIVE.Y (2) that waits for the units (R154).
`inIrq` says that an interrupt handler runs (R149), `postRes` is the result of the last POST (R118).
`cache` is the loop cache: 0 invalid, 1 filling, 2 valid. `asleep` says that
it waits in TAKE, halted or not; `skip` lets the next word
pass its breakpoint, `step` halts after it. -/
structure Core where
  regs : Tbl Nat := []
  acc : Tbl Nat := []
  accOld : Tbl Nat := []
  flg : Nat := 0
  flgOld : Nat := 0
  cyc : Nat := 0
  bank2 : Tbl Nat := []
  pipe : List DspWrite := []
  pc : Nat := 0
  branch : Option (Option Nat × Nat × Bool) := none
  state : Nat := 2
  task : Option Nat := none
  ending : Nat := 0
  inIrq : Bool := false
  postRes : Nat := 0
  cache : Nat := 0
  asleep : Bool := false
  skip : Bool := false
  step : Bool := false
  p : List Host.Cell := []
  x : List Host.Cell := []
  y : List Host.Cell := []
  deriving DecidableEq, Repr

/-- An ASRC context (R159): its ratio, the last input samples and the phase. -/
structure AsrcCtx where
  ratio : Nat := 0
  hist : List Word := []
  phase : Nat := 0
  deriving DecidableEq, Repr

/-- The skeins: cores by number, shared memory by skein, unit slots (Table 09-5, as numbers) by 16 × (3 × skein + unit) +
core, the commands that wait in each unit by 3 × skein + unit, as core and slot at GO (R158), ASRC contexts by 2,048 × skein + context,
and the cores whose DSP_UNIT_ERR has been raised this row. -/
structure Dsp where
  cores : Tbl Core := []
  shm : Tbl (List Host.Cell) := []
  slots : Tbl Nat := []
  units : Tbl (List (Nat × Nat)) := []
  asrc : Tbl AsrcCtx := []
  errMark : List Nat := []
  deriving DecidableEq, Repr

end Sys2Proof.Machine
end

