-- ==== Sys2Proof/Machine/Types/Mem.lean ====
section
/-! DEFINITION. State of the DRAM controllers (chapter 18). -/

namespace Sys2Proof.Machine

/-- A request in a controller's queue (R311): port, class (0 BULK, 1 MEDIA, 2 RT), 64-byte line, the data of a write, the
fabric clock at which it was accepted, and whether it has a panic port's priority (R312, R313). -/
structure DramReq where
  port : Nat
  cls : Nat
  line : Nat
  data : Option Nat
  since : Nat
  panic : Bool
  deriving DecidableEq, Repr

/-- A bank's open row and idle timer (R314). -/
structure OpenRow where
  row : Nat
  timer : Nat
  deriving DecidableEq, Repr

/-- One controller: its queue (oldest first), the requests stalled at its ports (R311), open rows by bank, whether its
writes drain (R312), command slots since the timers last ran, whether the last MR4 poll was hot (R309), the temperature
code of the last delay update and whether an update is due (R308). -/
structure DmcUnit where
  queue : List DramReq := []
  stalled : List DramReq := []
  banks : Tbl (Option OpenRow) := []
  drain : Bool := false
  slots : Nat := 0
  hot : Bool := false
  updateTemp : Nat := 0
  updateDue : Bool := false
  deriving DecidableEq, Repr

/-- The controllers, the poisoned lines that a port has read and not yet met as (port, line) (R316), and the once-per-row
marks: DMC_DOMAIN and DMC_RANGE by 16 × kind + port (R318), forced refresh and corrected reads by controller, and the
long panics reported by 16 × controller + port (R312). -/
structure Dmc where
  units : Tbl DmcUnit := []
  poison : List (Nat × Nat) := []
  denyMark : List Nat := []
  forcedMark : List Nat := []
  corrMark : List Nat := []
  longMark : List Nat := []
  deriving DecidableEq, Repr

end Sys2Proof.Machine
end

