-- ==== Sys2Proof/Machine/Types/Store.lean ====
section
/-! DEFINITION. State of the record store (chapter 19). -/

namespace Sys2Proof.Machine

/-- A unit (Table 19-1): its LSN and its 4,096 bytes, the payload in the clear. `seg` names the track slot and number of a
SEGMENT in staging; `copy` marks a refresh copy. -/
structure NandUnit where
  lsn : Nat
  bytes : List Byte
  seg : Option (Nat × Nat) := none
  copy : Bool := false
  deriving DecidableEq, Repr

/-- A programmed page: page number, member block (4 × die + plane), units. -/
structure NandPage where
  page : Nat
  member : Nat
  units : List NandUnit
  deriving DecidableEq, Repr

/-- A superblock (Table 19-4): state (0 FREE, 1 OPEN, 2 FULL, 3 REFRESH, 4 ERASING), erase count, members RETIRED, and pages in
the order they were programmed. -/
structure SuperBlk where
  st : Nat := 0
  ec : Nat := 0
  retired : List Nat := []
  pages : List NandPage := []
  deriving DecidableEq, Repr

/-- The NAND: superblocks, and the newest ROOT as (LSN, record key epoch). It outlives every reset and power loss. -/
structure Nand where
  blocks : Tbl SuperBlk := []
  root : Option (Nat × Nat) := none
  deriving DecidableEq, Repr

/-- A track slot: STATE (0 IDLE, 1 ARMED, 2 RECORDING, 3 CLOSING), KIND, SOURCE, TRACK_ID, START_ROW, END_ROW, LAST_LSN,
SEGMENTS, GAP_ROWS, the source's domain, the next row to copy, and the segment in staging: its number, the rows copied and
the bits of those missing. -/
structure Track where
  st : Nat := 0
  kind : Nat := 0
  source : Nat := 0
  id : Nat := 0
  first : Nat := 0
  stop : Nat := 0
  last : Nat := 0
  segs : Nat := 0
  gaps : Nat := 0
  dom : Nat := 0
  next : Nat := 0
  seg : Nat := 0
  rows : List (List Byte) := []
  missing : Nat := 0
  deriving DecidableEq, Repr

/-- NFC: track slots, units that wait to be programmed, oldest first, the superblock the head writes and the next page and
member it takes, and the highest LSN assigned. -/
structure Nfc where
  tracks : Tbl Track := []
  queue : List NandUnit := []
  head : Option Nat := none
  page : Nat := 0
  member : Nat := 0
  top : Nat := 0
  deriving DecidableEq, Repr

end Sys2Proof.Machine
end

