-- ==== Sys2Proof/Machine/Types/Video.lean ====
section
/-! DEFINITION. State of the video blocks: decode and encode contexts (chapter 13), compositors and display outputs (14)
and the square stitcher (15). -/

namespace Sys2Proof.Machine

/-- How long a core, pipe or stitcher unit has worked: fabric clock at which its present work began to count, clocks of
this round, and those of the last 60 rounds, newest first. -/
structure Busy where
  since : Option Nat := none
  acc : Nat := 0
  hist : List Nat := []
  deriving DecidableEq, Repr

/-- A packet that a picture holds: sequence number, the chain its verdict will name, its place and length in the bitstream
ring, marker, verified. -/
structure VidPkt where
  seq : Nat
  chain : Nat
  off : Nat
  len : Nat
  marker : Bool
  verified : Bool
  deriving DecidableEq, Repr

/-- A picture of a decode context or tile: RTP timestamp, packets by sequence number, whether a packet of it was discarded,
the draw its header is read with, its place in the order of readiness, whether HOLD_MS runs, whether it waits for a slot,
the core that decodes it, the slot and its address, whether its decode has ended, and whether it is lost, rolled back or
skipped and only keeps its place in the sequence. -/
structure Picture where
  ts : Nat
  pkts : List VidPkt := []
  short : Bool := false
  z : Nat := 0
  ready : Option Nat := none
  hold : Bool := false
  stuck : Bool := false
  core : Option Nat := none
  slot : Option (Nat × Nat) := none
  ended : Bool := false
  dead : Bool := false
  deriving DecidableEq, Repr

/-- A source of key requests: consecutive PLIs, FIR sequence number, and round of the last request (R227, R264). -/
structure Asker where
  plis : Nat := 0
  fir : Nat := 0
  at_ : Option Nat := none
  deriving DecidableEq, Repr

/-- The stream a context or tile assembles: its pictures, oldest first; the sequence number after the last picture that
ended and the timestamp of that picture. -/
structure Stream where
  pics : List Picture := []
  next : Option Nat := none
  last : Option Nat := none
  deriving DecidableEq, Repr

/-- What a decode context's record does not show: its stream, where the bitstream ring is written next, which state copy is
current, its requests, whether a commit is to raise VDE_RECOVERED, the mark of VDE_UNSUPPORTED, whether it has committed a
picture since it left OFF, and whether RESET turns it on at the next round (R236). -/
structure VdeCtx where
  str : Stream := {}
  put : Nat := 0
  copy : Bool := false
  ask : Asker := {}
  recover : Bool := false
  unsup : Bool := false
  shown : Bool := false
  reset : Bool := false
  deriving DecidableEq, Repr

/-- VDE: records, active and shadow; the rest of each context; pictures made ready so far; the marks of the round. -/
structure Vde where
  recs : Tbl Nat := []
  recSh : Tbl Nat := []
  ctxs : Tbl VdeCtx := []
  order : Nat := 0
  lostMark : List Nat := []
  slotMark : Bool := false
  deriving DecidableEq, Repr

/-- A frame being encoded: its round, the compositor's surface it reads, bands started, encodings as (number, key), and the
temporal layer of each. -/
structure EncFrame where
  round : Nat
  surf : Option Nat
  bands : List Nat := []
  encs : List (Nat × Bool × Nat) := []
  deriving DecidableEq, Repr

/-- What an encode context's record does not show: the frame in hand, encodings whose next frame is a key frame, frames
since each encoding's key frame, ACTIVE of the last frame, and packets made so far. -/
structure VenCtx where
  frame : Option EncFrame := none
  due : Nat := 0
  since : Tbl Nat := []
  active : Nat := 0
  made : Nat := 0
  deriving DecidableEq, Repr

/-- VEN: records, active and shadow; the rest of each context; the mark of VEN_LATE. -/
structure Ven where
  recs : Tbl Nat := []
  recSh : Tbl Nat := []
  ctxs : Tbl VenCtx := []
  lateMark : Bool := false
  deriving DecidableEq, Repr

/-- A frame of a compositor: its round, whether its pipe runs it, its surface, the slots it holds (decode context, slot),
the layers it composes from the bottom up, as (descriptor, shows FILL), and whether it rebuilds the cache. -/
structure CmpFrame where
  round : Nat
  running : Bool := false
  surf : Nat := 0
  holds : List (Nat × Nat) := []
  plan : List (Nat × Bool) := []
  rebuild : Bool := false
  deriving DecidableEq, Repr

/-- A compositor instance: the frame in hand, whether a complete frame exists, whether the
cache is to be rebuilt, what the cache was flattened from, the marks of the commit (CMP_LAYER_BAD by layer,
CMP_CACHE_SMALL), the first round at which an accepted commit may apply, and whether it was enabled. -/
structure Ci where
  frame : Option CmpFrame := none
  complete : Bool := false
  rebuild : Bool := false
  run : List (Nat × Bool) := []
  badMark : List Nat := []
  smallMark : Bool := false
  commitAt : Option Nat := none
  on : Bool := false
  deriving DecidableEq, Repr

/-- CMP: instances, and the marks of the round (CMP_LATE, CMP_NO_SURF). -/
structure Cmp where
  cis : Tbl Ci := []
  lateMark : Bool := false
  surfMark : Bool := false
  deriving DecidableEq, Repr

/-- An AUX transaction (R256): OP, address, length, bytes to write, DEFERs so far, whether it waits for training to end. -/
structure Aux where
  op : Nat
  addr : Nat
  len : Nat
  bytes : List Byte
  defers : Nat := 0
  waiting : Bool := false
  deriving DecidableEq, Repr

/-- A display output: the surface it scans and its frame's round, how often that frame was taken, the AUX transaction, the
marks of DPO_UNDERFLOW (frame) and DPO_LOCK_LOST. -/
structure Dpo where
  scan : Option (Nat × Nat) := none
  takes : Nat := 0
  aux : Option Aux := none
  underMark : Bool := false
  lostMark : Bool := false
  deriving DecidableEq, Repr

/-- What a tile entry does not show: its stream (pictures wait whole and verified) and its requests. -/
structure SqsTile where
  str : Stream := {}
  ask : Asker := {}
  deriving DecidableEq, Repr

/-- A gallery frame in hand: its round, whether it runs, whether it is a key frame, bytes of the pictures it copies, and
skip tiles. -/
structure GalFrame where
  round : Nat
  running : Bool := false
  key : Bool := false
  pictures : List (List Byte) := []
  skips : Nat := 0
  deriving DecidableEq, Repr

/-- What a gallery's record does not show: the frame in hand, whether a key frame is due at the next frame, the round of the
last one, frames since it, and where the ring is written next. -/
structure SqsGal where
  frame : Option GalFrame := none
  due : Bool := false
  keyAt : Option Nat := none
  count : Nat := 0
  put : Nat := 0
  deriving DecidableEq, Repr

/-- SQS: gallery records and tile entries, active and shadow; the rest of each; the mark of SQS_LATE. -/
structure Sqs where
  gals : Tbl Nat := []
  galSh : Tbl Nat := []
  tiles : Tbl Nat := []
  tileSh : Tbl Nat := []
  gstate : Tbl SqsGal := []
  tstate : Tbl SqsTile := []
  lateMark : Bool := false
  deriving DecidableEq, Repr

end Sys2Proof.Machine
end

