-- ==== Sys2Proof/Machine/State.lean ====
section
/-! DEFINITION. The state of the block, its reset value, and the reasons a step can stop. -/

namespace Sys2Proof.Machine

/-- Everything the manual gives the device. `regs` holds every register of the map at its BAR0 address (the active
copy of an SH register), `shadow` the shadow copies (R5), `lv` LV writes that wait for the next unit of work (R42),
`cnt` the 64-bit counters by the address of their LO half and `hiLatch` their HI halves as last latched (R384), `dram` device DRAM and `sram` the on-die staging
area (R397). The other fields are the blocks'. -/
structure Dev where
  regs : Tbl Word := []
  shadow : Tbl Word := []
  lv : Tbl Word := []
  cnt : Tbl Nat := []
  hiLatch : Tbl Word := []
  dram : List Host.Cell := []
  sram : List Host.Cell := []
  tim : Tim := {}
  pat : Pat := {}
  swt : Swt := {}
  hst : Hst := {}
  sec : Sec := {}
  sys : Sys := {}
  bpm : Bpm := {}
  net : Net := {}
  cls : Cls := {}
  ing : Ing := {}
  cip : Cip := {}
  fwd : Fwd := {}
  leg : Leg := {}
  egs : Egs := {}
  dmc : Dmc := {}
  hok : Hok := {}
  dsp : Dsp := {}
  jbf : Jbf := {}
  cab : Cab := {}
  field : Fld := {}
  vde : Vde := {}
  ven : Ven := {}
  cmp : Cmp := {}
  dpo : Tbl Dpo := []
  busy : Tbl Busy := []
  sqs : Sqs := {}
  nand : Nand := {}
  nfc : Nfc := {}
  deriving DecidableEq, Repr

/-- The device and the commands that wait, first in, first out. -/
structure State where
  dev : Dev := {}
  pending : List Instr := []
  deriving DecidableEq, Repr

/-- Reasons a step stops with a fault: none. Every access the manual forbids has an effect it states (an event, a
result code, an ignored write), so no command faults. -/
inductive Fault where
  deriving DecidableEq, Repr

/-- Reasons a step refuses. -/
inductive Refusal where
  /-- A command whose meaning is not written: raised by the dispatch only; safe. -/
  | notModelled (mnemonic : String)
  deriving DecidableEq, Repr

/-- The device right after reset, before cast-on: every register at the value its description line gives, every
memory as an unlisted address reads, no command waiting (assumption 1). -/
def State.reset : State := {}

end Sys2Proof.Machine
end

