-- ==== Sys2Proof/Machine/Ops.lean ====
section
/-! DEFINITION. Shared operations: registers and their fields, counters (R384), memory, event arrivals (R64, R65),
time (R45), domains (R340, R374), record tables, and the shape of a command's outcome. -/

namespace Sys2Proof.Machine

/-- Table entry with one default for every key. -/
def tat {α : Type} (dflt : α) (m : Tbl α) (k : Nat) : α := tget (fun _ => dflt) m k

/-- Table update with one default for every key. -/
def tset {α : Type} [DecidableEq α] (dflt : α) (m : Tbl α) (k : Nat) (v : α) : Tbl α := tput (fun _ => dflt) m k v

/-- The word a register holds (the active copy of an SH register). -/
def Dev.reg (d : Dev) (a : Nat) : Word := tget regReset d.regs a

/-- The device with a register holding `v`. -/
def Dev.setReg (d : Dev) (a : Nat) (v : Word) : Dev := { d with regs := tput regReset d.regs a v }

/-- The shadow copy of an SH register (R5), named by the address of its active copy. -/
def Dev.sh (d : Dev) (a : Nat) : Word := tget regReset d.shadow a

/-- The device with a shadow copy holding `v`. -/
def Dev.setSh (d : Dev) (a : Nat) (v : Word) : Dev := { d with shadow := tput regReset d.shadow a v }

/-- Field `[hi:lo]` of a register. -/
def Dev.fld (d : Dev) (a hi lo : Nat) : Nat := wfld (d.reg a) hi lo

/-- Bit `i` of a register. -/
def Dev.bit (d : Dev) (a i : Nat) : Bool := wbit (d.reg a) i

/-- The device with a register's field replaced. -/
def Dev.setFld (d : Dev) (a hi lo v : Nat) : Dev := d.setReg a (wset (d.reg a) hi lo v)

/-- The device with a register's bit replaced. -/
def Dev.setBit (d : Dev) (a i : Nat) (b : Bool) : Dev := d.setFld a i i b.toNat

/-- A 32-bit counter raised by `k`, saturating (R384). -/
def Dev.count (d : Dev) (a : Nat) (k : Nat := 1) : Dev := d.setReg a (satAdd (d.reg a) k)

/-- A 64-bit counter named by its LO half, raised by `k`, wrapping (R384). -/
def Dev.count64 (d : Dev) (lo : Nat) (k : Nat := 1) : Dev :=
  { d with cnt := tset 0 d.cnt lo ((tat 0 d.cnt lo + k) % 2 ^ 64) }

/-- Value of a two-register quantity (R3). -/
def Dev.reg64 (d : Dev) (lo hi : Nat) : Nat := (d.reg lo).toNat + 2 ^ 32 * (d.reg hi).toNat

/-- A two-register quantity written (R3). -/
def Dev.setReg64 (d : Dev) (lo hi v : Nat) : Dev := (d.setReg lo (w32 v)).setReg hi (w32 (v / 2 ^ 32))

/-- Words of consecutive registers as bytes (R2) (assumption 10). -/
def Dev.regBytes (d : Dev) (a : Nat) : Nat → List Byte
  | 0 => []
  | n + 1 => leBytes 4 (d.reg a).toNat ++ d.regBytes (a + 4) n

/-- Consecutive registers as one number, the lowest offset holding the least significant word (R3). -/
def Dev.regsNat (d : Dev) (a : Nat) : Nat → Nat
  | 0 => 0
  | n + 1 => (d.reg a).toNat + 2 ^ 32 * d.regsNat (a + 4) n

/-- A number written over `n` consecutive registers (R3). -/
def Dev.setRegsNat (d : Dev) (a v : Nat) : Nat → Dev
  | 0 => d
  | n + 1 => Dev.setRegsNat (d.setReg a (w32 v)) (a + 4) (v / 2 ^ 32) n

/-! ### Records held as numbers -/

/-- `n` bytes at byte `off` of a record (R2). -/
def rf (r off n : Nat) : Nat := r / 256 ^ off % 256 ^ n

/-- Bits `[hi:lo]` counted from byte `off` of a record. -/
def rbits (r off hi lo : Nat) : Nat := nfld (r / 256 ^ off) hi lo

/-- A record with `n` bytes at byte `off` replaced. -/
def rset (r off n v : Nat) : Nat := r - rf r off n * 256 ^ off + (v % 256 ^ n) * 256 ^ off

/-- A record with bits `[hi:lo]`, counted from byte `off`, replaced. -/
def rsetBits (r off hi lo v : Nat) : Nat :=
  r - rbits r off hi lo * 2 ^ lo * 256 ^ off + (v % 2 ^ (hi + 1 - lo)) * 2 ^ lo * 256 ^ off

/-- A 32-bit counter in a record, raised by `k`, saturating. -/
def rcount (r off : Nat) (k : Nat := 1) : Nat := rset r off 4 (min (rf r off 4 + k) 0xFFFFFFFF)

/-- The bits of `new` where `mask` has ones, the bits of `old` elsewhere. -/
def mix (mask old new : Nat) : Nat := (old &&& mask) ^^^ old ||| (new &&& mask)

/-! ### Memory -/

/-- Bytes `[a, a+n)` of a memory; an unlisted byte reads zero (assumption 8). -/
def memRead (m : List Host.Cell) (a n : Nat) : List Byte := tgets (fun _ => (0 : Byte)) m a n

/-- The listed cells of a block of bytes: zeros are not listed. -/
def blockCells (a : Nat) : List Byte → List Host.Cell
  | [] => []
  | b :: t => if b = 0 then blockCells (a + 1) t else (a, b) :: blockCells (a + 1) t

/-- The cells below `a`. -/
def cellsBelow (m : List Host.Cell) (a : Nat) : List Host.Cell := m.filter (fun c => decide (c.1 < a))

/-- The cells at or above `a`. -/
def cellsFrom (m : List Host.Cell) (a : Nat) : List Host.Cell := m.filter (fun c => decide (a ≤ c.1))

/-- A memory with `bytes` written from `a` on (assumption 8). -/
def memWrite (m : List Host.Cell) (a : Nat) (bytes : List Byte) : List Host.Cell :=
  cellsBelow m a ++ blockCells a bytes ++ cellsFrom m (a + bytes.length)

/-- A memory with `[a, a+n)` zero. -/
def memZero (m : List Host.Cell) (a n : Nat) : List Host.Cell := cellsBelow m a ++ cellsFrom m (a + n)

/-- Canonical form of a memory: addresses strictly rising, no zero listed (assumption 8). -/
def Memory.wf (m : List Host.Cell) : Bool := wfFrom (fun _ => (0 : Byte)) 0 m

/-- Device DRAM read. -/
def Dev.dramRead (d : Dev) (a n : Nat) : List Byte := memRead d.dram a n

/-- Device DRAM written. -/
def Dev.dramWrite (d : Dev) (a : Nat) (bytes : List Byte) : Dev := { d with dram := memWrite d.dram a bytes }

/-! ### Arrivals at TIM -/

/-- Something takes its place in TIM's queue (R64). -/
def Dev.post (d : Dev) (x : Arrival) : Dev := { d with tim := { d.tim with queue := d.tim.queue ++ [x] } }

/-- Ten argument bytes (R13): argument bytes an entry does not name are zero. -/
def args10 (l : List Byte) : List Byte := (l ++ List.replicate 10 0).take 10

/-- An event is reported (R11 to R13): code, instance, domain and argument bytes from byte 22 on. -/
def Dev.raise (d : Dev) (code inst : Nat) (dom : Nat := 0) (args : List Byte := []) : Dev :=
  d.post (.event code inst dom (severity code) (args10 args))

/-- A value no rule states, different at every draw (the counter is the model's own) (assumption 7). -/
def Dev.draw (d : Dev) : Nat × Dev := (d.tim.free, { d with tim := { d.tim with free := d.tim.free + 1 } })

/-! ### Time -/

/-- Time base `k`. -/
def Dev.tb (d : Dev) (k : Nat) : TimeBase := tat {} d.tim.tbs k

/-- Time base `k` replaced. -/
def Dev.setTb (d : Dev) (k : Nat) (t : TimeBase) : Dev :=
  { d with tim := { d.tim with tbs := tset {} d.tim.tbs k t } }

/-- Nanoseconds of a time base since the PTP epoch (R45), fraction dropped. -/
def Dev.tbNs (d : Dev) (k : Nat) : Nat := (d.tb k).time / 2 ^ 40

/-- The row time base (R59). -/
def Dev.rowTb (d : Dev) : Nat := d.fld Reg.TIM_TICK_SRC 2 0

/-- Nanoseconds of the row time base (R65). -/
def Dev.rowNs (d : Dev) : Nat := d.tbNs d.rowTb

/-- Nanoseconds of a port's time base (R48). -/
def Dev.portNs (d : Dev) (p : Nat) : Nat := d.tbNs (d.fld (Reg.TIM_PORT_CFG p) 10 8)

/-- The row number modulo 2^32 (R59). -/
def Dev.row32 (d : Dev) : Nat := d.tim.row % 2 ^ 32

/-- The round number modulo 2^32 (R59). -/
def Dev.round32 (d : Dev) : Nat := d.tim.round % 2 ^ 32

/-- The update ticks (µs) that have passed (R85). -/
def Dev.usec (d : Dev) : Nat := d.tim.clocks / 1500

/-- A timestamp as the 96 bits of R45 laid out FRAC, NS, seconds (Table 20-5). -/
def tsBytes (t : Nat) : List Byte :=
  leBytes 2 (t / 2 ^ 24 % 2 ^ 16) ++ leBytes 4 (t / 2 ^ 40 % 10 ^ 9) ++ leBytes 6 (t / 2 ^ 40 / 10 ^ 9)

/-- House index at a clock rate in Hz, of a time of the row time base (R62). -/
def Dev.houseIndex (d : Dev) (rate ns : Nat) : Nat :=
  (ns - d.fld Reg.TIM_ROW_OFFSET 18 0) * rate / 10 ^ 9 % 2 ^ 32

/-! ### Device conditions -/

/-- Cast-on has reached READY (R396). -/
def Dev.ready (d : Dev) : Bool := d.bit Reg.SYS_CASTON 31

/-- Life-cycle state (R360). -/
def Dev.lcState (d : Dev) : Nat := d.fld Reg.SEC_LC_STAT 2 0

/-- RETIRED (R363) (assumption 116). -/
def Dev.retired (d : Dev) : Bool := d.lcState == 4

/-- Power state (R400). -/
def Dev.power (d : Dev) : Nat := d.fld Reg.SYS_PWR_STAT 1 0

/-- Debug level (R369). -/
def Dev.level (d : Dev) : Nat := d.fld Reg.SEC_LC_STAT 9 8

/-- No field audio on this board (R390). -/
def Dev.fldAbsent (d : Dev) : Bool := d.bit Reg.SYS_CFG 0

/-- The isolation link is up. -/
def Dev.linkUp (d : Dev) : Bool := d.bit Reg.FLD_LINK_STAT 8

/-- Video blocks' regions (Table 23-8, first row). -/
def videoRegion (n : Nat) : Bool := decide (40 ≤ n ∧ n ≤ 45)

/-- Regions of the blocks of Table 23-8, second row. -/
def mediaRegion (n : Nat) : Bool := decide ((8 ≤ n ∧ n ≤ 20) ∨ (24 ≤ n ∧ n ≤ 36) ∨ n = 56)

/-- Whether a region's block is powered down (Table 23-8). -/
def Dev.regionOff (d : Dev) (n : Nat) : Bool :=
  (videoRegion n && decide (1 ≤ d.power)) || (mediaRegion n && decide (2 ≤ d.power)) ||
    (decide (3 ≤ d.power) && decide (n ≠ 0) && decide (n ≠ 1))

/-! ### Domains -/

/-- Domain of virtual function `n`, 0 for the PF and for an unbound VF (R340). -/
def Dev.fnDomain (d : Dev) (n : Nat) : Nat := if n = 0 then 0 else d.fld (Reg.HST_VF_DOM n) 3 0

/-- Whether a function serves a domain's accesses at all (R340: an unbound VF reads zero and writes nothing). -/
def Dev.fnBound (d : Dev) (n : Nat) : Bool := n == 0 || d.fnDomain n != 0

/-- The function that serves a domain: its bound VF, or the PF (R340). -/
def Dev.serving (d : Dev) (dom : Nat) : Nat :=
  if dom = 0 then 0 else ((List.range 16).find? (fun n => decide (n ≠ 0) && d.fnDomain n == dom)).getD 0

/-- An access as a block sees it: the domain it carries, the agent it acts as (R115), and the SWT_VIEW bank of its
maker (R383): 0–15 functions, 16–19 control cores, 20 the debug port. -/
structure Access where
  dom : Nat
  agent : Nat
  bank : Nat
  debug : Bool
  deriving DecidableEq, Repr

/-- The debug port reaches any register: level FULL, or life-cycle state BLANK or PROVISION (Table 21-3). -/
def Dev.debugAny (d : Dev) : Bool := d.level == 3 || decide (d.lcState ≤ 1)

/-- The access a requester makes, none for an unbound VF (R340, R374) or a debug port whose level does not open the
registers (R369). -/
def Dev.access (d : Dev) : Requester → Option Access
  | .fn n => if d.fnBound n then some ⟨d.fnDomain n, 42, n, false⟩ else none
  | .core n => some ⟨0, 44 + n, 16 + n, false⟩
  | .ring x => some ⟨x, 42, d.serving x, false⟩
  | .debug => if d.debugAny then some ⟨0, 42, 20, true⟩ else none

/-- A window of domain `w` may be used by SD0 and by domain `w` (R340, R374). -/
def Access.mayUse (a : Access) (w : Nat) : Bool := a.dom == 0 || a.dom == w

/-- Legs of a domain: first leg and how many (SEC_DOM_LEG). -/
def Dev.legRange (d : Dev) (dom : Nat) : Nat × Nat :=
  (64 * d.fld (Reg.SEC_DOM_LEG dom) 6 0, 64 * d.fld (Reg.SEC_DOM_LEG dom) 23 16)

/-- Whether leg `l` lies in domain `dom`'s range. -/
def Dev.legIn (d : Dev) (dom l : Nat) : Bool :=
  decide ((d.legRange dom).1 ≤ l ∧ l < (d.legRange dom).1 + (d.legRange dom).2)

/-- Domain of a leg; a leg in no range is SD0's (R374). -/
def Dev.legDomain (d : Dev) (l : Nat) : Nat :=
  ((List.range 16).find? (fun x => decide (x ≠ 0) && d.legIn x l)).getD 0

/-- Whether domain `dom`'s window reaches leg `l`; SD0 reaches every leg (R374). -/
def Dev.mayLeg (d : Dev) (dom l : Nat) : Bool := dom == 0 || d.legIn dom l

/-! ### Ports and classes of the egress tree (R290) -/

/-- Leg group of a leg. -/
def Dev.legGroup (d : Dev) (l : Nat) : Nat := d.fld (Reg.EGS_LEG_MAP l) 9 0

/-- Port-class node of a leg group. -/
def Dev.classNode (d : Dev) (g : Nat) : Nat := d.fld (Reg.EGS_LG_MAP g) 5 0

/-- Port-class node of a leg. -/
def Dev.legNode (d : Dev) (l : Nat) : Nat := d.classNode (d.legGroup l)

/-- Egress port of a leg. -/
def Dev.legPort (d : Dev) (l : Nat) : Nat := d.legNode l / 8

/-- NET_PORT_STAT.STATE (Table 04-2). -/
def Dev.portState (d : Dev) (p : Nat) : Nat := d.fld (Reg.NET_PORT_STAT p) 2 0

/-- The port is UP. -/
def Dev.portUp (d : Dev) (p : Nat) : Bool := d.portState p == 3

/-- Largest accepted frame with FCS. -/
def Dev.maxFrame (d : Dev) (p : Nat) : Nat := d.fld (Reg.NET_PORT_CFG p) 29 16

/-- A port that the lane mode does not form: its registers read as zero and ignore writes (R68). -/
def Dev.portAbsent (d : Dev) (p : Nat) : Bool := d.fld Reg.NET_LANE_MODE 1 0 == 0 && decide (4 ≤ p)

/-! ### Bytes and lists -/

/-- A list with no value twice, `x` added when absent. -/
def addMark (l : List Nat) (x : Nat) : List Nat := if x ∈ l then l else l ++ [x]

/-- Fold a device change over a list. -/
def Dev.forEach {α : Type} (d : Dev) (l : List α) (f : Dev → α → Dev) : Dev := l.foldl f d

/-! ### LV writes that wait for a unit of work (R42, R43) -/

/-- The bits of a register that take its own type. -/
def RegRow.own (r : RegRow) : Nat := r.mask &&& (r.ro ||| r.w1c ||| r.wo) ^^^ r.mask

/-- An LV write waits for the block's next unit of work (R42) (assumption 19). -/
def Dev.lvWrite (d : Dev) (a : Nat) (v : Word) : Dev := { d with lv := tinsert (terase d.lv a) a v }

/-- A waiting LV write takes effect: its own fields are replaced. -/
def Dev.lvApply (d : Dev) (a : Nat) (v : Word) : Dev :=
  d.setReg a (w32 (mix ((regRow a).elim 0xFFFFFFFF RegRow.own) (d.reg a).toNat v.toNat))

/-- The LV writes that wait at the addresses `p` names take effect: the start of a unit of work (R42) (assumption 19). -/
def Dev.lvTake (d : Dev) (p : Nat → Bool) : Dev :=
  let now : Tbl Word := d.lv.filter (fun e => p e.1)
  let later : Tbl Word := d.lv.filter (fun e => !p e.1)
  { d with lv := later }.forEach now (fun d e => d.lvApply e.1 e.2)

/-- The LV writes that wait at addresses in `[lo, hi)` take effect. -/
def Dev.lvCommit (d : Dev) (lo hi : Nat) : Dev := d.lvTake (fun a => decide (lo ≤ a ∧ a < hi))

/-- The LV writes that wait in region `n` take effect. -/
def Dev.lvRegion (d : Dev) (n : Nat) : Dev := d.lvCommit (n * 2 ^ 20) ((n + 1) * 2 ^ 20)

/-- A waiting LV write. -/
def Dev.lvAt (d : Dev) (a : Nat) : Option Word := lookup d.lv a

/-- The device without the write that waits at `a`. -/
def Dev.lvDrop (d : Dev) (a : Nat) : Dev := { d with lv := terase d.lv a }

end Sys2Proof.Machine
end

