-- ==== Sys2Proof/Machine/Flags.lean ====
section
/-! DEFINITION. FLG of an ADSP core and the arithmetic that sets it: accumulators (R134), extraction (R135), exponents
(R136) and the ALU (chapter 08, FLG and OPM). -/

namespace Sys2Proof.Machine

/-- FLG bits. -/
abbrev flgZ : Nat := 0
/-- Result negative. -/
abbrev flgNG : Nat := 1
/-- Carry. -/
abbrev flgCY : Nat := 2
/-- Overflow of the last add or subtract. -/
abbrev flgOV : Nat := 3
/-- Sticky: an ALU operation overflowed. -/
abbrev flgALUOV : Nat := 8
/-- Sticky: an accumulator operation overflowed. -/
abbrev flgACCOV : Nat := 9
/-- Sticky: an extraction saturated. -/
abbrev flgXSAT : Nat := 10
/-- Sticky: two results collided. -/
abbrev flgCOLL : Nat := 11

/-- A number with one bit set to `b`. -/
def putBit (n i : Nat) (b : Bool) : Nat := n - nfld n i i * 2 ^ i + b.toNat * 2 ^ i

/-- A sticky bit: set by `b`, never cleared. -/
def stick (n i : Nat) (b : Bool) : Nat := if b then putBit n i true else n

/-- Z and NG of a 32-bit result (assumption 58). -/
def flagsOf (flg v : Nat) : Nat := putBit (putBit flg flgZ (v == 0)) flgNG (v.testBit 31)

/-- A move into FLG: W1C clears sticky bits, [3:0] are written, OVA is read-only. -/
def flgMove (flg v : Nat) : Nat := mix 0xF (mix (v &&& 0xF00) flg 0) v

/-! ### Accumulators -/

/-- Largest accumulator value. -/
abbrev max72 : Int := 2 ^ 71 - 1
/-- Smallest accumulator value. -/
abbrev min72 : Int := -(2 ^ 71)

/-- The exact result `s` of an accumulator operation as R134 keeps it: 72 bits, and whether it overflowed. -/
def accKeep (sat : Bool) (s : Int) : Nat × Bool :=
  if s > max72 ∨ s < min72 then (if sat then uNat 72 (if s > 0 then max72 else min72) else uNat 72 s, true)
  else (uNat 72 s, false)

/-- FLG after an operation on accumulator `a` (R134). -/
def accFlags (flg a : Nat) (big : Bool) : Nat := putBit (stick flg flgACCOV big) (12 + a) big

/-- Products of Table 08-3 as (accumulator, value). -/
def products (form acc : Nat) (x y : Nat) : List (Nat × Int) :=
  match form with
  | 0 => [(acc, sInt 32 x * sInt 32 y * 2)]
  | 1 => [(acc, sInt 32 x * sInt 32 y)]
  | 2 => [(acc, uProduct x y)]
  | _ =>
    let j := acc % 2
    [(2 * j, dual x y 0), (2 * j + 1, dual x y 16)]
where
  /-- The unsigned product in [63:0], guard bits zero. -/
  uProduct (x y : Nat) : Int := (x % 2 ^ 32 * (y % 2 ^ 32) : Nat)
  /-- A dual fractional product at [63:32]. -/
  dual (x y lo : Nat) : Int := sInt 16 (x >>> lo) * sInt 16 (y >>> lo) * 2 * 2 ^ 32

/-- Value of MPY (0), MAC (1) or MSU (2) of a product onto an accumulator (R133). -/
def macValue (op : Nat) (acc p : Int) : Int := match op with
  | 0 => p
  | 1 => acc + p
  | _ => acc - p

/-- Convergent rounding of `v / 2^k` (R135). -/
def roundEven (v : Int) (k : Nat) : Int :=
  let q := v / 2 ^ k
  let r := v - q * 2 ^ k
  let half : Int := 2 ^ (k - 1)
  if r > half ∨ (r = half ∧ q % 2 ≠ 0) then q + 1 else q

/-- An extraction with `k` discarded bits into `n` bits: the result and whether it saturated (R135). -/
def extractTo (n : Nat) (v : Int) (k : Nat) : Nat × Bool :=
  let q := roundEven v k
  if q > 2 ^ (n - 1) - 1 then (2 ^ (n - 1) - 1, true)
  else if q < -(2 ^ (n - 1)) then (2 ^ (n - 1), true)
  else (uNat n q, false)

/-- Bits below the sign of an `n`-bit value that equal it. -/
def signRun (n v : Nat) : Nat := run (v.testBit (n - 1)) (n - 1)
where
  /-- Length of the run of `s` from bit `k - 1` down. -/
  run (s : Bool) : Nat → Nat
    | 0 => 0
    | k + 1 => if v.testBit k == s then run s k + 1 else 0

/-- EXP of an accumulator (R136): redundant sign bits less 8. -/
def expAcc (acc : Nat) : Int := (signRun 72 acc : Int) - 8

/-! ### ALU -/

/-- A 16-bit or 32-bit add or subtract with exact sum `s` over `n` bits, and whether it overflowed. -/
def addKeep (n : Nat) (sat : Bool) (s : Int) : Nat × Bool :=
  if s > 2 ^ (n - 1) - 1 then (if sat then 2 ^ (n - 1) - 1 else uNat n s, true)
  else if s < -(2 ^ (n - 1)) then (if sat then 2 ^ (n - 1) else uNat n s, true)
  else (uNat n s, false)

/-- Sum or difference of signed `n`-bit readings. -/
def addExact (n : Nat) (sub : Bool) (a b : Nat) : Int := if sub then sInt n a - sInt n b else sInt n a + sInt n b

/-- Result and FLG of a 32-bit add or subtract. -/
def aluAdd (sat sub : Bool) (flg a b : Nat) : Nat × Nat :=
  let r := addKeep 32 sat (addExact 32 sub a b)
  let cy := if sub then Config.subCarry (w32 a) (w32 b) else decide (2 ^ 32 ≤ a % 2 ^ 32 + b % 2 ^ 32)
  (r.1, stick (putBit (putBit (flagsOf flg r.1) flgOV r.2) flgCY cy) flgALUOV r.2)

/-- Result and FLG of a dual 16-bit add or subtract. -/
def aluAdd2 (sat sub : Bool) (flg a b : Nat) : Nat × Nat :=
  let lo := addKeep 16 sat (addExact 16 sub a b)
  let hi := addKeep 16 sat (addExact 16 sub (a >>> 16) (b >>> 16))
  let v := lo.1 + 2 ^ 16 * hi.1
  let ov := lo.2 || hi.2
  (v, stick (putBit (putBit (flagsOf flg v) flgOV ov) flgCY (Config.dualCarry sub (w32 a) (w32 b))) flgALUOV ov)

/-- Magnitude of a 32-bit number; of the most negative one it is not stated. -/
def absValue (a : Nat) : Nat := if a = 2 ^ 31 then Config.absMin.toNat else (sInt 32 a).natAbs

/-- Result and FLG of an ALU operation (Table 08-2); COMPARE subtracts and writes nothing. -/
def aluOp (op : AluOp) (sat : Bool) (flg a b : Nat) : Nat × Nat :=
  let plain (v : Nat) : Nat × Nat := (v, flagsOf flg v)
  match op with
  | .add => aluAdd sat false flg a b
  | .sub | .compare => aluAdd sat true flg a b
  | .min => plain (if sInt 32 a ≤ sInt 32 b then a else b)
  | .max => plain (if sInt 32 a ≤ sInt 32 b then b else a)
  | .abs => plain (absValue a)
  | .and => plain (a &&& b)
  | .or => plain (a ||| b)
  | .xor => plain (a ^^^ b)
  | .mov => plain a
  | .add2 => aluAdd2 sat false flg a b
  | .sub2 => aluAdd2 sat true flg a b

/-- Barrel shift by a signed amount: left when positive, right otherwise, arithmetic or logical. -/
def barrel (a : Nat) (amount : Int) (arith : Bool) : Nat :=
  if 0 ≤ amount then a * 2 ^ amount.toNat % 2 ^ 32
  else if arith then uNat 32 (sInt 32 a / 2 ^ (-amount).toNat)
  else a / 2 ^ (-amount).toNat

end Sys2Proof.Machine
end

