-- ==== Sys2Proof/Machine/DramOps.lean ====
section
/-! DEFINITION. Access to device DRAM (R306, R317, R318): the map from an address to its controller, the capacity
and domain checks, and reads and writes under them. -/

namespace Sys2Proof.Machine

/-- Controller of a device address (R306). -/
def Dev.dmcOf (d : Dev) (a : Nat) : Nat :=
  ((a >>> 9) ^^^ (a >>> 12) ^^^ (a >>> 15)) % 8 % 2 ^ d.fld Reg.DMC_ILV 1 0

/-- Local address in its controller (R306). -/
def Dev.dmcLocal (d : Dev) (a : Nat) : Nat := (a >>> (9 + d.fld Reg.DMC_ILV 1 0)) <<< 9 ||| a % 512

/-- Bank of a local address (R306). -/
def dramBank (loc : Nat) : Nat := nfld loc 15 12 ^^^ nfld loc 19 16

/-- Row of a local address (R306). -/
def dramRow (loc : Nat) : Nat := nfld loc 32 16

/-- Populated capacity in bytes (Table 18-1). -/
def Dev.capacity (d : Dev) : Nat :=
  if d.bit (Reg.DMC_CFG 0) 31 then 2 ^ d.fld Reg.DMC_ILV 1 0 * 2 ^ d.fld (Reg.DMC_CFG 0) 3 2 * 2 ^ 30 else 0

/-- A controller has trained (R307). -/
def Dev.trained (d : Dev) (k : Nat) : Bool := d.fld (Reg.DMC_STAT k) 1 0 == 2

/-- The first controller has trained (R422). -/
def Dev.dramUp (d : Dev) : Bool := d.trained 0

/-- Whether `[a, a+n)` lies in carve-out `i`, valid and of domain `dom`. -/
def Dev.inCarve (d : Dev) (i dom a n : Nat) : Bool :=
  let ca := d.reg (Reg.DMC_CO_A i)
  let base := wfld ca 14 0 * 2 ^ 21
  wbit ca 31 && wfld ca 27 24 == dom && decide (base ≤ a ∧ a + n ≤ base + d.fld (Reg.DMC_CO_B i) 15 0 * 2 ^ 21)

/-- Whether `[a, a+n)` lies in one carve-out of a domain (R318). -/
def Dev.inCarves (d : Dev) (dom a n : Nat) : Bool := (List.range 32).any (fun i => d.inCarve i dom a n)

/-- Whether `[a, a+n)` lies in one general carve-out of a domain (R317). -/
def Dev.inGeneral (d : Dev) (dom a n : Nat) : Bool :=
  (List.range 32).any (fun i => d.inCarve i dom a n && !d.bit (Reg.DMC_CO_A i) 19)

/-- Permission of a request (R318): 0 permitted, 1 outside its domain, 2 out of range, 3 not trained, or its domain
is being bound off (R375). -/
def Dev.dramDeny (d : Dev) (dom a n : Nat) : Nat :=
  if d.dramUp = false then 3
  else if d.capacity < a + n then 2
  else if dom ≠ 0 ∧ d.sec.binding = some dom then 1
  else if dom = 0 ∨ d.inCarves dom a n = true then 0 else 1

/-- DMC_DOMAIN or DMC_RANGE, at most once per row per port (R318). -/
def Dev.dramReport (d : Dev) (kind port dom a : Nat) : Dev :=
  let m := 16 * kind + port
  if kind ≠ 1 ∧ kind ≠ 2 ∨ m ∈ d.dmc.denyMark then d
  else
    let d := { d with dmc := { d.dmc with denyMark := addMark d.dmc.denyMark m } }
    d.raise (if kind = 1 then Ev.DMC_DOMAIN else Ev.DMC_RANGE) (d.dmcOf a) dom (leBytes 5 a ++ [b8 port])

/-- Lines read or written are counted in their controllers; `lo` gives a counter by controller. -/
def Dev.countLines (d : Dev) (lo : Nat → Nat) (a n : Nat) : Dev :=
  d.forEach (List.range ((a + n + 63) / 64 - a / 64)) (fun d i => d.count64 (lo (d.dmcOf (64 * (a / 64 + i)))))

/-- Bytes as a port meets them: a poisoned line reads as zeros (R316). -/
def Dev.unpoison (d : Dev) (port a : Nat) (b : List Byte) : List Byte :=
  if d.dmc.poison = [] then b
  else (List.range b.length).map (fun i => if (port, (a + i) / 64) ∈ d.dmc.poison then 0 else b.getD i 0)

/-- A read of `n` bytes by a port for a domain (R318): zeros where it is not permitted (assumption 98). -/
def Dev.dramGet (d : Dev) (port dom a n : Nat) : List Byte × Dev :=
  let k := d.dramDeny dom a n
  if k = 0 then
    let d' := d.countLines (fun k => Reg.DMC_RD_LO k) a n
    (d.unpoison port a (d.dramRead a n),
      { d' with dmc := { d'.dmc with poison := d'.dmc.poison.filter (fun e => !(e.1 == port && decide (a / 64 ≤ e.2 ∧ e.2 * 64 < a + n))) } })
  else (List.replicate n 0, d.dramReport k port dom a)

/-- A write by a port for a domain (R318): dropped where it is not permitted (assumption 98). -/
def Dev.dramPut (d : Dev) (port dom a : Nat) (bytes : List Byte) : Dev :=
  let k := d.dramDeny dom a bytes.length
  if k = 0 then (d.dramWrite a bytes).countLines (fun k => Reg.DMC_WR_LO k) a bytes.length
  else d.dramReport k port dom a

end Sys2Proof.Machine
end

