-- ==== Sys2Proof/Machine/Report.lean ====
section
/-! DEFINITION. What the device reports and how it reaches the host: MSI-X messages (R354, R421), device-to-host
rings (R346 to R348), event logs (R385, R386), swatches (R378 to R382) and the issue of ESNs (R64 to R66). -/

namespace Sys2Proof.Machine

/-! ### MSI-X -/

/-- Vectors of a function (R424). -/
def vectors (fn : Nat) : Nat := if fn = 0 then 512 else 96

/-- A function may write host memory: Bus Master Enable is set and the link is in L0 (R356, R357) (assumption 16). -/
def Dev.busMaster (d : Dev) (fn : Nat) : Bool :=
  decide (tat 0 d.hst.bme fn = 1) && d.fld Reg.HST_LINK_STAT 5 0 == 0x11

/-- The MSI-X table entry `512 × function + vector`; entries are masked after reset. -/
def Dev.msix (d : Dev) (k : Nat) : Msix := tat {} d.hst.msix k

/-- A message on a vector of a function: pending while masked, none for a vector the function lacks (R354) (assumption 106). -/
def Dev.message (d : Dev) (fn vec : Nat) : Dev :=
  if vectors fn ≤ vec ∨ d.busMaster fn = false then d
  else if (d.msix (512 * fn + vec)).mask then
    { d with hst := { d.hst with pba := addMark d.hst.pba (512 * fn + vec) } }
  else { d with hst := { d.hst with msgs := (fn, vec) :: d.hst.msgs } }

/-! ### Device-to-host rings -/

/-- Ring key: 16 × domain + ring. -/
abbrev ringKey (dom r : Nat) : Nat := 16 * dom + r

/-- Ring registers by key. -/
abbrev rCfg (k : Nat) : Nat := Reg.HST_RING_CFG (k / 16) (k % 16)
/-- Device index of a ring. -/
abbrev rDev (k : Nat) : Nat := Reg.HST_RING_DEV (k / 16) (k % 16)
/-- Host index of a ring. -/
abbrev rHost (k : Nat) : Nat := Reg.HST_RING_HOST (k / 16) (k % 16)
/-- Status of a ring. -/
abbrev rStat (k : Nat) : Nat := Reg.HST_RING_STAT (k / 16) (k % 16)

/-- Entries of a ring. -/
def Dev.ringSize (d : Dev) (k : Nat) : Nat := 2 ^ d.fld (rCfg k) 20 16

/-- The ring is enabled, not stopped, and its function may use the bus (R356, R358). -/
def Dev.ringOn (d : Dev) (k : Nat) : Bool :=
  d.bit (rCfg k) 31 && !d.bit (rStat k) 31 && d.busMaster (d.serving (k / 16))

/-- Records for a ring that wait for their ESN. -/
def Dev.ringQueued (d : Dev) (k : Nat) : Nat :=
  (d.tim.queue.filter (fun x => match x with | .ring j _ _ _ => j == k | _ => false)).length

/-- Free entries of a device-to-host ring: those before LIMIT that nothing is meant for (R346, R347). -/
def Dev.ringSpace (d : Dev) (k : Nat) : Nat :=
  if d.ringOn k then sub32 (d.reg (rHost k)).toNat (d.reg (rDev k)).toNat - d.ringQueued k - tat 0 d.hst.resv k
  else 0

/-- Bytes of an entry of device-to-host ring `r` (Table 20-2). -/
def entryBytes (r : Nat) : Nat := if r < 10 then 32 else 64

/-- PHASE of index `i` in a ring of 2^log2 entries (R348). -/
def phase (i log2 : Nat) : Nat := (i >>> log2) % 2 ^^^ 1

/-- Base address of a ring in host memory. -/
def Dev.ringBase (d : Dev) (k : Nat) : Nat :=
  d.reg64 (Reg.HST_RING_BASE_LO (k / 16) (k % 16)) (Reg.HST_RING_BASE_HI (k / 16) (k % 16))

/-- The message of a ring once COAL_CNT entries are unsignalled (R354). -/
def Dev.ringSignal (d : Dev) (k : Nat) : Dev :=
  let n := tat 0 d.hst.unsig k
  if max 1 (d.fld (Reg.HST_RING_COAL (k / 16) (k % 16)) 15 0) ≤ n then
    { d with hst := { d.hst with unsig := tset 0 d.hst.unsig k 0 } }.message (d.serving (k / 16)) (d.fld (rCfg k) 8 0)
  else d

/-- An entry is written at the ring's next index with its ESN and PHASE in place, the device's bytes only:
exception and record entries leave the host's 16 bytes as they are (R348, Table 20-6). The entry is HST's unit of work (R345)
(assumption 106) (assumption 106). -/
def Dev.ringWrite (d : Dev) (k esnAt : Nat) (bytes : List Byte) (esn : Nat) : Dev :=
  let d := d.lvTake (fun a => a == Reg.HST_RING_COAL (k / 16) (k % 16))
  let i := (d.reg (rDev k)).toNat
  let log2 := d.fld (rCfg k) 20 16
  let n := entryBytes (k % 16)
  let full := patch (patch (bytes ++ List.replicate (n - bytes.length) 0) esnAt (leBytes 8 esn)) (n - 1) [b8 (phase i log2)]
  let skip := if k % 16 < 10 then 0 else 16
  let d := { d with hst := { d.hst with
    hostMem := memWrite d.hst.hostMem (d.ringBase k + i % 2 ^ log2 * n + skip) (full.drop skip)
    unsig := tset 0 d.hst.unsig k (tat 0 d.hst.unsig k + 1) } }
  (d.setReg (rDev k) (w32 (i + 1))).ringSignal k

/-! ### Event logs -/

/-- An event record as bytes (Table 00-6). -/
def recBytes (r : EventRec) : List Byte :=
  leBytes 8 r.esn ++ leBytes 8 r.time ++ leBytes 2 r.code ++ leBytes 2 r.inst ++ [b8 r.dom, b8 r.sev] ++ args10 r.args

/-- Records a log may still take: 2^LOG2 − (WR − RD). -/
def Dev.logSpace (d : Dev) (x : Nat) : Nat :=
  2 ^ d.fld (Reg.SWT_LOG_CFG x) 20 16 - sub32 (d.reg (Reg.SWT_LOG_WR x)).toNat (d.reg (Reg.SWT_LOG_RD x)).toNat

/-- The message of a log once COAL_CNT records are unsignalled (R386). -/
def Dev.logSignal (d : Dev) (x : Nat) : Dev :=
  if max 1 (d.fld (Reg.SWT_LOG_COAL x) 15 0) ≤ tat 0 d.swt.unsig x then
    { d with swt := { d.swt with unsig := tset 0 d.swt.unsig x 0 } }.message (d.serving x) (d.fld (Reg.SWT_LOG_CFG x) 8 0)
  else d

/-- A record is written at WR of log `x`, or dropped and counted when the log is full (R386) (assumption 114). -/
def Dev.logWrite (d : Dev) (x : Nat) (r : EventRec) : Dev :=
  let d := d.lvTake (fun a => a == Reg.SWT_LOG_COAL x)
  if d.logSpace x = 0 then
    let (n, e) := tat (0, 0) d.swt.lost x
    ({ d with swt := { d.swt with lost := tset (0, 0) d.swt.lost x (n + 1, if n = 0 then r.esn else e) } }).count
      (Reg.SWT_LOG_LOST x)
  else
    let wr := (d.reg (Reg.SWT_LOG_WR x)).toNat
    let d := d.dramPut 0 x (d.reg64 (Reg.SWT_LOG_BASE_LO x) (Reg.SWT_LOG_BASE_HI x) +
      wr % 2 ^ d.fld (Reg.SWT_LOG_CFG x) 20 16 * 32) (recBytes r)
    let d := d.setReg (Reg.SWT_LOG_WR x) (w32 (wr + 1))
    { d with swt := { d.swt with unsig := tset 0 d.swt.unsig x (tat 0 d.swt.unsig x + 1) } }.logSignal x

/-- Log `x` takes a record (R385). -/
def Dev.logTakes (d : Dev) (x : Nat) (r : EventRec) : Bool :=
  let c := d.reg (Reg.SWT_LOG_CFG x)
  wbit c 31 && (r.dom == x || (x == 0 && wbit c 30)) && (decide (wfld c 10 9 ≤ r.sev) || r.sev == 3)

/-- A record goes to every log that takes it (R385). -/
def Dev.logRecord (d : Dev) (r : EventRec) : Dev :=
  d.forEach (if r.dom = 0 then [0] else [0, r.dom]) (fun d x => if d.logTakes x r then d.logWrite x r else d)

/-! ### Swatches -/

/-- Sources fire (mask as SWT_CTL.SRC_EN): a swatch is taken, or the trigger is lost (R378) (assumption 113). -/
def Dev.fire (d : Dev) (src : Nat) : Dev :=
  let c := d.reg Reg.SWT_CTL
  let src := src &&& wfld c 4 0
  if src = 0 then d
  else if wbit c 6 = false ∨ d.bit Reg.SWT_STAT 31 = true then
    let d := d.count Reg.SWT_TRIG_LOST
    if d.swt.trigMark then d
    else { d with swt := { d.swt with trigMark := true } }.raise Ev.SWT_TRIG_LOST 0
  else
    let d := d.setReg Reg.SWT_STAT (w32 (2 ^ 31 + src))
    let d := if wbit c 7 then d.setBit Reg.SWT_CTL 6 false else d
    { d with swt := { d.swt with
      copy := d.regs, cntCopy := d.cnt, timCopy := { d.tim with queue := [], reported := [] }, egsCopy := d.egs, taken := true,
      noSel := !d.linkUp } }

/-- An event record is issued (assumption 6). -/
def Dev.record (d : Dev) (r : EventRec) : Dev := { d with tim := { d.tim with reported := r :: d.tim.reported } }

/-- SWT_ESN and SWT_TIME take a swatch's (assumption 113). -/
def Dev.swatchStamp (d : Dev) (esn time : Nat) : Dev :=
  { d with cnt := tset 0 (tset 0 d.cnt Reg.SWT_ESN_LO esn) Reg.SWT_TIME_LO time }

/-- The swatch takes its ESN: SWT_ESN, SWT_TIME and SWT_COUNT are set and its record is written to SD0's log and to
every log with SWATCH set (R381). -/
def Dev.swatchDone (d : Dev) (esn time : Nat) : Dev :=
  let d := ((d.setBit Reg.SWT_STAT 31 false).count Reg.SWT_COUNT).swatchStamp esn time
  let r : EventRec := ⟨esn, time, Ev.SWT_SWATCH, 0, 0, 0,
    args10 (b8 (d.fld Reg.SWT_STAT 4 0) :: leBytes 4 (d.reg Reg.SWT_COUNT).toNat)⟩
  (d.record r).forEach (List.range 16) (fun d x =>
    let c := d.reg (Reg.SWT_LOG_CFG x)
    if wbit c 31 && (x == 0 || wbit c 29) then d.logWrite x r else d)

/-! ### Hook's completion queues -/

/-- The completion queue of a domain replaced: LEVEL and the oldest record in HOK_CQ0-3 follow. -/
def Dev.cqSet (d : Dev) (dom : Nat) (l : List (List Byte)) : Dev :=
  (({ d with hok := { d.hok with cq := tset [] d.hok.cq dom l } }).setFld (Reg.HOK_CQ_STAT dom) 10 0 l.length).setRegsNat
    (Reg.HOK_CQ dom 0) (leNat (l.headD [])) 4

/-- A completion record reaches a domain's queue of 1,024, or is lost: counted, CQ_OVERFLOW once per row per domain
(R124). -/
def Dev.cqPush (d : Dev) (dom : Nat) (bytes : List Byte) : Dev :=
  let l := tat [] d.hok.cq dom
  if l.length < 1024 then
    d.cqSet dom (l ++ [bytes])
  else
    let d := (d.count Reg.HOK_CQ_LOST).setBit (Reg.HOK_CQ_STAT dom) 31 true
    if dom ∈ d.hok.cqMark then d
    else { d with hok := { d.hok with cqMark := addMark d.hok.cqMark dom } }.raise Ev.CQ_OVERFLOW dom dom

/-! ### Issue of ESNs -/

/-- ESN_RESV_LOW and ESN_RESV_OVER, each once for a limit (R66). -/
def Dev.esnWatch (d : Dev) : Dev :=
  let d := if d.tim.low && decide (d.tim.limit < d.tim.esn + 2 ^ 42) then
      { d with tim := { d.tim with low := false } }.raise Ev.ESN_RESV_LOW 0
    else d
  if d.tim.pastLimit && decide (d.tim.limit ≤ d.tim.esn) then
    { d with tim := { d.tim with pastLimit := false } }.raise Ev.ESN_RESV_OVER 0
  else d

/-- ESN of the packet in a chain (descriptor bytes 40–47, R106). -/
def Dev.chainEsn (d : Dev) (id : Nat) : Nat := (tat {} d.bpm.descs id).esn

/-- A packet's descriptor takes its ESN while the chain is still allocated. -/
def Dev.stampChain (d : Dev) (id esn : Nat) : Dev :=
  let x := tat {} d.bpm.descs id
  if x.state = 0 then d else { d with bpm := { d.bpm with descs := tset {} d.bpm.descs id { x with esn := esn } } }

/-- The next ESN is taken. -/
def Dev.esnNext (d : Dev) : Dev := { d with tim := { d.tim with esn := (d.tim.esn + 1) % 2 ^ 64 } }

/-- An event record is issued, goes to the logs, and fires a swatch when it matches (R378). -/
def Dev.issueRecord (d : Dev) (r : EventRec) : Dev :=
  let d := (d.record r).logRecord r
  let m := d.reg Reg.SWT_EVT_MATCH
  if wfld m 31 16 &&& r.code = wfld m 31 16 &&& wfld m 15 0 then d.fire 8 else d

/-- An arrival takes the next ESN and the time of the row time base (R64, R65), and is delivered. -/
def Dev.deliverNew (d : Dev) (x : Arrival) : Dev :=
  let esn := d.tim.esn
  let time := d.rowNs
  let d := d.esnNext
  let d := match x with
    | .event code inst dom sev args => d.issueRecord ⟨esn, time, code, inst, dom, sev, args⟩
    | .cq dom bytes => d.cqPush dom (leBytes 8 esn ++ bytes.drop 8)
    | .packet _ chain => chain.elim d (fun id => d.stampChain id esn)
    | .ring k at_ bytes _ => if d.bit (rCfg k) 31 then d.ringWrite k at_ bytes esn else d
    | .swatch => d.swatchDone esn time
  d.esnWatch

/-- One arrival is delivered: a packet's entry carries the ESN the packet took as it came in (R65). -/
def Dev.deliver (d : Dev) (x : Arrival) : Dev :=
  match x with
  | .ring k at_ bytes (some c) => if d.bit (rCfg k) 31 then d.ringWrite k at_ bytes (d.chainEsn c) else d
  | _ => d.deliverNew x

/-- Up to `n` queued arrivals are issued, oldest first (R64) (assumption 4). -/
def Dev.issue (d : Dev) : Nat → Dev
  | 0 => d
  | n + 1 =>
    match d.tim.queue with
    | [] => d
    | x :: t => ({ d with tim := { d.tim with queue := t } }.deliver x).issue n

/-- Block and instance of an arrival (R64); a packet's entry comes after the packet itself. -/
def arrivalRank : Arrival → Nat
  | .event code inst _ _ _ => code / 256 * 65536 + inst
  | .packet p _ => 8 * 65536 + p
  | .ring k _ _ none => 5 * 65536 + k
  | .ring _ _ _ (some _) => 0x1000001
  | .cq dom _ => 20 * 65536 + dom
  | .swatch => 0x1000000

/-- An arrival placed after every one of no higher rank. -/
def placeArrival (x : Arrival) : List Arrival → List Arrival
  | [] => [x]
  | y :: t => if arrivalRank x < arrivalRank y then x :: y :: t else y :: placeArrival x t

/-- Arrivals of one clock in ascending block number, then ascending instance (R64) (assumption 4). -/
def sortArrivals (l : List Arrival) : List Arrival := l.foldl (fun acc x => placeArrival x acc) []

/-- The end of a command's clock: what arrived in it is ordered behind what waited (`old` arrivals), and up to four
ESNs are issued. Before cast-on has written TIM_ESN_BASE, arrivals go to the early buffer of 64 records (R399)
(assumptions 4, 5) (assumptions 4, 5). -/
def Dev.settle (d : Dev) (old : Nat) : Dev :=
  let q := d.tim.queue.take old ++ sortArrivals (d.tim.queue.drop old)
  if d.ready then { d with tim := { d.tim with queue := q } }.issue 4
  else { d with tim := { d.tim with queue := [] }, swt := { d.swt with early := (d.swt.early ++ q).take 64 } }

/-- The outcome of a command whose effect on the device is `f`: the effect, then the issue of what it reported
(assumptions 3, 4) (assumptions 3, 4). -/
def State.run (s : State) (f : Dev → Dev) : Host.Outcome State Fault Refusal :=
  .next { s with dev := (f s.dev).settle s.dev.tim.queue.length }

/-- A command issued by a requester: an unbound VF's writes are dropped (R340). -/
def Dev.by (d : Dev) (q : Requester) (f : Access → Dev → Dev) : Dev :=
  match d.access q with
  | some a => f a d
  | none => d

end Sys2Proof.Machine
end

