-- ==== Sys2Proof/Machine/Live.lean ====
section
/-! DEFINITION. Blocks and their regions (R419), swap scopes (R30) and seals (R34), the crosspoint window (R182), and who may
use a register command (R374). -/

namespace Sys2Proof.Machine

/-- Region number of a BAR0 address (R419). -/
def regionOf (a : Nat) : Nat := a / 2 ^ 20

/-- The lowest region of the block that owns region `n`: the number that names the block (Table 25-1). -/
def blockOf (n : Nat) : Nat :=
  if n = 11 then 10 else if n = 13 then 12 else if 17 ≤ n ∧ n ≤ 19 then 16 else if 25 ≤ n ∧ n ≤ 29 then 24
  else if n = 33 then 32 else if n = 43 then 42 else if 49 ≤ n ∧ n ≤ 55 then 48 else if n = 61 then 60 else n

/-- Swap scope of a block as a bit of the mask of R440: 1 audio, 2 network, 4 video, 0 none (Table 02-3). -/
def scopeOf (b : Nat) : Nat :=
  if b ∈ [20, 24, 32, 34, 60] then 1 else if b ∈ [8, 10, 12, 14, 15, 16, 35, 36] then 2
  else if b ∈ [40, 41, 42, 44, 45] then 4 else 0

/-- Position of a scope in PAT_SWAP_STAT: 0 audio, 1 network, 2 video. -/
def scopeIdx (m : Nat) : Nat := if m = 4 then 2 else if m = 2 then 1 else 0

/-- State of a scope: 0 IDLE, 1 PENDING, 2 SETTLING (PAT_SWAP_STAT). -/
def Dev.scopeState (d : Dev) (i : Nat) : Nat := d.fld Reg.PAT_SWAP_STAT (2 * i + 1) (2 * i)

/-- The device with a scope in a state. -/
def Dev.setScope (d : Dev) (i v : Nat) : Dev := d.setFld Reg.PAT_SWAP_STAT (2 * i + 1) (2 * i) v

/-- The device with a scope's last outcome: 1 DONE, 2 REJECTED or CANCELLED, 3 ABORTED. -/
def Dev.setLast (d : Dev) (i v : Nat) : Dev := d.setFld Reg.PAT_SWAP_STAT (2 * i + 7) (2 * i + 6) v

/-- A block's scope is sealed: its swap is pending or settling (R34). -/
def Dev.sealed (d : Dev) (b : Nat) : Bool := scopeOf b != 0 && d.scopeState (scopeIdx (scopeOf b)) != 0

/-- A shadow write dropped by a seal (R34, R41): counted, and SHADOW_SEALED names the block and the offset within its
region. -/
def Dev.sealDrop (d : Dev) (b off : Nat) : Dev :=
  (d.count Reg.PAT_SEAL_DROPS).raise Ev.SHADOW_SEALED b 0 (leBytes 4 off)

/-- Offset of a BAR0 address from the base of its block's lowest region. -/
def blockOffset (a : Nat) : Nat := a - blockOf (regionOf a) * 2 ^ 20

/-- The compositor instance and layer whose descriptor holds an address. -/
def layerOf (a : Nat) : Option (Nat × Nat) :=
  let b := Reg.CMP_LAYER 0 0 0
  if b ≤ a ∧ a < b + 0x8000 then some ((a - b) / 0x200, (a - b) % 0x200 / 0x40) else none

/-- The shadow copy of an SH register takes a value, reserved bits ignored (R4, R5). -/
def Dev.shPut (d : Dev) (a : Nat) (v : Word) : Dev :=
  d.setSh a (w32 (v.toNat &&& (regRow a).elim 0 RegRow.mask))

/-- A write of a shadow copy: dropped while its scope, or its compositor's layers, are sealed (R34, R41); a layer at or
above LAYERS does not exist (R237). -/
def Dev.shWrite (d : Dev) (a : Nat) (v : Word) : Dev :=
  let b := blockOf (regionOf a)
  match layerOf a with
  | some (i, l) =>
    if d.fld (Reg.CMP_CI_CFG i) 23 20 ≤ l then d
    else if d.bit (Reg.CMP_COMMIT_STAT i) 31 then d.sealDrop b (blockOffset a)
    else d.shPut a v
  | none => if d.sealed b then d.sealDrop b (blockOffset a) else d.shPut a v

/-! ### The crosspoint window (R182) -/

/-- Address of the crosspoint window. -/
abbrev xpWindow : Nat := 0x2100000

/-- Whether an address lies in the window. -/
def inXp (a : Nat) : Bool := decide (xpWindow ≤ a ∧ a < xpWindow + 0x80000)

/-- Entry at an address of the window under page register `k`: a domain, or 16 for live runs. -/
def Dev.xpEntry (d : Dev) (k a : Nat) : Nat := 65536 * d.fld (Reg.CAB_XP_PAGE k) 2 0 + (a - xpWindow) / 8

/-- A word of an entry of the shadow bank is written. -/
def Dev.xpPut (d : Dev) (k a : Nat) (v : Word) : Dev :=
  let i := d.xpEntry k a
  { d with cab := { d.cab with xpSh := tset 0 d.cab.xpSh i (rset (tat 0 d.cab.xpSh i) ((a - xpWindow) % 8) 4 v.toNat) } }

/-- A write through the window: dropped while the audio scope is sealed (R34). -/
def Dev.xpWrite (d : Dev) (k a : Nat) (v : Word) : Dev :=
  if d.sealed 32 then d.sealDrop 32 (blockOffset a) else d.xpPut k a v

/-- A write of a live run into the shadows, seals apart (R26, R182). -/
def Dev.livePut (d : Dev) (a : Nat) (v : Word) : Dev :=
  if a = Reg.CAB_XP_PAGE 16 then d.setFld a 2 0 (wfld v 2 0) else if inXp a then d.xpPut 16 a v else d.shPut a v

/-- A write of a live run of a load (R34, R44). -/
def Dev.liveWrite (d : Dev) (a : Nat) (v : Word) : Dev :=
  if a = Reg.CAB_XP_PAGE 16 then d.setFld a 2 0 (wfld v 2 0) else if inXp a then d.xpWrite 16 a v else d.shWrite a v

/-! ### Register commands and who may make them -/

/-- A register command on a resource of domain `w` in region `n` (R374): performed for SD0 and for `w` itself while the
block has power (Table 21-5); another domain's is ignored, with the block's own domain event where it has one
(instance `w`) (assumption 20). -/
def Dev.window (d : Dev) (q : Requester) (n w : Nat) (deny : Option Nat) (f : Access → Dev → Dev) : Dev :=
  d.by q (fun a d =>
    if d.regionOff n then d
    else if a.mayUse w then f a d
    else match deny with
      | some c => d.raise c w a.dom
      | none => d)

/-- A register command on a resource of SD0 (R374) (assumption 20). -/
def Dev.sd0 (d : Dev) (q : Requester) (n : Nat) (f : Dev → Dev) : Dev := d.window q n 0 none (fun _ d => f d)

end Sys2Proof.Machine
end

