-- ==== Sys2Proof/Machine/Hook.lean ====
section
/-! DEFINITION. Hook (chapter 07): task groups, submission (R118), selection (R121), the start and end of a task (R122,
R123, R143), rows and the sweep (R125, R126), yield requests (R127, R128). -/

namespace Sys2Proof.Machine

/-! ### Tasks and groups -/

/-- Group of a descriptor (Table 07-1). -/
abbrev taskGroup (t : Nat) : Nat := rbits t 2 11 0
/-- Row of a descriptor. -/
abbrev taskRow (t : Nat) : Nat := rf t 4 4
/-- Bit `i` of FLAGS: 0 ROWED, 1 DISCARD_LATE, 2 NOTIFY, 3 LATE, 4 YIELDED. -/
abbrev taskFlag (t i : Nat) : Bool := rbits t 8 i i == 1
/-- Preferred core, with AFF_VALID. -/
def taskAffinity (t : Nat) : Option Nat := if rbits t 9 7 7 = 1 then some (rbits t 9 6 0) else none

/-- Owning domain of a group (R117). -/
def Dev.groupDomain (d : Dev) (g : Nat) : Nat := d.fld (Reg.HOK_GRP_DOM (g / 8)) (4 * (g % 8) + 3) (4 * (g % 8))

/-- Level of a group. -/
def Dev.groupLevel (d : Dev) (g : Nat) : Nat := d.fld (Reg.HOK_GRP g) 26 24

/-- A group is enabled and served by a skein (R117). -/
def Dev.groupServes (d : Dev) (g sk : Nat) : Bool := d.bit (Reg.HOK_GRP g) 31 && d.bit (Reg.HOK_GRP g) (16 + sk)

/-- Tasks queued in a group, head first. -/
def Dev.queueOf (d : Dev) (g : Nat) : List Nat := tat [] d.hok.groups g

/-- A group's queue replaced; DEPTH follows. -/
def Dev.setQueue (d : Dev) (g : Nat) (l : List Nat) : Dev :=
  { d with hok := { d.hok with groups := tset [] d.hok.groups g l } }.setFld (Reg.HOK_GRP_DEPTH g) 16 0 l.length

/-- Groups with a queued task, in ascending order. -/
def Dev.groupsQueued (d : Dev) : List Nat := d.hok.groups.map (fun e => e.1)

/-- Tasks outstanding (R116). -/
def Dev.outstanding (d : Dev) : Nat := d.fld Reg.HOK_STAT 16 0

/-- A task of a domain becomes outstanding. -/
def Dev.taskIn (d : Dev) (dom : Nat) : Dev :=
  (d.setFld Reg.HOK_STAT 16 0 (d.outstanding + 1)).setFld (Reg.HOK_DOM_OUT dom) 16 0 (d.fld (Reg.HOK_DOM_OUT dom) 16 0 + 1)

/-- Hook frees a descriptor (R123). -/
def Dev.taskFree (d : Dev) (t : Nat) : Dev :=
  let dom := rbits t 15 3 0
  (d.setFld Reg.HOK_STAT 16 0 (d.outstanding - 1)).setFld (Reg.HOK_DOM_OUT dom) 16 0 (d.fld (Reg.HOK_DOM_OUT dom) 16 0 - 1)

/-- Completion record without its ESN (Table 07-2), to the queue of the group's domain. -/
def Dev.taskRecord (d : Dev) (t outcome : Nat) : Dev :=
  d.post (.cq (d.groupDomain (taskGroup t))
    (leBytes 8 0 ++ leBytes 4 (taskRow t) ++ leBytes 2 (rf t 12 2) ++ leBytes 2 (taskGroup t + 2 ^ 12 * outcome)))

/-- A task is discarded: its record if NOTIFY is set, no stamp, its descriptor freed (R125, R144). -/
def Dev.taskDiscard (d : Dev) (t outcome : Nat) : Dev :=
  (if taskFlag t 2 then d.taskRecord t outcome else d).taskFree t

/-! ### Cores as Hook sees them -/

/-- Core `n`. -/
def Dev.core (d : Dev) (n : Nat) : Core := tat {} d.dsp.cores n

/-- Core `n` replaced; the registers that show its state and the address of its next word follow. -/
def Dev.setCore (d : Dev) (n : Nat) (c : Core) : Dev :=
  let a := Reg.DSP_CORE_STAT (n / 16) (n % 16)
  ((({ d with dsp := { d.dsp with cores := tset {} d.dsp.cores n c } }).setFld (Reg.HOK_CORE_STAT n) 1 0 c.state).setFld
    a 17 16 c.state).setFld a 15 0 c.pc

/-- A core waits in TAKE and holds no task. -/
def Dev.sleeping (d : Dev) (n : Nat) : Bool := (d.core n).state == 0 && (d.core n).task.isNone

/-- Row ticks run (R63). -/
def Dev.rowsOn (d : Dev) : Bool := d.bit Reg.TIM_TICK_CTL 0

/-- A head task is held (R120). -/
def Dev.taskHeld (d : Dev) (t : Nat) : Bool := taskFlag t 0 && (!d.rowsOn || after (taskRow t) d.row32)

/-- AFF_WIN of a level. -/
def Dev.affWin (d : Dev) (l : Nat) : Nat :=
  d.fld (if l < 4 then Reg.HOK_AFF_WIN0 else Reg.HOK_AFF_WIN1) (8 * (l % 4) + 7) (8 * (l % 4))

/-! ### Selection (R121) -/

/-- Groups of a level a skein serves whose head is not held, in ascending order. -/
def Dev.readyGroups (d : Dev) (sk l : Nat) : List Nat :=
  d.groupsQueued.filter (fun g =>
    d.groupLevel g == l && d.groupServes g sk &&
      match d.queueOf g with
      | t :: _ => !d.taskHeld t
      | [] => false)

/-- The head of a group is not held back for another core. -/
def Dev.affinityOk (d : Dev) (c g : Nat) : Bool :=
  match (d.queueOf g).head?.bind taskAffinity with
  | some a => a == c || decide (d.affWin (d.groupLevel g) ≤ tat 0 d.hok.age g)
  | none => true

/-- The head of a group prefers a core. -/
def Dev.prefers (d : Dev) (g c : Nat) : Bool := (d.queueOf g).head?.bind taskAffinity == some c

/-- Of groups in ascending order, the one of highest AGE, the lowest on a tie. -/
def Dev.oldest (d : Dev) : List Nat → Option Nat
  | [] => none
  | g :: t =>
    match d.oldest t with
    | none => some g
    | some h => if tat 0 d.hok.age g < tat 0 d.hok.age h then some h else some g

/-- Stage 3: credit is refilled when no candidate has any, then the first candidate with credit from PTR on. -/
def Dev.roundRobin (d : Dev) (l : Nat) (cand : List Nat) : Option Nat × Dev :=
  let d := if cand.any (fun g => decide (0 < tat 0 d.hok.cr g)) then d
    else { d with hok := { d.hok with cr := cand.foldl (fun m g => tset 0 m g (max (d.fld (Reg.HOK_GRP g) 7 0) 1)) d.hok.cr } }
  let ok := cand.filter (fun g => decide (0 < tat 0 d.hok.cr g))
  ((ok.find? (fun g => decide (tat 0 d.hok.ptr l ≤ g))).orElse (fun _ => ok.head?), d)

/-- What a pick leaves behind: credit and pointer, the ages passed, and the pop. -/
def Dev.picked (d : Dev) (l : Nat) (cand : List Nat) (g : Nat) : Dev :=
  let cr := tat 0 d.hok.cr g
  let h := d.hok
  let h := if 0 < cr then { h with cr := tset 0 h.cr g (cr - 1), ptr := if cr = 1 then tset 0 h.ptr l ((g + 1) % 4096) else h.ptr } else h
  let h := { h with age := tset 0 (cand.foldl (fun m j => if j = g then m else tset 0 m j (min 255 (tat 0 m j + 1))) h.age) g 0 }
  { d with hok := h }.setQueue g (d.queueOf g).tail

/-- select(): the task for a core, from the most urgent level with a candidate. -/
def Dev.selectLevels (d : Dev) (c : Nat) : List Nat → Option Nat × Dev
  | [] => (none, d)
  | l :: rest =>
    let cand := (d.readyGroups (c / 16) l).filter (fun g => d.affinityOk c g)
    if cand = [] then d.selectLevels c rest
    else
      let p := match d.oldest (cand.filter (fun g => d.prefers g c)) with
        | some g => (some g, d)
        | none => d.roundRobin l cand
      match p.1 with
      | some g => ((p.2.queueOf g).head?, p.2.picked l cand g)
      | none => (none, p.2)

/-- select() for core `c`: the task, and the device without it in its group. -/
def Dev.select (d : Dev) (c : Nat) : Option Nat × Dev := d.selectLevels c (List.range 8)

/-- A task starts on a core (R122, R143, R145): its descriptor is in the task window, its registers are cleared, and its
next word is at ENTRY. -/
def Dev.startTask (d : Dev) (n t : Nat) : Dev :=
  let c := d.core n
  let d := d.setCore n { c with
    regs := [], acc := [], accOld := [], flg := 0, flgOld := 0, cyc := 0, bank2 := [], pipe := [], pc := rf t 0 2
    branch := none, state := 1, task := some t, ending := 0, inIrq := false, postRes := 0, cache := 0, asleep := false
    x := memWrite c.x 0xFFC0 (leBytes 64 t) }
  let d := (d.setFld (Reg.HOK_CORE_STAT n) 27 16 (taskGroup t)).setBit (Reg.HOK_CORE_STAT n) 5 (taskFlag t 3)
  (d.setBit (Reg.HOK_CORE_STAT n) 4 false).count (Reg.DSP_CORE_TASKS (n / 16) (n % 16))

/-- Sleeping cores of a skein, in rotation from the core after the last one woken (assumption 54). -/
def Dev.sleepers (d : Dev) (sk : Nat) : List Nat :=
  ((List.range 16).map (fun j => 16 * sk + (tat 15 d.hok.woken sk + 1 + j) % 16)).filter d.sleeping

/-- The first of some cores for which select() answers a task is woken with it. -/
def Dev.wakeFirst (d : Dev) : List Nat → Option Dev
  | [] => none
  | c :: rest =>
    match d.select c with
    | (some t, e) => some ({ e with hok := { e.hok with woken := tset 15 e.hok.woken (c / 16) (c % 16) } }.startTask c t)
    | (none, _) => d.wakeFirst rest

/-- One clock of selection: the skeins in rotation from `start`, at most one selection each; whether any core woke. -/
def Dev.wakeClock (d : Dev) (start : Nat) : Dev × Bool :=
  (List.range 6).foldl (fun p i =>
    match p.1.wakeFirst (p.1.sleepers ((start + i) % 6)) with
    | some e => (e, true)
    | none => p) (d, false)

/-- Clocks of selection until no sleeping core can be given a task; the rotation starts one skein on at each clock
(assumption 54) (assumption 54). -/
def Dev.wakeLoop (d : Dev) (start : Nat) : Nat → Dev
  | 0 => d
  | n + 1 =>
    let p := d.wakeClock start
    if p.2 then p.1.wakeLoop (start + 1) n else d

/-- A level 0 task of group `g` is ready and no core eligible for it waits in TAKE (R127). -/
def Dev.urgent (d : Dev) (g : Nat) : Bool :=
  d.groupLevel g == 0 && d.bit (Reg.HOK_GRP g) 31 &&
  (match d.queueOf g with
    | t :: _ => !d.taskHeld t
    | [] => false) &&
  !(List.range 96).any (fun n => d.groupServes g (n / 16) && d.sleeping n)

/-- YREQ on every core follows the condition of R127. -/
def Dev.yieldRefresh (d : Dev) : Dev :=
  let urgent := d.groupsQueued.filter d.urgent
  let d := d.setBit Reg.HOK_STAT 31 (urgent != [])
  d.forEach (List.range 96) (fun d n =>
    let on := match (d.core n).task with
      | some t => (d.core n).state == 1 && d.groupLevel (taskGroup t) != 0 && urgent.any (fun g => d.groupServes g (n / 16))
      | none => false
    if d.bit (Reg.HOK_CORE_STAT n) 4 = on then d else d.setBit (Reg.HOK_CORE_STAT n) 4 on)

/-- Something changed that selection depends on: sleeping cores are served, then the yield requests follow. The skein
the rotation stands at is not stated and is a free value. -/
def Dev.hookRun (d : Dev) : Dev :=
  if d.groupsQueued = [] ∨ (List.range 96).any d.sleeping = false then d.yieldRefresh
  else
    let p := d.draw
    (p.2.wakeLoop (Config.skeinStart p.1 % 6) 96).yieldRefresh

/-! ### Submission (R118, R119) -/

/-- A descriptor sets a reserved bit, names no core, or sets what Hook writes (BAD of R118). -/
def taskBad (t : Nat) : Bool :=
  rbits t 2 15 12 != 0 || rbits t 8 7 3 != 0 || rbits t 14 7 6 != 0 || rbits t 15 7 4 != 0 ||
    ((taskAffinity t).getD 0 > 95)

/-- Result of a submission of domain `dom` (R118): 0 OK, 1 FULL, 2 DOMAIN, 3 BAD, 4 ROW_RANGE. -/
def Dev.submitCheck (d : Dev) (dom t : Nat) : Nat :=
  if taskBad t then 3
  else if d.groupDomain (taskGroup t) ≠ dom then 2
  else if taskFlag t 0 && after (taskRow t) ((d.row32 + 2) % 2 ^ 32) then 4
  else if 65536 ≤ d.outstanding ∨ d.fld (Reg.HOK_DOM_QUOTA dom) 16 0 ≤ d.fld (Reg.HOK_DOM_OUT dom) 16 0 then 1
  else 0

/-- A hardware agent's refused submission: SUBMIT_REFUSED once per row per agent. -/
def Dev.submitMark (d : Dev) (agent dom : Nat) : Dev :=
  if agent < 32 ∨ 38 < agent ∨ agent ∈ d.hok.refMark then d
  else { d with hok := { d.hok with refMark := addMark d.hok.refMark agent } }.raise Ev.SUBMIT_REFUSED agent dom

/-- A submission (R118, R119): its result, and the device with the task at its group's tail, SOURCE and DOMAIN written. -/
def Dev.submit (d : Dev) (agent dom t : Nat) : Nat × Dev :=
  let r := d.submitCheck dom t
  if r = 0 then
    let t := rset (rset t 14 1 agent) 15 1 dom
    (0, ((d.setQueue (taskGroup t) (d.queueOf (taskGroup t) ++ [t])).taskIn dom).hookRun)
  else
    let d := d.count Reg.HOK_SUB_REFUSED
    let d := if r = 2 then d.raise Ev.SUBMIT_DOMAIN dom dom else d
    (r, d.submitMark agent dom)

/-- Agents Hook accepts submissions from (R118). -/
def hookAgent (a : Nat) : Bool := decide ((32 ≤ a ∧ a ≤ 38) ∨ a = 42 ∨ (44 ≤ a ∧ a ≤ 47))

/-- TASK_SUBMIT (R118). -/
def taskSubmitEffect (agent dom desc : Nat) (d : Dev) : Dev :=
  if hookAgent agent && !d.regionOff 20 then (d.submit agent dom desc).2 else d

/-- TASK_SUBMIT. -/
def execTaskSubmit (agent : Fin 64) (dom : Fin 16) (desc : BitVec 512) (s : State) : Host.Outcome State Fault Refusal :=
  s.run (taskSubmitEffect agent dom desc.toNat)

/-- A write to a window of Hook: another domain's raises SUBMIT_DOMAIN, whose instance is the accessing domain. -/
def Dev.hookWindow (d : Dev) (q : Requester) (w : Nat) (f : Access → Dev → Dev) : Dev :=
  d.by q (fun a d =>
    if d.regionOff 20 then d
    else if a.mayUse w then f a d
    else d.raise Ev.SUBMIT_DOMAIN a.dom a.dom)

/-- SUB_CMD_GO (R118): the staged descriptor is submitted for the window's domain by the agent that writes GO. -/
def subCmdGoEffect (q : Requester) (w : Nat) (v : Word) (d : Dev) : Dev :=
  d.hookWindow q w (fun a d =>
    if wbit v 0 then
      let r := d.submit a.agent w (d.regsNat (Reg.HOK_SUB w 0) 16)
      r.2.setFld (Reg.HOK_SUB_STAT w) 2 0 r.1
    else d)

/-- SUB_CMD_GO. -/
def execSubCmdGo (q : Requester) (d : Fin 16) (v : Word) (s : State) : Host.Outcome State Fault Refusal :=
  s.run (subCmdGoEffect q d v)

/-- CQ_POP (R124). -/
def cqPopEffect (q : Requester) (w : Nat) (v : Word) (d : Dev) : Dev :=
  d.hookWindow q w (fun _ d => if wbit v 0 then d.cqSet w (tat [] d.hok.cq w).tail else d)

/-- CQ_POP. -/
def execCqPop (q : Requester) (d : Fin 16) (v : Word) (s : State) : Host.Outcome State Fault Refusal :=
  s.run (cqPopEffect q d v)

/-! ### The end of a task -/

/-- A core holds no task any more. -/
def Dev.dropTask (d : Dev) (n : Nat) : Dev :=
  (d.setCore n { d.core n with task := none, ending := 0 }).setFld (Reg.HOK_CORE_STAT n) 5 4 0

/-- A core's task is discarded with outcome 2 (R144, R161). -/
def Dev.discardHeld (d : Dev) (n : Nat) : Dev :=
  match (d.core n).task with
  | some t => (d.taskDiscard t 2).dropTask n
  | none => d

/-- A task's row has ended (R125) (assumption 55). -/
def Dev.overdue (d : Dev) (t : Nat) : Bool := taskFlag t 0 && after d.row32 (taskRow t)

/-- A task's GIVE is late (R123): its row has ended. Revision A1 takes one that comes in the clock of the tick that starts the
next row as on time (R436, KB-5) (assumption 118). -/
def Dev.giveLate (d : Dev) (t : Nat) : Bool :=
  d.overdue t && !(d.hok.atTick && decide ((taskRow t + 1) % 2 ^ 32 = d.row32))

/-- Hook applies GIVE (R123): the stamp of a task on time, its record, its descriptor freed. -/
def Dev.applyGive (d : Dev) (n t : Nat) : Dev :=
  let late := d.giveLate t
  let d := if rbits t 10 15 15 = 1 ∧ late = false then d.setReg (Reg.HOK_STAMP (rbits t 10 14 0)) (w32 (taskRow t)) else d
  let d := if taskFlag t 2 then d.taskRecord t late.toNat else d
  ((d.taskFree t).dropTask n).hookRun

/-- Hook applies GIVE.Y (R128): the task window is the task, back at the head of its group with affinity to its core. -/
def Dev.applyGiveY (d : Dev) (n t : Nat) : Dev :=
  let w := leNat (memRead (d.core n).x 0xFFC0 64)
  let w := rset (rsetBits w 8 4 4 1) 9 1 (0x80 + n)
  let d := (d.dropTask n).count Reg.HOK_YIELD_CNT
  let g := taskGroup w
  let d := { d with hok := { d.hok with age := tset 0 d.hok.age g 0 } }
  (d.setQueue g (yielded t w :: d.queueOf g)).hookRun
where
  /-- ROW, the deadline and LATE are unchanged, and the task stays its submitter's (R128). -/
  yielded (t w : Nat) : Nat :=
    rset (rset (rsetBits (rsetBits (rset w 4 4 (taskRow t)) 8 0 0 (rbits t 8 0 0)) 8 3 3 (rbits t 8 3 3)) 14 1 (rf t 14 1))
      15 1 (rf t 15 1)

/-! ### Rows -/

/-- A row tick marks every running task whose row has ended (R125); Hook's sweep starts, `jump` after a restart (R126)
(assumption 55) (assumption 55). -/
def Dev.hookTick (d : Dev) (jump : Bool) : Dev :=
  let late := (List.range 96).filter (fun n =>
    match (d.core n).task with
    | some t => d.overdue t && !taskFlag t 3
    | none => false)
  let groups := late.map (fun n => taskGroup ((d.core n).task.getD 0))
  let d := d.forEach late (fun d n =>
    let c := d.core n
    ((d.setCore n { c with task := c.task.map (fun t => rsetBits t 8 3 3 1) }).setBit (Reg.HOK_CORE_STAT n) 5 true).count Reg.HOK_OVR_RUN)
  { d with hok := { d.hok with sweep := some ⟨late.length, groups.min?, jump⟩, refMark := [], cqMark := [] } }.hookRun

/-- What the sweep makes of a group's queue: the tasks kept, those discarded, and how many were marked late. -/
def Dev.sweepQueue (d : Dev) : List Nat → List Nat × List Nat × Nat
  | [] => ([], [], 0)
  | t :: rest =>
    let r := d.sweepQueue rest
    if d.overdue t = false then (t :: r.1, r.2)
    else if taskFlag t 1 then (r.1, t :: r.2.1, r.2.2)
    else if taskFlag t 3 then (t :: r.1, r.2)
    else (rsetBits t 8 3 3 1 :: r.1, r.2.1, r.2.2 + 1)

/-- The sweep of one group: the device, and the totals of discards and marks so far with the lowest group involved. -/
def Dev.sweepGroup (p : Dev × Nat × Nat × Option Nat) (jump : Bool) (g : Nat) : Dev × Nat × Nat × Option Nat :=
  let r := p.1.sweepQueue (p.1.queueOf g)
  let k := r.2.1.length
  if k = 0 ∧ r.2.2 = 0 then p
  else
    let d := (p.1.setQueue g r.1).forEach r.2.1 (fun d t => d.taskDiscard t (if jump then 3 else 2))
    ((d.count Reg.HOK_OVR_DISCARD k).count Reg.HOK_OVR_LATE r.2.2, p.2.1 + k, p.2.2.1 + r.2.2, p.2.2.2.orElse (fun _ => some g))

/-- The sweep ends: ROW_OVERRUN if any task was marked or discarded at its tick (R125) (assumption 55). -/
def Dev.sweepRun (d : Dev) : Dev :=
  match d.hok.sweep with
  | none => d
  | some s =>
    let d := { d with hok := { d.hok with sweep := none } }
    let p := d.groupsQueued.foldl (fun p g => Dev.sweepGroup p s.jump g) (d, 0, 0, none)
    let d := if s.running = 0 ∧ p.2.1 = 0 ∧ p.2.2.1 = 0 then p.1
      else
        let sat (n : Nat) : List Byte := leBytes 2 (min n 0xFFFF)
        let low := ((s.lowest.toList ++ p.2.2.2.toList).min?).getD 0
        p.1.raise Ev.ROW_OVERRUN 0 0 (sat s.running ++ sat p.2.1 ++ sat p.2.2.1 ++ leBytes 2 low ++ [b8 s.jump.toNat])
    d.hookRun

/-- SWEEP_END (R125). -/
def sweepEndEffect (d : Dev) : Dev := d.sweepRun

/-- SWEEP_END. -/
def execSweepEnd (s : State) : Host.Outcome State Fault Refusal := s.run sweepEndEffect

end Sys2Proof.Machine
end

