-- ==== Sys2Proof/Machine/Operands.lean ====
section
/-! DEFINITION. Operands of an ADSP core: registers of both banks (Tables 08-1, 09-1), address generation (R146), the data
memories (R131, R132), regions of shared memory (R155) and results on their way (R137, R139). -/

namespace Sys2Proof.Machine

/-! ### Registers -/

/-- A core register that is plain storage. -/
def Core.r (c : Core) (k : Nat) : Nat := tat 0 c.regs k

/-- A bank-2 register that is plain storage. -/
def Core.b2 (c : Core) (k : Nat) : Nat := tat 0 c.bank2 k

/-- A bank-2 register replaced. -/
def Core.setB2 (c : Core) (k v : Nat) : Core := { c with bank2 := tset 0 c.bank2 k v }

/-- Accumulator as MAC operations see it. -/
def Core.accNow (c : Core) (a : Nat) : Int := sInt 72 (tat 0 c.acc a)

/-- Accumulator as extraction, EXP, shifts and moves see it: one word late (R137). -/
def Core.accSeen (c : Core) (a : Nat) : Nat := tat 0 c.accOld a

/-- OPM.ACCSAT. -/
def Core.accSat (c : Core) : Bool := (c.r 0x1D).testBit 1

/-- OPM.ALUSAT. -/
def Core.aluSat (c : Core) : Bool := (c.r 0x1D).testBit 0

/-- A core register as a move or a store reads it (Table 08-1). -/
def Core.read (c : Core) (k : Nat) : Nat :=
  if k < 0x10 then c.r k
  else if k < 0x14 then c.accSeen (k - 0x10) % 2 ^ 32
  else if k < 0x18 then c.accSeen (k - 0x14) / 2 ^ 32 % 2 ^ 32
  else if k < 0x1C then uNat 32 (sInt 8 (c.accSeen (k - 0x18) / 2 ^ 64))
  else if k = 0x1C then c.flgOld
  else if k = 0x1E then c.cyc % 2 ^ 32
  else c.r k

/-- A read of CYC_LO latches CYC_HI. -/
def Core.latch (c : Core) (k : Nat) : Core :=
  if k = 0x1E then { c with regs := tset 0 c.regs 0x1F (c.cyc / 2 ^ 32 % 2 ^ 32) } else c

/-- CSTAT of a core (Table 09-1). -/
def Dev.cstat (d : Dev) (n : Nat) : Nat :=
  let h := Reg.HOK_CORE_STAT n
  let c := d.core n
  (d.bit h 4).toNat * 2 ^ 31 + (d.bit h 5).toNat * 2 ^ 30 + c.inIrq.toNat * 2 ^ 29 + c.postRes % 8

/-- A bank-2 register as a move reads it (Table 09-1). -/
def Dev.readB2 (d : Dev) (n k : Nat) : Nat :=
  if k = 0x18 then d.cstat n else if k = 0x19 then n + 2 ^ 8 * (n / 16) else (d.core n).b2 k

/-- A bank-2 number that Table 09-1 lists. -/
def b2Listed (k : Nat) : Bool := decide (k ≤ 0x0C ∨ (0x10 ≤ k ∧ k ≤ 0x19))

/-- Bits of a bank-2 register that a write sets: its width, none of a read-only one. -/
def b2Mask (k : Nat) : Nat :=
  if k = 3 then 7 else if k ∈ [1, 2, 7, 8, 9, 0xA, 0xB, 0xC, 0x12, 0x14, 0x17] then 0xFFFF
  else if k = 0x10 then 0x8000000F else if k = 0x16 then 0xFF else if k = 0x18 ∨ k = 0x19 then 0 else 0xFFFFFFFF

/-- A bank-2 register takes a value: pending sources are cleared by ones, and GIE is kept inside a handler (R149). -/
def Core.landB2 (c : Core) (k v : Nat) : Core :=
  if k = 0x11 then c.setB2 k (mix (v &&& 0xF) (c.b2 k) 0)
  else if k = 0x10 ∧ c.inIrq then c.setB2 k (mix 0xF (c.b2 k) v)
  else c.setB2 k (mix (b2Mask k) (c.b2 k) v)

/-- An accumulator part takes a value (Table 08-1): 32 bits at [31:0] or [63:32], or the guard bits. -/
def Core.landAcc (c : Core) (k v : Nat) : Core :=
  let a := (k - 0x10) % 4
  let old := tat 0 c.acc a
  { c with acc := tset 0 c.acc a (rset old (k / 4 % 4 * 4) (if k < 0x18 then 4 else 1) v) }

/-- A core register takes a value; CYC is not written. -/
def Core.landReg (c : Core) (k v : Nat) : Core :=
  if 0x10 ≤ k ∧ k < 0x1C then c.landAcc k v
  else if k = 0x1C then { c with flg := flgMove c.flg v }
  else if k = 0x1E ∨ k = 0x1F then c
  else { c with regs := tset 0 c.regs k (if k = 0x1D then v % 4 else v % 2 ^ 32) }

/-- A result reaches its place. -/
def Core.landOne (c : Core) (w : DspWrite) : Core :=
  match w.dest with
  | .reg k => c.landReg k w.value
  | .bank2 k => c.landB2 k w.value
  | .mem false a n => { c with x := memWrite c.x a (leBytes n w.value) }
  | .mem true a n => { c with y := memWrite c.y a (leBytes n w.value) }

/-- A register result whose register a later one reaches as well is lost: what lands, and whether any was lost (R139). -/
def landing : List DspWrite → List DspWrite × Bool
  | [] => ([], false)
  | w :: t =>
    let r := landing t
    match w.dest with
    | .mem _ _ _ => (w :: r.1, r.2)
    | _ => if t.any (fun v => v.dest == w.dest) then (r.1, true) else (w :: r.1, r.2)

/-- The end of a word: what is due lands, the rest comes one word nearer (R137, R139) (assumption 57). -/
def Core.land (c : Core) : Core :=
  let due := landing (c.pipe.filter (fun w => w.left == 0))
  let later := (c.pipe.filter (fun w => w.left != 0)).map (fun w => { w with left := w.left - 1 })
  let c := due.1.foldl Core.landOne { c with pipe := later }
  { c with flg := stick c.flg flgCOLL due.2 }

/-- Every issued word completes (R138): all results land in order, and nothing is seen late. -/
def Core.drain (c : Core) : Core :=
  let c := c.land.land.land.land
  { c with accOld := c.acc, flgOld := c.flg }

/-- Delay slots of a move or ALU result into a core register (Table 08-5) (assumption 57). -/
def moveSlots (k : Nat) : Nat := if 0x20 ≤ k then 1 else if k = 0x1D then 2 else 0

/-- Delay slots of a load from X or Y memory into a core register (Table 08-5) (assumption 57). -/
def loadSlots (k : Nat) : Nat := if 0x20 ≤ k then 3 else 2

/-- A result sets out (assumption 57). -/
def Core.push (c : Core) (dest : DspDest) (value left : Nat) : Core := { c with pipe := c.pipe ++ [⟨dest, value, left⟩] }

/-! ### Addresses -/

/-- Reversal of the low `k` bits. -/
def revBits : Nat → Nat → Nat
  | 0, _ => 0
  | k + 1, x => x % 2 * 2 ^ k + revBits k (x / 2)

/-- Step of an access of `u` bytes (R146). -/
def Core.stepOf (c : Core) (s : Step) (u : Nat) : Int :=
  match s with
  | .reg k => sInt 32 (c.r (0x28 + k.val))
  | .imm v => v.toInt * u

/-- The pointer after an access of `u` bytes through A register `n` with step `m` (R146). -/
def Core.agPost (c : Core) (n : Nat) (m : Int) (u : Nat) : Nat :=
  let p := c.r (0x20 + n)
  let cb := c.r (0x30 + n)
  let cl := c.r (0x38 + n)
  if (c.b2 0x16).testBit n ∧ 2 * u ≤ cl then
    let k := Nat.log2 (cl / u)
    let j := sub32 p cb / u % 2 ^ k
    let q := uNat 32 m / u % 2 ^ k
    (cb + revBits k ((revBits k j + revBits k q) % 2 ^ k) * u) % 2 ^ 32
  else if cl = 0 then uNat 32 ((p : Int) + m)
  else
    let o : Int := (sub32 p cb : Int) + m
    let o := if (cl : Int) ≤ o then o - cl else if o < 0 then o + cl else o
    uNat 32 ((cb : Int) + o)

/-- Bytes of an access: size 0 16-bit, 1 32-bit, 2 64-bit. -/
def accessBytes (size : Nat) : Nat := 2 * 2 ^ size

/-- Which memory a data address reaches on a bus (R131): 1 X, 2 Y, 3 shared, 4 a unit slot, 0 none. -/
def dataSpace (y : Bool) (a : Nat) : Nat :=
  if a < 0x10000 then (if y then 2 else 1)
  else if y then 0
  else if 0x200000 ≤ a ∧ a < 0x400000 then 3
  else if 0x400000 ≤ a ∧ a < 0x4000C0 then 4 else 0

/-- Shared memory of a skein. -/
def Dev.shm (d : Dev) (sk : Nat) : List Host.Cell := tat [] d.dsp.shm sk

/-- Shared memory replaced. -/
def Dev.setShm (d : Dev) (sk : Nat) (m : List Host.Cell) : Dev := { d with dsp := { d.dsp with shm := tset [] d.dsp.shm sk m } }

/-- Bytes of shared memory at X address `a`. -/
def Dev.shmRead (d : Dev) (sk a n : Nat) : List Byte := memRead (d.shm sk) (a - 0x200000) n

/-- Bytes written to shared memory at X address `a`. -/
def Dev.shmWrite (d : Dev) (sk a : Nat) (b : List Byte) : Dev := d.setShm sk (memWrite (d.shm sk) (a - 0x200000) b)

/-- Shared memory `[a, a+n)`, an X address, lies wholly within one region whose groups include `g` (R155). -/
def Dev.regionOk (d : Dev) (sk g a n : Nat) : Bool :=
  (List.range 16).any (fun r =>
    let w := d.reg (Reg.DSP_SHM_RGN_ADDR sk r)
    let base := 0x200000 + wfld w 8 0 * 4096
    let k := d.reg (Reg.DSP_SHM_RGN_GRP sk r)
    decide (base ≤ a ∧ a + n ≤ base + wfld w 25 16 * 4096 ∧ 0 < wfld w 25 16 ∧ wfld k 11 0 ≤ g ∧ g ≤ wfld k 27 16))

/-- A core's task may store to `[a, a+n)` of shared memory (R155); a core without a task may not. -/
def Dev.mayStore (d : Dev) (n a k : Nat) : Bool :=
  match (d.core n).task with
  | some t => d.regionOk (n / 16) (taskGroup t) a k
  | none => false

/-- Key of a core's slot in a unit of its skein. -/
def slotKey (n unit : Nat) : Nat := 16 * (3 * (n / 16) + unit) + n % 16

/-- A core's slot of a unit (Table 09-5). -/
def Dev.unitSlot (d : Dev) (n unit : Nat) : Nat := tat 0 d.dsp.slots (slotKey n unit)

/-- A slot replaced. -/
def Dev.setUnitSlot (d : Dev) (n unit v : Nat) : Dev := { d with dsp := { d.dsp with slots := tset 0 d.dsp.slots (slotKey n unit) v } }

/-- A slot's command runs. -/
def Dev.slotBusy (d : Dev) (n unit : Nat) : Bool := rbits (d.unitSlot n unit) 4 31 31 == 1

/-- Bits of a slot that a write sets: OP, IRQ, and bytes 8 to 27. -/
def slotMask : Nat := 0x400000FF + (256 ^ 28 - 256 ^ 8)

/-- Commands that wait in a unit, oldest first: core and slot as it stood at GO. -/
def Dev.unitQueue (d : Dev) (sk unit : Nat) : List (Nat × Nat) := tat [] d.dsp.units (3 * sk + unit)

/-- A unit's queue replaced. -/
def Dev.setUnitQueue (d : Dev) (sk unit : Nat) (l : List (Nat × Nat)) : Dev :=
  { d with dsp := { d.dsp with units := tset [] d.dsp.units (3 * sk + unit) l } }

/-- GO (R158): BUSY, and the command waits its turn; ignored while one is BUSY. -/
def Dev.slotGo (d : Dev) (n unit : Nat) : Dev :=
  if d.slotBusy n unit then d
  else
    let s := rset (d.unitSlot n unit) 4 4 (2 ^ 31)
    (d.setUnitSlot n unit s).setUnitQueue (n / 16) unit (d.unitQueue (n / 16) unit ++ [(n, s)])

/-- A store of `k` bytes at byte `off` of a core's slots (R158): reserved and read-only bits keep their values. -/
def Dev.slotStore (d : Dev) (n off k v : Nat) : Dev :=
  let unit := off / 64
  let m := slotMask &&& bytesMask (off % 64) k
  let w := v % 256 ^ k * 256 ^ (off % 64)
  let d := d.setUnitSlot n unit (mix m (d.unitSlot n unit) w)
  if off % 64 < 4 ∧ w.testBit 31 then d.slotGo n unit else d
where
  /-- `k` bytes from byte `o` as a mask. -/
  bytesMask (o k : Nat) : Nat := (256 ^ k - 1) * 256 ^ o

/-! ### Instruction words -/

/-- The 32-bit word of P memory at an address. -/
def Core.pWord (c : Core) (a : Nat) : Nat := leNat (memRead c.p a 4)

/-- Address after the word at `a`: 64-bit words have class 3 (R153). -/
def Core.nextWord (c : Core) (a : Nat) : Nat := (a + if c.pWord a / 2 ^ 30 = 3 then 8 else 4) % 2 ^ 16

/-- The body from `a` to the word at `e` has at most `k` words. -/
def Core.bodyFits (c : Core) (a e : Nat) : Nat → Bool
  | 0 => false
  | k + 1 => a == e || c.bodyFits (c.nextWord a) e k

/-- The word at `pc` is one of the last three of the active loop's body (R148). -/
def Core.lastThree (c : Core) : Bool :=
  let e := c.b2 2
  decide (1 ≤ c.b2 3 ∧ c.b2 1 ≤ c.pc ∧ c.pc ≤ e) && c.bodyFits c.pc e 3

end Sys2Proof.Machine
end

