-- ==== Sys2Proof/Machine/Dsp.lean ====
section
/-! DEFINITION. The ADSP cores (chapters 08 and 09): the issue of one instruction word, its faults, hardware loops,
interrupts, and the commands of each operation. A command names the word that the core issues at its next address: one
operation, or with others in `rest` a 64-bit word. -/

namespace Sys2Proof.Machine

/-! ### Halts and faults -/

/-- A core changed in place. -/
def Dev.modCore (d : Dev) (n : Nat) (f : Core → Core) : Dev := d.setCore n (f (d.core n))

/-- A core halts (R140, R161): issued words complete, the loop cache is invalid, CAUSE tells why. -/
def Dev.haltCore (d : Dev) (n cause : Nat) : Dev :=
  ((d.modCore n (fun c => { c.drain with state := 2, cache := 0, step := false })).setFld
    (Reg.DSP_CORE_STAT (n / 16) (n % 16)) 26 24 cause).hookRun

/-- A fault (R144): the core halts before the word has any effect, and its task is discarded. -/
def Dev.faultCore (d : Dev) (n cause code : Nat) (args : List Byte) : Dev :=
  let dom := d.fld (Reg.DSP_SK_CFG (n / 16)) 3 0
  (((d.haltCore n cause).raise code n dom args).discardHeld n).hookRun

/-- Arguments of a fault (Table 08-6): P address, data address, memory. -/
def faultArgs (pc addr mem : Nat) : List Byte := leBytes 4 pc ++ leBytes 4 addr ++ [b8 mem]

/-- A breakpoint stands at the core's next word. -/
def Dev.breakHere (d : Dev) (n : Nat) : Bool :=
  (List.range 4).any (fun k =>
    let w := d.reg (Reg.DSP_CORE_BP (n / 16) (n % 16) k)
    wbit w 31 && wfld w 15 0 == (d.core n).pc)

/-- A breakpoint is reached (Table 09-7). -/
def Dev.breakCore (d : Dev) (n : Nat) : Dev :=
  (d.haltCore n 2).raise Ev.DSP_BREAK n (d.fld (Reg.DSP_SK_CFG (n / 16)) 3 0)

/-! ### Illegal words (R130, R138, R148, R153) -/

/-- Slot of an operation (Table 08-2): 0 MAC, 1 ALU, 2 X, 3 Y, 4 flow, 5 none. -/
def issueSlot : SlotOp → Nat
  | .product .. | .clr _ | .accShift .. | .accAdd .. => 0
  | .alu .. | .shift .. | .ext .. | .ext2 .. | .expD .. | .expAcc .. | .extN .. => 1
  | .load y .. | .store y .. => if y then 3 else 2
  | .ldi .. | .ldih .. | .move .. | .pmov .. | .xadd .. => 2
  | .jmp _ | .call _ | .ret | .br .. | .loop .. | .lpop | .rti | .take | .give | .giveY | .post _ | .fence | .cinv => 4
  | .nop | .empty => 5

/-- Pointer and step of a move in a 64-bit word: A0-A3 and S0-S3 on X, A4-A7 and S4-S7 on Y, a D register. -/
def move64 (y : Bool) (r an : Nat) : Step → Bool
  | .reg s => decide (r < 16) && decide (4 ≤ an) == y && decide (4 ≤ s.val) == y
  | .imm _ => false

/-- An operation that Table 09-2 can hold. -/
def fits64 : SlotOp → Bool
  | .product .. | .clr _ | .empty => true
  | .alu op .. => op != .compare
  | .ext _ _ sh | .ext2 _ _ sh => sh == 0
  | .load y _ r an st | .store y _ r an st => move64 y r.val an.val st
  | _ => false

/-- D registers that an operation writes. -/
def destsD : SlotOp → List Nat
  | .alu op d _ _ => if op = .compare then [] else [d.val]
  | .shift d .. | .ext d .. | .ext2 d .. | .expD d _ | .expAcc d _ => [d.val]
  | .extN d e _ => [d.val, e.val]
  | .load _ size r _ _ => if size.val = 2 then [r.val, r.val + 1] else [r.val]
  | _ => []

/-- Pointers that an operation's post-step moves. -/
def pointersOf : SlotOp → List Nat
  | .load _ _ _ an _ | .store _ _ _ an _ | .pmov _ an _ | .xadd _ _ an _ => [an.val]
  | _ => []

/-- A list with a value twice. -/
def twice : List Nat → Bool
  | [] => false
  | a :: t => t.contains a || twice t

/-- A reserved value in one operation. -/
def reservedOp : SlotOp → Bool
  | .load _ size r _ _ | .store _ size r _ _ => size.val == 2 && (r.val % 2 == 1 || decide (16 ≤ r.val))
  | .br cond _ => decide (10 ≤ cond.val)
  | .loop (.imm v) _ => v == 0
  | .move toB2 dst fromB2 src => (toB2 && !b2Listed dst.val) || (fromB2 && !b2Listed src.val)
  | _ => false

/-- An operation that writes a loop register (R148). -/
def writesLoop : SlotOp → Bool
  | .move true dst _ _ => decide (dst.val ≤ 0x0C)
  | _ => false

/-- A word that is an illegal instruction where the core stands. -/
def Core.illegal (c : Core) (ops : List SlotOp) : Bool :=
  ops.any reservedOp ||
  (decide (1 < ops.length) && (!ops.all fits64 || twice ((ops.map issueSlot).filter (· != 5)) ||
    twice (ops.flatMap destsD) || twice (ops.flatMap pointersOf))) ||
  (c.branch.isSome && ops.any (fun o => issueSlot o == 4)) ||
  (c.lastThree && ops.any (fun o => issueSlot o == 4 || writesLoop o))

/-! ### Address faults (R131, R132, R155) -/

/-- Memory an address fault names: 0 P, 1 X, 2 Y, 3 shared. -/
def faultMem (y : Bool) (a : Nat) : Nat := if y then 2 else if dataSpace y a = 3 then 3 else 1

/-- The address fault of an operation, as (data address, memory). -/
def Dev.accessFault (d : Dev) (n : Nat) (c : Core) : SlotOp → Option (Nat × Nat)
  | .load y size _ an _ =>
    let a := c.r (0x20 + an.val)
    if dataSpace y a = 0 ∨ a % accessBytes size ≠ 0 then some (a, faultMem y a) else none
  | .store y size _ an _ =>
    let a := c.r (0x20 + an.val)
    if dataSpace y a = 0 ∨ a % accessBytes size ≠ 0 ∨ (dataSpace y a = 3 ∧ d.mayStore n a (accessBytes size) = false) then
      some (a, faultMem y a)
    else none
  | .xadd _ _ an _ =>
    let a := c.r (0x20 + an.val)
    if dataSpace false a ≠ 3 ∨ a % 4 ≠ 0 ∨ d.mayStore n a 4 = false then some (a, faultMem false a) else none
  | .pmov _ an _ =>
    let a := c.r (0x20 + an.val)
    if 0x10000 ≤ a ∨ a % 4 ≠ 0 then some (a, 0) else none
  | _ => none

/-! ### Operations of the slots -/

/-- A result into core register `k`. -/
def Dev.result (d : Dev) (n k v left : Nat) : Dev := d.modCore n (fun c => c.push (.reg k) v left)

/-- An ALU result into a D register with its FLG. -/
def Dev.aluResult (d : Dev) (n k v flg : Nat) : Dev := d.modCore n (fun c => { c.push (.reg k) v 0 with flg := flg })

/-- An accumulator takes an exact value (R134). -/
def Dev.accResult (d : Dev) (n a : Nat) (sat : Bool) (s : Int) : Dev :=
  let r := accKeep sat s
  d.modCore n (fun c => { c with acc := tset 0 c.acc a r.1, flg := accFlags c.flg a r.2 })

/-- A post-step (R146): the pointer moves with no delay. -/
def Dev.postStep (d : Dev) (n : Nat) (c : Core) (an : Nat) (st : Step) (u : Nat) : Dev :=
  d.result n (0x20 + an) (c.agPost an (c.stepOf st u) u) 0

/-- An extraction of accumulator value `v` into `bits` bits with `k` discarded, XSAT with it. -/
def Dev.xsat (d : Dev) (n : Nat) (big : Bool) : Dev := d.modCore n (fun c => { c with flg := stick c.flg flgXSAT big })

/-- The Q1.31 extraction (R135) of accumulator `a` by shift `sh` into D register `k`. -/
def Dev.extract (d : Dev) (n : Nat) (c : Core) (k a : Nat) (sh : Int) : Dev :=
  let r := extractTo 32 (sInt 72 (c.accSeen a)) (32 - sh).toNat
  let d := d.xsat n r.2
  d.aluResult n k r.1 (flagsOf (d.core n).flg r.1)

/-- The dual Q1.15 extraction (R135) of ACC2j and ACC2j+1. -/
def Dev.extract2 (d : Dev) (n : Nat) (c : Core) (k j : Nat) (sh : Int) : Dev :=
  let lo := extractTo 16 (sInt 72 (c.accSeen (2 * j))) (48 - sh).toNat
  let hi := extractTo 16 (sInt 72 (c.accSeen (2 * j + 1))) (48 - sh).toNat
  let v := lo.1 + 2 ^ 16 * hi.1
  let d := d.xsat n (lo.2 || hi.2)
  d.aluResult n k v (flagsOf (d.core n).flg v)

/-- The shift EXT.N uses and the one it reports: of zero it reports 0 (KB-6). -/
def normShift (acc : Nat) : Int × Int :=
  let s := clampI (-32) 31 (expAcc acc)
  (s, if acc % 2 ^ 72 = 0 then 0 else s)

/-- EXT.N (R136, KB-6): it sets no overflow flag. -/
def Dev.extractNorm (d : Dev) (n : Nat) (c : Core) (k e a : Nat) : Dev :=
  let s := normShift (c.accSeen a)
  let r := extractTo 32 (sInt 72 (c.accSeen a)) (32 - s.1).toNat
  (d.aluResult n k r.1 (flagsOf (d.core n).flg r.1)).result n e (uNat 32 s.2) 0

/-- Stall of a load from shared memory (R137: 14 to 40 cycles) (assumption 59). -/
def Dev.stallDraw (d : Dev) : Nat × Dev :=
  let p := d.draw
  (14 + Config.sharedStall p.1 % 27, p.2)

/-- The value of a load of `u` bytes, sign-extended from 16 bits. -/
def loadValue (u : Nat) (b : List Byte) : Nat := if u = 2 then uNat 32 (sInt 16 (leNat b)) else leNat b

/-- A loaded value reaches its register, or its even-odd pair. -/
def Dev.loaded (d : Dev) (n r u v left : Nat) : Dev :=
  if u = 8 then (d.result n r (v % 2 ^ 32) left).result n (r + 1) (v / 2 ^ 32) left else d.result n r v left

/-- A load (R131, R132, R137): the device and the stall cycles. -/
def Dev.loadOp (d : Dev) (n : Nat) (c : Core) (y : Bool) (size r a : Nat) : Dev × Nat :=
  let u := accessBytes size
  match dataSpace y a with
  | 1 => (d.loaded n r u (loadValue u (memRead c.x a u)) (loadSlots r), 0)
  | 2 => (d.loaded n r u (loadValue u (memRead c.y a u)) (loadSlots r), 0)
  | 3 =>
    let p := d.stallDraw
    (p.2.loaded n r u (loadValue u (d.shmRead (n / 16) a u)) 0, p.1)
  | _ =>
    let off := a - 0x400000
    (d.loaded n r u (loadValue u (leBytes u (d.unitSlot n (off / 64) / 256 ^ (off % 64)))) (loadSlots r), 0)

/-- A store (R131, R132, R137, R154): local memory takes it two words later, shared memory and unit slots at once. -/
def Dev.storeOp (d : Dev) (n : Nat) (c : Core) (y : Bool) (size r a : Nat) : Dev :=
  let u := accessBytes size
  let v := c.read r + (if u = 8 then 2 ^ 32 * c.read (r + 1) else 0)
  match dataSpace y a with
  | 1 => d.modCore n (fun c => c.push (.mem false a u) v 2)
  | 2 => d.modCore n (fun c => c.push (.mem true a u) v 2)
  | 3 => d.shmWrite (n / 16) a (leBytes u v)
  | _ => d.slotStore n (a - 0x400000) u v

/-- The effect of one operation that is no flow operation; it reads the core as it stood at issue. The number is the
stall cycles so far. -/
def Dev.slotOp (n : Nat) (c : Core) (p : Dev × Nat) (op : SlotOp) : Dev × Nat :=
  let d := p.1
  match op with
  | .product k form acc x y =>
    ((products form acc (c.r x) (c.r y)).foldl
      (fun d e => if k.val = 0 then d.accResult n e.1 false e.2 else d.accResult n e.1 c.accSat (macValue k (c.accNow e.1) e.2)) d, p.2)
  | .clr a => (d.accResult n a false 0, p.2)
  | .accShift a amount =>
    let v := sInt 72 (c.accSeen a)
    (d.accResult n a c.accSat (if 0 ≤ amount.toInt then v * 2 ^ amount.toInt.toNat else v / 2 ^ (-amount.toInt).toNat), p.2)
  | .accAdd dst src => (d.accResult n dst c.accSat (c.accNow dst + c.accNow src), p.2)
  | .alu op k x y =>
    let r := aluOp op c.aluSat (d.core n).flg (c.r x) (c.r y)
    (if op = .compare then d.modCore n (fun c => { c with flg := r.2 }) else d.aluResult n k r.1 r.2, p.2)
  | .shift k x amount arith =>
    let v := barrel (c.r x) amount.toInt arith
    (d.aluResult n k v (flagsOf (d.core n).flg v), p.2)
  | .ext k a sh => (d.extract n c k a sh.toInt, p.2)
  | .ext2 k j sh => (d.extract2 n c k j sh.toInt, p.2)
  | .expD k x =>
    let v := signRun 32 (c.r x)
    (d.aluResult n k v (flagsOf (d.core n).flg v), p.2)
  | .expAcc k a =>
    let v := uNat 32 (expAcc (c.accSeen a))
    (d.aluResult n k v (flagsOf (d.core n).flg v), p.2)
  | .extN k e a => (d.extractNorm n c k e a, p.2)
  | .load y size r an st =>
    let q := d.loadOp n c y size r (c.r (0x20 + an.val))
    (q.1.postStep n c an st (accessBytes size), p.2 + q.2)
  | .store y size r an st =>
    ((((d.modCore n (fun k => k.latch r)).storeOp n c y size r (c.r (0x20 + an.val)))).postStep n c an st (accessBytes size), p.2)
  | .ldi r v => (d.result n r (uNat 32 v.toInt) (moveSlots r), p.2)
  | .ldih r v => (d.result n r (c.read r % 2 ^ 16 + 2 ^ 16 * v.toNat) (moveSlots r), p.2)
  | .move toB2 dst fromB2 src =>
    let v := if fromB2 then d.readB2 n src else c.read src
    let d := if fromB2 then d else d.modCore n (fun k => k.latch src)
    (if toB2 then d.modCore n (fun k => k.push (.bank2 dst) v 2) else d.result n dst v (moveSlots dst), p.2)
  | .pmov r an st =>
    let a := c.r (0x20 + an.val)
    ((d.result n r (leNat (memRead c.p a 4)) 0).postStep n c an st 4, p.2 + 1)
  | .xadd k s an st =>
    let a := c.r (0x20 + an.val)
    let old := leNat (d.shmRead (n / 16) a 4)
    let q := (d.shmWrite (n / 16) a (leBytes 4 (old + c.r s))).stallDraw
    ((q.2.result n k old 0).postStep n c an st 4, p.2 + q.1)
  | .jmp _ | .call _ | .ret | .br _ _ | .loop _ _ | .lpop | .rti | .take | .give | .giveY | .post _ | .fence | .cinv | .nop
  | .empty => p

/-! ### Flow -/

/-- A branch condition (Table 09-4); flags are seen one word late. -/
def Dev.condition (d : Dev) (n : Nat) (c : Core) (cond : Nat) : Bool :=
  let f := c.flgOld
  let h := Reg.HOK_CORE_STAT n
  match cond with
  | 0 => true
  | 1 => f.testBit flgZ
  | 2 => !f.testBit flgZ
  | 3 => f.testBit flgNG
  | 4 => !f.testBit flgNG
  | 5 => f.testBit flgCY
  | 6 => f.testBit flgOV
  | 7 => d.bit h 4
  | 8 => !d.bit h 4
  | _ => d.bit h 5

/-- A loop is pushed (R147) (assumption 60). -/
def Core.pushLoop (c : Core) (count start last : Nat) : Core :=
  let lsp := c.b2 3
  let moved := if lsp = 0 then c else
    ((((((((c.setB2 6 (c.b2 5)).setB2 9 (c.b2 8)).setB2 0xC (c.b2 0xB)).setB2 5 (c.b2 4)).setB2 8 (c.b2 7)).setB2 0xB
      (c.b2 0xA)).setB2 4 (c.b2 0)).setB2 7 (c.b2 1)).setB2 0xA (c.b2 2)
  { (((moved.setB2 0 count).setB2 1 start).setB2 2 last).setB2 3 (lsp + 1) with cache := 1 }

/-- The stack pops: the reverse of a push (R148). -/
def Core.popLoop (c : Core) : Core :=
  let lsp := c.b2 3
  if lsp = 0 then c
  else
    let c := if lsp = 1 then c else
      ((((((((c.setB2 0 (c.b2 4)).setB2 1 (c.b2 7)).setB2 2 (c.b2 0xA)).setB2 4 (c.b2 5)).setB2 7 (c.b2 8)).setB2 0xA
        (c.b2 0xB)).setB2 5 (c.b2 6)).setB2 8 (c.b2 9)).setB2 0xB (c.b2 0xC)
    { c.setB2 3 (lsp - 1) with cache := 0 }

/-- Count of a LOOP. -/
def loopCount (c : Core) : LoopCount → Nat
  | .reg k => c.r k.val
  | .imm v => v.toNat

/-- A flow operation's effect on the sequence: the core at `next` before the word's own effects on Hook (assumption 60). -/
def Core.flow (c : Core) (next : Nat) (taken : Bool) (op : SlotOp) : Core :=
  match op with
  | .jmp t => { c with branch := some (some t.toNat, 2, false) }
  | .call t =>
    { c.setB2 0x17 (c.nextWord (c.nextWord next)) with branch := some (some t.toNat, 2, false) }
  | .ret => { c with branch := some (some (c.b2 0x17), 2, false) }
  | .br _ t => { c with branch := some (if taken then some t.toNat else none, 2, false) }
  | .rti => { c with branch := some (some (c.b2 0x12), 2, true) }
  | .loop k last =>
    if loopCount c k = 0 then { c with pc := c.nextWord last.toNat, cache := 0 } else c.pushLoop (loopCount c k) next last.toNat
  | .lpop => c.popLoop
  | .cinv => { c with cache := 0 }
  | _ => c

/-- RTI completes (R149): GIE set, IN_IRQ clear, FLG from IFLG with the handler's sticky bits kept. -/
def Core.returned (c : Core) : Core :=
  let c := { c with flg := c.b2 0x13 ||| (c.flg &&& 0xF00), inIrq := false }
  c.setB2 0x10 (c.b2 0x10 ||| 2 ^ 31)

/-- A delay slot has issued: after the last one the branch is resolved. -/
def Core.delaySlot (c : Core) : Core :=
  match c.branch with
  | none => c
  | some (t, k, r) =>
    if 1 < k then { c with branch := some (t, k - 1, r) }
    else
      let c := { c with branch := none, pc := t.getD c.pc }
      if r then c.returned else c

/-- The word at LE has issued (R148): the back-edge or the end of the loop, with the stall of the back-edge (R140)
(assumption 60) (assumption 60). -/
def Core.backEdge (c : Core) : Core × Nat :=
  if c.b2 0 ≤ 1 then (c.popLoop, 0)
  else
    let stall := if c.cache = 0 ∨ c.bodyFits (c.b2 1) (c.b2 2) 64 = false then 2 else 0
    ({ c.setB2 0 (c.b2 0 - 1) with pc := c.b2 1, cache := min 2 (c.cache + 1) }, stall)

/-- The core after the word's slots: what is due lands, then the address of the next word (R137, R148); stall cycles. -/
def Core.sequence (c : Core) (size : Nat) (taken : Bool) (ops : List SlotOp) : Core × Nat :=
  let at_ := c.pc
  let slot := c.branch.isSome
  let atEnd := decide (1 ≤ c.b2 3 ∧ c.b2 2 = at_)
  let c := { c.land with pc := (at_ + size) % 2 ^ 16 }
  let c := ops.foldl (fun c o => c.flow c.pc taken o) c
  if slot then (c.delaySlot, 0) else if atEnd then c.backEdge else (c, 0)

/-! ### Cycles and interrupts -/

/-- A core spends `k` cycles: CYC, the cycles spent running tasks, and source 0 when CYC_LO passes CYCCMP (R149)
(assumption 59) (assumption 59). -/
def Dev.spend (d : Dev) (n k : Nat) : Dev :=
  let c := d.core n
  let cmp := c.b2 0x15
  let hit := cmp ≠ 0 ∧ (cmp + 2 ^ 32 - (c.cyc + 1) % 2 ^ 32) % 2 ^ 32 < k
  let c' := { c with cyc := (c.cyc + k) % 2 ^ 64 }
  let d := d.setCore n (if hit then c'.setB2 0x11 (c'.b2 0x11 ||| 1) else c')
  if c.task.isSome then d.count64 (Reg.DSP_CORE_BUSY_LO (n / 16) (n % 16)) k else d

/-- The lowest pending and enabled source (R149) (assumption 61). -/
def Core.source (c : Core) : Option Nat :=
  (List.range 4).find? (fun i => (c.b2 0x11).testBit i && (c.b2 0x10).testBit i)

/-- An interrupt can be taken at this word boundary (R149) (assumption 61). -/
def Core.interruptible (c : Core) : Bool :=
  c.state == 1 && c.ending == 0 && c.branch.isNone && (c.b2 0x10).testBit 31 && c.source.isSome

/-- Interrupt entry (R149) (assumption 61). -/
def Core.enter (c : Core) (src : Nat) : Core :=
  let c := c.drain
  let c := { (((c.setB2 0x12 c.pc).setB2 0x13 c.flg).setB2 0x10 (c.b2 0x10 &&& 0xF)).setB2 0x11
    (mix (2 ^ src) (c.b2 0x11) 0) with inIrq := true, cache := 0 }
  { c with pc := (c.b2 0x14 + 32 * src) % 2 ^ 16 }

/-! ### Task ends and TAKE -/

/-- Every command that the core has issued to its units is DONE (R154). -/
def Dev.unitsIdle (d : Dev) (n : Nat) : Bool := (List.range 3).all (fun u => !d.slotBusy n u)

/-- A GIVE or GIVE.Y that waited is applied once the units are done (R154). -/
def Dev.finishTask (d : Dev) (n : Nat) : Dev :=
  let c := d.core n
  match c.task with
  | some t =>
    if c.ending = 0 ∨ d.unitsIdle n = false then d
    else if c.ending = 1 then d.applyGive n t else d.applyGiveY n t
  | none => d

/-- GIVE (`kind` 1) or GIVE.Y (2): results complete, IRQP and IEN clear (R151), and the end waits for the units. A core
without a task raises GIVE_NO_TASK (R123). -/
def Dev.endTask (d : Dev) (n kind : Nat) : Dev :=
  match (d.core n).task with
  | none => d.raise Ev.GIVE_NO_TASK n (d.fld (Reg.DSP_SK_CFG (n / 16)) 3 0)
  | some _ =>
    (d.modCore n (fun c => { (c.drain.setB2 0x11 0).setB2 0x10 0 with ending := kind })).finishTask n

/-- What a flow operation does beyond the sequence of words (assumption 60). -/
def Dev.flowEffect (d : Dev) (n : Nat) (op : SlotOp) : Dev :=
  match op with
  | .take => (d.modCore n (fun c => { c.drain with state := 0, asleep := true, cache := 0 })).hookRun
  | .give => d.endTask n 1
  | .giveY => d.endTask n 2
  | .post desc =>
    let r := d.submit (33 + n / 16) (d.fld (Reg.DSP_SK_CFG (n / 16)) 3 0) desc.toNat
    r.2.modCore n (fun c => { c with postRes := r.1 })
  | _ => d

/-! ### One word -/

/-- A LOOP in a word. -/
def hasLoop (ops : List SlotOp) : Bool := ops.any (fun o => match o with | .loop .. => true | _ => false)

/-- A branch whose condition holds in a word. -/
def Dev.takenIn (d : Dev) (n : Nat) (c : Core) (ops : List SlotOp) : Bool :=
  ops.any (fun o => match o with | .br cond _ => d.condition n c cond | _ => false)

/-- The word's effects when it issues (R130): slots, landing, sequence, cycles, what it asks of Hook, and the halt of a
single step (assumption 56). -/
def Dev.perform (d : Dev) (n : Nat) (ops : List SlotOp) : Dev :=
  let c := d.core n
  let taken := d.takenIn n c ops
  let p := ops.foldl (Dev.slotOp n c) (d.setCore n { c with accOld := c.acc, flgOld := c.flg, skip := false }, 0)
  let s := (p.1.core n).sequence (if ops.length ≤ 1 then 4 else 8) taken ops
  let d := (p.1.setCore n s.1).spend n (1 + p.2 + s.2)
  let d := d.forEach ops (fun d o => d.flowEffect n o)
  if (d.core n).step then d.haltCore n 3 else d

/-- A running core issues a word (R130, R144): a breakpoint halts before it; an illegal word, an address fault or a LOOP
on a full stack stops the core before it has any effect (assumption 56). -/
def Dev.issueWord (d : Dev) (n : Nat) (ops : List SlotOp) : Dev :=
  let c := d.core n
  if d.regionOff (24 + n / 16) ∨ c.state ≠ 1 ∨ c.ending ≠ 0 then d
  else if c.skip = false ∧ d.breakHere n = true then d.breakCore n
  else if c.pc % 4 ≠ 0 then d.faultCore n 4 Ev.DSP_ADDR_FAULT (faultArgs c.pc c.pc 0)
  else if c.illegal ops then d.faultCore n 4 Ev.DSP_ILLEGAL (faultArgs c.pc 0 0)
  else match ops.findSome? (d.accessFault n c) with
    | some (a, m) => d.faultCore n 4 Ev.DSP_ADDR_FAULT (faultArgs c.pc a m)
    | none => if hasLoop ops ∧ 4 ≤ c.b2 3 then d.faultCore n 5 Ev.DSP_LOOP_STACK [] else d.perform n ops

/-! ### The commands -/

/-- MPY (R133). -/
def mpyEffect (n : Nat) (form : Fin 4) (acc : Fin 4) (x y : Fin 16) (rest : List SlotOp) (d : Dev) : Dev := d.issueWord n (.product 0 form acc x y :: rest)

/-- MPY. -/
def execMpy (n : Fin 96) (form : Fin 4) (acc : Fin 4) (x y : Fin 16) (rest : List SlotOp) (s : State) : Host.Outcome State Fault Refusal :=
  s.run (mpyEffect n form acc x y rest)

/-- MAC (R134). -/
def macEffect (n : Nat) (form : Fin 4) (acc : Fin 4) (x y : Fin 16) (rest : List SlotOp) (d : Dev) : Dev := d.issueWord n (.product 1 form acc x y :: rest)

/-- MAC. -/
def execMac (n : Fin 96) (form : Fin 4) (acc : Fin 4) (x y : Fin 16) (rest : List SlotOp) (s : State) : Host.Outcome State Fault Refusal :=
  s.run (macEffect n form acc x y rest)

/-- MSU (R134). -/
def msuEffect (n : Nat) (form : Fin 4) (acc : Fin 4) (x y : Fin 16) (rest : List SlotOp) (d : Dev) : Dev := d.issueWord n (.product 2 form acc x y :: rest)

/-- MSU. -/
def execMsu (n : Fin 96) (form : Fin 4) (acc : Fin 4) (x y : Fin 16) (rest : List SlotOp) (s : State) : Host.Outcome State Fault Refusal :=
  s.run (msuEffect n form acc x y rest)

/-- CLR (R130). -/
def clrEffect (n : Nat) (acc : Fin 4) (rest : List SlotOp) (d : Dev) : Dev := d.issueWord n (.clr acc :: rest)

/-- CLR. -/
def execClr (n : Fin 96) (acc : Fin 4) (rest : List SlotOp) (s : State) : Host.Outcome State Fault Refusal :=
  s.run (clrEffect n acc rest)

/-- ACC_SHIFT (R134). -/
def accShiftEffect (n : Nat) (acc : Fin 4) (amount : BitVec 7) (rest : List SlotOp) (d : Dev) : Dev := d.issueWord n (.accShift acc amount :: rest)

/-- ACC_SHIFT. -/
def execAccShift (n : Fin 96) (acc : Fin 4) (amount : BitVec 7) (rest : List SlotOp) (s : State) : Host.Outcome State Fault Refusal :=
  s.run (accShiftEffect n acc amount rest)

/-- ACC_ADD (R134). -/
def accAddEffect (n : Nat) (dst src : Fin 4) (rest : List SlotOp) (d : Dev) : Dev := d.issueWord n (.accAdd dst src :: rest)

/-- ACC_ADD. -/
def execAccAdd (n : Fin 96) (dst src : Fin 4) (rest : List SlotOp) (s : State) : Host.Outcome State Fault Refusal :=
  s.run (accAddEffect n dst src rest)

/-- ADD (R153). -/
def aluAddEffect (n : Nat) (k x y : Fin 16) (rest : List SlotOp) (d : Dev) : Dev := d.issueWord n (.alu .add k x y :: rest)

/-- ADD. -/
def execAluAdd (n : Fin 96) (k x y : Fin 16) (rest : List SlotOp) (s : State) : Host.Outcome State Fault Refusal :=
  s.run (aluAddEffect n k x y rest)

/-- SUB (R153). -/
def aluSubEffect (n : Nat) (k x y : Fin 16) (rest : List SlotOp) (d : Dev) : Dev := d.issueWord n (.alu .sub k x y :: rest)

/-- SUB. -/
def execAluSub (n : Fin 96) (k x y : Fin 16) (rest : List SlotOp) (s : State) : Host.Outcome State Fault Refusal :=
  s.run (aluSubEffect n k x y rest)

/-- MIN (R153). -/
def aluMinEffect (n : Nat) (k x y : Fin 16) (rest : List SlotOp) (d : Dev) : Dev := d.issueWord n (.alu .min k x y :: rest)

/-- MIN. -/
def execAluMin (n : Fin 96) (k x y : Fin 16) (rest : List SlotOp) (s : State) : Host.Outcome State Fault Refusal :=
  s.run (aluMinEffect n k x y rest)

/-- MAX (R153). -/
def aluMaxEffect (n : Nat) (k x y : Fin 16) (rest : List SlotOp) (d : Dev) : Dev := d.issueWord n (.alu .max k x y :: rest)

/-- MAX. -/
def execAluMax (n : Fin 96) (k x y : Fin 16) (rest : List SlotOp) (s : State) : Host.Outcome State Fault Refusal :=
  s.run (aluMaxEffect n k x y rest)

/-- AND (R153). -/
def aluAndEffect (n : Nat) (k x y : Fin 16) (rest : List SlotOp) (d : Dev) : Dev := d.issueWord n (.alu .and k x y :: rest)

/-- AND. -/
def execAluAnd (n : Fin 96) (k x y : Fin 16) (rest : List SlotOp) (s : State) : Host.Outcome State Fault Refusal :=
  s.run (aluAndEffect n k x y rest)

/-- OR (R153). -/
def aluOrEffect (n : Nat) (k x y : Fin 16) (rest : List SlotOp) (d : Dev) : Dev := d.issueWord n (.alu .or k x y :: rest)

/-- OR. -/
def execAluOr (n : Fin 96) (k x y : Fin 16) (rest : List SlotOp) (s : State) : Host.Outcome State Fault Refusal :=
  s.run (aluOrEffect n k x y rest)

/-- XOR (R153). -/
def aluXorEffect (n : Nat) (k x y : Fin 16) (rest : List SlotOp) (d : Dev) : Dev := d.issueWord n (.alu .xor k x y :: rest)

/-- XOR. -/
def execAluXor (n : Fin 96) (k x y : Fin 16) (rest : List SlotOp) (s : State) : Host.Outcome State Fault Refusal :=
  s.run (aluXorEffect n k x y rest)

/-- ADD2 (R153). -/
def aluAdd2Effect (n : Nat) (k x y : Fin 16) (rest : List SlotOp) (d : Dev) : Dev := d.issueWord n (.alu .add2 k x y :: rest)

/-- ADD2. -/
def execAluAdd2 (n : Fin 96) (k x y : Fin 16) (rest : List SlotOp) (s : State) : Host.Outcome State Fault Refusal :=
  s.run (aluAdd2Effect n k x y rest)

/-- SUB2 (R153). -/
def aluSub2Effect (n : Nat) (k x y : Fin 16) (rest : List SlotOp) (d : Dev) : Dev := d.issueWord n (.alu .sub2 k x y :: rest)

/-- SUB2. -/
def execAluSub2 (n : Fin 96) (k x y : Fin 16) (rest : List SlotOp) (s : State) : Host.Outcome State Fault Refusal :=
  s.run (aluSub2Effect n k x y rest)

/-- COMPARE (R130). -/
def aluCompareEffect (n : Nat) (x y : Fin 16) (rest : List SlotOp) (d : Dev) : Dev := d.issueWord n (.alu .compare 0 x y :: rest)

/-- COMPARE. -/
def execAluCompare (n : Fin 96) (x y : Fin 16) (rest : List SlotOp) (s : State) : Host.Outcome State Fault Refusal :=
  s.run (aluCompareEffect n x y rest)

/-- ABS (R153). -/
def aluAbsEffect (n : Nat) (k x : Fin 16) (rest : List SlotOp) (d : Dev) : Dev := d.issueWord n (.alu .abs k x 0 :: rest)

/-- ABS. -/
def execAluAbs (n : Fin 96) (k x : Fin 16) (rest : List SlotOp) (s : State) : Host.Outcome State Fault Refusal :=
  s.run (aluAbsEffect n k x rest)

/-- MOV (R153). -/
def aluMovEffect (n : Nat) (k x : Fin 16) (rest : List SlotOp) (d : Dev) : Dev := d.issueWord n (.alu .mov k x 0 :: rest)

/-- MOV. -/
def execAluMov (n : Fin 96) (k x : Fin 16) (rest : List SlotOp) (s : State) : Host.Outcome State Fault Refusal :=
  s.run (aluMovEffect n k x rest)

/-- BARREL_SHIFT (R130). -/
def barrelShiftEffect (n : Nat) (k x : Fin 16) (amount : BitVec 6) (arith : Bool) (rest : List SlotOp) (d : Dev) : Dev := d.issueWord n (.shift k x amount arith :: rest)

/-- BARREL_SHIFT. -/
def execBarrelShift (n : Fin 96) (k x : Fin 16) (amount : BitVec 6) (arith : Bool) (rest : List SlotOp) (s : State) : Host.Outcome State Fault Refusal :=
  s.run (barrelShiftEffect n k x amount arith rest)

/-- EXT (R135). -/
def extEffect (n : Nat) (k : Fin 16) (acc : Fin 4) (sh : BitVec 6) (rest : List SlotOp) (d : Dev) : Dev := d.issueWord n (.ext k acc sh :: rest)

/-- EXT. -/
def execExt (n : Fin 96) (k : Fin 16) (acc : Fin 4) (sh : BitVec 6) (rest : List SlotOp) (s : State) : Host.Outcome State Fault Refusal :=
  s.run (extEffect n k acc sh rest)

/-- EXT2 (R135). -/
def ext2Effect (n : Nat) (k : Fin 16) (j : Fin 2) (sh : BitVec 6) (rest : List SlotOp) (d : Dev) : Dev := d.issueWord n (.ext2 k j sh :: rest)

/-- EXT2. -/
def execExt2 (n : Fin 96) (k : Fin 16) (j : Fin 2) (sh : BitVec 6) (rest : List SlotOp) (s : State) : Host.Outcome State Fault Refusal :=
  s.run (ext2Effect n k j sh rest)

/-- EXP (R136). -/
def expEffect (n : Nat) (k : Fin 16) (ofAcc : Bool) (x : Fin 16) (rest : List SlotOp) (d : Dev) : Dev := d.issueWord n ((if ofAcc then .expAcc k (Fin.ofNat 4 x) else .expD k x) :: rest)

/-- EXP. -/
def execExp (n : Fin 96) (k : Fin 16) (ofAcc : Bool) (x : Fin 16) (rest : List SlotOp) (s : State) : Host.Outcome State Fault Refusal :=
  s.run (expEffect n k ofAcc x rest)

/-- EXT_N (R136). -/
def extNEffect (n : Nat) (k e : Fin 16) (acc : Fin 4) (rest : List SlotOp) (d : Dev) : Dev := d.issueWord n (.extN k e acc :: rest)

/-- EXT_N. -/
def execExtN (n : Fin 96) (k e : Fin 16) (acc : Fin 4) (rest : List SlotOp) (s : State) : Host.Outcome State Fault Refusal :=
  s.run (extNEffect n k e acc rest)

/-- LOAD (R131). -/
def dspLoadEffect (n : Nat) (y : Bool) (size : Fin 3) (r : Fin 64) (an : Fin 8) (step : Step) (rest : List SlotOp) (d : Dev) : Dev := d.issueWord n (.load y size r an step :: rest)

/-- LOAD. -/
def execDspLoad (n : Fin 96) (y : Bool) (size : Fin 3) (r : Fin 64) (an : Fin 8) (step : Step) (rest : List SlotOp) (s : State) : Host.Outcome State Fault Refusal :=
  s.run (dspLoadEffect n y size r an step rest)

/-- STORE (R131). -/
def dspStoreEffect (n : Nat) (y : Bool) (size : Fin 3) (r : Fin 64) (an : Fin 8) (step : Step) (rest : List SlotOp) (d : Dev) : Dev := d.issueWord n (.store y size r an step :: rest)

/-- STORE. -/
def execDspStore (n : Fin 96) (y : Bool) (size : Fin 3) (r : Fin 64) (an : Fin 8) (step : Step) (rest : List SlotOp) (s : State) : Host.Outcome State Fault Refusal :=
  s.run (dspStoreEffect n y size r an step rest)

/-- LDI (R153). -/
def ldiEffect (n : Nat) (r : Fin 64) (v : BitVec 16) (rest : List SlotOp) (d : Dev) : Dev := d.issueWord n (.ldi r v :: rest)

/-- LDI. -/
def execLdi (n : Fin 96) (r : Fin 64) (v : BitVec 16) (rest : List SlotOp) (s : State) : Host.Outcome State Fault Refusal :=
  s.run (ldiEffect n r v rest)

/-- LDIH (R153). -/
def ldihEffect (n : Nat) (r : Fin 64) (v : BitVec 16) (rest : List SlotOp) (d : Dev) : Dev := d.issueWord n (.ldih r v :: rest)

/-- LDIH. -/
def execLdih (n : Fin 96) (r : Fin 64) (v : BitVec 16) (rest : List SlotOp) (s : State) : Host.Outcome State Fault Refusal :=
  s.run (ldihEffect n r v rest)

/-- REG_MOVE (R145, R153). -/
def regMoveEffect (n : Nat) (toB2 : Bool) (dst : Fin 64) (fromB2 : Bool) (src : Fin 64) (rest : List SlotOp) (d : Dev) : Dev := d.issueWord n (.move toB2 dst fromB2 src :: rest)

/-- REG_MOVE. -/
def execRegMove (n : Fin 96) (toB2 : Bool) (dst : Fin 64) (fromB2 : Bool) (src : Fin 64) (rest : List SlotOp) (s : State) : Host.Outcome State Fault Refusal :=
  s.run (regMoveEffect n toB2 dst fromB2 src rest)

/-- PMOV (R131). -/
def pmovEffect (n : Nat) (r : Fin 64) (an : Fin 8) (step : Step) (rest : List SlotOp) (d : Dev) : Dev := d.issueWord n (.pmov r an step :: rest)

/-- PMOV. -/
def execPmov (n : Fin 96) (r : Fin 64) (an : Fin 8) (step : Step) (rest : List SlotOp) (s : State) : Host.Outcome State Fault Refusal :=
  s.run (pmovEffect n r an step rest)

/-- XADD (R154). -/
def xaddEffect (n : Nat) (k m : Fin 16) (an : Fin 8) (step : Step) (rest : List SlotOp) (d : Dev) : Dev := d.issueWord n (.xadd k m an step :: rest)

/-- XADD. -/
def execXadd (n : Fin 96) (k m : Fin 16) (an : Fin 8) (step : Step) (rest : List SlotOp) (s : State) : Host.Outcome State Fault Refusal :=
  s.run (xaddEffect n k m an step rest)

/-- JMP (R153). -/
def jmpEffect (n : Nat) (target : BitVec 16) (d : Dev) : Dev := d.issueWord n [.jmp target]

/-- JMP. -/
def execJmp (n : Fin 96) (target : BitVec 16) (s : State) : Host.Outcome State Fault Refusal :=
  s.run (jmpEffect n target)

/-- CALL (R153). -/
def callEffect (n : Nat) (target : BitVec 16) (d : Dev) : Dev := d.issueWord n [.call target]

/-- CALL. -/
def execCall (n : Fin 96) (target : BitVec 16) (s : State) : Host.Outcome State Fault Refusal :=
  s.run (callEffect n target)

/-- RET (R153). -/
def retEffect (n : Nat) (d : Dev) : Dev := d.issueWord n [.ret]

/-- RET. -/
def execRet (n : Fin 96) (s : State) : Host.Outcome State Fault Refusal :=
  s.run (retEffect n)

/-- BR (R153). -/
def brEffect (n : Nat) (cond : Fin 16) (target : BitVec 16) (d : Dev) : Dev := d.issueWord n [.br cond target]

/-- BR. -/
def execBr (n : Fin 96) (cond : Fin 16) (target : BitVec 16) (s : State) : Host.Outcome State Fault Refusal :=
  s.run (brEffect n cond target)

/-- LOOP (R147). -/
def loopEffect (n : Nat) (count : LoopCount) (last : BitVec 16) (d : Dev) : Dev := d.issueWord n [.loop count last]

/-- LOOP. -/
def execLoop (n : Fin 96) (count : LoopCount) (last : BitVec 16) (s : State) : Host.Outcome State Fault Refusal :=
  s.run (loopEffect n count last)

/-- LPOP (R148). -/
def lpopEffect (n : Nat) (d : Dev) : Dev := d.issueWord n [.lpop]

/-- LPOP. -/
def execLpop (n : Fin 96) (s : State) : Host.Outcome State Fault Refusal :=
  s.run (lpopEffect n)

/-- RTI (R149). -/
def rtiEffect (n : Nat) (d : Dev) : Dev := d.issueWord n [.rti]

/-- RTI. -/
def execRti (n : Fin 96) (s : State) : Host.Outcome State Fault Refusal :=
  s.run (rtiEffect n)

/-- TAKE (R121). -/
def takeEffect (n : Nat) (d : Dev) : Dev := d.issueWord n [.take]

/-- TAKE. -/
def execTake (n : Fin 96) (s : State) : Host.Outcome State Fault Refusal :=
  s.run (takeEffect n)

/-- Whether a GIVE in hand comes in the clock of the row tick (R436). -/
def Dev.giveClock (d : Dev) (atTick : Bool) : Dev := { d with hok := { d.hok with atTick := atTick } }

/-- GIVE (R123, R436) (assumption 118). -/
def giveEffect (n : Nat) (atTick : Bool) (d : Dev) : Dev := ((d.giveClock atTick).issueWord n [.give]).giveClock false

/-- GIVE. -/
def execGive (n : Fin 96) (atTick : Bool) (s : State) : Host.Outcome State Fault Refusal :=
  s.run (giveEffect n atTick)

/-- GIVE_Y (R128). -/
def giveYEffect (n : Nat) (d : Dev) : Dev := d.issueWord n [.giveY]

/-- GIVE_Y. -/
def execGiveY (n : Fin 96) (s : State) : Host.Outcome State Fault Refusal :=
  s.run (giveYEffect n)

/-- POST (R118, R154). -/
def postEffect (n : Nat) (desc : BitVec 512) (d : Dev) : Dev := d.issueWord n [.post desc]

/-- POST. -/
def execPost (n : Fin 96) (desc : BitVec 512) (s : State) : Host.Outcome State Fault Refusal :=
  s.run (postEffect n desc)

/-- FENCE (R154): stores to shared memory are visible as they issue. -/
def fenceEffect (n : Nat) (d : Dev) : Dev := d.issueWord n [.fence]

/-- FENCE. -/
def execFence (n : Fin 96) (s : State) : Host.Outcome State Fault Refusal :=
  s.run (fenceEffect n)

/-- CINV (R140). -/
def cinvEffect (n : Nat) (d : Dev) : Dev := d.issueWord n [.cinv]

/-- CINV. -/
def execCinv (n : Fin 96) (s : State) : Host.Outcome State Fault Refusal :=
  s.run (cinvEffect n)

/-- NOP (R153). -/
def nopEffect (n : Nat) (d : Dev) : Dev := d.issueWord n [.nop]

/-- NOP. -/
def execNop (n : Fin 96) (s : State) : Host.Outcome State Fault Refusal :=
  s.run (nopEffect n)

/-- CYC_MATCH (R149): the running core's CYC_LO reaches CYCCMP and source 0 fires. -/
def cycMatchEffect (n : Nat) (d : Dev) : Dev :=
  let c := d.core n
  let cmp := c.b2 0x15
  if d.regionOff (24 + n / 16) ∨ c.state ≠ 1 ∨ cmp = 0 then d
  else d.spend n ((cmp + 2 ^ 32 - (c.cyc + 1) % 2 ^ 32) % 2 ^ 32 + 1)

/-- CYC_MATCH. -/
def execCycMatch (n : Fin 96) (s : State) : Host.Outcome State Fault Refusal := s.run (cycMatchEffect n)

/-- INTERRUPT_ENTRY (R149): the first word of the handler issues 4 cycles after the last completing word. -/
def interruptEntryEffect (n : Nat) (d : Dev) : Dev :=
  let c := d.core n
  match c.source with
  | some k =>
    if d.regionOff (24 + n / 16) = false ∧ c.interruptible = true then (d.setCore n (c.enter k)).spend n 4 else d
  | none => d

/-- INTERRUPT_ENTRY. -/
def execInterruptEntry (n : Fin 96) (s : State) : Host.Outcome State Fault Refusal := s.run (interruptEntryEffect n)

/-- DSP_BREAK (Table 09-7): the running core stands at a breakpoint it has not passed. -/
def dspBreakEffect (n : Nat) (d : Dev) : Dev :=
  let c := d.core n
  if c.state = 1 ∧ c.ending = 0 ∧ c.skip = false ∧ d.breakHere n = true then d.breakCore n else d

/-- DSP_BREAK. -/
def execDspBreak (n : Fin 96) (s : State) : Host.Outcome State Fault Refusal := s.run (dspBreakEffect n)

end Sys2Proof.Machine
end

