-- ==== Sys2Proof/Machine/Debug.lean ====
section
/-! DEFINITION. The control and debug registers of the ADSP cores (R161, R369, R370). -/

namespace Sys2Proof.Machine

/-- The debug level opens the halt-class registers (R369) (assumption 65). -/
def Dev.haltLevel (d : Dev) : Bool := decide (2 ≤ d.level)

/-- Domain of a core's skein (R156). -/
def Dev.coreDomain (d : Dev) (n : Nat) : Nat := d.fld (Reg.DSP_SK_CFG (n / 16)) 3 0

/-- An access to a core's debug registers: the debug port needs the level itself (assumption 65). -/
def Dev.coreAccess (d : Dev) (q : Requester) (n : Nat) (f : Access → Dev → Dev) : Dev :=
  match q with
  | .debug => if d.regionOff (24 + n / 16) || !(d.haltLevel || d.debugAny) then d else f ⟨0, 42, 20, true⟩ d
  | _ => d.window q (24 + n / 16) (d.coreDomain n) none f

/-- A halt-class access without the debug level is ignored and reported (R161). -/
def Dev.haltClass (d : Dev) (n : Nat) (f : Dev → Dev) : Dev :=
  if d.haltLevel then f d else d.raise Ev.DSP_DEBUG_DENIED n (d.coreDomain n)

/-- CAUSE of a core's last halt. -/
def Dev.haltCause (d : Dev) (n : Nat) : Nat := d.fld (Reg.DSP_CORE_STAT (n / 16) (n % 16)) 26 24

/-- A core is halted by debug (R370): CAUSE 1, 2 or 3. -/
def Dev.debugHalted (d : Dev) (n : Nat) : Bool := (d.core n).state == 2 && decide (1 ≤ d.haltCause n ∧ d.haltCause n ≤ 3)

/-- CORE_HALT (R161): the task is kept. A halt of a core without power has result POWER (Table 21-5). -/
def coreHaltEffect (q : Requester) (n : Nat) (v : Word) (d : Dev) : Dev :=
  if d.regionOff (24 + n / 16) ∧ wbit v 1 = true then d.by q (fun _ d => d.setFld Reg.SEC_DBG_STAT 3 0 6)
  else d.coreAccess q n (fun _ d =>
    if wbit v 1 = false then d
    else d.haltClass n (fun d => if (d.core n).state = 2 then d else d.haltCore n 1))

/-- CORE_HALT. -/
def execCoreHalt (q : Requester) (n : Fin 96) (v : Word) (s : State) : Host.Outcome State Fault Refusal :=
  s.run (coreHaltEffect q n v)

/-- A core halted by debug goes on where it stood: in its task, or waiting in TAKE. -/
def Dev.resumeCore (d : Dev) (n : Nat) (step : Bool) : Dev :=
  if d.debugHalted n = false then d
  else
    let c := d.core n
    let d := d.setCore n { c with state := if c.asleep then 0 else 1, skip := true, step := step && !c.asleep }
    d.hookRun

/-- CORE_RESUME (R161) (assumption 65). -/
def coreResumeEffect (q : Requester) (n : Nat) (v : Word) (d : Dev) : Dev :=
  d.coreAccess q n (fun _ d => if wbit v 2 then d.haltClass n (fun d => d.resumeCore n false) else d)

/-- CORE_RESUME. -/
def execCoreResume (q : Requester) (n : Fin 96) (v : Word) (s : State) : Host.Outcome State Fault Refusal :=
  s.run (coreResumeEffect q n v)

/-- CORE_STEP (R161): the next word it issues is followed by a halt. -/
def coreStepEffect (q : Requester) (n : Nat) (v : Word) (d : Dev) : Dev :=
  d.coreAccess q n (fun _ d =>
    if wbit v 3 then d.haltClass n (fun d => if (d.core n).asleep then d else d.resumeCore n true) else d)

/-- CORE_STEP. -/
def execCoreStep (q : Requester) (n : Fin 96) (v : Word) (s : State) : Host.Outcome State Fault Refusal :=
  s.run (coreStepEffect q n v)

/-- A core returns to TAKE (R161): the task it holds is discarded with outcome 2. -/
def Dev.releaseCore (d : Dev) (n : Nat) : Dev :=
  let d := d.discardHeld n
  (d.modCore n (fun c => { c.drain with state := 0, asleep := true, cache := 0, ending := 0, step := false })).hookRun

/-- CORE_RELEASE (R161), open at every debug level. -/
def coreReleaseEffect (q : Requester) (n : Nat) (v : Word) (d : Dev) : Dev :=
  d.coreAccess q n (fun _ d => if wbit v 0 then d.releaseCore n else d)

/-- CORE_RELEASE. -/
def execCoreRelease (q : Requester) (n : Fin 96) (v : Word) (s : State) : Host.Outcome State Fault Refusal :=
  s.run (coreReleaseEffect q n v)

/-- The level falls below HALT (R370): breakpoints and pending steps clear, and cores halted by debug go on. -/
def Dev.debugFall (d : Dev) : Dev :=
  d.forEach (List.range 96) (fun d n =>
    let d := d.forEach (List.range 4) (fun d k => d.setReg (Reg.DSP_CORE_BP (n / 16) (n % 16) k) 0)
    let d := if (d.core n).step then d.modCore n (fun c => { c with step := false }) else d
    d.resumeCore n false)

/-! ### Register and memory data -/

/-- DSP_CORE_REGSEL: whether bank 2, and the number. -/
def Dev.regSel (d : Dev) (n : Nat) : Bool × Nat :=
  let w := d.reg (Reg.DSP_CORE_REGSEL (n / 16) (n % 16))
  (wbit w 6, wfld w 5 0)

/-- A read of DSP_CORE_REGDATA of a halted core: the selected register is shown. -/
def Dev.regDataRead (d : Dev) (n : Nat) : Dev :=
  if (d.core n).state ≠ 2 then d
  else
    let s := d.regSel n
    let v := if s.1 then d.readB2 n s.2 else (d.core n).read s.2
    (if s.1 then d else d.modCore n (fun c => c.latch s.2)).setReg (Reg.DSP_CORE_REGDATA (n / 16) (n % 16)) (w32 v)

/-- A write of DSP_CORE_REGDATA: into the selected register of a halted core (Table 09-7). -/
def Dev.regDataWrite (d : Dev) (n : Nat) (v : Word) : Dev :=
  if (d.core n).state ≠ 2 then d.raise Ev.DSP_WHILE_RUN n (d.coreDomain n) (leBytes 4 (0x1024 + 0x100 * (n % 16)))
  else
    let s := d.regSel n
    d.modCore n (fun c => (if s.1 then c.landB2 s.2 v.toNat else c.landReg s.2 v.toNat).drain)

/-- REGDATA_ACCESS (R161): a read, or a write of `w`. -/
def regdataAccessEffect (q : Requester) (n : Nat) (w : Option Word) (d : Dev) : Dev :=
  d.coreAccess q n (fun _ d => d.haltClass n (fun d =>
    match w with
    | none => d.regDataRead n
    | some v => d.regDataWrite n v))

/-- REGDATA_ACCESS. -/
def execRegdataAccess (q : Requester) (n : Fin 96) (w : Option Word) (s : State) : Host.Outcome State Fault Refusal :=
  s.run (regdataAccessEffect q n w)

/-- Memory and byte address that DSP_CORE_MEM_ADDR names. -/
def Dev.memSel (d : Dev) (n : Nat) : Nat × Nat :=
  let w := d.reg (Reg.DSP_CORE_MEM_ADDR (n / 16) (n % 16))
  (wfld w 31 30, 4 * wfld w 15 2)

/-- WORD advances by 1. -/
def Dev.memNext (d : Dev) (n : Nat) : Dev :=
  let a := Reg.DSP_CORE_MEM_ADDR (n / 16) (n % 16)
  d.setFld a 15 2 (d.fld a 15 2 + 1)

/-- A read of DSP_CORE_MEM_DATA of a halted core. -/
def Dev.memDataRead (d : Dev) (n : Nat) : Dev :=
  let c := d.core n
  if c.state ≠ 2 then d
  else
    let s := d.memSel n
    let m := match s.1 with
      | 0 => c.p
      | 1 => c.x
      | 2 => c.y
      | _ => []
    (d.setReg (Reg.DSP_CORE_MEM_DATA (n / 16) (n % 16)) (w32 (leNat (memRead m s.2 4)))).memNext n

/-- A write of DSP_CORE_MEM_DATA of a halted core (assumption 65). -/
def Dev.memDataWrite (d : Dev) (n : Nat) (v : Word) : Dev :=
  let b := leBytes 4 v.toNat
  let s := d.memSel n
  (d.modCore n (fun c => match s.1 with
    | 0 => { c with p := memWrite c.p s.2 b }
    | 1 => { c with x := memWrite c.x s.2 b }
    | 2 => { c with y := memWrite c.y s.2 b }
    | _ => c)).memNext n

/-- MEM_DATA_ACCESS (R161): reads, and writes of X and Y memory, need the debug level; writes of P memory are open to SD0. -/
def memDataAccessEffect (q : Requester) (n : Nat) (w : Option Word) (d : Dev) : Dev :=
  d.coreAccess q n (fun a d =>
    match w with
    | none => d.haltClass n (fun d => d.memDataRead n)
    | some v =>
      let go (d : Dev) : Dev :=
        if (d.core n).state ≠ 2 then d.raise Ev.DSP_WHILE_RUN n (d.coreDomain n) (leBytes 4 (0x1044 + 0x100 * (n % 16)))
        else d.memDataWrite n v
      if (d.memSel n).1 = 0 ∧ a.dom = 0 then go d else d.haltClass n go)

/-- MEM_DATA_ACCESS. -/
def execMemDataAccess (q : Requester) (n : Fin 96) (w : Option Word) (s : State) : Host.Outcome State Fault Refusal :=
  s.run (memDataAccessEffect q n w)

end Sys2Proof.Machine
end

