-- ==== Sys2Proof/Machine/Crypto.lean ====
section
/-! DEFINITION. The standard functions that rules name: SHA-384 and ECDSA P-384 (R27, R364, R367), SHA-1 (R96), SipHash-2-4
(R77). The manual names them; their arithmetic is that of FIPS 180-4, FIPS 186 and SipHash's authors (PRESUMED). -/

namespace Sys2Proof.Machine

/-- Big-endian words of `k` bytes from a list of bytes. -/
def beWords (k : Nat) : Nat → List Byte → List Nat
  | 0, _ => []
  | n + 1, l => beNat (l.take k) :: beWords k n (l.drop k)

/-- A message padded for SHA: 0x80, zeros, and its length in bits over `lb` bytes, to a multiple of `blk`. -/
def shaPad (blk lb : Nat) (m : List Byte) : List Byte :=
  let z := (2 * blk - (m.length + 1 + lb) % blk) % blk
  m ++ [0x80] ++ List.replicate z 0 ++ beBytes lb (8 * m.length)

/-! ### SHA-384 -/

/-- Rotate right in 64 bits. -/
def ror64 (x n : Nat) : Nat := (x >>> n ||| x <<< (64 - n)) % 2 ^ 64

/-- Round constants 0 to 39 of SHA-384. -/
def sha512K1 : List Nat := [
  0x428a2f98d728ae22, 0x7137449123ef65cd, 0xb5c0fbcfec4d3b2f, 0xe9b5dba58189dbbc,
  0x3956c25bf348b538, 0x59f111f1b605d019, 0x923f82a4af194f9b, 0xab1c5ed5da6d8118,
  0xd807aa98a3030242, 0x12835b0145706fbe, 0x243185be4ee4b28c, 0x550c7dc3d5ffb4e2,
  0x72be5d74f27b896f, 0x80deb1fe3b1696b1, 0x9bdc06a725c71235, 0xc19bf174cf692694,
  0xe49b69c19ef14ad2, 0xefbe4786384f25e3, 0xfc19dc68b8cd5b5, 0x240ca1cc77ac9c65,
  0x2de92c6f592b0275, 0x4a7484aa6ea6e483, 0x5cb0a9dcbd41fbd4, 0x76f988da831153b5,
  0x983e5152ee66dfab, 0xa831c66d2db43210, 0xb00327c898fb213f, 0xbf597fc7beef0ee4,
  0xc6e00bf33da88fc2, 0xd5a79147930aa725, 0x6ca6351e003826f, 0x142929670a0e6e70,
  0x27b70a8546d22ffc, 0x2e1b21385c26c926, 0x4d2c6dfc5ac42aed, 0x53380d139d95b3df,
  0x650a73548baf63de, 0x766a0abb3c77b2a8, 0x81c2c92e47edaee6, 0x92722c851482353b]

/-- Round constants 40 to 79 of SHA-384. -/
def sha512K2 : List Nat := [
  0xa2bfe8a14cf10364, 0xa81a664bbc423001, 0xc24b8b70d0f89791, 0xc76c51a30654be30,
  0xd192e819d6ef5218, 0xd69906245565a910, 0xf40e35855771202a, 0x106aa07032bbd1b8,
  0x19a4c116b8d2d0c8, 0x1e376c085141ab53, 0x2748774cdf8eeb99, 0x34b0bcb5e19b48a8,
  0x391c0cb3c5c95a63, 0x4ed8aa4ae3418acb, 0x5b9cca4f7763e373, 0x682e6ff3d6b2b8a3,
  0x748f82ee5defb2fc, 0x78a5636f43172f60, 0x84c87814a1f0ab72, 0x8cc702081a6439ec,
  0x90befffa23631e28, 0xa4506cebde82bde9, 0xbef9a3f7b2c67915, 0xc67178f2e372532b,
  0xca273eceea26619c, 0xd186b8c721c0c207, 0xeada7dd6cde0eb1e, 0xf57d4f7fee6ed178,
  0x6f067aa72176fba, 0xa637dc5a2c898a6, 0x113f9804bef90dae, 0x1b710b35131c471b,
  0x28db77f523047d84, 0x32caab7b40c72493, 0x3c9ebe0a15c9bebc, 0x431d67c49c100d4c,
  0x4cc5d4becb3e42b6, 0x597f299cfc657e2a, 0x5fcb6fab3ad6faec, 0x6c44198c4a475817]

/-- Initial hash of SHA-384. -/
def sha384H : List Nat := [
  0xcbbb9d5dc1059ed8, 0x629a292a367cd507, 0x9159015a3070dd17, 0x152fecd8f70e5939,
  0x67332667ffc00b31, 0x8eb44a8768581511, 0xdb0c2e0d64f98fa7, 0x47b5481dbefa4fa4]

/-- The message schedule: `w` holds the words so far, newest first. -/
def sha512Expand : Nat → List Nat → List Nat
  | 0, w => w
  | n + 1, w =>
    let a := w.getD 14 0
    let b := w.getD 1 0
    let s0 := ror64 a 1 ^^^ ror64 a 8 ^^^ a >>> 7
    let s1 := ror64 b 19 ^^^ ror64 b 61 ^^^ b >>> 6
    sha512Expand n ((w.getD 15 0 + s0 + w.getD 6 0 + s1) % 2 ^ 64 :: w)

/-- One round of SHA-384 on the eight working variables. -/
def sha512Round (v : List Nat) (kw : Nat × Nat) : List Nat :=
  match v with
  | [a, b, c, d, e, f, g, h] =>
    let s1 := ror64 e 14 ^^^ ror64 e 18 ^^^ ror64 e 41
    let ch := e &&& f ^^^ (e ^^^ (2 ^ 64 - 1)) &&& g
    let t1 := (h + s1 + ch + kw.1 + kw.2) % 2 ^ 64
    let s0 := ror64 a 28 ^^^ ror64 a 34 ^^^ ror64 a 39
    let maj := a &&& b ^^^ a &&& c ^^^ b &&& c
    [(t1 + s0 + maj) % 2 ^ 64, a, b, c, (d + t1) % 2 ^ 64, e, f, g]
  | _ => v

/-- One block of SHA-384. -/
def sha512Block (h : List Nat) (blk : List Byte) : List Nat :=
  let w := (sha512Expand 64 (beWords 8 16 blk).reverse).reverse
  let v := ((sha512K1 ++ sha512K2).zip w).foldl sha512Round h
  (h.zip v).map (fun p => (p.1 + p.2) % 2 ^ 64)

/-- The blocks of a padded message. -/
def shaBlocks (f : List Nat → List Byte → List Nat) (blk : Nat) : Nat → List Nat → List Byte → List Nat
  | 0, h, _ => h
  | n + 1, h, m => shaBlocks f blk n (f h (m.take blk)) (m.drop blk)

/-- SHA-384 of a message, most significant byte first. -/
def sha384 (m : List Byte) : List Byte :=
  let p := shaPad 128 16 m
  ((shaBlocks sha512Block 128 (p.length / 128) sha384H p).take 6).flatMap (beBytes 8)

/-! ### SHA-1 -/

/-- Rotate left in 32 bits. -/
def rol32 (x n : Nat) : Nat := (x <<< n ||| x >>> (32 - n)) % 2 ^ 32

/-- The message schedule of SHA-1, newest word first. -/
def sha1Expand : Nat → List Nat → List Nat
  | 0, w => w
  | n + 1, w => sha1Expand n (rol32 (w.getD 2 0 ^^^ w.getD 7 0 ^^^ w.getD 13 0 ^^^ w.getD 15 0) 1 :: w)

/-- One round of SHA-1: round number and schedule word. -/
def sha1Round (v : List Nat) (tw : Nat × Nat) : List Nat :=
  match v with
  | [a, b, c, d, e] =>
    let f := if tw.1 < 20 then b &&& c ||| (b ^^^ 0xFFFFFFFF) &&& d
      else if 40 ≤ tw.1 ∧ tw.1 < 60 then b &&& c ||| b &&& d ||| c &&& d else b ^^^ c ^^^ d
    let k := if tw.1 < 20 then 0x5A827999 else if tw.1 < 40 then 0x6ED9EBA1 else if tw.1 < 60 then 0x8F1BBCDC else 0xCA62C1D6
    [(rol32 a 5 + f + e + k + tw.2) % 2 ^ 32, a, rol32 b 30, c, d]
  | _ => v

/-- One block of SHA-1. -/
def sha1Block (h : List Nat) (blk : List Byte) : List Nat :=
  let w := (sha1Expand 64 (beWords 4 16 blk).reverse).reverse
  let v := ((List.range 80).zip w).foldl sha1Round h
  (h.zip v).map (fun p => (p.1 + p.2) % 2 ^ 32)

/-- SHA-1 of a message, most significant byte first. -/
def sha1 (m : List Byte) : List Byte :=
  let p := shaPad 64 8 m
  (shaBlocks sha1Block 64 (p.length / 64) [0x67452301, 0xEFCDAB89, 0x98BADCFE, 0x10325476, 0xC3D2E1F0] p).flatMap (beBytes 4)

/-! ### SipHash-2-4 -/

/-- Rotate left in 64 bits. -/
def rol64 (x n : Nat) : Nat := (x <<< n ||| x >>> (64 - n)) % 2 ^ 64

/-- `n` rounds on the four words. -/
def sipRounds : Nat → Nat × Nat × Nat × Nat → Nat × Nat × Nat × Nat
  | 0, v => v
  | n + 1, (v0, v1, v2, v3) =>
    let v0 := (v0 + v1) % 2 ^ 64
    let v1 := rol64 v1 13 ^^^ v0
    let v0 := rol64 v0 32
    let v2 := (v2 + v3) % 2 ^ 64
    let v3 := rol64 v3 16 ^^^ v2
    let v0 := (v0 + v3) % 2 ^ 64
    let v3 := rol64 v3 21 ^^^ v0
    let v2 := (v2 + v1) % 2 ^ 64
    let v1 := rol64 v1 17 ^^^ v2
    let v2 := rol64 v2 32
    sipRounds n (v0, v1, v2, v3)

/-- The 64-bit words of a message are absorbed. -/
def sipAbsorb : List Nat → Nat × Nat × Nat × Nat → Nat × Nat × Nat × Nat
  | [], v => v
  | m :: t, (v0, v1, v2, v3) =>
    match sipRounds 2 (v0, v1, v2, v3 ^^^ m) with
    | (w0, w1, w2, w3) => sipAbsorb t (w0 ^^^ m, w1, w2, w3)

/-- Little-endian words of 8 bytes. -/
def leWords : Nat → List Byte → List Nat
  | 0, _ => []
  | n + 1, l => leNat (l.take 8) :: leWords n (l.drop 8)

/-- The four words XORed together. -/
def sipFold (v : Nat × Nat × Nat × Nat) : Nat := v.1 ^^^ v.2.1 ^^^ v.2.2.1 ^^^ v.2.2.2

/-- SipHash-2-4 with 128-bit output of a message under a 128-bit key, as a little-endian number (R77). -/
def sipHash (key : Nat) (m : List Byte) : Nat :=
  let k0 := key % 2 ^ 64
  let k1 := key / 2 ^ 64 % 2 ^ 64
  let last := m.length % 256 * 2 ^ 56 + leNat (m.drop (m.length / 8 * 8))
  match sipAbsorb (leWords (m.length / 8) m ++ [last]) (k0 ^^^ 0x736F6D6570736575, k1 ^^^ 0x646F72616E646F6D ^^^ 0xEE,
      k0 ^^^ 0x6C7967656E657261, k1 ^^^ 0x7465646279746573) with
  | (v0, v1, v2, v3) =>
    let a := sipRounds 4 (v0, v1, v2 ^^^ 0xEE, v3)
    let b := sipRounds 4 (a.1, a.2.1 ^^^ 0xDD, a.2.2.1, a.2.2.2)
    sipFold a + 2 ^ 64 * sipFold b

/-! ### ECDSA P-384 -/

/-- The prime of P-384. -/
def p384P : Nat := 2 ^ 384 - 2 ^ 128 - 2 ^ 96 + 2 ^ 32 - 1

/-- The order of its base point. -/
def p384N : Nat := 0xFFFFFFFFFFFFFFFFFFFFFFFFFFFFFFFFFFFFFFFFFFFFFFFFC7634D81F4372DDF581A0DB248B0A77AECEC196ACCC52973

/-- Its coefficient b. -/
def p384B : Nat := 0xB3312FA7E23EE7E4988E056BE3F82D19181D9C6EFE8141120314088F5013875AC656398D8A2ED19D2A85C8EDD3EC2AEF

/-- Its base point. -/
def p384G : Nat × Nat :=
  (0xAA87CA22BE8B05378EB1C71EF320AD746E1D3B628BA79B9859F741E082542A385502F25DBF55296C3A545E3872760AB7,
   0x3617DE4A96262C6F5D9E98BF9292DC29F8F41DBD289A147CE9DA3113B5F0B8C00A60B1CE1D7E819D7A431D7C90EA0E5F)

/-- `b^e` modulo `m`, by the bits of `e` above bit `n` (most significant first). -/
def powMod (b e m : Nat) : Nat → Nat
  | 0 => 1 % m
  | n + 1 =>
    let r := powMod b (e / 2) m n
    if e % 2 = 1 then r * r % m * b % m else r * r % m

/-- Inverse modulo a prime of 384 bits. -/
def invMod (a m : Nat) : Nat := powMod a (m - 2) m 384

/-- A point of the curve; `none` is the point at infinity. -/
abbrev Point := Option (Nat × Nat)

/-- Point addition. -/
def ptAdd (a b : Point) : Point :=
  match a, b with
  | none, q => q
  | p, none => p
  | some (x1, y1), some (x2, y2) =>
    if x1 = x2 ∧ (y1 + y2) % p384P = 0 then none
    else
      let l := if x1 = x2 then (3 * x1 * x1 + p384P - 3) * invMod (2 * y1) p384P % p384P
        else (y2 + p384P - y1) * invMod (x2 + p384P - x1) p384P % p384P
      let x3 := (l * l + 2 * p384P - x1 - x2) % p384P
      some (x3, (l * (x1 + p384P - x3) + p384P - y1) % p384P)

/-- Scalar multiplication over `n` bits. -/
def ptMul (k : Nat) (q : Point) : Nat → Point
  | 0 => none
  | n + 1 =>
    let r := ptMul (k / 2) q n
    let r2 := ptAdd r r
    if k % 2 = 1 then ptAdd r2 q else r2

/-- ECDSA P-384 verification of a digest under a public key of 96 bytes and a signature of r and s, all most
significant byte first (R27, R364). -/
def ecdsaVerify (key digest sig : List Byte) : Bool :=
  let x := beAt key 0 48
  let y := beAt key 48 48
  let r := beAt sig 0 48
  let s := beAt sig 48 48
  let onCurve := x < p384P && y < p384P && (x * x * x + (p384P - 3) * x + p384B) % p384P == y * y % p384P
  if onCurve = false ∨ r = 0 ∨ s = 0 ∨ p384N ≤ r ∨ p384N ≤ s then false
  else
    let w := invMod s p384N
    let z := beNat digest
    match ptAdd (ptMul (z * w % p384N) (some p384G) 384) (ptMul (r * w % p384N) (some (x, y)) 384) with
    | none => false
    | some (vx, _) => vx % p384N == r

end Sys2Proof.Machine
end

