-- ==== Sys2Proof/Machine/Time.lean ====
section
/-! DEFINITION. Time bases (R45 to R58), the timestamp FIFOs (R51), the ESN reservation (R66). -/

namespace Sys2Proof.Machine

/-- STATE of a time base: 0 FREE, 1 ACQUIRE, 2 LOCKED, 3 PARTNER, 4 HOLDOVER. -/
def Dev.tbState (d : Dev) (k : Nat) : Nat := d.fld (Reg.TIM_TB_STAT k) 2 0

/-- A time base in a state. -/
def Dev.setTbState (d : Dev) (k v : Nat) : Dev := d.setFld (Reg.TIM_TB_STAT k) 2 0 v

/-- An even time base that may follow its partner (R58) (assumption 30). -/
def Dev.tbPaired (d : Dev) (k : Nat) : Bool := k % 2 == 0 && d.bit (Reg.TIM_TB_CFG k) 8

/-- A group's tension loop steers to the house clock (R202, R204) (assumption 30). -/
def Dev.houseLoop (d : Dev) (g : Nat) : Bool :=
  d.bit (Reg.FLD_CG_CTL g) 0 && d.bit (Reg.FLD_CG_CFG_A g) 21 && d.fld (Reg.FLD_CG_CFG_A g) 20 18 == 0

/-- A tick, a gate list or a tension loop takes its time from this time base (R53). -/
def Dev.inUse (d : Dev) (k : Nat) : Bool :=
  (d.bit Reg.TIM_TICK_CTL 0 && d.rowTb == k) ||
  (d.bit Reg.TIM_TICK_CTL 1 && d.fld Reg.TIM_TICK_SRC 8 6 == k) ||
  (List.range 8).any (fun p => d.bit (Reg.EGS_GATE_STAT p) 30 && d.fld (Reg.TIM_PORT_CFG p) 10 8 == k) ||
  (d.rowTb == k && !d.fldAbsent && (List.range 32).any d.houseLoop)

/-- Effective rate of a time base. -/
def Dev.rateEff (d : Dev) (k : Nat) : Int := wSigned (d.reg (Reg.TIM_TB_RATE_EFF k))

/-- A time base `n` fabric clocks later (R46). -/
def tbAdvance (t : TimeBase) (rate : Int) (n : Nat) : TimeBase :=
  { t with time := (t.time + (2 * n * (2 ^ 40 + rate) / 3).toNat) % (2 ^ 48 * 10 ^ 9 * 2 ^ 40) }

/-- `n` fabric clocks pass (R46). -/
def Dev.advance (d : Dev) (n : Nat) : Dev :=
  let d := { d with tim := { d.tim with clocks := d.tim.clocks + n } }
  d.forEach (List.range 8) (fun d k => d.setTb k (tbAdvance (d.tb k) (d.rateEff k) n))

/-- Row and round period in ns as numerator and denominator (R59). -/
def Dev.period (d : Dev) (round : Bool) : Nat × Nat :=
  if round = false then (500000, 1)
  else match d.fld Reg.TIM_TICK_SRC 11 10 with
    | 0 => (10 ^ 9, 60)
    | 1 => (10 ^ 9, 50)
    | _ => (1001 * 10 ^ 9, 60000)

/-- Time base of rows or rounds. -/
def Dev.tickTb (d : Dev) (round : Bool) : Nat := if round then d.fld Reg.TIM_TICK_SRC 8 6 else d.rowTb

/-- Whole periods since the epoch: N' or M' of R59 at this moment. -/
def Dev.periods (d : Dev) (round : Bool) : Nat :=
  let p := d.period round
  ((d.tb (d.tickTb round)).time - d.fld Reg.TIM_ROW_OFFSET 18 0 * 2 ^ 40) * p.2 / (p.1 * 2 ^ 40)

/-- The time of its time base at which row or round `n` starts, in units of 2^-40 ns (R59). -/
def Dev.boundary (d : Dev) (round : Bool) (n : Nat) : Nat :=
  let p := d.period round
  d.fld Reg.TIM_ROW_OFFSET 18 0 * 2 ^ 40 + (n * p.1 * 2 ^ 40 + p.2 - 1) / p.2

/-- The full count of rows or rounds (R60). -/
def Dev.tickNow (d : Dev) (round : Bool) : Nat := if round then d.tim.round else d.tim.row

/-- A boundary `n` periods ahead of the present count starts within `us` microseconds. -/
def Dev.within (d : Dev) (round : Bool) (n us : Nat) : Bool :=
  decide (d.boundary round (d.tickNow round + n) ≤ (d.tb (d.tickTb round)).time + us * 1000 * 2 ^ 40)

/-- Fabric clocks until a time base has reached a time (R61). -/
def Dev.clocksTo (d : Dev) (k target : Nat) : Nat :=
  let gap := target - (d.tb k).time
  (3 * gap + 2 * (2 ^ 40 + d.rateEff k).toNat - 1) / (2 * (2 ^ 40 + d.rateEff k).toNat)

/-! ### Master loss and redundant pairs (Table 03-2) -/

/-- Entry to PARTNER: the difference is added to the remainder (R58) (assumption 30). -/
def Dev.toPartner (d : Dev) (k : Nat) : Dev :=
  let t := d.tb k
  let d := d.setTb k { t with rem := t.rem + ((d.tb (k + 1)).time : Int) - t.time }
  (d.setTbState k 3).raise Ev.TB_PARTNER_TAKEOVER k

/-- Entry to LOCKED: averaging starts (R56); an even member in HOLDOVER follows its partner that becomes LOCKED. -/
def Dev.toLocked (d : Dev) (k : Nat) : Dev :=
  let d := (d.setTb k { d.tb k with hold := [] }).setTbState k 2
  if k % 2 = 1 ∧ d.tbPaired (k - 1) ∧ d.tbState (k - 1) = 4 then d.toPartner (k - 1) else d

/-- A time base has left LOCKED: the even member that follows it goes to HOLDOVER with its last HOLD_ADJ. -/
def Dev.leftLocked (d : Dev) (k : Nat) : Dev :=
  if k % 2 = 1 ∧ d.tbState (k - 1) = 3 then
    ((d.setReg (Reg.TIM_TB_HOLD_ADJ (k - 1)) (d.reg (Reg.TIM_TB_HOLD_ADJ k))).setTbState (k - 1) 4).raise
      Ev.TB_PARTNER_LOST (k - 1)
  else d

/-- The servo's LOCK_IND takes effect (Table 03-2). -/
def Dev.lockInd (d : Dev) (k : Nat) (v : Word) : Dev :=
  let d := d.lvApply (Reg.TIM_TB_CTL k) v
  match d.tbState k, wbit v 0 with
  | 1, true => (d.toLocked k).raise Ev.TB_LOCKED k
  | 2, false => (d.setTbState k 1).leftLocked k
  | 3, true =>
    if d.bit (Reg.TIM_TB_CFG k) 9 && (d.tb k).ownSync then (d.toLocked k).raise Ev.TB_REVERT k else d
  | _, _ => d

/-- The master is lost (R57, Table 03-2); LOSS_MS 0 disables loss detection (assumption 30). -/
def Dev.masterLost (d : Dev) (k : Nat) : Dev :=
  if d.fld (Reg.TIM_TB_LOSS k) 15 0 = 0 then d
  else
    let d := d.setTb k { d.tb k with ownSync := false }
    match d.tbState k with
    | 1 => (d.setTbState k 0).raise Ev.TB_MASTER_LOST k
    | 2 =>
      let d := d.raise Ev.TB_MASTER_LOST k
      if d.tbPaired k && d.tbState (k + 1) == 2 then d.toPartner k
      else ((d.setTbState k 4).raise Ev.TB_HOLDOVER k).leftLocked k
    | _ => d

/-- A Sync of the time base's port and domain is timestamped (Table 03-2). -/
def Dev.syncSeen (d : Dev) (k : Nat) : Dev :=
  let a := Reg.TIM_TB_SYNC_CNT k
  let d := (d.setReg a (d.reg a + 1)).setTb k { d.tb k with ownSync := true }
  match d.tbState k with
  | 0 => if d.fld (Reg.TIM_TB_CFG k) 1 0 = 1 then d.setTbState k 1 else d
  | 4 => (d.setTbState k 1).setBit (Reg.TIM_TB_CTL k) 0 false
  | _ => d

/-! ### The slew limiter -/

/-- A phase correction is added to the remainder, but not in PARTNER and HOLDOVER (R54). -/
def Dev.phaseAdd (d : Dev) (k lo hi : Nat) : Dev :=
  if 3 ≤ d.tbState k then d
  else
    let t := d.tb k
    d.setTb k { t with rem := t.rem + sInt 48 (lo + 2 ^ 32 * (hi % 2 ^ 16)) * 2 ^ 24 }

/-- The pair of PHASE writes takes effect once HI is written (R43, R54). -/
def Dev.phaseCommit (d : Dev) (k : Nat) : Dev :=
  match d.lvAt (Reg.TIM_TB_PHASE_HI k) with
  | none => d
  | some hi =>
    let lo := (d.lvAt (Reg.TIM_TB_PHASE_LO k)).getD (d.reg (Reg.TIM_TB_PHASE_LO k))
    let d := (d.lvDrop (Reg.TIM_TB_PHASE_HI k)).lvDrop (Reg.TIM_TB_PHASE_LO k)
    (d.setReg (Reg.TIM_TB_PHASE_LO k) lo).phaseAdd k lo.toNat hi.toNat

/-- The servo's writes take effect at the tick (R42, R54). -/
def Dev.servoCommit (d : Dev) (k : Nat) : Dev :=
  let d := match d.lvAt (Reg.TIM_TB_CTL k) with
    | some v => (d.lvDrop (Reg.TIM_TB_CTL k)).lockInd k v
    | none => d
  let d := d.phaseCommit k
  let d := d.lvCommit (Reg.TIM_TB_ADJ k) (Reg.TIM_TB_ADJ k + 4)
  d.lvCommit (Reg.TIM_TB_SLEW_MAX k) (Reg.TIM_TB_FAR_LIMIT k + 4)

/-- Samples a holdover window holds (R56). -/
def holdLimit (w : Nat) : Nat := 10 ^ 6 * 2 ^ min w 10

/-- The newest `n` samples of a run-length list. -/
def holdTrim (n : Nat) : List (Int × Nat) → List (Int × Nat)
  | [] => []
  | (v, c) :: t => if n = 0 then [] else if n ≤ c then [(v, n)] else (v, c) :: holdTrim (n - c) t

/-- One more sample. -/
def holdPush (v : Int) : List (Int × Nat) → List (Int × Nat)
  | (u, c) :: t => if u = v then (u, c + 1) :: t else (v, 1) :: (u, c) :: t
  | [] => [(v, 1)]

/-- The mean of the samples, halves away from zero (R56). -/
def holdMean (l : List (Int × Nat)) : Int :=
  let n := (l.map (fun p => p.2)).sum
  if n = 0 then 0 else roundDiv ((l.map (fun p => p.1 * (p.2 : Int))).sum) n

/-- The sample of an update tick in LOCKED (R56). -/
def Dev.holdSample (d : Dev) (k : Nat) : Dev :=
  if d.tbState k = 2 then
    let h := holdTrim (holdLimit (d.fld (Reg.TIM_TB_LOSS k) 19 16)) (holdPush (wSigned (d.reg (Reg.TIM_TB_ADJ k))) (d.tb k).hold)
    (d.setTb k { d.tb k with hold := h }).setReg (Reg.TIM_TB_HOLD_ADJ k) (wInt (holdMean h))
  else d

/-- Base rate of the slew limiter (R54). -/
def Dev.baseRate (d : Dev) (k : Nat) : Int :=
  match d.tbState k with
  | 3 => d.rateEff (k + 1)
  | 4 => wSigned (d.reg (Reg.TIM_TB_HOLD_ADJ k))
  | _ => wSigned (d.reg (Reg.TIM_TB_ADJ k))

/-- Slew for a remainder at the bound `m` (R54). -/
def slewFor (m rem : Int) : Int :=
  if m * 1000 ≤ rem then m else if rem ≤ -(m * 1000) then -m else truncDiv rem 1000

/-- The slew limiter's code of one update tick (R54). -/
def Dev.slew (d : Dev) (k : Nat) : Dev :=
  let base := d.baseRate k
  let rem := (d.tb k).rem
  let s := slewFor (d.fld (Reg.TIM_TB_SLEW_MAX k) 30 0) rem
  let step : Int := d.fld (Reg.TIM_TB_RATE_STEP k) 23 0
  let r0 := d.rateEff k + clampI (-step) step (base + s - d.rateEff k)
  let r := clampI (-0x7FFFFFFF) 0x7FFFFFFF r0
  let d := if r ≠ r0 ∧ d.bit (Reg.TIM_TB_STAT k) 5 = false then
      (d.setBit (Reg.TIM_TB_STAT k) 5 true).raise Ev.TB_RATE_CLAMP k
    else d
  (d.setReg (Reg.TIM_TB_RATE_EFF k) (wInt r)).setTb k { d.tb k with rem := rem - (r - base) * 1000 }

/-- FAR and TB_FAR (R55). -/
def Dev.farCheck (d : Dev) (k : Nat) : Dev :=
  let m := (d.tb k).rem.natAbs
  let lim := (d.reg (Reg.TIM_TB_FAR_LIMIT k)).toNat * 2 ^ 40
  if lim < m ∧ d.bit (Reg.TIM_TB_STAT k) 6 = false then (d.setBit (Reg.TIM_TB_STAT k) 6 true).raise Ev.TB_FAR k
  else if m < lim then d.setBit (Reg.TIM_TB_STAT k) 6 false
  else d

/-- The update tick of one time base (R54 to R56) (assumption 28). -/
def Dev.tbUpdate (d : Dev) (k : Nat) : Dev := (((d.servoCommit k).holdSample k).slew k).farCheck k

/-- The read copies of PHASE: the remainder rounded toward zero. -/
def Dev.phaseWord (d : Dev) (k : Nat) (hi : Bool) : Word :=
  let v := uNat 48 (truncDiv (d.tb k).rem (2 ^ 24))
  if hi then w32 (v / 2 ^ 32) else w32 v

/-! ### Register commands of TIM -/

/-- The whole time base is latched (R47). -/
def Dev.tbLatch (d : Dev) (k : Nat) : Dev := d.setTb k { d.tb k with latch := (d.tb k).time }

/-- TB_LATCH_READ (R47): TIM's registers are SD0's (R374), so another domain's read latches nothing. -/
def tbLatchReadEffect (q : Requester) (k : Nat) (d : Dev) : Dev :=
  d.sd0 q 3 (fun d => d.tbLatch k)

/-- TB_LATCH_READ. -/
def execTbLatchRead (q : Requester) (k : Fin 8) (s : State) : Host.Outcome State Fault Refusal :=
  s.run (tbLatchReadEffect q k)

/-- The step itself (R53). -/
def Dev.tbSet (d : Dev) (k : Nat) : Dev :=
  let sec := (d.reg (Reg.TIM_TB_SET_SEC_LO k)).toNat + 2 ^ 32 * d.fld (Reg.TIM_TB_SET_SEC_HI k) 15 0
  let ns := sec * 10 ^ 9 + d.fld (Reg.TIM_TB_SET_NS k) 29 0
  ((d.setTb k { d.tb k with time := ns * 2 ^ 40, rem := 0 }).farCheck k).raise Ev.TB_STEP_DONE k

/-- A write of TIM_TB_STEP (R53): refused while the time base is in use. -/
def Dev.tbStepWrite (d : Dev) (k : Nat) (v : Word) : Dev :=
  if wbit v 0 = false then d
  else if d.inUse k then d.raise Ev.TB_STEP_REFUSED k
  else d.tbSet k

/-- TB_STEP (R53): TIM's control registers are SD0's (R374). -/
def tbStepEffect (q : Requester) (k : Nat) (v : Word) (d : Dev) : Dev :=
  d.sd0 q 3 (fun d => d.tbStepWrite k v)

/-- TB_STEP. -/
def execTbStep (q : Requester) (k : Fin 8) (v : Word) (s : State) : Host.Outcome State Fault Refusal :=
  s.run (tbStepEffect q k v)

/-- TB_PHASE_WRITE (R54): the correction is added at the update tick that follows (R43). -/
def tbPhaseWriteEffect (q : Requester) (k : Nat) (v : Word) (d : Dev) : Dev :=
  d.sd0 q 3 (fun d =>
    let d := d.lvWrite (Reg.TIM_TB_PHASE_HI k) v
    if d.ready then d else d.phaseCommit k)

/-- TB_PHASE_WRITE. -/
def execTbPhaseWrite (q : Requester) (k : Fin 8) (v : Word) (s : State) : Host.Outcome State Fault Refusal :=
  s.run (tbPhaseWriteEffect q k v)

/-- LOCK_IND_WRITE (R58): the servo's write takes effect at the update tick that follows (R42, R54). -/
def lockIndWriteEffect (q : Requester) (k : Nat) (v : Word) (d : Dev) : Dev :=
  d.sd0 q 3 (fun d => if d.ready then d.lvWrite (Reg.TIM_TB_CTL k) v else d.lockInd k v)

/-- LOCK_IND_WRITE. -/
def execLockIndWrite (q : Requester) (k : Fin 8) (v : Word) (s : State) : Host.Outcome State Fault Refusal :=
  s.run (lockIndWriteEffect q k v)

/-- TB_MASTER_LOST (R57). -/
def tbMasterLostEffect (k : Nat) (d : Dev) : Dev := d.masterLost k

/-- TB_MASTER_LOST. -/
def execTbMasterLost (k : Fin 8) (s : State) : Host.Outcome State Fault Refusal := s.run (tbMasterLostEffect k)

/-! ### ESNs -/

/-- ESN_QUEUED_ISSUE (R64): what waits is issued, four to a clock; the end of the command's clock issues. -/
def esnQueuedIssueEffect (d : Dev) : Dev := d

/-- ESN_QUEUED_ISSUE. -/
def execEsnQueuedIssue (s : State) : Host.Outcome State Fault Refusal := s.run esnQueuedIssueEffect

/-- A write of TIM_ESN_RESV_HI applies the limit that HI and LO give when it increases, and re-arms both events
(R66). -/
def Dev.resvWrite (d : Dev) (v : Word) : Dev :=
  let n := (d.reg Reg.TIM_ESN_RESV_LO).toNat + 2 ^ 32 * v.toNat
  if d.tim.limit < n then
    { d.setReg Reg.TIM_ESN_RESV_HI v with tim := { d.tim with limit := n, low := true, pastLimit := true } }.esnWatch
  else d.setReg64 Reg.TIM_ESN_RESV_LO Reg.TIM_ESN_RESV_HI d.tim.limit

/-- ESN_RESV_WRITE (R66), SD0 only. -/
def esnResvWriteEffect (q : Requester) (v : Word) (d : Dev) : Dev :=
  d.sd0 q 3 (fun d => d.resvWrite v)

/-- ESN_RESV_WRITE. -/
def execEsnResvWrite (q : Requester) (v : Word) (s : State) : Host.Outcome State Fault Refusal :=
  s.run (esnResvWriteEffect q v)

/-! ### Timestamp FIFOs (R51) -/

/-- Entries of a port's FIFO, oldest first. -/
def Dev.stamps (d : Dev) (p : Nat) : List TxStamp := tat [] d.tim.stamps p

/-- The device with a port's FIFO replaced, LEVEL with it. -/
def Dev.setStamps (d : Dev) (p : Nat) (l : List TxStamp) : Dev :=
  { d with tim := { d.tim with stamps := tset [] d.tim.stamps p l } }.setFld (Reg.TIM_PORT_TXTS_STAT p) 6 0 l.length

/-- An egress timestamp enters the FIFO; revision A1 keeps 63 entries (KB-4) (assumption 31). -/
def Dev.stampPush (d : Dev) (p : Nat) (x : TxStamp) : Dev :=
  if (d.stamps p).length < 63 then d.setStamps p (d.stamps p ++ [x])
  else (d.setBit (Reg.TIM_PORT_TXTS_STAT p) 8 true).raise Ev.TXTS_OVERFLOW p

/-- What TIM_PORT_TXTS_TAG and the registers after it show: word `i` of the oldest entry, zero with none. -/
def Dev.stampWord (d : Dev) (p i : Nat) : Word :=
  match d.stamps p with
  | [] => 0
  | x :: _ =>
    match i with
    | 0 => w32 x.tag
    | 1 => w32 (x.time / 2 ^ 24 % 2 ^ 16)
    | 2 => w32 (x.time / 2 ^ 40 % 10 ^ 9)
    | 3 => w32 (x.time / 2 ^ 40 / 10 ^ 9)
    | _ => w32 (x.time / 2 ^ 40 / 10 ^ 9 / 2 ^ 32 % 2 ^ 16)

/-- A read of TIM_PORT_TXTS_SEC_HI removes the oldest entry (R51) (assumption 31). -/
def Dev.stampPop (d : Dev) (p : Nat) : Dev := d.setStamps p (d.stamps p).tail

/-- TXTS_POP (R51). -/
def txtsPopEffect (q : Requester) (p : Nat) (d : Dev) : Dev :=
  d.sd0 q 3 (fun d => d.stampPop p)

/-- TXTS_POP. -/
def execTxtsPop (q : Requester) (p : Fin 8) (s : State) : Host.Outcome State Fault Refusal := s.run (txtsPopEffect q p)

end Sys2Proof.Machine
end

