-- ==== Sys2Proof/Machine/Swap.lean ====
section
/-! DEFINITION. Swaps of the three scopes (R30 to R40, R440) and the selvedge die's part in an audio swap. -/

namespace Sys2Proof.Machine

/-- Generation register of a scope: 0 audio, 1 network, 2 video. -/
def genReg (i : Nat) : Nat := Reg.PAT_GEN_AUD + 4 * i

/-- Boundary register of a scope. -/
def atReg (i : Nat) : Nat := Reg.PAT_SWAP_AT_AUD + 4 * i

/-- Scopes of a mask (R440). -/
def scopesOf (mask : Nat) : List Nat := (List.range 3).filter (fun i => mask.testBit i)

/-- Generation of a scope. -/
def Dev.gen (d : Dev) (i : Nat) : Nat := d.fld (genReg i) 15 0

/-- An SH register of a swap scope; layer descriptors belong to no scope (R30). -/
def isShadowed (a : Nat) : Bool :=
  (regRow a).any (fun r => r.ty == .SH) && !decide (Reg.CMP_LAYER 0 0 0 ≤ a ∧ a < Reg.CMP_LAYER 64 0 0)

/-- The active copies, with the shadow copies of the registers `p` names in their place (R31). -/
def swapCopy (regs shadow : Tbl Word) (p : Nat → Bool) : Tbl Word :=
  let keep : Tbl Word := regs.filter (fun e => !p e.1)
  let new : Tbl Word := shadow.filter (fun e => p e.1)
  tmerge regReset keep new

/-- The shadow registers of the regions that `inR` names become active. -/
def Dev.copyRegions (d : Dev) (inR : Nat → Bool) : Dev :=
  { d with regs := swapCopy d.regs d.shadow (fun a => inR (regionOf a) && isShadowed a) }

/-- The regions of a scope whose registers swap with the core die: the selvedge die has its own copy of the tick
(R39). -/
def coreRegion (i n : Nat) : Bool := scopeOf (blockOf n) == 2 ^ i && n != 61

/-! ### Requests -/

/-- A write of PAT_SWAP_REQ (R32, R33): SD0 only. -/
def swapReqEffect (q : Requester) (v : Word) (d : Dev) : Dev :=
  d.by q (fun a d =>
    if a.dom = 0 then { d with pat := { d.pat with reqs := d.pat.reqs ++ [⟨wfld v 2 0, wbit v 7⟩] } } else d)

/-- SWAP_REQ. -/
def execSwapReq (q : Requester) (v : Word) (s : State) : Host.Outcome State Fault Refusal := s.run (swapReqEffect q v)

/-- A refused request: LAST of each named scope reads REJECTED, and the event carries the mask (R35, R440). -/
def Dev.swapReject (d : Dev) (mask code : Nat) : Dev := (d.forEach (scopesOf mask) (fun d i => d.setLast i 2)).raise code mask

/-- A request whose scopes' ticks are stopped, or an audio request while the link is down, is aborted at acceptance:
it never seals (R37, R39). -/
def Dev.swapAbortReq (d : Dev) (mask : Nat) : Dev :=
  (d.forEach (scopesOf mask) (fun d i => d.setLast i 3)).raise Ev.SWAP_ABORT mask

/-- The scopes' blocks are powered down (R38). -/
def Dev.swapPowered (d : Dev) (mask : Nat) : Bool := d.power == 0 || (d.power == 1 && mask &&& 4 == 0)

/-- The ticks a request's scopes need are running (R37). -/
def Dev.ticksRun (d : Dev) (mask : Nat) : Bool := if mask = 4 then d.bit Reg.TIM_TICK_CTL 1 else d.bit Reg.TIM_TICK_CTL 0

/-- Row or round number modulo 2^32. -/
def Dev.tick32 (d : Dev) (round : Bool) : Nat := d.tickNow round % 2 ^ 32

/-- The earliest boundary of a request accepted now (R35) (assumption 32). -/
def Dev.earliest (d : Dev) (mask : Nat) : Nat :=
  let round := mask == 4
  let lead := if mask.testBit 0 then 2 else 1
  (d.tick32 round + lead + if d.within round 1 4 then 1 else 0) % 2 ^ 32

/-- Acceptance fixes the boundary and seals the scopes (R33, R35) (assumption 32). -/
def Dev.swapSeal (d : Dev) (mask t : Nat) : Dev :=
  let d := d.forEach (scopesOf mask) (fun d i => (d.setScope i 1).setReg (atReg i) (w32 t))
  if mask.testBit 0 then { d with pat := { d.pat with joint := mask == 3, sent := false, acked := false } } else d

/-- Acceptance of a request, by the order of R35, R37, R38 and Table 02-6 (assumption 32). -/
def Dev.swapTake (d : Dev) (r : SwapReq) : Dev :=
  let m := r.mask
  if m = 0 ∨ (4 ≤ m ∧ m ≠ 4) then d.swapReject m Ev.SWAP_RANGE
  else if d.swapPowered m = false then d.swapReject m Ev.SWAP_POWER
  else if d.ticksRun m = false then d.swapAbortReq m
  else if m.testBit 0 ∧ d.fldAbsent = false ∧ d.linkUp = false then d.swapAbortReq m
  else
    let n := d.tick32 (m == 4)
    let e := d.earliest m
    let target := (d.reg Reg.PAT_SWAP_TARGET).toNat
    if r.atTarget ∧ after e target then d.swapReject m Ev.SWAP_LATE
    else if r.atTarget ∧ 65536 < sub32 target n then d.swapReject m Ev.SWAP_RANGE
    else if (scopesOf m).any (fun i => d.scopeState i != 0) then d.swapReject m Ev.SWAP_BUSY
    else d.swapSeal m (if r.atTarget then target else e)

/-- SWAP_ACCEPT (R35): the oldest request is accepted or refused (assumption 32). -/
def swapAcceptEffect (d : Dev) : Dev :=
  match d.pat.reqs with
  | [] => d
  | r :: t => { d with pat := { d.pat with reqs := t } }.swapTake r

/-- SWAP_ACCEPT. -/
def execSwapAccept (s : State) : Host.Outcome State Fault Refusal := s.run swapAcceptEffect

/-! ### Cancel and abort -/

/-- A cancel of a pending swap is in time (R36). -/
def Dev.cancelInTime (d : Dev) (i : Nat) : Bool :=
  let round := i == 2
  let left := sub32 (d.reg (atReg i)).toNat (d.tick32 round)
  if i = 0 then decide (2 ≤ left) else !d.within round left 4

/-- The cancel of one scope (R36). -/
def Dev.swapCancel (d : Dev) (i : Nat) : Dev :=
  match d.scopeState i with
  | 0 => d
  | 1 =>
    if d.cancelInTime i then
      let d := ((d.setScope i 0).setLast i 2).raise Ev.CANCEL_DONE (2 ^ i)
      if i ≤ 1 then { d with pat := { d.pat with joint := false } } else d
    else d.raise Ev.CANCEL_LATE (2 ^ i)
  | _ => d.raise Ev.CANCEL_LATE (2 ^ i)

/-- SWAP_CANCEL (R36), SD0 only (R32). -/
def swapCancelEffect (q : Requester) (v : Word) (d : Dev) : Dev :=
  d.by q (fun a d => if a.dom = 0 then d.forEach (scopesOf (wfld v 2 0)) Dev.swapCancel else d)

/-- SWAP_CANCEL. -/
def execSwapCancel (q : Requester) (v : Word) (s : State) : Host.Outcome State Fault Refusal :=
  s.run (swapCancelEffect q v)

/-- Pending swaps of the scopes are aborted: no block swaps, the seals lift, one SWAP_ABORT names them all; the
selvedge die discards what it has acknowledged when the link is up (R37, R39) (assumptions 29, 33). -/
def Dev.swapAbort (d : Dev) (mask : Nat) : Dev :=
  let l := (scopesOf mask).filter (fun i => d.scopeState i == 1)
  if l = [] then d
  else
    let d := d.forEach l (fun d i => (d.setScope i 0).setLast i 3)
    let d := if 0 ∈ l then
        { d with pat := { d.pat with joint := false, sent := false, acked := false,
                                     sel := if d.linkUp then none else d.pat.sel } }
      else d
    d.raise Ev.SWAP_ABORT ((l.map (fun i => 2 ^ i)).sum)

/-- An audio swap aborts for the link; a network swap of the same request shares its fate (R39) (assumption 33). -/
def Dev.audioAbort (d : Dev) : Dev :=
  if d.scopeState 0 = 1 then d.swapAbort (if d.pat.joint then 3 else 1) else d

/-- At the tick that starts row T - 1 a pending audio swap crosses to the selvedge die (R39) (assumption 33). -/
def Dev.swapCross (d : Dev) : Dev :=
  if d.scopeState 0 = 1 ∧ sub32 (d.reg (atReg 0)).toNat d.row32 = 1 then
    if d.fldAbsent then d
    else if d.linkUp then { d with pat := { d.pat with sent := true, acked := false } }
    else d.audioAbort
  else d

/-- SWAP_ACK (R39): the selvedge die holds the boundary and the new generation. -/
def swapAckEffect (d : Dev) : Dev :=
  if d.scopeState 0 = 1 ∧ d.pat.sent then
    { d with pat := { d.pat with acked := true, sel := some ((d.reg (atReg 0)).toNat, (d.gen 0 + 1) % 2 ^ 16) } }
  else d

/-- SWAP_ACK. -/
def execSwapAck (s : State) : Host.Outcome State Fault Refusal := s.run swapAckEffect

/-- SWAP_ACK_TIMEOUT (R39): 250 µs without an acknowledgement (assumption 33). -/
def swapAckTimeoutEffect (d : Dev) : Dev := if d.pat.sent ∧ d.pat.acked = false then d.audioAbort else d

/-- SWAP_ACK_TIMEOUT. -/
def execSwapAckTimeout (s : State) : Host.Outcome State Fault Refusal := s.run swapAckTimeoutEffect

/-! ### The end of a swap and the selvedge die's reports -/

/-- SWAP_DONE of a scope that settles (R31): the generation increments, the seal lifts, and after an audio swap the
split mute ends (R40). -/
def swapDoneEffect (i : Nat) (d : Dev) : Dev :=
  if d.scopeState i = 2 then
    let d := ((d.setScope i 0).setLast i 1).setFld (genReg i) 15 0 (d.gen i + 1)
    let d := if i = 0 then { d with pat := { d.pat with split := false, muted := false, sent := false, acked := false } } else d
    d.raise Ev.SWAP_DONE (2 ^ i)
  else d

/-- SWAP_DONE. -/
def execSwapDone (scope : Fin 3) (s : State) : Host.Outcome State Fault Refusal := s.run (swapDoneEffect scope)

/-- The generation the selvedge die should report (R40). -/
def Dev.expectedGen (d : Dev) : Nat := if d.scopeState 0 = 2 then (d.gen 0 + 1) % 2 ^ 16 else d.gen 0

/-- A report is shown and compared; the first that differs raises SWAP_SPLIT (R40) (assumption 34). -/
def Dev.genShow (d : Dev) (g : Nat) : Dev :=
  let d := d.setFld Reg.PAT_GEN_FLD 15 0 g
  if g ≠ d.expectedGen ∧ d.pat.split = false then
    { d with pat := { d.pat with split := true } }.raise Ev.SWAP_SPLIT 1
  else d

/-- GEN_REPORT (R40, R428): the selvedge die's report, 0 at the first row tick after the link has come up (KB-1)
(assumption 34) (assumption 34). -/
def genReportEffect (d : Dev) : Dev :=
  if d.fldAbsent ∨ d.linkUp = false then d
  else
    let g := if d.pat.zeroReport then 0 else d.fld Reg.FLD_SEL_GEN 15 0
    { d with pat := { d.pat with zeroReport := false } }.genShow g

/-- GEN_REPORT. -/
def execGenReport (s : State) : Host.Outcome State Fault Refusal := s.run genReportEffect

/-- SPLIT_MUTE (R40): the mute command of a split reaches the selvedge die (assumption 76). -/
def splitMuteEffect (d : Dev) : Dev :=
  if d.pat.split ∧ d.linkUp then { d with pat := { d.pat with muted := true } } else d

/-- SPLIT_MUTE. -/
def execSplitMute (s : State) : Host.Outcome State Fault Refusal := s.run splitMuteEffect

end Sys2Proof.Machine
end

