-- ==== Sys2Proof/Machine/Pattern.lean ====
section
/-! DEFINITION. The pattern image (R25 to R29): its header, directory and runs, the checks before anything is written, and
the limits its fixed sections must keep (LOAD_FORMAT). -/

namespace Sys2Proof.Machine

/-- A directory entry (Table 02-2). -/
structure Section where
  cls : Nat
  blk : Nat
  off : Nat
  len : Nat
  deriving DecidableEq, Repr

/-- The section directory: SECTION_COUNT entries of 16 bytes from byte 128 on. -/
def sections (img : List Byte) : List Section :=
  (List.range (leAt img 12 2)).map (fun i =>
    let e := 128 + 16 * i
    ⟨byteAt img (e + 2), byteAt img (e + 3), leAt img (e + 4) 4, leAt img (e + 8) 4⟩)

/-- Words of a list of bytes. -/
def leWord32s : Nat → List Byte → List Word
  | 0, _ => []
  | n + 1, l => w32 (leNat (l.take 4)) :: leWord32s n (l.drop 4)

/-- Size of a block's regions together, in bytes. -/
def blockSize (blk : Nat) : Nat := ((List.range 64).filter (fun n => blockOf n == blk)).length * 2 ^ 20

/-- The write runs of a section of block `blk` (R26); none when one is malformed or crosses its end. START counts from the base
of the block's lowest region, whichever of its region numbers the section names (DEDUCED: a block has one fixed section). The
fuel is the section's length. -/
def parseRuns (blk : Nat) : Nat → List Byte → Option (List WriteRun)
  | _, [] => some []
  | 0, _ :: _ => none
  | n + 1, l =>
    let start := leAt l 0 4
    let count := leAt l 4 4
    if l.length < 8 + 4 * count ∨ count = 0 ∨ 65536 < count ∨ start % 4 ≠ 0 ∨ blockSize blk < start + 4 * count then none
    else (parseRuns blk n (l.drop (8 + 4 * count))).map
      (fun t => ⟨blk * 2 ^ 20 + start, leWord32s count (l.drop 8)⟩ :: t)

/-- The runs of one section. -/
def sectionRuns (img : List Byte) (s : Section) : Option (List WriteRun) :=
  parseRuns (blockOf s.blk) s.len ((img.drop s.off).take s.len)

/-- All runs of the sections of a class, section by section (0 fixed, 1 live). -/
def classRuns (img : List Byte) (cls : Nat) : Option (List (List WriteRun)) :=
  ((sections img).filter (fun s => s.cls == cls)).mapM (sectionRuns img)

/-- Addresses and words a list of runs writes, in order. -/
def runWrites (l : List WriteRun) : List (Nat × Word) :=
  l.flatMap (fun r => ((List.range r.words.length).zip r.words).map (fun p => (r.addr + 4 * p.1, p.2)))

/-- Bytes a section digest covers: all before the signature (R27). -/
def imageBody (img : List Byte) : List Byte := img.take (img.length - 96)

/-- MAGIC, VERSION, HDR_LEN, DEVICE, MIN_REV and the ranges of the header (R25, R28). -/
def headerOk (img : List Byte) : Bool :=
  leAt img 0 4 == 0x5450564D && leAt img 4 2 == 1 && leAt img 6 2 == 0x80 && leAt img 8 4 == img.length &&
  decide (256 ≤ img.length ∧ img.length ≤ 16777216) && decide (1 ≤ leAt img 12 2 ∧ leAt img 12 2 ≤ 512) &&
  decide (leAt img 14 2 ≤ 1) && leAt img 16 2 == 0x9600 && decide (leAt img 18 2 ≤ 0x00A1)

/-- KIND: 0 full pattern, 1 live delta. -/
def imageKind (img : List Byte) : Nat := leAt img 14 2

/-- SEC_VERSION. -/
def imageVersion (img : List Byte) : Nat := leAt img 20 4

/-- Sections in ascending order, without overlap, from `lo` to `hi` (R28) (assumption 35). -/
def sectionsFit (hi : Nat) : Nat → List Section → Bool
  | _, [] => true
  | lo, s :: t => decide (lo ≤ s.off ∧ s.off + s.len ≤ hi ∧ s.off % 64 = 0 ∧ s.len % 4 = 0 ∧ s.cls ≤ 1 ∧ s.blk ≤ 63) &&
      sectionsFit hi (s.off + s.len) t

/-- No value twice. -/
def distinct : List Nat → Bool
  | [] => true
  | x :: t => !decide (x ∈ t) && distinct t

/-- The directory's checks: places, one fixed section to a block, none in a delta, runs well formed (R26, R28) (assumption 35). -/
def directoryOk (img : List Byte) : Bool :=
  let l := sections img
  let fixed := l.filter (fun s => s.cls == 0)
  sectionsFit (img.length - 96) (128 + 16 * l.length) l && distinct (fixed.map (fun s => blockOf s.blk)) &&
  (imageKind img == 0 || fixed.isEmpty) && (classRuns img 0).isSome && (classRuns img 1).isSome

/-- A fixed run may write structural registers only (R26). -/
def fixedTarget (a : Nat) : Bool := (regRow a).any (fun r => r.structural)

/-- A live run may write SH registers by their active offsets, the crosspoint window and its own page register (R26, R182). -/
def liveTarget (a : Nat) : Bool := (regRow a).any (fun r => r.ty == .SH) || inXp a || a == Reg.CAB_XP_PAGE 16

/-- Digest of the fixed sections in directory order (R29). -/
def fixedDigest (img : List Byte) : List Byte :=
  sha384 (((sections img).filter (fun s => s.cls == 0)).flatMap (fun s => (img.drop s.off).take s.len))

/-! ### Limits of the fixed sections -/

/-- A register's word in an image of registers. -/
def iReg (m : Tbl Word) (a : Nat) : Word := tget regReset m a

/-- A register's field in an image of registers. -/
def iFld (m : Tbl Word) (a hi lo : Nat) : Nat := wfld (iReg m a) hi lo

/-- Writes under each register's implemented bits (R4). -/
def imageWrites (m : Tbl Word) : List (Nat × Word) → Tbl Word
  | [] => m
  | (a, v) :: t => imageWrites (tput regReset m a (w32 (v.toNat &&& (regRow a).elim 0 RegRow.mask))) t

/-- Ranges (start, length) without overlap, pair by pair. -/
def disjoint : List (Nat × Nat) → Bool
  | [] => true
  | (a, n) :: t => (n == 0 || t.all (fun p => p.2 == 0 || decide (a + n ≤ p.1 ∨ p.1 + p.2 ≤ a))) && disjoint t

/-- Rates of a clock group in Hz (FLD_CG_CFG_A.RATE). -/
def groupRate (c : Nat) : Nat := [8000, 16000, 32000, 44100, 48000, 88200, 96000, 176400, 192000].getD c 0

/-- Limits of a clock group that has slots (R199). -/
def groupOk (m : Tbl Word) (k : Nat) : Bool :=
  let a := Reg.FLD_CG_CFG_A k
  let rate := groupRate (iFld m a 27 24)
  let fmt := iFld m a 23 22
  let slots := iFld m a 11 8
  let width := 16 + 8 * iFld m a 7 6
  let decim := 32 * 2 ^ iFld m a 2 1
  let b := Reg.FLD_CG_CFG_B k
  slots == 0 ||
  ((fmt == 3 || decide (rate * slots * width ≤ 24576000)) && (decide (2 ≤ fmt) || slots == 2) &&
   (fmt != 3 || (decide (1024000 ≤ rate * decim ∧ rate * decim ≤ 6144000) &&
      (List.range 8).all (fun i => iFld m (Reg.FLD_PORT_MAP (8 * k + i)) 31 31 == 0))) &&
   (iFld m b 13 12 != 1 || decide (rate * (128 * 2 ^ iFld m b 17 16) ≤ 24576000)) &&
   (iFld m a 18 18 == 1 || (iFld m a 27 24 == 4 && iFld m a 17 17 == 0)))

/-- Channels a port's pin carries: base and how many numbers (R200). -/
def portChannels (m : Tbl Word) (out : Bool) (p : Nat) : Nat × Nat :=
  let a := Reg.FLD_CG_CFG_A (p / 8)
  let w := if iFld m a 27 24 ≤ 4 then 1 else 2
  let v := iReg m (Reg.FLD_PORT_MAP p)
  if out then (wfld v 25 16, if wbit v 31 then w * wfld (iReg m a) 11 8 else 0)
  else (wfld v 9 0, if wbit v 15 then w * wfld (iReg m a) 11 8 else 0)

/-- Controllers: DMC0 to DMCn-1, of one density and rate (R305). -/
def dmcOk (m : Tbl Word) : Bool :=
  let n := 2 ^ iFld m Reg.DMC_ILV 1 0
  (List.range 8).all (fun k =>
    if k < n then iFld m (Reg.DMC_CFG k) 31 31 == 1 && iFld m (Reg.DMC_CFG k) 3 2 == iFld m (Reg.DMC_CFG 0) 3 2 &&
      iFld m (Reg.DMC_CFG k) 6 4 == iFld m (Reg.DMC_CFG 0) 6 4
    else iFld m (Reg.DMC_CFG k) 31 31 == 0)

/-- Carve-outs: base and size in units of 2 MiB, zero size when not valid (R317). -/
def carve (m : Tbl Word) (i : Nat) : Nat × Nat :=
  (iFld m (Reg.DMC_CO_A i) 14 0, if iFld m (Reg.DMC_CO_A i) 31 31 = 1 then iFld m (Reg.DMC_CO_B i) 15 0 else 0)

/-- Carve-outs lie apart and within the capacity, and each DRAM pool lies at the base of one of its kind (R317). -/
def carvesOk (m : Tbl Word) : Bool :=
  let cap := 2 ^ iFld m Reg.DMC_ILV 1 0 * 2 ^ iFld m (Reg.DMC_CFG 0) 3 2 * 512
  let l := (List.range 32).map (carve m)
  disjoint l && l.all (fun p => decide (p.1 + p.2 ≤ cap)) &&
  ((List.range 8).drop 1).all (fun p =>
    let count := iFld m (Reg.BPM_POOL_COUNT p) 22 0
    let base := (iReg m (Reg.BPM_POOL_BASE_LO p)).toNat + 2 ^ 32 * (iReg m (Reg.BPM_POOL_BASE_HI p)).toNat
    count == 0 || (List.range 32).any (fun i => decide ((carve m i).2 ≠ 0 ∧ (carve m i).1 * 2 ^ 21 = base ∧
      count * 2112 ≤ (carve m i).2 * 2 ^ 21) && iFld m (Reg.DMC_CO_A i) 19 16 == 8 + p))

/-- Flash geometry, when a chip is populated (R321). -/
def nandOk (m : Tbl Word) : Bool :=
  let c := iReg m Reg.NFC_CFG
  let u := 2 ^ wfld c 29 28
  let par := 256 + 128 * wfld c 25 24
  iFld m Reg.NFC_GEOM 31 16 == 0 ||
  (decide (16 + u * par ≤ wfld c 15 0) && (wfld c 31 30 != 1 || iFld m Reg.NFC_GEOM 11 0 % 3 == 0))

/-- The limits whose breach fails an image with LOAD_FORMAT: R59, TIM_ROW_OFFSET, R199, R237, R290, R305, R317, R321,
R340 and R374 (assumption 35). -/
def fixedOk (m : Tbl Word) : Bool :=
  iFld m Reg.TIM_TICK_SRC 11 10 != 3 && decide (iFld m Reg.TIM_ROW_OFFSET 18 0 < 500000) &&
  disjoint ((List.range 16).map (fun x => (iFld m (Reg.SEC_DOM_LEG x) 6 0, iFld m (Reg.SEC_DOM_LEG x) 23 16))) &&
  distinct ((((List.range 16).drop 1).map (fun n => iFld m (Reg.HST_VF_DOM n) 3 0)).filter (fun x => x != 0)) &&
  (List.range 32).all (groupOk m) &&
  disjoint ((List.range 256).map (portChannels m false)) && disjoint ((List.range 256).map (portChannels m true)) &&
  (List.range 64).all (fun i => let n := iFld m (Reg.CMP_CI_CFG i) 23 20; n == 0 || decide (2 ≤ n ∧ n ≤ 8)) &&
  (iFld m Reg.NET_LANE_MODE 1 0 != 0 || (List.range 1024).all (fun g => decide (iFld m (Reg.EGS_LG_MAP g) 5 0 < 32))) &&
  dmcOk m && carvesOk m && nandOk m

/-- With FLD_ABSENT, an image that enables a slip channel fails (R390). -/
def slipOk (m : Tbl Word) (absent : Bool) : Bool :=
  !absent || (List.range 64).all (fun j => iFld m (Reg.FLD_SLIP_A j) 31 31 == 0)

/-! ### Checks in order -/

/-- How strictly signatures and floors are checked (R365): `strict` in DEPLOYED, RETURNED and RETIRED, in PROVISION
when a hash of the set is programmed, never in BLANK (assumption 35). -/
def Dev.strict (d : Dev) (set : Nat) : Bool :=
  decide (2 ≤ d.sec.otp.lc) || (decide (d.sec.otp.lc = 1) && (List.range 4).any (fun k => decide (set + k ∈ d.sec.otp.hashSet)))

/-- The accepted key of an entry of the manifest (R364), empty when there is none. -/
def Dev.key (d : Dev) (i : Nat) : List Byte :=
  if i < 8 ∧ d.sec.otp.revoke.testBit i then [] else tat [] d.sec.keys i

/-- A signature under entry `set + KEY_INDEX` (R27). -/
def Dev.signatureOk (d : Dev) (set index : Nat) (img : List Byte) : Bool :=
  decide (index ≤ 3) && d.key (set + index) != [] &&
    ecdsaVerify (d.key (set + index)) (sha384 (imageBody img)) (img.drop (img.length - 96))

/-- PAT_PATTERN_DIGEST and PAT_FIXED_DIGEST hold digests byte 4k first in bits [7:0]. -/
def Dev.digestBytes (d : Dev) (a : Nat) : List Byte := d.regBytes a 12

/-- Result of the checks that need no running device: 0x0B FORMAT, 0x0D ROLLBACK, 0x0C SIG, 0x10 TARGET, 0x0A good
(assumption 35) (assumption 35). -/
def Dev.imageCheck (d : Dev) (img : List Byte) : Nat :=
  if headerOk img = false then 0x0B
  else if d.strict 4 ∧ imageVersion img < d.sec.otp.patFloor then 0x0D
  else if d.strict 4 ∧ d.signatureOk 4 (leAt img 24 2) img = false then 0x0C
  else if directoryOk img = false then 0x0B
  else
    let fixed := runWrites ((classRuns img 0).getD []).flatten
    let live := runWrites ((classRuns img 1).getD []).flatten
    if (fixed.all (fun p => fixedTarget p.1) && live.all (fun p => liveTarget p.1)) = false then 0x10
    else if imageKind img = 0 ∧ fixedOk (imageWrites [] fixed) = false then 0x0B
    else if slipOk (imageWrites [] live) (if imageKind img = 0 then iFld (imageWrites [] fixed) Reg.SYS_CFG 0 0 == 1
        else d.fldAbsent) = false then 0x0B
    else 0x0A

end Sys2Proof.Machine
end

