-- ==== Sys2Proof/Machine/Load.lean ====
section
/-! DEFINITION. Loading an image while the device runs (R34, R38, R44, Table 02-6). -/

namespace Sys2Proof.Machine

/-- Scopes a list of addresses touches (mask of R440); layer descriptors belong to none. -/
def touched (l : List Nat) : Nat :=
  l.foldl (fun m a => if isShadowed a then m ||| scopeOf (blockOf (regionOf a)) else m) 0

/-- The checks of a load: those of the image, then its base (a delta), its fixed sections (a full image) and the power of
the blocks it targets (R28, R29, R38). -/
def Dev.loadCheck (d : Dev) (img : List Byte) : Nat :=
  let c := d.imageCheck img
  if c ≠ 0x0A then c
  else if imageKind img = 1 ∧ (img.drop 48).take 48 ≠ d.digestBytes (Reg.PAT_PATTERN_DIGEST 0) then 0x0F
  else if imageKind img = 0 ∧ fixedDigest img ≠ d.digestBytes (Reg.PAT_FIXED_DIGEST 0) then 0x0E
  else if (sections img).any (fun s => s.cls == 1 && d.regionOff s.blk) then 0x10
  else 0x0A

/-- The load that START begins: the image is read from device DRAM by port 15 (R25) (assumption 36). -/
def Dev.loadBegin (d : Dev) : Dev :=
  let addr := d.fld Reg.PAT_LOAD_ADDR_LO 31 6 * 64 + 2 ^ 32 * d.fld Reg.PAT_LOAD_ADDR_HI 3 0
  let (img, d) := d.dramGet 15 0 addr (d.fld Reg.PAT_LOAD_LEN 24 0)
  let c := d.loadCheck img
  let runs := if c = 0x0A then (classRuns img 1).getD [] else []
  let addrs := (runWrites runs.flatten).map (fun p => p.1)
  let l : Load := ⟨runs, touched addrs, imageKind img == 0, beNat (sha384 (imageBody img)), imageVersion img,
    d.bit Reg.PAT_LOAD_CTL 1, c, false,
    if d.strict 4 then some (leAt img 24 2) else none⟩
  let d := (d.setBit Reg.PAT_LOAD_STAT 31 true).setFld Reg.PAT_LOAD_STAT 25 16 0
  { d with pat := { d.pat with load := some l } }

/-- A write of PAT_LOAD_CTL: HL while a load runs (Table 02-5). -/
def Dev.loadCtl (d : Dev) (v : Word) : Dev :=
  if d.bit Reg.PAT_LOAD_STAT 31 then
    if wfld v 1 0 ≠ d.fld Reg.PAT_LOAD_CTL 1 0 then d.raise Ev.PAT_WHILE_RUN 0 0 (leBytes 4 0x5C) else d
  else
    let d := d.setFld Reg.PAT_LOAD_CTL 1 0 (wfld v 1 0)
    if wbit v 0 then d.loadBegin else d

/-- LOAD_START (R44), SD0 only (R32). -/
def loadStartEffect (q : Requester) (v : Word) (d : Dev) : Dev :=
  d.sd0 q 2 (fun d => d.loadCtl v)

/-- LOAD_START. -/
def execLoadStart (q : Requester) (v : Word) (s : State) : Host.Outcome State Fault Refusal :=
  s.run (loadStartEffect q v)

/-- A scope the load touches is sealed (R34) (assumption 36). -/
def Dev.loadBlocked (d : Dev) (l : Load) : Bool := (scopesOf l.touched).any (fun i => d.scopeState i != 0)

/-- The live runs are written into the shadows, in order (R44). -/
def Dev.loadWrite (d : Dev) (l : Load) : Dev :=
  let d := (d.forEach (runWrites l.runs.flatten) (fun d p => d.liveWrite p.1 p.2)).setFld Reg.PAT_LOAD_STAT 25 16 l.runs.length
  { d with pat := { d.pat with load := some { l with written := true } } }

/-- LOAD_RESUME (R34): the seal has lifted, so a load that waited writes its runs. -/
def loadResumeEffect (d : Dev) : Dev :=
  match d.pat.load with
  | some l => if l.result = 0x0A ∧ l.written = false ∧ d.loadBlocked l = false then d.loadWrite l else d
  | none => d

/-- LOAD_RESUME. -/
def execLoadResume (s : State) : Host.Outcome State Fault Refusal := s.run loadResumeEffect

/-- Requests of SWAP_AFTER: audio and network together, video separately (R44). -/
def afterRequests (touched : Nat) : List SwapReq :=
  (if touched % 4 = 0 then [] else [⟨touched % 4, false⟩]) ++ (if touched / 4 = 0 then [] else [⟨4, false⟩])

/-- The end of a load whose runs are written: digest and version of a full image, and SWAP_AFTER's requests. -/
def Dev.loadFinish (d : Dev) (l : Load) : Dev :=
  let d := if l.full then
      { d with sec := { d.sec with patKey := l.key } } |> fun d => (d.setRegsNat (Reg.PAT_PATTERN_DIGEST 0) (leNat (beBytes 48 l.digest)) 12).setReg Reg.PAT_SEC_VERSION (w32 l.secVersion)
    else d
  if l.swapAfter then { d with pat := { d.pat with reqs := d.pat.reqs ++ afterRequests l.touched } } else d

/-- The load is over with a result (Table 02-6). -/
def Dev.loadEnd (d : Dev) (result : Nat) : Dev :=
  let d := ((d.setBit Reg.PAT_LOAD_CTL 0 false).setBit Reg.PAT_LOAD_STAT 31 false).setFld Reg.PAT_LOAD_STAT 7 0 result
  { d with pat := { d.pat with load := none } }.raise (0x0200 + result) 0

/-- LOAD_DONE (R44): a failed check ends the load with nothing written; a good image ends once its runs are written, and
waits while a scope it touches is sealed (assumption 36). -/
def loadDoneEffect (d : Dev) : Dev :=
  match d.pat.load with
  | none => d
  | some l =>
    if l.result ≠ 0x0A then d.loadEnd l.result
    else if l.written then (d.loadFinish l).loadEnd 0x0A
    else if d.loadBlocked l then d
    else ((d.loadWrite l).loadFinish l).loadEnd 0x0A

/-- LOAD_DONE. -/
def execLoadDone (s : State) : Host.Outcome State Fault Refusal := s.run loadDoneEffect

end Sys2Proof.Machine
end

