-- ==== Sys2Proof/Machine/Buffers.lean ====
section
/-! DEFINITION. Buffer pools (chapter 06): levels, allocation, sharing, release, the command windows, and the tightening of
policers that levels drive (R88). -/

namespace Sys2Proof.Machine

/-- Descriptor of a buffer. -/
def Dev.desc (d : Dev) (id : Nat) : Desc := tat {} d.bpm.descs id

/-- A descriptor replaced. -/
def Dev.setDesc (d : Dev) (id : Nat) (x : Desc) : Dev := { d with bpm := { d.bpm with descs := tset {} d.bpm.descs id x } }

/-- A pool. -/
def Dev.pool (d : Dev) (p : Nat) : Pool := tat {} d.bpm.pools p

/-- A pool replaced. -/
def Dev.setPool (d : Dev) (p : Nat) (x : Pool) : Dev := { d with bpm := { d.bpm with pools := tset {} d.bpm.pools p x } }

/-- Free buffers of a pool. -/
def Dev.free (d : Dev) (p : Nat) : Nat := d.fld (Reg.BPM_FREE p) 22 0

/-- A pool with buffers: BP0, or a DRAM pool whose COUNT is not 0 (R110). -/
def Dev.populated (d : Dev) (p : Nat) : Bool := p == 0 || d.fld (Reg.BPM_POOL_COUNT p) 22 0 != 0

/-- Level of a pool. -/
def Dev.poolLevel (d : Dev) (p : Nat) : Nat := d.fld (Reg.BPM_LEVEL p) 1 0

/-- Threshold of a level: 1 WARN, 2 THROTTLE, 3 STOP. -/
def Dev.threshold (d : Dev) (p l : Nat) : Nat := d.fld (Reg.BPM_WARN p + 4 * (l - 1)) 22 0

/-- Class of an agent (R109). -/
def Dev.agentClass (d : Dev) (a : Nat) : Nat := d.fld (Reg.BPM_AGENT_CLASS0 + 4 * (a / 16)) (2 * (a % 16) + 1) (2 * (a % 16))

/-- Agent numbers that never hold a share (R109). -/
def reservedAgent (a : Nat) : Bool := decide ((25 ≤ a ∧ a ≤ 31) ∨ 50 ≤ a)

/-! ### Levels -/

/-- The level of a pool with `free` free buffers that stood at `cur`: a level reached falls only above its threshold
plus BPM_HYST (R110) (assumption 53). -/
def Dev.levelFor (d : Dev) (p cur free : Nat) : Nat :=
  let at_ (l : Nat) : Bool := decide (free ≤ d.threshold p l + if l ≤ cur then d.fld (Reg.BPM_HYST p) 22 0 else 0)
  if at_ 3 then 3 else if at_ 2 then 2 else if at_ 1 then 1 else 0

/-- TIGHTEN_ON and TIGHTEN_OFF follow the levels of the pools that ING_TIGHTEN names (R88) (assumption 53). -/
def Dev.tightCheck (d : Dev) : Dev :=
  let on := (List.range 8).any (fun p => d.bit Reg.ING_TIGHTEN (8 + p) && decide (2 ≤ d.poolLevel p))
  if on && !d.bit Reg.ING_STAT 0 then (d.setBit Reg.ING_STAT 0 true).raise Ev.TIGHTEN_ON 0
  else if !on && d.bit Reg.ING_STAT 0 then (d.setBit Reg.ING_STAT 0 false).raise Ev.TIGHTEN_OFF 0
  else d

/-- The level of a pool is brought up to date, with the events of every level entered or passed (R110) (assumption 53). -/
def Dev.relevel (d : Dev) (p : Nat) : Dev :=
  if d.populated p = false then d
  else
    let cur := d.poolLevel p
    let new := d.levelFor p cur (d.free p)
    let d := d.setFld (Reg.BPM_LEVEL p) 1 0 new
    let d := d.forEach ((List.range 4).filter (fun l => decide (cur < l ∧ l ≤ new)))
      (fun d l => d.raise (Ev.POOL_WARN + l - 1) p 0 (leBytes 4 p))
    let d := if new = 0 ∧ cur ≠ 0 then d.raise Ev.POOL_NORMAL p 0 (leBytes 4 p) else d
    d.tightCheck

/-- FREE changes: MIN_FREE and the level follow. -/
def Dev.setFree (d : Dev) (p n : Nat) : Dev :=
  let d := d.setFld (Reg.BPM_FREE p) 22 0 n
  let d := if n < d.fld (Reg.BPM_MIN_FREE p) 22 0 then d.setFld (Reg.BPM_MIN_FREE p) 22 0 n else d
  d.relevel p

/-! ### Allocation -/

/-- `n` indices from the head of a free list of runs. -/
def takeFree : Nat → List (Nat × Nat) → List Nat × List (Nat × Nat)
  | 0, l => ([], l)
  | _ + 1, [] => ([], [])
  | n + 1, (i, c) :: t =>
    let rest := takeFree n (if c ≤ 1 then t else (i + 1, c - 1) :: t)
    (i :: rest.1, rest.2)

/-- An index joins the tail of a free list. -/
def giveFree (l : List (Nat × Nat)) (i : Nat) : List (Nat × Nat) :=
  match l.reverse with
  | (a, c) :: t => if a + c = i then (t.reverse) ++ [(a, c + 1)] else l ++ [(i, 1)]
  | [] => [(i, 1)]

/-- Descriptors of a chain just granted (R106, Table 06-4): the buffers after the head are linked behind it. -/
def chainDescs (agent dom nbuf : Nat) (head : Bool) (headroom : Nat) : List Nat → List (Nat × Desc)
  | [] => []
  | id :: t =>
    (id, { next := t.headD 0, more := !t.isEmpty, dataOff := if head then headroom else 0, head := head,
           nbuf := if head then nbuf else 0, state := 1, owners := if head then 2 ^ agent else 0,
           last := if head then agent else 0, shares := if head then 1 else 0, dom := dom }) ::
      chainDescs agent dom nbuf false headroom t

/-- A request must be refused, when `granted` buffers have already been given in its clock (R111, R112) (assumption 52). -/
def Dev.mustRefuse (d : Dev) (p granted a n dom : Nat) (de : Bool) : Bool :=
  let c := d.agentClass a
  decide (d.free p < granted + n + d.fld (Reg.BPM_FLOOR p c) 22 0) || (c == 0 && d.poolLevel p == 3) ||
  (de && decide (2 ≤ d.poolLevel p)) ||
  decide (d.fld (Reg.BPM_QUOTA dom p) 22 0 < d.fld (Reg.BPM_HELD dom p) 22 0 + n)

/-- NONE is given: counted, and ALLOC_NONE at most once per row per pool. Pools are shared by every domain (R443): the event is
SD0's (DEDUCED) (assumption 52). -/
def Dev.allocNone (d : Dev) (p a : Nat) : Dev :=
  let d := d.count (Reg.BPM_NONE_CNT p)
  if (d.pool p).noneMark then d
  else (d.setPool p { d.pool p with noneMark := true }).raise Ev.ALLOC_NONE p 0 (leBytes 4 p ++ [b8 a, 0, 1])

/-- A chain is granted: buffers leave the head of the free list, and the domain is charged. FREE is taken down by the
caller, at the end of the clock. -/
def Dev.grant (d : Dev) (p a n dom : Nat) : Nat × Dev :=
  let x := d.pool p
  let got := takeFree n x.free
  let ids := got.1.map (fun i => p * 2 ^ 22 + i)
  let d := d.setPool p { x with free := got.2, cached := x.cached - n }
  let d := d.forEach (chainDescs a dom n true (d.fld (Reg.BPM_POOL_CFG p) 7 0) ids) (fun d e => d.setDesc e.1 e.2)
  (ids.headD 0, d.setFld (Reg.BPM_HELD dom p) 22 0 (d.fld (Reg.BPM_HELD dom p) 22 0 + n))

/-- An agent's reply. -/
def Dev.reply (d : Dev) (a : Nat) (r : Option Nat) : Dev :=
  { d with bpm := { d.bpm with replies := tset none d.bpm.replies a (some r) } }

/-- One turn of the rotation of R112: the agent `a`, with `granted` buffers already given in this clock. FREE is read
less what has been granted (assumption 52). -/
def Dev.allocTurn (d : Dev) (p : Nat) (granted : Nat) (r : AllocReq) : Dev × Nat × Option AllocReq :=
  let n := r.nbuf.val
  if d.mustRefuse p granted r.agent n r.dom r.de then ((d.allocNone p r.agent).reply r.agent none, granted, none)
  else if 8 < granted + n ∨ (p ≠ 0 ∧ (d.pool p).cached < n) then (d, granted, some r)
  else
    let g := d.grant p r.agent n r.dom
    (g.2.reply r.agent (some g.1), granted + n, none)

/-- The rotation over the agents, from `start` on (R112); what still waits is returned. -/
def Dev.allocLoop (d : Dev) (p start : Nat) (reqs : List AllocReq) : Nat → Nat → Dev × Nat × List AllocReq
  | 0, granted => (d, granted, [])
  | k + 1, granted =>
    let a := (start + (63 - k)) % 64
    match reqs.find? (fun r => r.agent.val == a) with
    | none => d.allocLoop p start reqs k granted
    | some r =>
      let t := d.allocTurn p granted r
      let rest := t.1.allocLoop p start reqs k t.2.1
      (rest.1, rest.2.1, t.2.2.toList ++ rest.2.2)

/-- One clock of a pool in which requests stand at it (R112). -/
def Dev.allocClock (d : Dev) (p : Nat) (new : List AllocReq) : Dev :=
  let x := d.pool p
  let reqs := x.waiting ++ new.filter (fun r => !(x.waiting.any (fun w => w.agent == r.agent)) && !reservedAgent r.agent &&
    decide (1 ≤ r.nbuf.val ∧ r.nbuf.val ≤ 5))
  if reqs = [] then d
  else
    let d := d.setPool p { x with rr := (x.rr + 1) % 64, waiting := [] }
    let t := d.allocLoop p x.rr reqs 64 0
    let d := t.1.setPool p { t.1.pool p with waiting := t.2.2 }
    if t.2.1 = 0 then d else d.setFree p (d.free p - t.2.1)

/-- ALLOC_REQUEST (R112). -/
def allocRequestEffect (p : Nat) (reqs : List AllocReq) (d : Dev) : Dev := d.allocClock p reqs

/-- ALLOC_REQUEST. -/
def execAllocRequest (p : Fin 8) (reqs : List AllocReq) (s : State) : Host.Outcome State Fault Refusal :=
  s.run (allocRequestEffect p reqs)

/-- The on-die ID cache of a DRAM pool fills up to 256 of its free buffers (R108). -/
def Dev.refill (d : Dev) (p : Nat) : Dev := d.setPool p { d.pool p with cached := min 256 (d.free p) }

/-- CACHE_REFILL (R108): what waited takes part in the next clock's rotation. -/
def cacheRefillEffect (p : Nat) (d : Dev) : Dev := (d.refill p).allocClock p []

/-- CACHE_REFILL. -/
def execCacheRefill (p : Fin 8) (s : State) : Host.Outcome State Fault Refusal := s.run (cacheRefillEffect p)

/-- A block's own request, alone at its pool: granted, with its ID, or NONE. A request the ID cache cannot supply waits
for the refill (R108) and is then granted. -/
def Dev.alloc (d : Dev) (p a n dom : Nat) (de : Bool := false) : Option Nat × Dev :=
  let d := d.setPool p { d.pool p with rr := ((d.pool p).rr + 1) % 64 }
  if d.mustRefuse p 0 a n dom de then (none, d.allocNone p a)
  else
    let d := if p ≠ 0 ∧ (d.pool p).cached < n then d.refill p else d
    let g := d.grant p a n dom
    (some g.1, g.2.setFree p (g.2.free p - n))

/-! ### Sharing and release -/

/-- Argument bytes of a BPM event. -/
def bpmArgs (id agent last op : Nat) : List Byte := leBytes 4 id ++ [b8 agent, b8 last, b8 op]

/-- Result codes of BPM_CMD_STAT. -/
abbrev bpmOk : Nat := 0

/-- Agents of an owner mask. -/
def maskAgents (mask : Nat) : List Nat := (List.range 64).filter (fun a => mask.testBit a)

/-- SHARE (R113): result 0, 4 NOT_HEAD or 5 SHARE_REFUSED; `inst` is the event's instance. -/
def Dev.share (d : Dev) (agent id mask last inst : Nat) : Dev × Nat :=
  let h := d.desc id
  if h.head = false ∧ h.state ≠ 0 then (d.raise Ev.NOT_HEAD inst h.dom (bpmArgs id agent h.last 2), 4)
  else if h.state = 1 ∧ agent = h.last ∧ mask.testBit last ∧ mask < 2 ^ 64 ∧ (maskAgents mask).all (fun a => !reservedAgent a) then
    let n := (maskAgents mask).length
    (d.setDesc id { h with owners := mask, last := last, shares := n, state := if n = 1 then 1 else 2 }, 0)
  else (d.raise Ev.SHARE_REFUSED inst h.dom (bpmArgs id agent h.last 2), 5)

/-- Buffers of a chain, by NEXT. -/
def Dev.chainIds (d : Dev) (id : Nat) : Nat → List Nat
  | 0 => []
  | n + 1 => id :: (if (d.desc id).more then d.chainIds (d.desc id).next n else [])

/-- A chain returns to the tail of its free list and is uncharged (R114). -/
def Dev.returnChain (d : Dev) (id : Nat) : Dev :=
  let h := d.desc id
  let ids := d.chainIds id h.nbuf
  let p := id / 2 ^ 22
  let d := d.forEach ids (fun d i => d.setDesc i { d.desc i with state := 0 })
  let d := d.setPool p { d.pool p with free := ids.foldl (fun l i => giveFree l (i % 2 ^ 22)) (d.pool p).free }
  let d := { d with bpm := { d.bpm with data := tset [] d.bpm.data id [] } }
  let d := d.setFld (Reg.BPM_HELD h.dom p) 22 0 (d.fld (Reg.BPM_HELD h.dom p) 22 0 - ids.length)
  d.setFree p (d.free p + ids.length)

/-- A release (R114): `op` 3 DROP or 4 FREE. Result 0, 2 DOUBLE_FREE, 3 WRONG_OWNER or 4 NOT_HEAD. -/
def Dev.release (d : Dev) (agent op id inst : Nat) : Dev × Nat :=
  let h := d.desc id
  let args := bpmArgs id agent h.last op
  if h.state = 0 ∨ (op = 4 ∧ agent = h.last ∧ h.lastDone) then (d.raise Ev.DOUBLE_FREE inst h.dom args, 2)
  else if h.head = false then (d.raise Ev.NOT_HEAD inst h.dom args, 4)
  else if op = 3 ∧ (agent = h.last ∨ h.owners.testBit agent = false) then (d.raise Ev.WRONG_OWNER inst h.dom args, 3)
  else if op = 4 ∧ agent ≠ h.last then (d.raise Ev.WRONG_OWNER inst h.dom args, 3)
  else
    let h := if op = 3 then { h with owners := h.owners - 2 ^ agent, shares := h.shares - 1 }
      else { h with lastDone := true, shares := h.shares - 1 }
    if h.shares = 0 then ((d.setDesc id h).returnChain id, 0)
    else (d.setDesc id { h with state := if h.lastDone then 3 else if h.shares = 1 then 1 else 2 }, 0)

/-- A share given back by whichever release suits the agent: FREE by the last owner, DROP by another. -/
def Dev.giveBack (d : Dev) (agent id : Nat) : Dev :=
  (d.release agent (if (d.desc id).last = agent then 4 else 3) id (id / 2 ^ 22)).1

/-- Every share of a chain is given back (a frame dropped before it is shared). -/
def Dev.freeChain (d : Dev) (id : Nat) : Dev := (d.release (d.desc id).last 4 id (id / 2 ^ 22)).1

/-- CHAIN_SHARE (R113). -/
def chainShareEffect (agent id mask last : Nat) (d : Dev) : Dev := (d.share agent id mask last (id / 2 ^ 22)).1

/-- CHAIN_SHARE. -/
def execChainShare (agent : Fin 64) (id : BitVec 25) (mask : BitVec 64) (last : Fin 64) (s : State) :
    Host.Outcome State Fault Refusal := s.run (chainShareEffect agent id.toNat mask.toNat last)

/-- CHAIN_DROP (R114). -/
def chainDropEffect (agent id : Nat) (d : Dev) : Dev := (d.release agent 3 id (id / 2 ^ 22)).1

/-- CHAIN_DROP. -/
def execChainDrop (agent : Fin 64) (id : BitVec 25) (s : State) : Host.Outcome State Fault Refusal :=
  s.run (chainDropEffect agent id.toNat)

/-- CHAIN_FREE (R114). -/
def chainFreeEffect (agent id : Nat) (d : Dev) : Dev := (d.release agent 4 id (id / 2 ^ 22)).1

/-- CHAIN_FREE. -/
def execChainFree (agent : Fin 64) (id : BitVec 25) (s : State) : Host.Outcome State Fault Refusal :=
  s.run (chainFreeEffect agent id.toNat)

/-! ### Charge, data -/

/-- The charge of a received chain moves from SD0 to the domain classification named (R445); false when the domain's
quota does not allow it, which counts as NONE. -/
def Dev.charge (d : Dev) (id dom : Nat) : Dev × Bool :=
  let h := d.desc id
  let p := id / 2 ^ 22
  if dom = h.dom then (d, true)
  else if d.fld (Reg.BPM_QUOTA dom p) 22 0 < d.fld (Reg.BPM_HELD dom p) 22 0 + h.nbuf then (d.allocNone p h.last, false)
  else
    let d := d.setFld (Reg.BPM_HELD h.dom p) 22 0 (d.fld (Reg.BPM_HELD h.dom p) 22 0 - h.nbuf)
    let d := d.setFld (Reg.BPM_HELD dom p) 22 0 (d.fld (Reg.BPM_HELD dom p) 22 0 + h.nbuf)
    (d.forEach (d.chainIds id h.nbuf) (fun d i => d.setDesc i { d.desc i with dom := dom }), true)

/-- Data bytes of the buffers of a chain for a frame of `n` bytes: up to 2,048 less HEADROOM in the head (R104). -/
def fillLens (first : Nat) : Nat → Nat → List Nat
  | 0, _ => []
  | k + 1, n => min n (2048 - first) :: fillLens 0 k (n - (2048 - first))

/-- Buffers a frame of `n` bytes needs behind a head offset. -/
def buffersFor (headroom n : Nat) : Nat := if n + headroom ≤ 2048 then 1 else (n + headroom + 2047) / 2048

/-- Frame data of a chain. -/
def Dev.chainData (d : Dev) (id : Nat) : List Byte := tat [] d.bpm.data id

/-- A frame is stored in a chain: data, DATA_LEN of every buffer and FRAME_LEN. -/
def Dev.storeFrame (d : Dev) (id : Nat) (bytes : List Byte) : Dev :=
  let h := d.desc id
  let ids := d.chainIds id h.nbuf
  let d := { d with bpm := { d.bpm with data := tset [] d.bpm.data id bytes } }
  let d := d.forEach (ids.zip (fillLens h.dataOff h.nbuf bytes.length)) (fun d e => d.setDesc e.1 { d.desc e.1 with dataLen := e.2 })
  d.setDesc id { d.desc id with frameLen := bytes.length }

/-- A descriptor as bytes (Table 06-1). -/
def descNat (h : Desc) : Nat :=
  let le (off v : Nat) : Nat := v * 256 ^ off
  le 0 (h.next + if h.more then 2 ^ 31 else 0) + le 4 h.dataLen + le 6 h.dataOff +
  le 7 (h.head.toNat + 2 * h.de.toNat + 4 * h.verified.toNat) + le 8 h.frameLen + le 10 h.nbuf + le 11 h.state +
  le 12 h.owners + le 20 (h.last + if h.lastDone then 64 else 0) + le 21 h.shares + le 22 h.dom +
  le 24 (leNat (tsBytes h.ts)) + le 36 h.leg + le 38 h.stream + le 40 h.esn + le 48 h.use

/-! ### Command windows -/

/-- BPM_CMD_STAT takes a result. -/
def Dev.bpmResult (d : Dev) (w r : Nat) : Dev := d.setFld (Reg.BPM_CMD_STAT w) 3 0 r

/-- Target of a window's command, refused with DOMAIN unless it is SD0's window or the chain is the window's (R115). -/
def Dev.bpmTarget (d : Dev) (w : Nat) (f : Nat → Dev → Dev × Nat) : Dev :=
  let id := d.fld (Reg.BPM_CMD_ID w) 24 0
  if w ≠ 0 ∧ (d.desc id).dom ≠ w then d.bpmResult w 6
  else let r := f id d; r.1.bpmResult w r.2

/-- A window command of BPM (R115, R374): another domain's is refused with BPM_DOMAIN, whose instance is the accessing
domain and whose arguments are the register's offset. -/
def Dev.bpmWindow (d : Dev) (q : Requester) (w : Nat) (f : Access → Dev → Dev) : Dev :=
  d.by q (fun a d =>
    if d.regionOff 14 then d
    else if a.mayUse w then f a d
    else d.raise Ev.BPM_DOMAIN a.dom a.dom (leBytes 4 (0x300C + 0x80 * w)))

/-- BPM_CMD_ALLOC (R115): a chain charged to the window's domain (assumption 52). -/
def bpmCmdAllocEffect (q : Requester) (w : Nat) (v : Word) (d : Dev) : Dev :=
  d.bpmWindow q w (fun a d =>
    let n := wfld v 24 22
    if n = 0 ∨ 5 < n then d.bpmResult w 1
    else match d.alloc (wfld v 27 25) a.agent n w with
      | (some id, d) => (d.setReg (Reg.BPM_CMD_ID w) (w32 id)).bpmResult w 0
      | (none, d) => d.bpmResult w 1)

/-- BPM_CMD_ALLOC. -/
def execBpmCmdAlloc (q : Requester) (w : Fin 16) (v : Word) (s : State) : Host.Outcome State Fault Refusal :=
  s.run (bpmCmdAllocEffect q w v)

/-- BPM_CMD_SHARE (R115). -/
def bpmCmdShareEffect (q : Requester) (w : Nat) (v : Word) (d : Dev) : Dev :=
  d.bpmWindow q w (fun a d => d.bpmTarget w (fun id d =>
    d.share a.agent id (d.reg64 (Reg.BPM_CMD_MASK_LO w) (Reg.BPM_CMD_MASK_HI w)) (wfld v 21 16) w))

/-- BPM_CMD_SHARE. -/
def execBpmCmdShare (q : Requester) (w : Fin 16) (v : Word) (s : State) : Host.Outcome State Fault Refusal :=
  s.run (bpmCmdShareEffect q w v)

/-- BPM_CMD_DROP (R115). -/
def bpmCmdDropEffect (q : Requester) (w : Nat) (d : Dev) : Dev :=
  d.bpmWindow q w (fun a d => d.bpmTarget w (fun id d => d.release a.agent 3 id w))

/-- BPM_CMD_DROP. -/
def execBpmCmdDrop (q : Requester) (w : Fin 16) (_v : Word) (s : State) : Host.Outcome State Fault Refusal :=
  s.run (bpmCmdDropEffect q w)

/-- BPM_CMD_FREE (R115). -/
def bpmCmdFreeEffect (q : Requester) (w : Nat) (d : Dev) : Dev :=
  d.bpmWindow q w (fun a d => d.bpmTarget w (fun id d => d.release a.agent 4 id w))

/-- BPM_CMD_FREE. -/
def execBpmCmdFree (q : Requester) (w : Fin 16) (_v : Word) (s : State) : Host.Outcome State Fault Refusal :=
  s.run (bpmCmdFreeEffect q w)

/-- BPM_CMD_READ (R105, R115): the descriptor is copied to BPM_DESC0-15; a command names a chain's head. -/
def bpmCmdReadEffect (q : Requester) (w : Nat) (d : Dev) : Dev :=
  d.bpmWindow q w (fun a d => d.bpmTarget w (fun id d =>
    let h := d.desc id
    if h.head = false ∧ h.state ≠ 0 then (d.raise Ev.NOT_HEAD w h.dom (bpmArgs id a.agent h.last 5), 4)
    else (d.setRegsNat (Reg.BPM_DESC w 0) (descNat h) 16, 0)))

/-- BPM_CMD_READ. -/
def execBpmCmdRead (q : Requester) (w : Fin 16) (_v : Word) (s : State) : Host.Outcome State Fault Refusal :=
  s.run (bpmCmdReadEffect q w)

end Sys2Proof.Machine
end

