-- ==== Sys2Proof/Machine/Net.lean ====
section
/-! DEFINITION. Ports and the MAC (R68 to R73): port states, PAUSE and PFC in both directions. -/

namespace Sys2Proof.Machine

/-- A port in a state (Table 04-2): 0 DISABLED, 1 TRAINING, 2 DOWN, 3 UP, 4 RFAULT. -/
def Dev.setPort (d : Dev) (p v : Nat) : Dev := d.setFld (Reg.NET_PORT_STAT p) 2 0 v

/-- The port runs link training (R69): KR_TRAIN with MEDIA CR or KR (assumption 37). -/
def Dev.trains (d : Dev) (p : Nat) : Bool := d.bit (Reg.NET_PORT_CFG p) 3 && decide (d.fld (Reg.NET_PORT_CFG p) 1 0 ≤ 1)

/-- A register access to a port's set: SD0's, nothing for a port the lane mode does not form (R68, R374) or while NET is
powered down. -/
def Dev.portBy (d : Dev) (q : Requester) (p : Nat) (f : Dev → Dev) : Dev :=
  d.sd0 q 8 (fun d => if d.portAbsent p then d else f d)

/-- Entry to the state after enable (Table 04-2) (assumption 116). -/
def Dev.portOn (d : Dev) (p : Nat) : Dev :=
  if d.retired ∨ d.bit (Reg.NET_PORT_CTL p) 0 then d
  else (d.setBit (Reg.NET_PORT_CTL p) 0 true).setPort p (if d.trains p then 1 else 2)

/-- PORT_ENABLE (R70); in RETIRED, EN ignores writes (R363). -/
def portEnableEffect (q : Requester) (p : Nat) (d : Dev) : Dev := d.portBy q p (fun d => d.portOn p)

/-- PORT_ENABLE. -/
def execPortEnable (q : Requester) (p : Fin 8) (s : State) : Host.Outcome State Fault Refusal := s.run (portEnableEffect q p)

/-- A frame being sent is ended with an inverted FCS when its port leaves UP (Table 04-2). -/
def Dev.cutTx (d : Dev) (p : Nat) : Dev :=
  match tat none d.egs.tx p with
  | some t => { d with egs := { d.egs with tx := tset none d.egs.tx p (some { t with bad := true }) } }
  | none => d

/-- The port leaves UP or RFAULT for a state: LINK_DOWN is raised, frames in flight end. -/
def Dev.linkLost (d : Dev) (p state : Nat) (receiving : Bool) : Dev :=
  let was := d.portState p
  let d := if receiving ∧ was = 3 then d.count (Reg.NET_RX_FCS_ERR p) else d
  let d := if was = 3 then d.cutTx p else d
  ((d.setPort p state).setBit (Reg.NET_PORT_STAT p) 7 false).raise Ev.LINK_DOWN p

/-- The port is disabled (Table 04-2). -/
def Dev.portOff (d : Dev) (p : Nat) : Dev :=
  let d := d.setBit (Reg.NET_PORT_CTL p) 0 false
  if 3 ≤ d.portState p then d.linkLost p 0 false else d.setPort p 0

/-- PORT_DISABLE (R70). -/
def portDisableEffect (q : Requester) (p : Nat) (d : Dev) : Dev := d.portBy q p (fun d => d.portOff p)

/-- PORT_DISABLE. -/
def execPortDisable (q : Requester) (p : Fin 8) (s : State) : Host.Outcome State Fault Refusal := s.run (portDisableEffect q p)

/-- RETRAIN written 1: a port in TRAINING restarts it, a port in DOWN that trains returns to it (Table 04-2). -/
def Dev.portRetrain (d : Dev) (p : Nat) : Dev := if d.portState p = 2 ∧ d.trains p then d.setPort p 1 else d

/-- RETRAIN (R70). -/
def retrainEffect (q : Requester) (p : Nat) (d : Dev) : Dev := d.portBy q p (fun d => d.portRetrain p)

/-- RETRAIN. -/
def execRetrain (q : Requester) (p : Fin 8) (s : State) : Host.Outcome State Fault Refusal := s.run (retrainEffect q p)

/-- TRAINING_COMPLETE (R70). -/
def trainingCompleteEffect (p : Nat) (d : Dev) : Dev := if d.portState p = 1 then d.setPort p 2 else d

/-- TRAINING_COMPLETE. -/
def execTrainingComplete (p : Fin 8) (s : State) : Host.Outcome State Fault Refusal := s.run (trainingCompleteEffect p)

/-- TRAIN_FAIL (R70): 500 ms in TRAINING. -/
def trainFailEffect (p : Nat) (d : Dev) : Dev :=
  if d.portState p = 1 then (d.setBit (Reg.NET_PORT_STAT p) 8 true).raise Ev.TRAIN_FAIL p else d

/-- TRAIN_FAIL. -/
def execTrainFail (p : Fin 8) (s : State) : Host.Outcome State Fault Refusal := s.run (trainFailEffect p)

/-- The port reaches UP: it is no longer flushed (R294) (assumption 37). -/
def Dev.portReady (d : Dev) (p : Nat) : Dev :=
  { d with egs := { d.egs with flushed := d.egs.flushed.filter (fun x => x != p) } }.setPort p 3

/-- LINK_UP (R70): 10 ms of unbroken lock in DOWN; the lock bits read 1 and the local fault 0 (assumption 37). -/
def linkUpEffect (p : Nat) (d : Dev) : Dev :=
  if d.portState p = 2 then ((d.setFld (Reg.NET_PORT_STAT p) 6 3 7).portReady p).raise Ev.LINK_UP p else d

/-- LINK_UP. -/
def execLinkUp (p : Fin 8) (s : State) : Host.Outcome State Fault Refusal := s.run (linkUpEffect p)

/-- NO_LOCK_TIMEOUT (R70): 100 ms without lock in DOWN, on a port that trains. -/
def noLockTimeoutEffect (p : Nat) (d : Dev) : Dev := if d.portState p = 2 ∧ d.trains p then d.setPort p 1 else d

/-- NO_LOCK_TIMEOUT. -/
def execNoLockTimeout (p : Fin 8) (s : State) : Host.Outcome State Fault Refusal := s.run (noLockTimeoutEffect p)

/-- LINK_DOWN (R70): the lock bits (block, alignment, FEC) and the local fault change; lock lost in UP or RFAULT, or a
local fault in UP, takes the port to DOWN. -/
def linkDownEffect (p : Nat) (locks : Nat) (localFault receiving : Bool) (d : Dev) : Dev :=
  let st := d.portState p
  if st = 0 then d
  else
    let lost := locks != 7
    let d := d.setFld (Reg.NET_PORT_STAT p) 6 3 (locks + 8 * localFault.toNat)
    let d := if lost then d.count (Reg.NET_LOCK_LOSS p) else d
    if (st = 3 ∧ (lost ∨ localFault)) ∨ (st = 4 ∧ lost) then d.linkLost p 2 receiving else d

/-- LINK_DOWN. -/
def execLinkDown (p : Fin 8) (locks : BitVec 3) (localFault receiving : Bool) (s : State) : Host.Outcome State Fault Refusal :=
  s.run (linkDownEffect p locks.toNat localFault receiving)

/-- REMOTE_FAULT (R70). -/
def remoteFaultEffect (p : Nat) (d : Dev) : Dev :=
  if d.portState p = 3 then ((d.setPort p 4).setBit (Reg.NET_PORT_STAT p) 7 true).raise Ev.REMOTE_FAULT p else d

/-- REMOTE_FAULT. -/
def execRemoteFault (p : Fin 8) (s : State) : Host.Outcome State Fault Refusal := s.run (remoteFaultEffect p)

/-- REMOTE_FAULT_CLEAR (R70): absent for 1 ms. -/
def remoteFaultClearEffect (p : Nat) (d : Dev) : Dev :=
  if d.portState p = 4 then (d.portReady p).setBit (Reg.NET_PORT_STAT p) 7 false else d

/-- REMOTE_FAULT_CLEAR. -/
def execRemoteFaultClear (p : Fin 8) (s : State) : Host.Outcome State Fault Refusal := s.run (remoteFaultClearEffect p)

/-! ### PAUSE and PFC -/

/-- A port-class node is paused for `n` quanta; 0 resumes it (R72) (assumption 39). -/
def Dev.pauseNode (d : Dev) (p c n : Nat) : Dev :=
  ({ d with net := { d.net with quanta := tset 0 d.net.quanta (8 * p + c) n } }).setBit (Reg.NET_PFC_STAT p) (8 + c) (n != 0)

/-- A received MAC control frame (R72): PAUSE for all eight nodes, PFC for the nodes it names (assumption 39). -/
def Dev.macControl (d : Dev) (p : Nat) (f : List Byte) : Dev :=
  let op := beAt f 14 2
  if op ≠ 1 ∧ op ≠ 0x0101 then d
  else
    let d := d.count (Reg.NET_RX_PAUSE p)
    if d.bit (Reg.NET_PORT_CFG p) 4 = false then d
    else if op = 1 then d.forEach (List.range 8) (fun d c => d.pauseNode p c (beAt f 16 2))
    else d.forEach ((List.range 8).filter (fun c => (beAt f 16 2).testBit c)) (fun d c => d.pauseNode p c (beAt f (18 + 2 * c) 2))

/-- PAUSE_EXPIRY (R72): the quanta of a node have run out. -/
def pauseExpiryEffect (p c : Nat) (d : Dev) : Dev := d.pauseNode p c 0

/-- PAUSE_EXPIRY. -/
def execPauseExpiry (p c : Fin 8) (s : State) : Host.Outcome State Fault Refusal := s.run (pauseExpiryEffect p c)

/-- Priorities of a port that are asserted (R73): the level of their pool is at or above theirs. MODE 1 uses
priority 0's for the whole port. -/
def Dev.xoffNow (d : Dev) (p : Nat) : Nat :=
  let m := d.fld (Reg.NET_PFC_CFG p) 1 0
  let on (i : Nat) : Bool :=
    let l := d.fld (Reg.NET_PFC_LEVEL p) (2 * i + 1) (2 * i)
    l != 0 && decide (l ≤ d.poolLevel (d.fld (Reg.NET_PFC_POOL p) (3 * i + 2) (3 * i)))
  if m = 2 then ((List.range 8).map (fun i => if on i then 2 ^ i else 0)).sum
  else if m = 1 then (if on 0 then 1 else 0) else 0

/-- A PFC or PAUSE frame leaves the MAC (assumption 39). -/
def Dev.pfcEmit (d : Dev) (p mask quanta : Nat) : Dev :=
  ({ d with net := { d.net with pfcSent := (p, mask, quanta) :: d.net.pfcSent } }).count (Reg.NET_TX_PAUSE p)

/-- PFC_FRAME_SEND (R73): on assertion, a frame with QUANTA for every asserted priority; on deassertion, one with
quanta 0 for what has deasserted. -/
def pfcFrameSendEffect (p : Nat) (d : Dev) : Dev :=
  let old := d.fld (Reg.NET_PFC_STAT p) 7 0
  let new := d.xoffNow p
  if old = new ∨ d.portUp p = false then d
  else
    let d := d.setFld (Reg.NET_PFC_STAT p) 7 0 new
    let d := if new &&& old = new then d else d.pfcEmit p new (d.fld (Reg.NET_PFC_CFG p) 31 16)
    if new &&& old = old then d else d.pfcEmit p (old - (new &&& old)) 0

/-- PFC_FRAME_SEND. -/
def execPfcFrameSend (p : Fin 8) (s : State) : Host.Outcome State Fault Refusal := s.run (pfcFrameSendEffect p)

/-- PFC_REPEAT (R73): while a priority stays asserted the frame is repeated (assumption 39). -/
def pfcRepeatEffect (p : Nat) (d : Dev) : Dev :=
  let x := d.fld (Reg.NET_PFC_STAT p) 7 0
  if x = 0 ∨ d.portUp p = false then d else d.pfcEmit p x (d.fld (Reg.NET_PFC_CFG p) 31 16)

/-- PFC_REPEAT. -/
def execPfcRepeat (p : Fin 8) (s : State) : Host.Outcome State Fault Refusal := s.run (pfcRepeatEffect p)

end Sys2Proof.Machine
end

