-- ==== Sys2Proof/Machine/Classify.lean ====
section
/-! DEFINITION. The flow store (R77 to R83): hash, lookup, the four window commands and the hash key. -/

namespace Sys2Proof.Machine

/-- Buckets of a way. -/
abbrev ways : Nat := 262144

/-- KIND of a record: 0 empty, 1 transport, 2 stream. -/
def recKind (r : Nat) : Nat := rbits r 31 7 6

/-- DOMAIN of a record (R77). -/
def recDom (r : Nat) : Nat := rbits r 31 5 2

/-- LEG of a record (Table 04-4). -/
def recLeg (r : Nat) : Nat := if recKind r = 1 then rbits r 24 12 0 else rbits r 4 12 0

/-- Key length in bytes after KIND. -/
def keyLen (kind : Nat) : Nat := if kind = 1 then 23 else 6

/-- Key bytes of a record: KIND, then its first bytes (R77). -/
def recKey (r : Nat) : List Byte := b8 (recKind r) :: leBytes (keyLen (recKind r)) r

/-- Hash of a key. -/
def Dev.flowHash (d : Dev) (key : List Byte) : Nat := sipHash d.cls.key key

/-- Slot of way `w` for a hash: 262,144 w + bucket (R77). -/
def slotOf (h w : Nat) : Nat := ways * w + (h >>> (18 * w)) % ways

/-- The four candidate slots of a key. -/
def Dev.slots (d : Dev) (key : List Byte) : List Nat :=
  let h := d.flowHash key
  (List.range 4).map (slotOf h)

/-- Where a record stands: in a way's slot, or in a CAM entry. -/
inductive FlowAt where
  | way (slot : Nat)
  | cam (entry : Nat)
  deriving DecidableEq, Repr

/-- The record in a slot of the ways, 0 when empty. -/
def Dev.wayRec (d : Dev) (s : Nat) : Nat := tat 0 d.cls.ways s

/-- The place of the record with a key (R80). -/
def Dev.flowFind (d : Dev) (key : List Byte) : Option FlowAt :=
  let hit (r : Nat) : Bool := r != 0 && recKey r == key
  match (d.slots key).find? (fun s => hit (d.wayRec s)) with
  | some s => some (.way s)
  | none => (d.cls.cam.find? (fun e => hit e.2)).map (fun e => .cam e.1)

/-- The record at a place. -/
def Dev.flowRec (d : Dev) : FlowAt → Nat
  | .way s => d.wayRec s
  | .cam e => tat 0 d.cls.cam e

/-- A record written at a place; 0 empties it. -/
def Dev.flowPut (d : Dev) (p : FlowAt) (r : Nat) : Dev :=
  match p with
  | .way s => { d with cls := { d.cls with ways := tset 0 d.cls.ways s r } }
  | .cam e => { d with cls := { d.cls with cam := tset 0 d.cls.cam e r } }

/-- The record with a key, if any (R79). -/
def Dev.flowLookup (d : Dev) (key : List Byte) : Option Nat := (d.flowFind key).map d.flowRec

/-- Breadth-first search of R81 for an empty slot: paths in the queue have their last slot first; `fuel` is the number
of slots still to be visited, `seen` every slot queued or visited (assumption 43). -/
def Dev.flowSearch (d : Dev) : Nat → List (List Nat) → List Nat → Option (List Nat)
  | 0, _, _ => none
  | _ + 1, [], _ => none
  | fuel + 1, path :: queue, seen =>
    let s := path.headD 0
    let r := d.wayRec s
    if r = 0 then some path
    else
      let next := (d.slots (recKey r)).filter (fun x => x != s && !decide (x ∈ seen))
      d.flowSearch fuel (queue ++ next.map (fun x => x :: path)) (seen ++ next)

/-- The records of a path move one slot along it, last first, and the new record takes its start. -/
def Dev.flowShift (d : Dev) (r : Nat) : List Nat → Dev
  | [] => d
  | [s] => d.flowPut (.way s) r
  | s :: t :: rest => (d.flowPut (.way s) (d.wayRec t)).flowShift r (t :: rest)

/-- The lowest free CAM entry. -/
def Dev.camFree (d : Dev) : Nat := (List.range 4097).find? (fun e => tat 0 d.cls.cam e == 0) |>.getD 4096

/-- Records in ways and CAM. -/
def Dev.flowOcc (d : Dev) : Nat := d.fld Reg.CLS_OCC 21 0

/-- CLS_OCC and CLS_CAM_OCC follow the store; CAM_HIGH and FLOW_OVER_GUARANTEE are raised as their counts rise
(Table 04-6), for window `w`. -/
def Dev.flowCount (d : Dev) (w : Nat) : Dev :=
  let occ := d.cls.ways.length + d.cls.cam.length
  let cam := d.cls.cam.length
  let oldOcc := d.flowOcc
  let oldCam := d.fld Reg.CLS_CAM_OCC 12 0
  let d := (d.setFld Reg.CLS_OCC 21 0 occ).setFld Reg.CLS_CAM_OCC 12 0 cam
  let d := if oldCam ≤ 3072 ∧ 3072 < cam then d.raise Ev.CAM_HIGH w w else d
  if oldOcc < 943718 ∧ 943718 ≤ occ then d.raise Ev.FLOW_OVER_GUARANTEE w w else d

/-- Reserved bits of a record within its first `n` bytes are zero (Table 04-4, R80). -/
def recReserved (r : Nat) (whole : Bool) : Bool :=
  if recKind r = 1 then
    !whole || (rf r 23 1 == 0 && rbits r 24 15 13 == 0 && rf r 26 5 == 0 && rbits r 31 1 0 == 0)
  else
    rbits r 4 15 13 == 0 &&
    (!whole || (rbits r 6 3 3 == 0 && rbits r 6 7 6 == 0 && rf r 7 1 == 0 && rbits r 15 7 2 == 0 && rf r 17 14 == 0 &&
      rbits r 31 1 0 == 0))

/-- A record that the command may act on: KIND 1 or 2, reserved bits zero (R80). -/
def recOk (r : Nat) (whole : Bool) : Bool := (recKind r == 1 || recKind r == 2) && recReserved r whole

/-- A record belongs to window `w` (R82): its domain, its leg, and for a transport record its local address (assumption 43). -/
def Dev.recAllowed (d : Dev) (w r : Nat) : Bool :=
  w == 0 || (recDom r == w && d.legIn w (recLeg r) &&
    (recKind r != 1 || d.fld (Reg.CLS_LOCAL_CTL (rf r 20 1)) 3 0 == w))

/-- The staged record of a window. -/
def Dev.staged (d : Dev) (w : Nat) : Nat := d.regsNat (Reg.CLS_CMD_REC w 0) 8

/-- CLS_CMD_STAT takes a result and, for a record that was found or placed, where it stands. -/
def Dev.flowResult (d : Dev) (w res : Nat) (at_ : Option FlowAt := none) : Dev :=
  d.setReg (Reg.CLS_CMD_STAT w) (w32 (res * 2 ^ 24 + match at_ with
    | some (.way s) => s / ways * 2 ^ 18 + s % ways
    | some (.cam e) => 2 ^ 20 + e
    | none => 0))

/-- A command refused with DOMAIN (assumption 43). -/
def Dev.flowDeny (d : Dev) (w : Nat) : Dev := (d.raise Ev.FLOW_DOMAIN w w).flowResult w 4

/-- A record finds its place (R81). -/
def Dev.flowPlace (d : Dev) (w r : Nat) : Dev :=
  if d.flowOcc = 1048576 + 4096 then (d.raise Ev.FLOW_FULL w w).flowResult w 3
  else
    let c := d.slots (recKey r)
    match d.flowSearch 256 (c.map (fun s => [s])) c with
    | some path =>
      ((d.flowShift r path).flowCount w).flowResult w 0 (some (.way (path.getLastD 0)))
    | none =>
      let e := d.camFree
      if e < 4096 then ((d.flowPut (.cam e) r).flowCount w).flowResult w 0 (some (.cam e))
      else (d.raise Ev.FLOW_FULL w w).flowResult w 3

/-- INSERT on a window (R80 to R82). -/
def Dev.flowInsert (d : Dev) (w : Nat) : Dev :=
  let r := d.staged w
  if recOk r true = false then d.flowResult w 5
  else if d.recAllowed w r = false then d.flowDeny w
  else if (d.flowFind (recKey r)).isSome then d.flowResult w 1
  else d.flowPlace w r

/-- CLS_INSERT (R81). -/
def clsInsertEffect (q : Requester) (w : Nat) (d : Dev) : Dev :=
  d.window q 10 w (some Ev.FLOW_DOMAIN) (fun _ d => d.flowInsert w)

/-- CLS_INSERT. -/
def execClsInsert (q : Requester) (w : Fin 16) (s : State) : Host.Outcome State Fault Refusal := s.run (clsInsertEffect q w)

/-- A freed slot takes the lowest CAM entry that has it among its candidates (R81). -/
def Dev.flowRefill (d : Dev) (s : Nat) : Dev :=
  match d.cls.cam.find? (fun e => decide (s ∈ d.slots (recKey e.2))) with
  | some e => (d.flowPut (.way s) e.2).flowPut (.cam e.1) 0
  | none => d

/-- DELETE on a window (R80, R82). -/
def Dev.flowDelete (d : Dev) (w : Nat) : Dev :=
  let r := d.staged w
  if recOk r false = false then d.flowResult w 5
  else match d.flowFind (recKey r) with
    | none => d.flowResult w 2
    | some p =>
      if d.recAllowed w (d.flowRec p) = false then d.flowDeny w
      else
        let d := d.flowPut p 0
        let d := match p with
          | .way s => d.flowRefill s
          | .cam _ => d
        (d.flowCount w).flowResult w 0

/-- CLS_DELETE (R80). -/
def clsDeleteEffect (q : Requester) (w : Nat) (d : Dev) : Dev :=
  d.window q 10 w (some Ev.FLOW_DOMAIN) (fun _ d => d.flowDelete w)

/-- CLS_DELETE. -/
def execClsDelete (q : Requester) (w : Fin 16) (s : State) : Host.Outcome State Fault Refusal := s.run (clsDeleteEffect q w)

/-- REPLACE on a window (R80, R82): the staged and the stored record must both be the window's. -/
def Dev.flowReplace (d : Dev) (w : Nat) : Dev :=
  let r := d.staged w
  if recOk r true = false then d.flowResult w 5
  else if d.recAllowed w r = false then d.flowDeny w
  else match d.flowFind (recKey r) with
    | none => d.flowResult w 2
    | some p => if d.recAllowed w (d.flowRec p) = false then d.flowDeny w else (d.flowPut p r).flowResult w 0 (some p)

/-- CLS_REPLACE (R80). -/
def clsReplaceEffect (q : Requester) (w : Nat) (d : Dev) : Dev :=
  d.window q 10 w (some Ev.FLOW_DOMAIN) (fun _ d => d.flowReplace w)

/-- CLS_REPLACE. -/
def execClsReplace (q : Requester) (w : Fin 16) (s : State) : Host.Outcome State Fault Refusal := s.run (clsReplaceEffect q w)

/-- LOOKUP on a window: a record of another domain is not found (R80, R82). -/
def Dev.flowRead (d : Dev) (w : Nat) : Dev :=
  let r := d.staged w
  if recOk r false = false then d.flowResult w 5
  else match d.flowFind (recKey r) with
    | none => d.flowResult w 2
    | some p =>
      if w ≠ 0 ∧ recDom (d.flowRec p) ≠ w then d.flowResult w 2
      else if d.recAllowed w (d.flowRec p) = false then d.flowDeny w
      else (d.setRegsNat (Reg.CLS_CMD_REC w 0) (d.flowRec p) 8).flowResult w 0 (some p)

/-- CLS_LOOKUP (R80) (assumption 119). -/
def clsLookupEffect (q : Requester) (w : Nat) (d : Dev) : Dev :=
  d.window q 10 w (some Ev.FLOW_DOMAIN) (fun _ d => d.flowRead w)

/-- CLS_LOOKUP. -/
def execClsLookup (q : Requester) (w : Fin 16) (s : State) : Host.Outcome State Fault Refusal := s.run (clsLookupEffect q w)

/-- Word `i` of the hash key is written while the store is empty (R83). -/
def Dev.hashKeyWord (d : Dev) (i : Nat) (v : Word) : Dev :=
  if d.flowOcc = 0 then { d with cls := { d.cls with key := rset d.cls.key (4 * i) 4 v.toNat } }
  else d.raise Ev.CLS_WHILE_RUN 0 0 (leBytes 4 (4 * i))

/-- HASH_KEY_WRITE (R83), SD0 only. -/
def hashKeyWriteEffect (q : Requester) (i : Nat) (v : Word) (d : Dev) : Dev := d.sd0 q 10 (fun d => d.hashKeyWord i v)

/-- HASH_KEY_WRITE. -/
def execHashKeyWrite (q : Requester) (i : Fin 4) (v : Word) (s : State) : Host.Outcome State Fault Refusal :=
  s.run (hashKeyWriteEffect q i v)

end Sys2Proof.Machine
end

