-- ==== Sys2Proof/Machine/Police.lean ====
section
/-! DEFINITION. Policers (R84 to R89): the meter of R85, the colour's action, and the window commands. -/

namespace Sys2Proof.Machine

/-- Policer record (Table 04-5). -/
def Dev.policer (d : Dev) (i : Nat) : Nat := tat 0 d.ing.pol i

/-- Policer record replaced. -/
def Dev.setPolicer (d : Dev) (i r : Nat) : Dev := { d with ing := { d.ing with pol := tset 0 d.ing.pol i r } }

/-- Buckets of a policer after their fill, before the packet: committed, and peak or excess (R85). -/
def polFill (r el shift : Nat) : Nat × Nat :=
  let cr := rf r 0 4 >>> shift
  let pr := rf r 4 4 >>> shift
  let cmax := rf r 20 3 * 256
  let pmax := rf r 24 3 * 256
  let tc := rf r 8 4 + el * cr / 256
  let tp := rf r 12 4
  let tp := if rbits r 23 1 0 = 2 then min (tp + el * pr / 256) pmax
    else if cmax < tc then min (tp + (tc - cmax)) pmax else tp
  (min tc cmax, tp)

/-- Colour and buckets after a packet that costs `b` (R85): 0 green, 1 yellow, 2 red. -/
def polColour (alg : Nat) (blind : Bool) (inCol tc tp b : Nat) : Nat × Nat × Nat :=
  if alg = 2 then
    if (!blind && inCol == 2) || decide (tp < b) then (2, tc, tp)
    else if (!blind && inCol == 1) || decide (tc < b) then (1, tc, tp - b)
    else (0, tc - b, tp - b)
  else if (blind || inCol == 0) && decide (b ≤ tc) then (0, tc - b, tp)
  else if (blind || inCol != 2) && decide (b ≤ tp) then (1, tc, tp - b)
  else (2, tc, tp)

/-- One packet through a policer record (R85): its colour and the record after it. `tighten` is the shift of R88 when it
is active. -/
def polRun (r now len inCol tighten : Nat) : Nat × Nat :=
  let alg := rbits r 23 1 0
  if alg = 0 then (0, r)
  else
    let el := min (sub32 now (rf r 16 4)) 0x1000000
    let (tc, tp) := polFill r el (if rbits r 28 8 8 = 1 then tighten else 0)
    let b := (max ((len : Int) + sInt 8 (rf r 27 1)) 1).toNat * 256
    let (col, tc, tp) := polColour alg (rbits r 23 3 2 == 0) inCol tc tp b
    let r := rset (rset (rset r 16 4 now) 8 4 tc) 12 4 tp
    (col, if col = 2 ∧ rf r 30 2 ≠ 0xFFFF then rset r 30 2 (rf r 30 2 + 1) else r)

/-- Input colour of a packet on a port: from its DSCP, its PCP (green when untagged), or green (R85); 3 reads as green. -/
def Dev.inColour (d : Dev) (p r dscp : Nat) (pcp : Option Nat) : Nat :=
  let c := match rbits r 23 3 2, pcp with
    | 1, _ => d.fld (Reg.ING_DSCP_MAP p (dscp / 16)) (2 * (dscp % 16) + 1) (2 * (dscp % 16))
    | 2, some x => d.fld (Reg.ING_PCP_MAP p) (2 * x + 1) (2 * x)
    | _, _ => 0
  if c = 3 then 0 else c

/-- Action of a colour: 0 PASS, 1 DEMOTE, 2 DROP, 3 HOST (R87). -/
def polAction (r col : Nat) : Nat := rbits r 28 (2 * col + 1) (2 * col)

/-- A packet passes its policer (R85, R87): the counts of ING, ING_DROP with a DROP. The answer is the action (assumption 44). -/
def Dev.police (d : Dev) (i p len dscp : Nat) (pcp : Option Nat) : Nat × Dev :=
  let r := d.policer i
  let tight := if d.bit Reg.ING_STAT 0 then d.fld Reg.ING_TIGHTEN 2 0 else 0
  let (col, r') := polRun r (d.usec % 2 ^ 32) len (d.inColour p r dscp pcp) tight
  if rbits r 23 1 0 = 0 then (0, d)
  else
    let d := (d.setPolicer i r').count64 (if col = 0 then Reg.ING_GREEN_LO else if col = 1 then Reg.ING_YELLOW_LO else Reg.ING_RED_LO)
    let act := polAction r col
    (act, if act = 2 then d.count64 Reg.ING_DROP_LO else d)

/-- Whether policer `i` lies in domain `w`'s range (R84). -/
def Dev.polIn (d : Dev) (w i : Nat) : Bool :=
  let b := d.fld (Reg.ING_DOM_POL w) 7 0 * 256
  decide (b ≤ i ∧ i < b + d.fld (Reg.ING_DOM_POL w) 24 16 * 256)

/-- A policer that window `w` may act on: SD0's window reaches every policer (R89, R374). -/
def Dev.polAllowed (d : Dev) (w i : Nat) : Bool := w == 0 || d.polIn w i

/-- A policer command of window `w` on the INDEX of its word (R89) (assumption 44). -/
def Dev.polWindow (d : Dev) (q : Requester) (w : Nat) (v : Word) (f : Nat → Dev → Dev) : Dev :=
  d.window q 15 w (some Ev.POL_RANGE) (fun _ d =>
    if d.polAllowed w (wfld v 15 0) = false then (d.raise Ev.POL_RANGE w w).setReg (Reg.ING_POL_STAT w) 1
    else (f (wfld v 15 0) d).setReg (Reg.ING_POL_STAT w) 0)

/-- The staged policer record of a window. -/
def Dev.polStaged (d : Dev) (w : Nat) : Nat := d.regsNat (Reg.ING_POL_REC w 0) 8

/-- POL_READ (R89). -/
def polReadEffect (q : Requester) (w : Nat) (v : Word) (d : Dev) : Dev :=
  d.polWindow q w v (fun i d => d.setRegsNat (Reg.ING_POL_REC w 0) (d.policer i) 8)

/-- POL_READ. -/
def execPolRead (q : Requester) (w : Fin 16) (v : Word) (s : State) : Host.Outcome State Fault Refusal :=
  s.run (polReadEffect q w v)

/-- Bytes 0-7 and 20-29 of a record with those of another (R89). -/
def polCfg (old new : Nat) : Nat := rset (rset old 0 8 (rf new 0 8)) 20 10 (rf new 20 10)

/-- POL_WRITE_CFG (R89): rates and bursts, the tokens kept. -/
def polWriteCfgEffect (q : Requester) (w : Nat) (v : Word) (d : Dev) : Dev :=
  d.polWindow q w v (fun i d => d.setPolicer i (polCfg (d.policer i) (d.polStaged w)))

/-- POL_WRITE_CFG. -/
def execPolWriteCfg (q : Requester) (w : Fin 16) (v : Word) (s : State) : Host.Outcome State Fault Refusal :=
  s.run (polWriteCfgEffect q w v)

/-- POL_WRITE_ALL (R89): every byte, LAST at the current tick and RED_CNT at 0. -/
def polWriteAllEffect (q : Requester) (w : Nat) (v : Word) (d : Dev) : Dev :=
  d.polWindow q w v (fun i d => d.setPolicer i (rset (rset (d.polStaged w) 16 4 d.usec) 30 2 0))

/-- POL_WRITE_ALL. -/
def execPolWriteAll (q : Requester) (w : Fin 16) (v : Word) (s : State) : Host.Outcome State Fault Refusal :=
  s.run (polWriteAllEffect q w v)

end Sys2Proof.Machine
end

