-- ==== Sys2Proof/Machine/LegRec.lean ====
section
/-! DEFINITION. Leg headers and outbound stream records (Tables 16-4, 16-5) and the leg's state (R289). -/

namespace Sys2Proof.Machine

/-- A leg header at reset: zero except CEIL, 0x0F (R287). -/
def hdrReset : Nat := 0x0F * 256 ^ 12

/-- Active header of a leg. -/
def Dev.hdr (d : Dev) (l : Nat) : Nat := tat hdrReset d.leg.hdr l

/-- Header replaced. -/
def Dev.setHdr (d : Dev) (l r : Nat) : Dev := { d with leg := { d.leg with hdr := tset hdrReset d.leg.hdr l r } }

/-- Key of outbound stream `o` of leg `l`. -/
abbrev outKey (l o : Nat) : Nat := 32 * l + o

/-- Active record of an outbound stream, by `32 L + o`. -/
def Dev.outRec (d : Dev) (k : Nat) : Nat := tat 0 d.leg.out k

/-- Outbound record replaced. -/
def Dev.setOut (d : Dev) (k r : Nat) : Dev := { d with leg := { d.leg with out := tset 0 d.leg.out k r } }

/-- STATE of a leg: 0 OFF, 1 ACTIVE, 2 QUARANTINED, 3 SUSPENDED, in the order of Table 16-8. -/
def Dev.legState (d : Dev) (l : Nat) : Nat := rbits (d.hdr l) 16 2 0

/-- A leg receives replicas (R274). -/
def Dev.legReceives (d : Dev) (l : Nat) : Bool := d.legState l == 1 || d.legState l == 2

/-- A leg's inbound packets are forwarded (R274). -/
def Dev.legSends (d : Dev) (l : Nat) : Bool := d.legReceives l

/-- A leg changes state: LEG_ACTIVE counts the legs not OFF, and LEG_STATE carries the new state (Table 16-10). -/
def Dev.setLegState (d : Dev) (l v : Nat) : Dev :=
  let old := d.legState l
  if old = v then d
  else
    let n := d.fld Reg.LEG_ACTIVE 13 0
    let d := d.setFld Reg.LEG_ACTIVE 13 0 (if old = 0 then n + 1 else if v = 0 then n - 1 else n)
    (d.setHdr l (rsetBits (d.hdr l) 16 2 0 v)).raise Ev.LEG_STATE l (d.legDomain l) [b8 v]

/-- LEG_QUARANTINE takes an ACTIVE leg to QUARANTINED (Table 16-8). -/
def Dev.legQuarantine (d : Dev) (l : Nat) : Dev := if d.legState l = 1 then d.setLegState l 2 else d

/-- RELEASE of its slot returns a QUARANTINED leg to ACTIVE. -/
def Dev.legRelease (d : Dev) (l : Nat) : Dev := if d.legState l = 2 then d.setLegState l 1 else d

/-- A saturating count in a leg header. -/
def Dev.hdrCount (d : Dev) (l off : Nat) : Dev := d.setHdr l (rcount (d.hdr l) off)

/-- A saturating count in an outbound record. -/
def Dev.outCount (d : Dev) (k off : Nat) : Dev := d.setOut k (rcount (d.outRec k) off)

/-- EN of an outbound stream (FLAGS bit 0). -/
def Dev.outOn (d : Dev) (k : Nat) : Bool := rbits (d.outRec k) 7 0 0 == 1

/-- KEY_SLOT of an outbound stream. -/
def outSlot (r : Nat) : Nat := rbits r 4 14 0

/-- CLEAR of an outbound stream. -/
def outClear (r : Nat) : Bool := rbits r 4 15 15 == 1

/-- OWNED of an outbound stream. -/
def outOwned (r : Nat) : Bool := rbits r 16 20 20 == 1

/-- OWNER and OWNED clear (R288). -/
def Dev.disown (d : Dev) (k : Nat) : Dev := d.setOut k (rsetBits (d.outRec k) 16 20 0 0)

end Sys2Proof.Machine
end

