-- ==== Sys2Proof/Machine/Cipher.lean ====
section
/-! DEFINITION. Key slots and index records (chapter 05): the window commands, derivation, the inbound checks of R98 and the
egress indices of R103. -/

namespace Sys2Proof.Machine

/-- Key slot record (Table 05-2). -/
def Dev.slot (d : Dev) (k : Nat) : Nat := tat 0 d.cip.slots k

/-- Key slot replaced. -/
def Dev.setSlot (d : Dev) (k r : Nat) : Dev := { d with cip := { d.cip with slots := tset 0 d.cip.slots k r } }

/-- STATE of a slot: 0 EMPTY, 1 DERIVING, 2 LIVE, 3 QUARANTINED. -/
def slotState (r : Nat) : Nat := rf r 212 1
/-- TRANSFORM of a slot. -/
def slotTransform (r : Nat) : Nat := rbits r 208 2 0
/-- DIR of a slot: 0 inbound, 1 egress. -/
def slotDir (r : Nat) : Nat := rbits r 209 0 0
/-- LEG of a slot. -/
def slotLeg (r : Nat) : Nat := rbits r 210 12 0
/-- SERIAL of a slot. -/
def slotSerial (r : Nat) : Nat := rf r 220 4

/-- Domain of a slot's page (R94). -/
def Dev.slotDom (d : Dev) (k : Nat) : Nat := d.fld (Reg.CIP_PAGE_DOM (k / 512)) 3 0

/-- Index record by `40 L + i` (Table 05-3). -/
def Dev.index (d : Dev) (k : Nat) : Nat := tat 0 d.cip.index k

/-- Index record replaced. -/
def Dev.setIndex (d : Dev) (k r : Nat) : Dev := { d with cip := { d.cip with index := tset 0 d.cip.index k r } }

/-- Master key bytes of a transform (Table 05-1). -/
def keyBytes (t : Nat) : Nat := if t = 3 ∨ t = 4 ∨ t = 6 then 32 else 16

/-- Master salt bytes of a transform. -/
def saltBytes (t : Nat) : Nat := if 5 ≤ t then 12 else 14

/-- SRTP tag bytes of a transform. -/
def tagBytes (t : Nat) : Nat := if 5 ≤ t then 16 else if t = 2 ∨ t = 4 then 4 else 10

/-- SRTCP tag bytes: 80 bits under transforms 1 to 4 (R90). -/
def rtcpTagBytes (t : Nat) : Nat := if 5 ≤ t then 16 else 10

/-- A streaming pipe's transform (R91). -/
def streaming (t : Nat) : Bool := t == 5 || t == 6

/-! ### Commands -/

/-- A staging register of a window is written (Table 05-2: it cannot be read). -/
def Dev.stageWrite (d : Dev) (w k : Nat) (v : Word) : Dev :=
  { d with cip := { d.cip with stage := tset 0 d.cip.stage w (rset (tat 0 d.cip.stage w) (4 * k) 4 v.toNat) } }

/-- A command ends: staging is cleared and RESULT is shown (R96). -/
def Dev.cipResult (d : Dev) (w r : Nat) : Dev :=
  { d with cip := { d.cip with stage := tset 0 d.cip.stage w 0 } }.setReg (Reg.CIP_KEY_STAT w) (w32 r)

/-- A command of CIP's window `w` whose word is `v`; `names` says that the command names the SLOT, whose page must be
the window's (R94). -/
def Dev.cipWindow (d : Dev) (q : Requester) (w : Nat) (v : Word) (names : Bool) (f : Nat → Dev → Dev × Nat) : Dev :=
  d.window q 12 w (some Ev.KEY_DOMAIN) (fun _ d =>
    if names && d.slotDom (wfld v 14 0) != w then (d.raise Ev.KEY_DOMAIN w w).cipResult w 3
    else
      let r := f (wfld v 14 0) d
      r.1.cipResult w r.2)

/-- LEG of CIP_KEY_CFG. -/
def Dev.cfgLeg (d : Dev) (w : Nat) : Nat := d.fld (Reg.CIP_KEY_CFG w) 28 16

/-- Installation fingerprint: the first 64 bits of SHA-1 over the domain's secret, the key and the salt (R96). -/
def Dev.fingerprint (d : Dev) (dom t stage : Nat) : Nat :=
  leNat ((sha1 (leBytes 16 (tat 0 d.cip.secrets dom) ++ leBytes (keyBytes t) (rf stage 0 32) ++
    leBytes (saltBytes t) (rf stage 32 14))).take 8)

/-- Every egress slot of a domain that is DERIVING or LIVE differs in its fingerprint. -/
def Dev.freshPair (d : Dev) (dom fp : Nat) : Bool :=
  d.cip.slots.all (fun e => !(d.slotDom e.1 == dom && slotDir e.2 == 1 && (slotState e.2 == 1 || slotState e.2 == 2) &&
    rf e.2 200 8 == fp))

/-- The record of an accepted INSTALL (Table 05-4). -/
def installed (t dir leg stage fp serial : Nat) : Nat :=
  rset (rset (rset (rset (rset (rset (rset (rset 0 0 32 (rf stage 0 32)) 32 14 (rf stage 32 14)) 200 8 fp) 208 1 t) 209 1 dir)
    210 2 leg) 212 1 1) 220 4 serial

/-- INSTALL (R96): result by the order of its checks (assumption 45). -/
def Dev.install (d : Dev) (w k : Nat) : Dev × Nat :=
  let cfg := d.reg (Reg.CIP_KEY_CFG w)
  let t := wfld cfg 2 0
  let dir := wfld cfg 8 8
  let leg := wfld cfg 28 16
  let stage := tat 0 d.cip.stage w
  if d.retired ∨ t = 0 ∨ t = 7 ∨ rf stage (keyBytes t) (32 - keyBytes t) ≠ 0 ∨ rf stage (32 + saltBytes t) (14 - saltBytes t) ≠ 0 then
    (d, 4)
  else if d.mayLeg w leg = false then (d, 7)
  else if slotState (d.slot k) ≠ 0 then (d, 1)
  else
    let fp := d.fingerprint w t stage
    if dir = 1 ∧ d.freshPair w fp = false then (d.raise Ev.KEY_DUPLICATE w w, 2)
    else
      let n := (d.cip.serial + 1) % 2 ^ 32
      ({ d with cip := { d.cip with serial := n } }.setSlot k (installed t dir leg stage fp n), 0)

/-- KEY_INSTALL (R96) (assumption 45). -/
def keyInstallEffect (q : Requester) (w : Nat) (v : Word) (d : Dev) : Dev :=
  d.cipWindow q w v true (fun k d => d.install w k)

/-- KEY_INSTALL. -/
def execKeyInstall (q : Requester) (w : Fin 16) (v : Word) (s : State) : Host.Outcome State Fault Refusal :=
  s.run (keyInstallEffect q w v)

/-- KEY_ERASE (R97): all 256 bytes zero. -/
def keyEraseEffect (q : Requester) (w : Nat) (v : Word) (d : Dev) : Dev :=
  d.cipWindow q w v true (fun k d => (d.setSlot k 0, 0))

/-- KEY_ERASE. -/
def execKeyErase (q : Requester) (w : Fin 16) (v : Word) (s : State) : Host.Outcome State Fault Refusal :=
  s.run (keyEraseEffect q w v)

/-- The slot information registers of a window show a slot. -/
def Dev.showSlot (d : Dev) (w k : Nat) : Dev :=
  let r := d.slot k
  (((d.setReg (Reg.CIP_SLOT_INFO w)
    (w32 (slotState r * 2 ^ 29 + slotLeg r * 2 ^ 16 + slotDir r * 2 ^ 8 + slotTransform r))).setReg
    (Reg.CIP_SLOT_FAIL_RUN w) (w32 (rf r 214 2))).setReg (Reg.CIP_SLOT_FAIL_TOTAL w) (w32 (rf r 216 4))).setReg
    (Reg.CIP_SLOT_SERIAL w) (w32 (slotSerial r))

/-- KEY_READ_STAT (R97). -/
def keyReadStatEffect (q : Requester) (w : Nat) (v : Word) (d : Dev) : Dev :=
  d.cipWindow q w v true (fun k d => (d.showSlot w k, 0))

/-- KEY_READ_STAT. -/
def execKeyReadStat (q : Requester) (w : Fin 16) (v : Word) (s : State) : Host.Outcome State Fault Refusal :=
  s.run (keyReadStatEffect q w v)

/-- RELEASE of a slot (R102). -/
def Dev.slotRelease (d : Dev) (k : Nat) : Dev × Nat :=
  let r := d.slot k
  if slotState r = 0 then (d, 5)
  else if slotState r = 3 then ((d.setSlot k (rset (rset r 212 1 2) 214 2 0)).legRelease (slotLeg r), 0)
  else (d, 0)

/-- KEY_RELEASE (R102). -/
def keyReleaseEffect (q : Requester) (w : Nat) (v : Word) (d : Dev) : Dev :=
  d.cipWindow q w v true (fun k d => d.slotRelease k)

/-- KEY_RELEASE. -/
def execKeyRelease (q : Requester) (w : Fin 16) (v : Word) (s : State) : Host.Outcome State Fault Refusal :=
  s.run (keyReleaseEffect q w v)

/-- An INDEX command's record: LEG of CIP_KEY_CFG and IDX of its word; result 7 outside the domain's legs, 4 for an IDX
that names no record. -/
def Dev.indexTarget (d : Dev) (w : Nat) (v : Word) (f : Nat → Dev → Dev × Nat) : Dev × Nat :=
  if d.mayLeg w (d.cfgLeg w) = false then (d, 7)
  else if 39 < wfld v 22 16 then (d, 4)
  else f (40 * d.cfgLeg w + wfld v 22 16) d

/-- INDEX_READ (R95). -/
def indexReadEffect (q : Requester) (w : Nat) (v : Word) (d : Dev) : Dev :=
  d.cipWindow q w v false (fun _ d => d.indexTarget w v (fun i d => (d.setRegsNat (Reg.CIP_IDX_REC w 0) (d.index i) 8, 0)))

/-- INDEX_READ. -/
def execIndexRead (q : Requester) (w : Fin 16) (v : Word) (s : State) : Host.Outcome State Fault Refusal :=
  s.run (indexReadEffect q w v)

/-- State of an index record after INDEX_SET: the staged one, ACTIVE where the record was EXHAUSTED (R103) (assumption 49). -/
def indexState (old new : Nat) : Nat :=
  let pick (lo : Nat) : Nat := if rbits old 6 (lo + 1) lo = 2 then 1 else rbits new 6 (lo + 1) lo
  pick 0 + 4 * pick 2

/-- The record INDEX_SET writes: ROC, SEQ, STATE and RTCP_IDX from the window, both windows cleared. -/
def indexNew (old new : Nat) : Nat :=
  rset (rset (rset (rset (rset old 0 6 (rf new 0 6)) 6 1 (indexState old new)) 8 8 0) 16 4 (rf new 16 4 % 2 ^ 31)) 20 4 0

/-- INDEX_SET on a record, naming a slot (R103) (assumption 49). -/
def Dev.indexSet (d : Dev) (w k i : Nat) : Dev × Nat :=
  let s := d.slot k
  let old := d.index i
  if slotState s = 0 then (d, 5)
  else if (rbits old 6 1 0 = 2 ∨ rbits old 6 3 2 = 2) ∧
      (slotState s ≠ 2 ∨ slotLeg s ≠ d.cfgLeg w ∨ slotSerial s = rf old 24 4) then (d, 6)
  else (d.setIndex i (indexNew old (d.regsNat (Reg.CIP_IDX_REC w 0) 8)), 0)

/-- INDEX_SET (R103). -/
def indexSetEffect (q : Requester) (w : Nat) (v : Word) (d : Dev) : Dev :=
  d.cipWindow q w v true (fun k d => d.indexTarget w v (fun i d => d.indexSet w k i))

/-- INDEX_SET. -/
def execIndexSet (q : Requester) (w : Fin 16) (v : Word) (s : State) : Host.Outcome State Fault Refusal :=
  s.run (indexSetEffect q w v)

/-- Session keys of a slot: the six derived fields, each at the place and size of Table 05-2. -/
def sessionKeys (r : Nat) : Nat :=
  let t := slotTransform r
  let f (i : Nat) : Nat := Config.derivedKey t (rf r 0 32) (rf r 32 14) i
  let ka := if 5 ≤ t then 0 else 20
  rset (rset (rset (rset (rset (rset r 48 (keyBytes t) (f 0)) 80 (saltBytes t) (f 1)) 96 ka (f 2))
    128 (keyBytes t) (f 3)) 160 (saltBytes t) (f 4)) 176 ka (f 5)

/-- DERIVATION_DONE (R97) (assumption 45). -/
def derivationDoneEffect (k : Nat) (d : Dev) : Dev :=
  let r := d.slot k
  if slotState r = 1 then d.setSlot k (rset (rset (rset (sessionKeys r) 212 1 2) 214 2 0) 216 4 0) else d

/-- DERIVATION_DONE. -/
def execDerivationDone (slot : Fin 32768) (s : State) : Host.Outcome State Fault Refusal := s.run (derivationDoneEffect slot)

/-! ### Inbound index checks (R98) -/

/-- Rollover counter estimated for a received sequence number (RFC 3711 Appendix A). -/
def rocFor (r seq : Nat) : Nat :=
  let roc := rf r 0 4
  let top := rf r 4 2
  if rbits r 6 1 0 = 0 then roc
  else if top < 0x8000 then (if 0x8000 + top < seq then (roc + 2 ^ 32 - 1) % 2 ^ 32 else roc)
  else if seq + 0x8000 < top then (roc + 1) % 2 ^ 32 else roc

/-- Index of a received SRTP packet (assumption 47). -/
def rtpIndex (r seq : Nat) : Nat := rocFor r seq * 2 ^ 16 + seq

/-- Highest verified index of a record. -/
def highest (r : Nat) (rtcp : Bool) : Nat := if rtcp then rf r 16 4 % 2 ^ 31 else rf r 0 4 * 2 ^ 16 + rf r 4 2

/-- STATE of the SRTP or SRTCP part of a record is IDLE. -/
def indexIdle (r : Nat) (rtcp : Bool) : Bool := (if rtcp then rbits r 6 3 2 else rbits r 6 1 0) == 0

/-- A packet at an index has been received already, or lies below the window. -/
def isReplay (r : Nat) (rtcp : Bool) (i : Nat) : Bool :=
  let h := highest r rtcp
  let n := if rtcp then 32 else 64
  let win := if rtcp then rf r 20 4 else rf r 8 8
  !indexIdle r rtcp && decide (i ≤ h) && (decide (n ≤ h - i) || win.testBit (h - i))

/-- The record after a verified packet at an index. -/
def indexVerified (r : Nat) (rtcp : Bool) (i : Nat) : Nat :=
  let h := highest r rtcp
  let n := if rtcp then 32 else 64
  let win := if rtcp then rf r 20 4 else rf r 8 8
  let idle := indexIdle r rtcp
  let win' := if idle ∨ h < i then (if idle ∨ n ≤ i - h then 1 else (win * 2 ^ (i - h) + 1) % 2 ^ n)
    else win ||| 2 ^ (h - i)
  let top := if idle ∨ h < i then i else h
  if rtcp then rset (rset (rsetBits r 6 3 2 1) 16 4 top) 20 4 win'
  else rset (rset (rset (rsetBits r 6 1 0 1) 0 4 (top / 2 ^ 16)) 4 2 (top % 2 ^ 16)) 8 8 win'

/-- The index record of a stream with every packet in flight counted as received at its index (R98). -/
def Dev.indexPending (d : Dev) (leg stream : Nat) (rtcp : Bool) : Nat :=
  d.fwd.flight.foldl (fun r p =>
    if p.leg = leg ∧ p.stream = stream ∧ p.rtcp = rtcp ∧ p.clear = false then indexVerified r rtcp p.index else r)
    (d.index (40 * leg + stream))

/-! ### Verdict of a slot (Table 05-4) -/

/-- CIP_AUTH_FAIL at most once per row per leg: failures are gathered, and the row's event follows the first (assumption 46). -/
def Dev.authFail (d : Dev) (leg dom : Nat) : Dev :=
  let n := tat 0 d.cip.failRow leg
  let d := { d with cip := { d.cip with failRow := tset 0 d.cip.failRow leg (n + 1) } }.count64 Reg.CIP_AUTH_FAIL_LO
  if n = 0 then d.raise Ev.CIP_AUTH_FAIL leg dom (leBytes 4 1) else d

/-- A tag failure of a slot (R97, R102): a QUARANTINED slot keeps its state (assumption 46). -/
def Dev.slotFail (d : Dev) (k leg dom : Nat) : Dev :=
  let r := d.slot k
  if slotState r < 2 then d.authFail leg dom
  else
    let run := min (rf r 214 2 + 1) 0xFFFF
    let lim := d.fld (Reg.CIP_QUAR_RUN (d.slotDom k)) 15 0
    let quar := slotState r == 2 && lim != 0 && decide (lim ≤ run)
    let r := rcount (rset r 214 2 run) 216
    let d := (d.setSlot k (if quar then rset r 212 1 3 else r)).authFail leg dom
    if quar then (d.raise Ev.LEG_QUARANTINE leg dom).legQuarantine leg else d

/-- A verified packet of a slot: FAIL_RUN is 0. -/
def Dev.slotPass (d : Dev) (k : Nat) : Dev :=
  if 2 ≤ slotState (d.slot k) then d.setSlot k (rset (d.slot k) 214 2 0) else d

/-! ### Egress indices (R103) -/

/-- SRTP index of the next packet with a rewritten sequence number: ROC rises when SEQ passes 0xFFFF. -/
def egressIndex (r seq : Nat) : Nat :=
  let roc := rf r 0 4
  (if rbits r 6 1 0 ≠ 0 ∧ seq < rf r 4 2 then roc + 1 else roc) * 2 ^ 16 + seq

/-- The record of an outbound stream after an index at its limit: EXHAUSTED with the slot's SERIAL. -/
def exhausted (r : Nat) (rtcp : Bool) (serial : Nat) : Nat :=
  rset (if rtcp then rsetBits r 6 3 2 2 else rsetBits r 6 1 0 2) 24 4 serial

/-- A packet refused for an exhausted index: counted, CTX_EXHAUSTED raised (R103) (assumption 49). -/
def Dev.exhaust (d : Dev) (i leg : Nat) (rtcp : Bool) (k : Nat) : Dev :=
  let r := d.index i
  let was := (if rtcp then rbits r 6 3 2 else rbits r 6 1 0) = 2
  let d := if was then d else d.setIndex i (exhausted r rtcp (slotSerial (d.slot k)))
  (d.count Reg.CIP_EXH_DROP).raise Ev.CTX_EXHAUSTED leg (d.slotDom k)

/-- The index for the next SRTP packet of an outbound stream, consumed; none when exhausted. -/
def Dev.takeRtpIndex (d : Dev) (i leg seq k : Nat) : Option Nat × Dev :=
  let r := d.index i
  let n := egressIndex r seq
  if rbits r 6 1 0 = 2 ∨ 2 ^ 48 - 1 ≤ n then (none, d.exhaust i leg false k)
  else (some n, d.setIndex i (rset (rset (rsetBits r 6 1 0 1) 0 4 (n / 2 ^ 16)) 4 2 seq))

/-- The next SRTCP index of an outbound stream, consumed; an IDLE record starts at its RTCP_IDX. -/
def Dev.takeRtcpIndex (d : Dev) (i leg k : Nat) : Option Nat × Dev :=
  let r := d.index i
  let n := rf r 16 4 % 2 ^ 31 + if rbits r 6 3 2 = 0 then 0 else 1
  if rbits r 6 3 2 = 2 ∨ 2 ^ 31 - 1 ≤ n then (none, d.exhaust i leg true k)
  else (some n, d.setIndex i (rset (rsetBits r 6 3 2 1) 16 4 n))

/-- A slot that can seal a packet toward a leg: LIVE, egress, of that leg. -/
def Dev.canSeal (d : Dev) (k leg dom : Nat) : Bool :=
  let r := d.slot k
  slotState r == 2 && slotDir r == 1 && slotLeg r == leg && d.slotDom k == dom

end Sys2Proof.Machine
end

