-- ==== Sys2Proof/Machine/Exceptions.lean ====
section
/-! DEFINITION. What HST delivers to the host: completion records (Table 20-5), exception entries and mirrors
(Table 20-6, R351, R353). -/

namespace Sys2Proof.Machine

/-- Completion ring of a host-to-device ring (Table 20-2). -/
def completionRing (k : Nat) : Nat :=
  k / 16 * 16 + (if k % 16 < 2 then 6 + k % 16 else if k % 16 < 4 then 8 else 9)

/-- A completion record without its ESN and PHASE (Table 20-5). -/
def completionBytes (ring tag status value : Nat) (ts : List Byte) : List Byte :=
  leBytes 8 0 ++ leBytes 2 tag ++ [b8 ring, b8 status] ++ leBytes 4 value ++ ts ++ leBytes 4 0

/-- Time field of a record that carries no timestamp. -/
def noTs : List Byte := List.replicate 12 0

/-- The completion entry that was kept for a descriptor of ring `k` is free again (R346). -/
def Dev.unreserve (d : Dev) (k : Nat) : Dev :=
  { d with hst := { d.hst with resv := tset 0 d.hst.resv (completionRing k) (tat 0 d.hst.resv (completionRing k) - 1) } }

/-- A descriptor of ring `k` has finished (R349): its record is written with NOTIFY or a status other than OK. -/
def Dev.complete (d : Dev) (k tag status value : Nat) (ts : List Byte) (notify : Bool) : Dev :=
  let d := d.unreserve k
  if notify || status != 0 then d.post (.ring (completionRing k) 0 (completionBytes (k % 16) tag status value ts) none) else d

/-- Device bytes of an exception or record entry (Table 20-6); the host's 16 bytes stand in front as zeros. -/
def exceptionBytes (ts : Nat) (len copied chain : Nat) (leg : Option Nat) (cause port stream : Nat) : List Byte :=
  leBytes 16 0 ++ leBytes 8 0 ++ tsBytes ts ++ leBytes 2 len ++ leBytes 2 copied ++ leBytes 4 chain ++
  leBytes 2 (match leg with
    | some l => l + 2 ^ 15
    | none => 0) ++ [b8 cause, b8 (port + 8 * stream)] ++ leBytes 16 0

/-- Index the next entry of a device-to-host ring will take (assumption 105). -/
def Dev.nextEntry (d : Dev) (k : Nat) : Nat := ((d.reg (rDev k)).toNat + d.ringQueued k) % 2 ^ 32

/-- Key of the host's fields of an entry: its ring and its slot. -/
def Dev.slotKey (d : Dev) (k i : Nat) : Nat := k * 65536 + i % d.ringSize k

/-- A packet that finds no entry: counted, RING_FULL once per row per ring (R351) (assumption 105). -/
def Dev.ringFull (d : Dev) (k : Nat) : Dev :=
  let d := d.count (Reg.HST_RING_DROPS (k / 16) (k % 16))
  if k ∈ d.hst.fullMark then d
  else { d with hst := { d.hst with fullMark := addMark d.hst.fullMark k } }.raise Ev.RING_FULL k (k / 16)

/-- A packet's frame and entry are written to ring `k`, and the entry is held until the host returns it (R351, R352);
`share` says whether a share of the chain goes with it. An outbound mirror's copy is no packet that came in: its entry takes an
ESN of its own. -/
def Dev.ringPacket (d : Dev) (k chain : Nat) (share : Bool) (frame : List Byte) (ts : Nat) (leg : Option Nat)
    (cause port stream : Nat) : Dev :=
  let i := d.nextEntry k
  let f := tat {} d.hst.fields (d.slotKey k i)
  let n := min frame.length f.bufLen
  let d := { d with hst := { d.hst with
    hostMem := memWrite d.hst.hostMem f.bufAddr (frame.take n)
    held := tset [] d.hst.held k (tat [] d.hst.held k ++ [HeldEntry.mk i chain share cause port]) } }
  d.post (.ring k 16 (exceptionBytes ts frame.length n chain leg cause port stream) (if cause = 33 then none else some chain))

/-- Ring of cause `c` for a domain (R351). -/
def Dev.causeRing (d : Dev) (dom c : Nat) : Nat := ringKey dom (10 + d.fld (Reg.HST_EXC_MAP dom) (2 * c + 1) (2 * c))

/-- Exception ring `k` takes an LV write of its map at each entry (R42) (assumption 105). -/
def Dev.mapTake (d : Dev) (dom : Nat) : Dev := d.lvTake (fun a => a == Reg.HST_EXC_MAP dom)

/-- A packet of a cause goes to the host (R351): its chain, held by its last owner alone, is shared to agent 43. -/
def Dev.toHost (d : Dev) (dom chain : Nat) (leg : Option Nat) (cause port stream : Nat) : Dev :=
  let d := d.mapTake dom
  let k := d.causeRing dom cause
  if d.ringSpace k = 0 then (d.freeChain chain).ringFull k
  else
    let h := d.desc chain
    ((d.share h.last chain (2 ^ 43) 43 (chain / 2 ^ 22)).1).ringPacket k chain true (d.chainData chain) h.ts leg cause port stream

/-- A mirror is enabled for a leg; its register is taken at the entry (R42, R353). -/
def Dev.mirrors (d : Dev) (out : Bool) (l : Nat) : Bool :=
  d.bit (if out then Reg.HST_MIR_OUT (l / 32) else Reg.HST_MIR_IN (l / 32)) (l % 32)

/-- LV writes of a leg's mirror registers take effect. -/
def Dev.mirTake (d : Dev) (l : Nat) : Dev :=
  d.lvTake (fun a => a == Reg.HST_MIR_IN (l / 32) || a == Reg.HST_MIR_OUT (l / 32))

/-- A mirrored copy of a packet toward a leg (R353): cause 33 in ring 15; it holds no share. -/
def Dev.mirrorOut (d : Dev) (l chain : Nat) (frame : List Byte) (ts stream : Nat) : Dev :=
  let d := d.mirTake l
  if d.mirrors true l = false then d
  else
    let k := ringKey (d.legDomain l) 15
    if d.ringSpace k = 0 then d.ringFull k else d.ringPacket k chain false frame ts (some l) 33 (d.legPort l) stream

end Sys2Proof.Machine
end

