-- ==== Sys2Proof/Machine/Egress.lean ====
section
/-! DEFINITION. Egress (chapter 17): queues, shapers, deficit round robin, time gates, the dequeue decision and the end of
a frame. -/

namespace Sys2Proof.Machine

/-! ### Queues -/

/-- Frames of a leaf queue. -/
def Dev.leaf (d : Dev) (q : Nat) : List QFrame := tat [] d.egs.leaves q

/-- Frames of a control queue. -/
def Dev.cq (d : Dev) (p : Nat) : List QFrame := tat [] d.egs.cq p

/-- Buffers of a queue. -/
def qBuffers (l : List QFrame) : Nat := (l.map (fun f => f.nbuf)).sum

/-- A leaf queue replaced, EGS_Q_STAT with it. -/
def Dev.setLeaf (d : Dev) (q : Nat) (l : List QFrame) : Dev :=
  { d with egs := { d.egs with leaves := tset [] d.egs.leaves q l } }.setReg (Reg.EGS_Q_STAT q)
    (w32 (l.length % 2 ^ 16 * 2 ^ 16 + qBuffers l % 2 ^ 16))

/-- A control queue replaced. -/
def Dev.setCq (d : Dev) (p : Nat) (l : List QFrame) : Dev :=
  { d with egs := { d.egs with cq := tset [] d.egs.cq p l } }

/-- Key of a DRR node in the ring table: a leg group. -/
abbrev groupKey (g : Nat) : Nat := 64 + g
/-- Key of a DRR node in the ring table: a leg pair. -/
abbrev pairKey (l : Nat) : Nat := 1088 + l

/-- Children of a node in ring order, with DEF and FRESH (R296). -/
abbrev Drr := List (Nat × Nat × Bool)

/-- Register of a child's DEF and FRESH: groups under class nodes, legs under groups; a leaf has none. -/
def defReg (node c : Nat) : Nat := if node < 64 then Reg.EGS_LG_DEF c else Reg.EGS_LEG_DEF c

/-- DEF and FRESH of a child of a node (assumption 93). -/
def Dev.deficit (d : Dev) (node c : Nat) : Nat × Bool :=
  if 1088 ≤ node then tat (0, false) d.egs.leafDef c else (d.fld (defReg node c) 23 0, d.bit (defReg node c) 24)

/-- DEF and FRESH of a child replaced. -/
def Dev.setDeficit (d : Dev) (node c : Nat) (v : Nat × Bool) : Dev :=
  if 1088 ≤ node then { d with egs := { d.egs with leafDef := tset (0, false) d.egs.leafDef c v } }
  else d.setReg (defReg node c) (w32 (v.1 % 2 ^ 24 + v.2.toNat * 2 ^ 24))

/-- Ring of a node. -/
def Dev.ring (d : Dev) (node : Nat) : List Nat := tat [] d.egs.rings node

/-- Ring of a node replaced. -/
def Dev.setRing (d : Dev) (node : Nat) (l : List Nat) : Dev :=
  { d with egs := { d.egs with rings := tset [] d.egs.rings node l } }

/-- A copy of a node's ring state. -/
def Dev.drr (d : Dev) (node : Nat) : Drr := (d.ring node).map (fun c => (c, d.deficit node c))

/-- A node takes a ring state (R296). -/
def Dev.setDrr (d : Dev) (node : Nat) (s : Drr) : Dev :=
  (d.setRing node (s.map (fun e => e.1))).forEach s (fun d e => d.setDeficit node e.1 e.2)

/-- A child joins the tail of a node's ring, unless it is in it. -/
def Dev.joinRing (d : Dev) (node c : Nat) : Dev :=
  if c ∈ d.ring node then d else (d.setRing node (d.ring node ++ [c])).setDeficit node c (0, false)

/-- A child leaves a node's ring with DEF 0 and FRESH 0. -/
def Dev.leaveRing (d : Dev) (node c : Nat) : Dev :=
  if c ∈ d.ring node then (d.setRing node ((d.ring node).filter (fun x => x != c))).setDeficit node c (0, false) else d

/-- The nodes above a leaf that now holds a frame take it in (R296). -/
def Dev.joinPath (d : Dev) (q : Nat) : Dev :=
  let l := q / 2
  ((d.joinRing (pairKey l) q).joinRing (groupKey (d.legGroup l)) l).joinRing (d.legNode l) (d.legGroup l)

/-- Nodes above a leaf below which no frame waits leave their rings. -/
def Dev.sweepPath (d : Dev) (q : Nat) : Dev :=
  let l := q / 2
  let g := d.legGroup l
  let d := if d.leaf q = [] then d.leaveRing (pairKey l) q else d
  let d := if d.ring (pairKey l) = [] then d.leaveRing (groupKey g) l else d
  if d.ring (groupKey g) = [] then d.leaveRing (d.legNode l) g else d

/-! ### Dropping -/

/-- A packet with a transport-wide number writes its send-log entry (R285): its length and its egress time, all ones
when it was dropped. -/
def Dev.sendLog (d : Dev) (f : QFrame) (egress : Option Nat) : Dev :=
  match f.leg, f.twcc with
  | some l, some n =>
    let h := d.hdr l
    let wr := rf h 20 2
    let a := d.reg64 Reg.FWD_TWLOG_ADDR_LO Reg.FWD_TWLOG_ADDR_HI + 8192 * l + 8 * (wr % 1024)
    let e := leBytes 2 n ++ leBytes 2 (f.len % 2 ^ 14 + if egress.isNone then 2 ^ 15 else 0) ++ leBytes 4 (egress.getD 0xFFFFFFFF)
    (d.dramPut 10 (d.legDomain l) a e).setHdr l (rset h 20 2 (wr + 1))
  | _, _ => d

/-- The descriptor that waits for a frame ends (R350). -/
def Dev.frameDone (d : Dev) (f : QFrame) (status value : Nat) (ts : List Byte) : Dev :=
  match f.ring with
  | some k => d.complete k f.tag status value ts f.notify
  | none => d

/-- A frame is dropped by EGS (R292): its chain is released, it is counted at `c` and in its stream's DROPS. -/
def Dev.egsDrop (d : Dev) (f : QFrame) (c : Nat) : Dev :=
  let d := ((d.release 49 4 f.chain (f.chain / 2 ^ 22)).1).count c
  let d := match f.stream with
    | some k => d.outCount k 40
    | none => d
  (d.sendLog f none).frameDone f 3 0 noTs

/-- Egress port of a frame for a leg, or the port of a control frame. -/
def Dev.framePort (d : Dev) (f : QFrame) (port : Nat) : Nat :=
  match f.leg with
  | some l => d.legPort l
  | none => port

/-- Limit of a leaf in buffers; 0 is no limit (R292). -/
def Dev.leafLimit (d : Dev) (q : Nat) : Nat :=
  if q % 2 = 0 then d.fld (Reg.EGS_LEG_LIMIT (q / 2)) 15 0 else d.fld (Reg.EGS_LEG_LIMIT (q / 2)) 31 16

/-- A tail drop at a leaf: counted, EGS_TAIL once per row per leg. -/
def Dev.tailDrop (d : Dev) (f : QFrame) (p l : Nat) : Dev :=
  let d := d.egsDrop f (Reg.EGS_TAIL_DROP p)
  if l ∈ d.egs.tailMark then d
  else { d with egs := { d.egs with tailMark := addMark d.egs.tailMark l } }.raise Ev.EGS_TAIL l (d.legDomain l)

/-- A frame whose chain agent 49 holds reaches its queue, or is dropped (R291, R292). -/
def Dev.enqueue (d : Dev) (f : QFrame) (port : Nat) : Dev :=
  let p := d.framePort f port
  if d.maxFrame p < f.len then d.egsDrop f (Reg.EGS_OVERSIZE p)
  else match f.leg, f.leaf with
    | some l, some q =>
      if d.leafLimit q ≠ 0 ∧ d.leafLimit q < qBuffers (d.leaf q) + f.nbuf then d.tailDrop f p l
      else if d.legReceives l = false ∨ p ∈ d.egs.flushed then d.egsDrop f (Reg.EGS_FLUSHED p)
      else (d.setLeaf q (d.leaf q ++ [f])).joinPath q
    | _, _ =>
      if 256 ≤ (d.cq p).length then d.egsDrop f (Reg.EGS_TAIL_DROP p)
      else if p ∈ d.egs.flushed then d.egsDrop f (Reg.EGS_FLUSHED p)
      else d.setCq p (d.cq p ++ [f])

/-- Every frame of a leaf is flushed (R293, R294). -/
def Dev.flushLeaf (d : Dev) (q : Nat) : Dev :=
  let l := d.leaf q
  ((d.setLeaf q []).forEach l (fun d f => d.egsDrop f (Reg.EGS_FLUSHED (d.legPort (q / 2))))).sweepPath q

/-- Both leaves of a leg are flushed (R293). -/
def Dev.flushLeg (d : Dev) (l : Nat) : Dev := (d.flushLeaf (2 * l)).flushLeaf (2 * l + 1)

/-! ### Shapers (R297 to R299), by the address of their CFG -/

/-- SH_EN of a shaper. -/
def Dev.shEn (d : Dev) (a : Nat) : Bool := d.bit a 31
/-- OVERHEAD of a shaper. -/
def Dev.shOver (d : Dev) (a : Nat) : Int := sInt 8 (d.fld a 23 16)
/-- RATE of a shaper. -/
def Dev.shRate (d : Dev) (a : Nat) : Nat := (d.reg (a + 4)).toNat
/-- HI of a shaper. -/
def Dev.shHi (d : Dev) (a : Nat) : Nat := d.fld (a + 8) 23 0
/-- CREDIT of a shaper (assumption 94). -/
def Dev.credit (d : Dev) (a : Nat) : Int := tat 0 d.egs.credit a
/-- CREDIT of a shaper replaced. -/
def Dev.setCredit (d : Dev) (a : Nat) (v : Int) : Dev := { d with egs := { d.egs with credit := tset 0 d.egs.credit a v } }

/-- shaper_ok (R295) (assumption 94). -/
def Dev.shaperOk (d : Dev) (a : Nat) : Bool := !d.shEn a || (d.shRate a != 0 && decide (0 ≤ d.credit a))

/-- A frame starts through a shaper of port `p` (R297). -/
def Dev.charge1 (d : Dev) (p len a : Nat) : Dev :=
  if d.shEn a then
    let o := d.shOver a
    d.setCredit a (max (d.credit a - ((len : Int) + o) * 65536) (-((d.maxFrame p : Int) + o) * 65536))
  else d

/-- The shapers of a leg's path: leg, group, class. -/
def Dev.shapersOf (d : Dev) (l : Nat) : List Nat :=
  [Reg.EGS_LEG_CFG l, Reg.EGS_LG_CFG (d.legGroup l), Reg.EGS_PC_CFG (d.legNode l)]

/-- charge() of R295. -/
def Dev.chargePath (d : Dev) (l len : Nat) : Dev := d.forEach (d.shapersOf l) (fun d a => d.charge1 (d.legPort l) len a)

/-- Whether an address is a shaper's CFG (Table 17-5). -/
def isShaper (a : Nat) : Bool :=
  a % 0x40 == 0 && (decide (0x1020000 ≤ a ∧ a < 0x1021000) || decide (0x1030000 ≤ a ∧ a < 0x1040000) ||
    decide (0x1100000 ≤ a ∧ a < 0x1180000))

/-- Shapers that are enabled. -/
def Dev.shapers (d : Dev) : List Nat := ((d.regs.map (fun e => e.1)).filter isShaper).filter d.shEn

/-- An update tick of one shaper (R297): a frozen shaper keeps its credit (assumption 94). -/
def Dev.shaperTick1 (d : Dev) (a : Nat) : Dev :=
  if d.shRate a = 0 then d else d.setCredit a (min (d.credit a + d.shRate a) (d.shHi a * 65536))

/-- An update tick of every enabled shaper. -/
def Dev.shaperTick (d : Dev) : Dev := d.forEach d.shapers Dev.shaperTick1

/-- After a swap a disabled shaper holds CREDIT 0 (R299). -/
def Dev.shaperSwap (d : Dev) : Dev :=
  { d with egs := { d.egs with credit := (d.egs.credit.filter (fun e => d.shEn e.1) : List (Nat × Int)) } }

/-- Port whose dequeue decision takes an LV write of a shaper (R298). -/
def Dev.shaperPort (d : Dev) (a : Nat) : Option Nat :=
  if 0x1020000 ≤ a ∧ a < 0x1021000 then some ((a - 0x1020000) / 0x40 / 8)
  else if 0x1030000 ≤ a ∧ a < 0x1040000 then some (d.classNode ((a - 0x1030000) / 0x40) / 8)
  else if 0x1100000 ≤ a ∧ a < 0x1180000 then some (d.legPort ((a - 0x1100000) / 0x40))
  else none

/-! ### Deficit round robin (R296) -/

/-- qeff of a child of a node: at least MAX_FRAME of its port. -/
def Dev.qeff (d : Dev) (p node c : Nat) : Nat :=
  let q := if node < 64 then d.fld (Reg.EGS_LG_CFG c) 15 8
    else if node < 1088 then d.fld (Reg.EGS_LEG_CFG c) 15 8
    else if c % 2 = 0 then d.fld (Reg.EGS_LEG_LEAF (c / 2)) 7 0 else d.fld (Reg.EGS_LEG_LEAF (c / 2)) 15 8
  max (max q 1) ((d.maxFrame p + 63) / 64)

/-- drr_pick: `next c` is the length of the frame that would be chosen below a child, none when it is not eligible. One
pass returns to the head whose turn has ended, so that it finds a child whenever one is eligible (assumption 93). -/
def drrPick (next : Nat → Option Nat) (quantum : Nat → Nat) : Nat → Drr → Option (Nat × Drr)
  | 0, _ => none
  | _ + 1, [] => none
  | k + 1, (c, df, fresh) :: t =>
    match next c with
    | none => drrPick next quantum k (t ++ [(c, df, false)])
    | some len =>
      let df := if fresh then df else df + 64 * quantum c
      if len ≤ df then some (c, (c, df, true) :: t) else drrPick next quantum k (t ++ [(c, df, false)])

/-- Head of a leaf. -/
def Dev.head (d : Dev) (q : Nat) : Option QFrame := (d.leaf q).head?

/-- The pick of a node over the frames `next` offers. -/
def Dev.pickNode (d : Dev) (p node : Nat) (next : Nat → Option Nat) : Option (Nat × Drr) :=
  drrPick next (d.qeff p node) ((d.ring node).length + 1) (d.drr node)

/-- The pick of a leg pair: its leaf. -/
def Dev.pickPair (d : Dev) (p l : Nat) : Option (Nat × Drr) :=
  d.pickNode p (pairKey l) (fun q => (d.head q).map (fun f => f.len))

/-- The frame below an eligible leg pair. -/
def Dev.pairNext (d : Dev) (p l : Nat) : Option Nat :=
  if d.shaperOk (Reg.EGS_LEG_CFG l) then ((d.pickPair p l).bind (fun x => d.head x.1)).map (fun f => f.len) else none

/-- The pick of a leg group: its leg. -/
def Dev.pickGroup (d : Dev) (p g : Nat) : Option (Nat × Drr) := d.pickNode p (groupKey g) (d.pairNext p)

/-- The frame below an eligible leg group. -/
def Dev.groupNext (d : Dev) (p g : Nat) : Option Nat :=
  if d.shaperOk (Reg.EGS_LG_CFG g) then (d.pickGroup p g).bind (fun x => d.pairNext p x.1) else none

/-- pick() of a class node: the leaf, with the ring states to commit by node (assumption 93). -/
def Dev.pick (d : Dev) (p n : Nat) : Option (Nat × List (Nat × Nat × Drr)) :=
  match d.pickNode p n (d.groupNext p) with
  | none => none
  | some (g, sn) =>
    match d.pickGroup p g with
    | none => none
    | some (l, sg) =>
      match d.pickPair p l with
      | none => none
      | some (q, sl) => some (q, [(n, g, sn), (groupKey g, l, sg), (pairKey l, q, sl)])

/-- commit() of R295 for a frame of `len` bytes at the head of leaf `q`. -/
def Dev.commit (d : Dev) (q len : Nat) (path : List (Nat × Nat × Drr)) : Dev :=
  let d := d.forEach path (fun d x =>
    let d := d.setDrr x.1 x.2.2
    let v := d.deficit x.1 x.2.1
    d.setDeficit x.1 x.2.1 (v.1 - len, v.2))
  (d.setLeaf q (d.leaf q).tail).sweepPath q

/-! ### Time gates (R300 to R303), in units of 2^-16 / 25 ns -/

/-- Units of a time of a port's time base. -/
def gateUnits (time : Nat) : Nat := time / 2 ^ 24 * 25

/-- One nanosecond. -/
abbrev gateNs : Nat := 65536 * 25

/-- Wire time of one byte: 0.08, 0.16 or 0.32 ns. -/
def Dev.byteTime (d : Dev) : Nat := 131072 * 2 ^ min (d.fld Reg.NET_LANE_MODE 1 0) 2

/-- Gating is on at a port. -/
def Dev.gated (d : Dev) (p : Nat) : Bool := d.bit (Reg.EGS_GATE_STAT p) 30

/-- Oper cycle of a port. -/
def Dev.gateCycle (d : Dev) (p : Nat) : Nat := d.fld (Reg.EGS_GATE_OPER_CYCLE p) 29 0 * gateNs

/-- Oper base of a port. -/
def Dev.gateBase (d : Dev) (p : Nat) : Nat :=
  (d.reg64 (Reg.EGS_GATE_OPER_BASE_SEC_LO p) (Reg.EGS_GATE_OPER_BASE_SEC_HI p) * 10 ^ 9 +
    d.fld (Reg.EGS_GATE_OPER_BASE_NS p) 29 0) * gateNs

/-- Stretches (start, end, gates) of a cycle from entries (interval, gates): the last entry holds to the cycle's end, the
cycle's end cuts the list short (R300). -/
def gateSpans (cycle : Nat) : Nat → List (Nat × Nat) → List (Nat × Nat × Nat)
  | _, [] => []
  | s, [(_, g)] => if s < cycle then [(s, cycle, g)] else []
  | s, (t, g) :: rest =>
    if s < cycle then (s, min (s + t) cycle, g) :: gateSpans cycle (s + t) rest else []

/-- Entries of a port's oper list. -/
def Dev.gateList (d : Dev) (p : Nat) : List (Nat × Nat) :=
  (List.range (d.fld (Reg.EGS_GATE_STAT p) 24 16)).map (fun i =>
    (d.fld (Reg.EGS_GCL_OPER_T p i) 29 0 * gateNs, d.fld (Reg.EGS_GCL_OPER_G p i) 7 0))

/-- Stretches of a port's oper cycle. -/
def Dev.spans (d : Dev) (p : Nat) : List (Nat × Nat × Nat) :=
  (gateSpans (d.gateCycle p) 0 (d.gateList p)).filter (fun s => decide (s.1 < s.2.1))

/-- Offset of an instant in its port's oper cycle (assumption 95). -/
def Dev.gatePhase (d : Dev) (p t : Nat) : Nat := (t - d.gateBase p) % d.gateCycle p

/-- Gate states of a port at an instant; every gate is open while the list is disabled. -/
def Dev.gatesAt (d : Dev) (p t : Nat) : Nat :=
  if d.gated p = false then 0xFF
  else
    let a := d.gatePhase p t
    (((d.spans p).find? (fun s => decide (s.1 ≤ a ∧ a < s.2.1))).map (fun s => s.2.2)).getD 0xFF

/-- Gate `c` is open at every instant from `a` to `a + w` of the cycle (assumption 95). -/
def openFor (spans : List (Nat × Nat × Nat)) (cycle c a w : Nat) : Bool :=
  spans.all (fun s => s.2.2.testBit c ||
    (List.range ((a + w) / max cycle 1 + 1)).all (fun k => decide (a + w < s.1 + k * cycle ∨ s.2.1 + k * cycle ≤ a)))

/-- Wire time of a frame with a class's OVERHEAD (R302). -/
def Dev.wireTime (d : Dev) (p c len : Nat) : Nat :=
  ((len : Int) + d.shOver (Reg.EGS_PC_CFG (8 * p + c))).toNat * d.byteTime

/-- Instant at the MDI of an instant at the MAC/PCS boundary (R300). -/
def Dev.atMdi (d : Dev) (p t : Nat) : Nat := t + (d.reg (Reg.TIM_PORT_OUT_LAT p)).toNat * 25

/-- fits(); revision A1 takes every instant's gates from the list in force at `t` (KB-3). -/
def Dev.fits (d : Dev) (p c len t : Nat) : Bool :=
  !d.gated p || openFor (d.spans p) (d.gateCycle p) c (d.gatePhase p (d.atMdi p t)) (d.wireTime p c len)

/-- Longest run of open stretches, with the run so far (R303). -/
def longestRun (c : Nat) : Nat → Nat → List (Nat × Nat × Nat) → Nat
  | run, best, [] => max run best
  | run, best, s :: t =>
    if s.2.2.testBit c then longestRun c (run + (s.2.1 - s.1)) best t else longestRun c 0 (max run best) t

/-- LONGEST[c] of a port: a stretch that crosses the cycle's end counts as one. -/
def Dev.longest (d : Dev) (p c : Nat) : Nat := min (d.gateCycle p) (longestRun c 0 0 (d.spans p ++ d.spans p))

/-- A failed check of a frame (R303): its W, and whether it is dropped (assumption 95). -/
def Dev.gateCheck (d : Dev) (p c : Nat) (f : QFrame) (t : Nat) : QFrame × Bool :=
  let w := f.w.getD t
  ({ f with w := some w }, decide (d.longest p c < d.wireTime p c f.len) && decide (d.gateCycle p ≤ t - w))

/-- A frame that never fits is dropped: GATE_OVERSIZE once per row per port. -/
def Dev.gateDrop (d : Dev) (p : Nat) (f : QFrame) : Dev :=
  let d := d.egsDrop f (Reg.EGS_GATE_DROP p)
  if p ∈ d.egs.gateMark then d
  else { d with egs := { d.egs with gateMark := addMark d.egs.gateMark p } }.raise Ev.GATE_OVERSIZE p

/-- EGS_GATE_WAITS counts a frame once. -/
def Dev.gateFirst (d : Dev) (p : Nat) (f : QFrame) : Dev := if f.w.isNone then d.count (Reg.EGS_GATE_WAITS p) else d

/-- gate_wait() of the frame at the head of a leaf. -/
def Dev.gateWait (d : Dev) (p c q : Nat) (f : QFrame) (t : Nat) : Dev :=
  let d := d.gateFirst p f
  let x := d.gateCheck p c f t
  if x.2 then ((d.setLeaf q (d.leaf q).tail).sweepPath q).gateDrop p f
  else d.setLeaf q (x.1 :: (d.leaf q).tail)

/-- gate_wait_cq(). -/
def Dev.gateWaitCq (d : Dev) (p c : Nat) (f : QFrame) (t : Nat) : Dev :=
  let d := d.gateFirst p f
  let x := d.gateCheck p c f t
  if x.2 then (d.setCq p (d.cq p).tail).gateDrop p f else d.setCq p (x.1 :: (d.cq p).tail)

/-! ### The dequeue decision (R295) -/

/-- Class `c` of a port is paused by its partner (R72). -/
def Dev.classPaused (d : Dev) (p c : Nat) : Bool := d.bit (Reg.NET_PFC_STAT p) (8 + c)

/-- The loop of decide() over the classes below `n`, highest first. -/
def Dev.decideClass (d : Dev) (p t : Nat) : Nat → Option QFrame × Dev
  | 0 => (none, d)
  | c + 1 =>
    let n := 8 * p + c
    if d.classPaused p c || !d.shaperOk (Reg.EGS_PC_CFG n) then d.decideClass p t c
    else match d.pick p n with
      | none => d.decideClass p t c
      | some (q, path) =>
        match d.head q with
        | none => d.decideClass p t c
        | some f =>
          if d.fits p c f.len t = false then (d.gateWait p c q f t).decideClass p t c
          else (some { f with w := none }, (d.commit q f.len path).chargePath (q / 2) f.len)

/-- Class whose gate the control queue obeys (R291). -/
def Dev.ctrlClass (d : Dev) (p : Nat) : Nat := d.fld (Reg.EGS_PORT_CFG p) 2 0

/-- decide() of R295 for a port for an instant of its time base, in gate units. -/
def Dev.choose (d : Dev) (p t : Nat) : Option QFrame × Dev :=
  match d.cq p with
  | f :: rest =>
    if d.fits p (d.ctrlClass p) f.len t then (some { f with w := none }, d.setCq p rest)
    else (d.gateWaitCq p (d.ctrlClass p) f t).decideClass p t 8
  | [] => d.decideClass p t 8

/-- A frame's first byte leaves, `lead` ns from now (R285) (assumption 96). -/
def Dev.txStart (d : Dev) (p lead : Nat) (f : QFrame) : Dev :=
  let tb := d.fld (Reg.TIM_PORT_CFG p) 10 8
  let start := (d.tb tb).time + lead * 2 ^ 40
  let d := { d with egs := { d.egs with tx := tset none d.egs.tx p (some ⟨f, start, false⟩) } }.setBit (Reg.EGS_PORT_STAT p) 24 true
  let egress := ((d.tb d.rowTb).time + lead * 2 ^ 40 + (d.reg (Reg.TIM_PORT_OUT_LAT p)).toNat * 2 ^ 24) / 2 ^ 40
  d.sendLog f (some (egress % 2 ^ 32))

/-- DEQUEUE_DECISION (R295): a frame waits and the transmitter is free; the first byte crosses in `lead` ns. -/
def dequeueDecisionEffect (p lead : Nat) (d : Dev) : Dev :=
  if d.portUp p = false ∨ (tat none d.egs.tx p).isSome then d
  else
    let d := d.lvTake (fun a => d.shaperPort a == some p)
    match d.choose p (gateUnits ((d.tb (d.fld (Reg.TIM_PORT_CFG p) 10 8)).time + lead * 2 ^ 40)) with
    | (none, d) => d
    | (some f, d) => d.txStart p lead f

/-- DEQUEUE_DECISION. -/
def execDequeueDecision (p : Fin 8) (lead : Fin 16) (s : State) : Host.Outcome State Fault Refusal :=
  s.run (dequeueDecisionEffect p lead)

/-! ### The end of a frame -/

/-- Where a PTP event message starts in a frame and over what: 0 Ethernet, 1 UDP/IPv4, 2 UDP/IPv6 (R49). -/
def ptpAt (f : List Byte) : Option (Nat × Nat) :=
  let o := if beAt f 12 2 = 0x8100 then 18 else 14
  let ty := beAt f (o - 2) 2
  if ty = 0x88F7 then some (0, o)
  else if ty = 0x0800 ∧ byteAt f (o + 9) = 17 ∧ beAt f (o + 4 * (byteAt f o % 16) + 2) 2 = 319 then
    some (1, o + 4 * (byteAt f o % 16) + 8)
  else if ty = 0x86DD ∧ byteAt f (o + 6) = 17 ∧ beAt f (o + 42) 2 = 319 then some (2, o + 48)
  else none

/-- The messages that take a timestamp as they are sent (R50): Sync, and Pdelay_Resp in 802.1AS. -/
def oneStepMessage (f : List Byte) (kind off : Nat) : Bool :=
  let ty := byteAt f off % 16
  ty == 0 || (ty == 3 && kind == 0 && byteAt f off / 16 == 1)

/-- One-step insertion (R50): the frame sent and whether it went out unchanged for lack of its complement field (assumption 96). -/
def oneStep (f : List Byte) (time : Nat) : List Byte × Bool :=
  match ptpAt f with
  | none => (f, false)
  | some (kind, off) =>
    if oneStepMessage f kind off = false then (f, false)
    else
      let ns := time / 2 ^ 40
      let v := beBytes 6 (ns / 10 ^ 9) ++ beBytes 4 (ns % 10 ^ 9)
      let g := patch f (off + 34) v
      let n := off + beAt f (off + 2) 2
      if kind = 0 then (g, false)
      else if kind = 1 then (patch g (off - 2) [0, 0], false)
      else if f.length < n + 2 then (f, true)
      else
        let x := onesAdd (onesAdd (beAt f n 2) (onesSum ((f.drop (off + 34)).take 10))) (0xFFFF - onesSum v)
        (patch g n (beBytes 2 x), false)

/-- A dropped stitch (R100): the frame on a port's wire ends with an inverted FCS after `n` bytes and is counted for the port,
for its leg and, since it is lost, in its stream's DROPS (R287). -/
def Dev.stitch (d : Dev) (p n : Nat) (t : TxFrame) : Dev :=
  let f : QFrame := { t.frame with len := n + 4 }
  let d : Dev := { d with egs := { d.egs with tx := tset none d.egs.tx p (some { t with frame := f, bad := true }) } }
  let d := d.count (Reg.CIP_STITCH p)
  let d := match f.leg with
    | some l => d.hdrCount l 32
    | none => d
  match f.stream with
    | some k => d.outCount k 40
    | none => d

/-- A cut-through replica whose frame ends before its verdict (R100): a stitch of all its bytes, LATE_VERDICT once per row
per port (assumption 96). -/
def Dev.lateEnd (d : Dev) (p : Nat) (t : TxFrame) : Dev :=
  let d := (d.stitch p (t.frame.len - 4) t).count (Reg.CIP_LATE_STITCH p)
  if p ∈ d.cip.lateMark then d
  else { d with cip := { d.cip with lateMark := addMark d.cip.lateMark p } }.raise Ev.LATE_VERDICT p

/-- The verdict of a packet is awaited. -/
def Dev.inFlight (d : Dev) (chain : Nat) : Bool := d.fwd.flight.any (fun x => x.chain == chain)

/-- LATE_VERDICT (R100): the FCS of a cut-through replica falls due before its verdict. -/
def lateVerdictEffect (p : Nat) (d : Dev) : Dev :=
  match tat none d.egs.tx p with
  | none => d
  | some t => if t.bad || !(t.frame.cutOf.any d.inFlight) then d else d.lateEnd p t

/-- LATE_VERDICT. -/
def execLateVerdict (p : Fin 8) (s : State) : Host.Outcome State Fault Refusal := s.run (lateVerdictEffect p)

/-- The frame on a port's wire ends: counts, the frame as it left, its timestamp and its completion record; its chain
is released (R51, R292) (assumption 96). -/
def Dev.txEnd (d : Dev) (p : Nat) (t : TxFrame) : Dev :=
  let f := t.frame
  let time := t.start + (d.reg (Reg.TIM_PORT_OUT_LAT p)).toNat * 2 ^ 24
  let bytes := d.chainData f.chain
  let x := if d.bit (Reg.TIM_PORT_CFG p) 1 then oneStep bytes time else (bytes, false)
  let d := if x.2 then d.count (Reg.TIM_PORT_ONESTEP_ERR p) else d
  let d := { d with
    egs := { d.egs with tx := tset none d.egs.tx p none }
    net := { d.net with sent := (p, if t.bad then x.1.take (f.len - 4) else x.1, t.bad) :: d.net.sent } }.setBit (Reg.EGS_PORT_STAT p) 24 false
  let d := (d.count64 (Reg.NET_TX_FRAMES_LO p)).count64 (Reg.NET_TX_BYTES_LO p) f.len
  let d := if f.tsReq then d.stampPush p ⟨f.tag, time⟩ else d
  let d := d.frameDone f 0 f.len (if f.tsReq then tsBytes time else noTs)
  (d.release 49 4 f.chain (f.chain / 2 ^ 22)).1

/-- FRAME_TX_END (R292). -/
def frameTxEndEffect (p : Nat) (d : Dev) : Dev :=
  let d := lateVerdictEffect p d
  match tat none d.egs.tx p with
  | none => d
  | some t => d.txEnd p t

/-- FRAME_TX_END. -/
def execFrameTxEnd (p : Fin 8) (s : State) : Host.Outcome State Fault Refusal := s.run (frameTxEndEffect p)

/-! ### Gate list changes (R301) -/

/-- A time of the admin or oper BASE registers, in ns. -/
def Dev.adminBase (d : Dev) (p : Nat) : Nat :=
  d.reg64 (Reg.EGS_GATE_ADMIN_BASE_SEC_LO p) (Reg.EGS_GATE_ADMIN_BASE_SEC_HI p) * 10 ^ 9 +
    d.fld (Reg.EGS_GATE_ADMIN_BASE_NS p) 29 0

/-- First instant BASE + k × CYCLE at or after `lo` (all in ns, `lo` rounded up) (assumption 95). -/
def firstCycle (base cycle lo : Nat) : Nat :=
  let c := max cycle 1
  if lo ≤ base then base else base + (lo - base + c - 1) / c * c

/-- A change is scheduled at a port. -/
def Dev.gatePending (d : Dev) (p : Nat) : Bool := d.bit (Reg.EGS_GATE_STAT p) 31

/-- CHANGE is written (R301): t_c lies at least 2 µs ahead (assumption 95). -/
def Dev.gateChange (d : Dev) (p : Nat) (v : Word) : Dev :=
  if wbit v 0 = false then d
  else if d.gatePending p then d.raise Ev.GATE_PENDING p
  else
    let lo := ((d.tb (d.fld (Reg.TIM_PORT_CFG p) 10 8)).time + 2 ^ 40 - 1) / 2 ^ 40 + 2000
    let tc := firstCycle (d.adminBase p) (d.fld (Reg.EGS_GATE_ADMIN_CYCLE p) 29 0) lo
    { d with egs := { d.egs with change := tset 0 d.egs.change p tc } }.setBit (Reg.EGS_GATE_STAT p) 31 true

/-- Offset of an address within EGS's region. -/
def egsOffset (a : Nat) : Nat := a - 0x1000000

/-- A register access of EGS by the domain that owns the register, EGS_DOMAIN for another (R374, Table 17-4). -/
def Dev.egsBy (d : Dev) (q : Requester) (addr : Nat) (ok : Access → Bool) (f : Access → Dev → Dev) : Dev :=
  d.by q (fun a d =>
    if d.regionOff 16 then d
    else if a.dom == 0 || ok a then f a d
    else d.raise Ev.EGS_DOMAIN a.dom a.dom (leBytes 4 (egsOffset addr)))

/-- GATE_CHANGE (R301), SD0 only. -/
def gateChangeEffect (q : Requester) (p : Nat) (v : Word) (d : Dev) : Dev :=
  d.egsBy q (Reg.EGS_GATE_CTL p) (fun _ => false) (fun _ d => d.gateChange p v)

/-- GATE_CHANGE. -/
def execGateChange (q : Requester) (p : Fin 8) (v : Word) (s : State) : Host.Outcome State Fault Refusal :=
  s.run (gateChangeEffect q p v)

/-- Words copied from one register array to another. -/
def Dev.copyWords (d : Dev) (src dst n : Nat) : Dev :=
  d.forEach (List.range n) (fun d i => d.setReg (dst + 4 * i) (d.reg (src + 4 * i)))

/-- The admin list becomes the oper list (R301). -/
def Dev.gateChanged (d : Dev) (p : Nat) : Dev :=
  let c := d.reg (Reg.EGS_GATE_ADMIN_CFG p)
  let d := d.copyWords (Reg.EGS_GCL_ADMIN_T p 0) (Reg.EGS_GCL_OPER_T p 0) 512
  let d := d.setReg (Reg.EGS_GATE_OPER_CYCLE p) (d.reg (Reg.EGS_GATE_ADMIN_CYCLE p))
  let d := d.copyWords (Reg.EGS_GATE_ADMIN_BASE_NS p) (Reg.EGS_GATE_OPER_BASE_NS p) 3
  let d := d.setReg (Reg.EGS_GATE_STAT p) (w32 (wfld c 31 31 * 2 ^ 30 + wfld c 8 0 * 2 ^ 16))
  { d with egs := { d.egs with change := tset 0 d.egs.change p 0 } }.raise Ev.GATE_CHANGED p

/-- GATE_CHANGED (R301): the port's time base has reached t_c. -/
def gateChangedEffect (p : Nat) (d : Dev) : Dev :=
  if d.gatePending p then
    (d.advance (d.clocksTo (d.fld (Reg.TIM_PORT_CFG p) 10 8) (tat 0 d.egs.change p * 2 ^ 40))).gateChanged p
  else d

/-- GATE_CHANGED. -/
def execGateChanged (p : Fin 8) (s : State) : Host.Outcome State Fault Refusal := s.run (gateChangedEffect p)

/-- Every leaf under a port and its control queue are flushed. -/
def Dev.flushPort (d : Dev) (p : Nat) : Dev :=
  let qs := (d.egs.leaves.map (fun e => e.1)).filter (fun q => d.legPort (q / 2) == p)
  let d := d.forEach qs Dev.flushLeaf
  let l := d.cq p
  (d.setCq p []).forEach l (fun d f => d.egsDrop f (Reg.EGS_FLUSHED p))

/-- EGS_FLUSH (R294): the port has been out of UP for DOWN_FLUSH_MS; with 0 it is never flushed. -/
def egsFlushEffect (p : Nat) (d : Dev) : Dev :=
  if d.portUp p ∨ p ∈ d.egs.flushed ∨ d.fld (Reg.EGS_PORT_CFG p) 27 16 = 0 then d
  else ({ d.flushPort p with egs := { (d.flushPort p).egs with flushed := addMark d.egs.flushed p } }).raise Ev.EGS_FLUSH p

/-- EGS_FLUSH. -/
def execEgsFlush (p : Fin 8) (s : State) : Host.Outcome State Fault Refusal := s.run (egsFlushEffect p)

/-! ### What EGS's status registers show -/

/-- Class `c` of a port is eligible. -/
def Dev.classEligible (d : Dev) (p c : Nat) : Bool :=
  d.shaperOk (Reg.EGS_PC_CFG (8 * p + c)) && (d.pick p (8 * p + c)).isSome

/-- Class `c` of a port holds a frame with W set: W stands only at the head of a leaf. -/
def Dev.classWaiting (d : Dev) (p c : Nat) : Bool :=
  d.egs.leaves.any (fun e => d.legNode (e.1 / 2) == 8 * p + c && e.2.any (fun f => f.w.isSome))

/-- A mask of the classes for which a condition holds. -/
def classMask (f : Nat → Bool) : Nat := ((List.range 8).map (fun c => if f c then 2 ^ c else 0)).sum

/-- Now in gate units at the MDI of a port. -/
def Dev.gateNow (d : Dev) (p : Nat) : Nat := d.atMdi p (gateUnits (d.tb (d.fld (Reg.TIM_PORT_CFG p) 10 8)).time)

/-- EGS_PORT_STAT as it reads. -/
def Dev.portStatWord (d : Dev) (p : Nat) : Word :=
  w32 (d.fld (Reg.EGS_PORT_STAT p) 24 24 * 2 ^ 24 + classMask (d.classWaiting p) * 2 ^ 16 +
    classMask (d.classEligible p) * 2 ^ 8 + d.gatesAt p (d.gateNow p))

/-- Entry of the oper list in force. -/
def Dev.gateEntry (d : Dev) (p : Nat) : Nat :=
  if d.gated p = false then 0
  else
    let a := d.gatePhase p (d.gateNow p)
    ((gateSpans (d.gateCycle p) 0 (d.gateList p)).findIdx? (fun s => decide (s.1 ≤ a ∧ a < s.2.1))).getD 0

/-- EGS_GATE_STAT as it reads. -/
def Dev.gateStatWord (d : Dev) (p : Nat) : Word := wset (d.reg (Reg.EGS_GATE_STAT p)) 7 0 (d.gateEntry p)

/-- CREDIT as a 48-bit number. -/
def Dev.creditNat (d : Dev) (a : Nat) : Nat := uNat 48 (d.credit a)

/-! ### Cut-through admission (R304) -/

/-- EGS admits a cut-through replica of `len` bytes toward a leg now; one too long for the port waits to be dropped at enqueue
(R292, DEDUCED). -/
def Dev.admits (d : Dev) (l len : Nat) : Bool :=
  let p := d.legPort l
  let c := d.legNode l % 8
  decide (len ≤ d.maxFrame p) && (d.leaf (2 * l)).isEmpty && (d.shapersOf l).all d.shaperOk && d.portUp p && (tat none d.egs.tx p).isNone &&
  !d.classPaused p c && d.fits p c len (gateUnits (d.tb (d.fld (Reg.TIM_PORT_CFG p) 10 8)).time)

/-- An admitted replica starts: charged to its shapers and to no deficit (assumption 50). -/
def Dev.cutStart (d : Dev) (l : Nat) (f : QFrame) : Dev := (d.chargePath l f.len).txStart (d.legPort l) 0 f

end Sys2Proof.Machine
end

