-- ==== Sys2Proof/Machine/Tables.lean ====
section
/-! DEFINITION. Shadowed tables (R30, R31): records held as numbers with an active and a shadow bank, and the four
operations their windows share: READ_ACTIVE, READ_SHADOW, WRITE_CFG and WRITE_LIVE. -/

namespace Sys2Proof.Machine

/-- Bits `[hi:lo]`, counted from byte `off` of a record, as a mask. -/
def bitsAt (off hi lo : Nat) : Nat := (2 ^ (hi + 1 - lo) - 1) * 2 ^ lo * 256 ^ off

/-- `n` bytes from byte `off` of a record, as a mask. -/
def bytesAt (off n : Nat) : Nat := (256 ^ n - 1) * 256 ^ off

/-- What a class of bytes of a record takes from another: `area` is the bytes of the class, `bits` those of their bits
that are not reserved. -/
structure RecMask where
  area : Nat
  bits : Nat
  deriving DecidableEq, Repr

/-- A staged record sets a reserved bit of a class. -/
def RecMask.bad (m : RecMask) (new : Nat) : Bool := new &&& m.area != new &&& m.bits

/-- A record with a class of its bytes taken from another. -/
def RecMask.take (m : RecMask) (old new : Nat) : Nat := mix m.bits old new

/-- A record as READ_SHADOW gives it: the shadow's SH bytes over the active record's others. -/
def RecMask.view (m : RecMask) (active shadow : Nat) : Nat := mix m.area active shadow

/-- A table's active bank takes the SH bytes of its shadow bank (R31): every key listed in either. -/
def tableSwap (dflt : Nat) (m : RecMask) (active shadow : Tbl Nat) : Tbl Nat :=
  (shadow.map (fun e => e.1) ++ active.map (fun e => e.1)).foldl
    (fun t k => tset dflt t k (mix m.area (tat dflt active k) (tat dflt shadow k))) active

end Sys2Proof.Machine
end

