-- ==== Sys2Proof/Machine/Legs.lean ====
section
/-! DEFINITION. The window commands of the leg records (R287 to R289) and what a network swap does to the legs. -/

namespace Sys2Proof.Machine

/-- SH bytes of a leg header (Table 16-4). -/
def hdrCfg : RecMask := ⟨bytesAt 0 8, bitsAt 0 4 0 + bytesAt 1 1⟩

/-- LV bytes of a leg header. -/
def hdrLive : RecMask := ⟨bytesAt 8 8, bytesAt 8 4 + bitsAt 12 3 0 + bitsAt 13 3 0⟩

/-- SH bytes of an outbound stream record (Table 16-5). -/
def outCfg : RecMask := ⟨bytesAt 0 12, bytesAt 0 7 + bitsAt 7 5 0 + bitsAt 8 4 0 + bitsAt 9 4 0 + bytesAt 10 2⟩

/-- LV bytes of an outbound stream record. -/
def outLive : RecMask :=
  ⟨bytesAt 12 4 + bytesAt 20 2 + bytesAt 24 4, bitsAt 12 19 0 + bitsAt 15 3 0 + bytesAt 20 2 + bytesAt 24 4⟩

/-- LEG of a command word. -/
def cmdLeg (v : Word) : Nat := wfld v 12 0

/-- Key of the outbound record a command word names. -/
def cmdOut (v : Word) : Nat := outKey (wfld v 12 0) (wfld v 17 13)

/-- A LEG command of window `w`: DOMAIN (1) outside its legs; the answer of `f` is the result. -/
def Dev.legWindow (d : Dev) (q : Requester) (w : Nat) (v : Word) (f : Dev → Dev × Nat) : Dev :=
  d.window q 35 w none (fun _ d =>
    if d.mayLeg w (cmdLeg v) = false then d.setReg (Reg.LEG_CMD_STAT w) 1
    else
      let r := f d
      r.1.setReg (Reg.LEG_CMD_STAT w) (w32 r.2))

/-- The record a command names is shown in the window. -/
def Dev.legShow (d : Dev) (w : Nat) (v : Word) (r : Nat) : Dev := d.setRegsNat (Reg.LEG_REC w 0) r (if wbit v 27 then 12 else 16)

/-- The record a command stages: 64 or 48 bytes. -/
def Dev.legStaged (d : Dev) (w : Nat) (v : Word) : Nat := d.regsNat (Reg.LEG_REC w 0) (if wbit v 27 then 12 else 16)

/-- The shadow of the record a command names. -/
def Dev.legShadow (d : Dev) (v : Word) : Nat :=
  if wbit v 27 then tat 0 d.leg.outSh (cmdOut v) else tat hdrReset d.leg.hdrSh (cmdLeg v)

/-- The active record a command names. -/
def Dev.legActive (d : Dev) (v : Word) : Nat := if wbit v 27 then d.outRec (cmdOut v) else d.hdr (cmdLeg v)

/-- LEG_READ_ACTIVE. -/
def legReadActiveEffect (q : Requester) (w : Nat) (v : Word) (d : Dev) : Dev :=
  d.legWindow q w v (fun d => (d.legShow w v (d.legActive v), 0))

/-- LEG_READ_ACTIVE (R287). -/
def execLegReadActive (q : Requester) (w : Fin 16) (v : Word) (s : State) : Host.Outcome State Fault Refusal :=
  s.run (legReadActiveEffect q w v)

/-- LEG_READ_SHADOW. -/
def legReadShadowEffect (q : Requester) (w : Nat) (v : Word) (d : Dev) : Dev :=
  d.legWindow q w v (fun d =>
    (d.legShow w v ((if wbit v 27 then outCfg else hdrCfg).view (d.legActive v) (d.legShadow v)), 0))

/-- LEG_READ_SHADOW (R287). -/
def execLegReadShadow (q : Requester) (w : Fin 16) (v : Word) (s : State) : Host.Outcome State Fault Refusal :=
  s.run (legReadShadowEffect q w v)

/-- WRITE_CFG: result BAD (2) for a reserved bit, SEALED (3) under a seal (R34). -/
def Dev.legCfg (d : Dev) (w : Nat) (v : Word) : Dev × Nat :=
  let r := d.legStaged w v
  let m := if wbit v 27 then outCfg else hdrCfg
  if m.bad r then (d, 2)
  else if d.sealed 35 then (d.sealDrop 35 (blockOffset (Reg.LEG_CMD w)), 3)
  else
    let n := m.take (d.legShadow v) r
    (if wbit v 27 then { d with leg := { d.leg with outSh := tset 0 d.leg.outSh (cmdOut v) n } }
      else { d with leg := { d.leg with hdrSh := tset hdrReset d.leg.hdrSh (cmdLeg v) n } }, 0)

/-- LEG_WRITE_CFG. -/
def legWriteCfgEffect (q : Requester) (w : Nat) (v : Word) (d : Dev) : Dev := d.legWindow q w v (fun d => d.legCfg w v)

/-- LEG_WRITE_CFG (R287). -/
def execLegWriteCfg (q : Requester) (w : Fin 16) (v : Word) (s : State) : Host.Outcome State Fault Refusal :=
  s.run (legWriteCfgEffect q w v)

/-- The Q16.16 rate of a RATE in kb/s (R298). -/
def legRate (kbps : Nat) : Nat := (kbps * 2048 + 125) / 250

/-- WRITE_LIVE: BAD for a reserved bit or an OWNED stream (R287); RATE reaches EGS_LEG_RATE as an LV write (R286)
(assumption 90) (assumption 90). -/
def Dev.legLive (d : Dev) (w : Nat) (v : Word) : Dev × Nat :=
  let r := d.legStaged w v
  if wbit v 27 then
    if outLive.bad r || outOwned (d.outRec (cmdOut v)) then (d, 2)
    else (d.setOut (cmdOut v) (outLive.take (d.outRec (cmdOut v)) r), 0)
  else if hdrLive.bad r then (d, 2)
  else
    ((d.setHdr (cmdLeg v) (hdrLive.take (d.hdr (cmdLeg v)) r)).lvWrite (Reg.EGS_LEG_RATE (cmdLeg v)) (w32 (legRate (rf r 8 4))), 0)

/-- LEG_WRITE_LIVE. -/
def legWriteLiveEffect (q : Requester) (w : Nat) (v : Word) (d : Dev) : Dev := d.legWindow q w v (fun d => d.legLive w v)

/-- LEG_WRITE_LIVE (R286, R287). -/
def execLegWriteLive (q : Requester) (w : Fin 16) (v : Word) (s : State) : Host.Outcome State Fault Refusal :=
  s.run (legWriteLiveEffect q w v)

/-- SUSPEND (Table 16-8): both leaves are flushed (R293) (assumption 90). -/
def Dev.legSuspend (d : Dev) (l : Nat) : Dev := if d.legReceives l then (d.setLegState l 3).flushLeg l else d

/-- LEG_SUSPEND. -/
def legSuspendEffect (q : Requester) (w : Nat) (v : Word) (d : Dev) : Dev :=
  d.legWindow q w v (fun d => (d.legSuspend (cmdLeg v), 0))

/-- LEG_SUSPEND (R289). -/
def execLegSuspend (q : Requester) (w : Fin 16) (v : Word) (s : State) : Host.Outcome State Fault Refusal :=
  s.run (legSuspendEffect q w v)

/-- LEG_RESUME. -/
def legResumeEffect (q : Requester) (w : Nat) (v : Word) (d : Dev) : Dev :=
  d.legWindow q w v (fun d => (if d.legState (cmdLeg v) = 3 then d.setLegState (cmdLeg v) 1 else d, 0))

/-- LEG_RESUME (R289). -/
def execLegResume (q : Requester) (w : Fin 16) (v : Word) (s : State) : Host.Outcome State Fault Refusal :=
  s.run (legResumeEffect q w v)

/-! ### Network swap -/

/-- A leg enters OFF (R288, R293): its streams are owned no more and its leaves are flushed. -/
def Dev.legOff (d : Dev) (l : Nat) : Dev :=
  ((d.setLegState l 0).forEach (List.range 32) (fun d o => d.disown (outKey l o))).flushLeg l

/-- A leg after a network swap (Table 16-8): EN decides between OFF and ACTIVE (assumption 90). -/
def Dev.legSwap (d : Dev) (l : Nat) : Dev :=
  let en := rbits (d.hdr l) 0 0 0
  if d.legState l = 0 then (if en = 1 then d.setLegState l 1 else d) else if en = 0 then d.legOff l else d

/-- The network swap of the leg records (R287, R288, R289). -/
def Dev.legTables (d : Dev) : Dev :=
  let d : Dev := { d with leg := { d.leg with
    hdr := tableSwap hdrReset hdrCfg d.leg.hdr d.leg.hdrSh
    out := tableSwap 0 outCfg d.leg.out d.leg.outSh } }
  let d := d.forEach (d.leg.out.map (fun e => e.1)) (fun d k => if d.outOn k then d else d.disown k)
  d.forEach (d.leg.hdr.map (fun e => e.1)) Dev.legSwap

end Sys2Proof.Machine
end

