-- ==== Sys2Proof/Machine/Rtp.lean ====
section
/-! DEFINITION. RTP packets as the parser reads them (R75) and as replicas are written (R278): header extension blocks of
RFC 8285, layer attributes (R269 to R271). -/

namespace Sys2Proof.Machine

/-- An RTP packet of the media path: what of its header is copied or used, the extension elements that the source's
profile names, its payload with any padding, and its layer attributes. -/
structure Media where
  pad : Bool
  csrc : List Byte
  marker : Bool
  ts : Nat
  audio : Option (List Byte)
  dd : Option (List Byte)
  lidx : Option (List Byte)
  payload : List Byte
  kind : Nat
  s : Nat
  t : Nat
  start : Bool
  fin : Bool
  key : Bool
  upsw : Bool
  deriving DecidableEq, Repr

/-! ### Header extension blocks -/

/-- Elements (ID, end offset, data) of an extension block's bytes in the one-byte or two-byte form of RFC 8285. -/
def extElements (two : Bool) (off : Nat) : Nat → List Byte → List (Nat × Nat × List Byte)
  | 0, _ => []
  | _ + 1, [] => []
  | k + 1, b :: t =>
    if b = 0 then extElements two (off + 1) k t
    else if two then
      let n := byteAt t 0
      (b.toNat, off + 2 + n, (t.drop 1).take n) :: extElements two (off + 2 + n) k (t.drop (1 + n))
    else
      let id := b.toNat / 16
      let n := b.toNat % 16 + 1
      if id = 15 then []
      else (id, off + 1 + n, t.take n) :: extElements two (off + 1 + n) k (t.drop n)

/-- Bytes of fixed header and CSRC list of an RTP packet. -/
def rtpFixed (p : List Byte) : Nat := 12 + 4 * (byteAt p 0 % 16)

/-- The packet has a header extension. -/
def rtpX (p : List Byte) : Bool := byteAt p 0 / 16 % 2 == 1

/-- Length of an RTP header with its CSRC list and extension block. -/
def rtpHdrLen (p : List Byte) : Nat := rtpFixed p + if rtpX p then 4 + 4 * beAt p (rtpFixed p + 2) 2 else 0

/-- Elements of an RTP packet's extension block, in either form of R75. -/
def rtpElements (p : List Byte) : List (Nat × Nat × List Byte) :=
  let o := rtpFixed p
  let prof := beAt p o 2
  let block := (p.drop (o + 4)).take (4 * beAt p (o + 2) 2)
  if rtpX p = false then []
  else if prof = 0xBEDE then extElements false 0 block.length block
  else if prof / 16 = 0x100 then extElements true 0 block.length block
  else []

/-- Elements that are extracted: those within the first 64 bytes (R75). -/
def rtpExtracted (p : List Byte) : List (Nat × Nat × List Byte) := (rtpElements p).filter (fun e => decide (e.2.1 ≤ 64))


/-- IDs of a CLS_EXT_PROFILE entry: audio level, abs-send-time, transport-wide number, descriptor, layer index. -/
structure Profile where
  audio : Nat
  absSend : Nat
  twcc : Nat
  dd : Nat
  lidx : Nat
  deriving DecidableEq, Repr

/-- A CLS_EXT_PROFILE entry. -/
def Dev.profile (d : Dev) (i : Nat) : Profile :=
  let a := Reg.CLS_EXT_PROFILE_A i
  let b := Reg.CLS_EXT_PROFILE_B i
  ⟨d.fld a 7 0, d.fld a 15 8, d.fld a 23 16, d.fld b 7 0, d.fld b 15 8⟩

/-- An extension that the profile names lies beyond the searched bytes (R75, cause 13; DEDUCED: others are not looked for). -/
def Profile.unsearched (f : Profile) (p : List Byte) : Bool :=
  (rtpElements p).any (fun e => decide (64 < e.2.1) && e.1 != 0 && [f.audio, f.absSend, f.twcc, f.dd, f.lidx].contains e.1)

/-- The element with an ID; ID 0 names none. -/
def extFind (l : List (Nat × Nat × List Byte)) (id : Nat) : Option (List Byte) :=
  if id = 0 then none else (l.find? (fun e => e.1 == id)).map (fun e => e.2.2)

/-- Bytes that fill an extension block up to a multiple of 4. -/
def extPad (l : List Byte) : List Byte := l ++ List.replicate ((4 - l.length % 4) % 4) 0

/-- The extension block of elements (ID, data): the one-byte form when every element fits it (R278). -/
def extBlock (l : List (Nat × List Byte)) : List Byte :=
  if l = [] then []
  else
    let one := l.all (fun e => decide (e.1 ≤ 14 ∧ 1 ≤ e.2.length ∧ e.2.length ≤ 16))
    let body := extPad (l.flatMap (fun e =>
      if one then b8 (e.1 * 16 + (e.2.length - 1)) :: e.2 else b8 e.1 :: b8 e.2.length :: e.2))
    beBytes 2 (if one then 0xBEDE else 0x1000) ++ beBytes 2 (body.length / 4) ++ body

/-! ### Layer attributes (R269 to R271) -/

/-- Source state record (Table 16-1). -/
def Dev.src (d : Dev) (k : Nat) : Nat := tat 0 d.fwd.src k

/-- Source state replaced. -/
def Dev.setSrc (d : Dev) (k r : Nat) : Dev := { d with fwd := { d.fwd with src := tset 0 d.fwd.src k r } }

/-- Bit `i` of a byte string, most significant first. -/
def msb (l : List Byte) (i : Nat) : Nat := byteAt l (i / 8) / 2 ^ (7 - i % 8) % 2

/-- `n` bits of a byte string from bit `i` on, most significant first. -/
def msbs (l : List Byte) (i : Nat) : Nat → Nat
  | 0 => 0
  | n + 1 => msbs l i n * 2 + msb l (i + n)

/-- Layers (spatial, temporal) of a dependency structure's templates from bit `i` on (AV1 RTP: template_layers). -/
def ddLayers (l : List Byte) (s t : Nat) : Nat → Nat → List (Nat × Nat)
  | 0, _ => []
  | k + 1, i =>
    (s, t) :: match msbs l i 2 with
      | 0 => ddLayers l s t k (i + 2)
      | 1 => ddLayers l s (t + 1) k (i + 2)
      | 2 => ddLayers l (s + 1) 0 k (i + 2)
      | _ => []

/-- The template structure a dependency descriptor carries: nibbles by template id (spatial in [1:0], temporal in [3:2],
Table 16-1), and which of the 64 ids it covers. -/
def ddStruct (l : List Byte) : Option (Nat × Nat) :=
  if 3 < l.length ∧ msb l 24 = 1 then
    let off := msbs l 29 6
    let ls := ddLayers l 0 0 64 40
    some ((List.range ls.length).foldl (fun r i =>
      let e := ls.getD i (0, 0)
      let n := (off + i) % 64
      (rsetBits r.1 0 (4 * n + 3) (4 * n) (e.1 % 4 + 4 * (e.2 % 4)), r.2 ||| 2 ^ n)) (0, 0))
  else none

/-- Attributes as one number: s, t, START, END, KEY, UPSW. -/
def attrCode (s t : Nat) (start fin key upsw : Bool) : Nat :=
  s + 4 * t + 16 * start.toNat + 32 * fin.toNat + 64 * key.toNat + 128 * upsw.toNat

/-- A media packet with attributes. -/
def Media.withAttrs (m : Media) (a : Nat) : Media :=
  { m with s := a % 4, t := a / 4 % 4, start := a.testBit 4, fin := a.testBit 5, key := a.testBit 6, upsw := a.testBit 7 }

/-- Attributes a packet carries itself (Table 16-2), none when its element or template is missing. -/
def Dev.ownAttrs (d : Dev) (src kind rank : Nat) (m : Media) : Option Nat :=
  match kind with
  | 0 => some (attrCode 0 0 true true true true)
  | 2 =>
    match m.dd with
    | none => none
    | some l =>
      let held := if rf (d.src src) 8 1 % 2 = 1 then some (rf (d.src src) 32 32, tat 0 d.fwd.cover src) else none
      let id := msbs l 2 6
      match (ddStruct l).or held with
      | none => none
      | some (n, cover) =>
        if cover.testBit id then
          let t := nfld n (4 * id + 3) (4 * id + 2)
          some (attrCode (nfld n (4 * id + 1) (4 * id)) t (msb l 0 == 1) (msb l 1 == 1) (ddStruct l).isSome (t == 0))
        else none
  | _ =>
    match m.lidx with
    | none => none
    | some l =>
      let b := byteAt l 0
      some (attrCode (if kind = 3 then rank else b / 64) (b / 16 % 4) (b.testBit 3) (b.testBit 2) (b.testBit 1) (b.testBit 0))

/-- Attributes of a source's packet (R270): without its element it takes the previous packet's at the same timestamp
(assumption 91) (assumption 91). -/
def Dev.attrsOf (d : Dev) (src : Nat) (m : Media) : Option Nat :=
  let r := d.src src
  match d.ownAttrs src (rbits r 0 1 0) (rbits r 0 3 2) m with
  | some a => some a
  | none =>
    match lookup d.fwd.attr src with
    | some a => if m.ts = rf r 4 4 then some (attrCode (a % 4) (a / 4 % 4) false (a.testBit 5) (a.testBit 6) (a.testBit 7)) else none
    | none => none

/-- The state of a source after a packet: LAST_TS and, for R270, its attributes. -/
def Dev.srcSeen (d : Dev) (src ts : Nat) (a : Option Nat) : Dev :=
  let d := d.setSrc src (rset (d.src src) 4 4 ts)
  match a with
  | some x => { d with fwd := { d.fwd with attr := tinsert (terase d.fwd.attr src) src x } }
  | none => d

/-- A verified packet's template structure is held (R271). -/
def Dev.holdTemplates (d : Dev) (src : Nat) (m : Media) : Dev :=
  match m.dd.bind ddStruct with
  | some (n, cover) =>
    let d := d.setSrc src (rset (rset (d.src src) 8 1 1) 32 32 n)
    { d with fwd := { d.fwd with cover := tset 0 d.fwd.cover src cover } }
  | none => d

/-- An RTP packet as a source's media packet under a profile, without its attributes. -/
def mediaOf (p : List Byte) (x : Profile) (kind : Nat) : Media :=
  let l := rtpExtracted p
  { pad := byteAt p 0 / 32 % 2 == 1
    csrc := (p.drop 12).take (4 * (byteAt p 0 % 16))
    marker := decide (128 ≤ byteAt p 1)
    ts := beAt p 4 4
    audio := extFind l x.audio
    dd := extFind l x.dd
    lidx := extFind l x.lidx
    payload := p.drop (rtpHdrLen p)
    kind := kind
    s := 0, t := 0, start := false, fin := false, key := false, upsw := false }

/-- An RTP header (R278) (assumption 91). -/
def rtpHeader (m : Media) (ext : List Byte) (marker : Bool) (pt seq ts ssrc : Nat) : List Byte :=
  [b8 (128 + 32 * m.pad.toNat + (if ext = [] then 0 else 16) + m.csrc.length / 4), b8 (pt + 128 * marker.toNat)] ++
    beBytes 2 seq ++ beBytes 4 ts ++ beBytes 4 ssrc ++ m.csrc ++ ext

end Sys2Proof.Machine
end

