-- ==== Sys2Proof/Machine/Forward.lean ====
section
/-! DEFINITION. Layer forwarding (chapter 16): the window commands, selection, replicas, repair and feedback. -/

namespace Sys2Proof.Machine

/-! ### Subscription entries and their commands -/

/-- Subscription entry (Table 16-3). -/
def Dev.sub (d : Dev) (i : Nat) : Nat := tat 0 d.fwd.subs i

/-- Entry replaced. -/
def Dev.setSub (d : Dev) (i r : Nat) : Dev := { d with fwd := { d.fwd with subs := tset 0 d.fwd.subs i r } }

/-- RX_LEG of an entry. -/
def subLeg (e : Nat) : Nat := rbits e 0 12 0
/-- EN of an entry. -/
def subEn (e : Nat) : Bool := rbits e 0 13 13 == 1
/-- LAST of an entry. -/
def subLast (e : Nat) : Bool := rbits e 0 14 14 == 1
/-- Key of the outbound record an entry feeds. -/
def subOut (e : Nat) : Nat := outKey (subLeg e) (rbits e 2 4 0)
/-- CUR_S of an entry. -/
def subCurS (e : Nat) : Nat := rbits e 4 1 0
/-- CUR_T of an entry. -/
def subCurT (e : Nat) : Nat := rbits e 4 3 2
/-- SYNC of an entry. -/
def subSync (e : Nat) : Bool := rbits e 4 4 4 == 1
/-- REBASE of an entry. -/
def subRebase (e : Nat) : Bool := rbits e 4 5 5 == 1

/-- Subscription range of a domain: first entry and how many (FWD_DOM_SUB). -/
def Dev.subRange (d : Dev) (dom : Nat) : Nat × Nat :=
  (4096 * d.fld (Reg.FWD_DOM_SUB dom) 7 0, 4096 * d.fld (Reg.FWD_DOM_SUB dom) 24 16)

/-- An entry lies in a domain's range. -/
def Dev.subIn (d : Dev) (dom i : Nat) : Bool :=
  decide ((d.subRange dom).1 ≤ i ∧ i < (d.subRange dom).1 + (d.subRange dom).2)

/-- An FWD command of window `w`: DOMAIN (1) when `ok` fails; the answer of `f` is the result. -/
def Dev.fwdWindow (d : Dev) (q : Requester) (w : Nat) (ok : Bool) (f : Dev → Dev × Nat) : Dev :=
  d.window q 36 w none (fun _ d =>
    if ok = false then d.setReg (Reg.FWD_CMD_STAT w) 1
    else
      let r := f d
      r.1.setReg (Reg.FWD_CMD_STAT w) (w32 r.2))

/-- A command on the entry its word names. -/
def Dev.subWindow (d : Dev) (q : Requester) (w : Nat) (v : Word) (f : Nat → Dev → Dev × Nat) : Dev :=
  d.fwdWindow q w (w == 0 || d.subIn w (wfld v 19 0)) (f (wfld v 19 0))

/-- SUB_READ. -/
def subReadEffect (q : Requester) (w : Nat) (v : Word) (d : Dev) : Dev :=
  d.subWindow q w v (fun i d => (d.setRegsNat (Reg.FWD_REC w 0) (d.sub i) 2, 0))

/-- SUB_READ (R273). -/
def execSubRead (q : Requester) (w : Fin 16) (v : Word) (s : State) : Host.Outcome State Fault Refusal :=
  s.run (subReadEffect q w v)

/-- The staged entry of a window. -/
def Dev.subStaged (d : Dev) (w : Nat) : Nat := d.regsNat (Reg.FWD_REC w 0) 2

/-- Bits of bytes 0 to 3 of an entry that are reserved. -/
def subReserved : Nat := bitsAt 1 7 7 + bitsAt 2 7 5 + bitsAt 3 7 4

/-- SUB_WRITE on an entry: BAD (2) for a reserved bit, LIVE (3) while it has EN set; CUR is 0 and SYNC set (R273). -/
def Dev.subWrite (d : Dev) (w i : Nat) : Dev × Nat :=
  let n := d.subStaged w
  let e := d.sub i
  if n &&& subReserved ≠ 0 then (d, 2)
  else if subEn e then (d, 3)
  else (d.setSub i (rsetBits (rset e 0 4 (rf n 0 4)) 4 4 0 16), 0)

/-- SUB_WRITE. -/
def subWriteEffect (q : Requester) (w : Nat) (v : Word) (d : Dev) : Dev := d.subWindow q w v (fun i d => d.subWrite w i)

/-- SUB_WRITE (R273). -/
def execSubWrite (q : Requester) (w : Fin 16) (v : Word) (s : State) : Host.Outcome State Fault Refusal :=
  s.run (subWriteEffect q w v)

/-- SUB_WANT: WANT only. -/
def subWantEffect (q : Requester) (w : Nat) (v : Word) (d : Dev) : Dev :=
  d.subWindow q w v (fun i d =>
    let n := d.subStaged w
    if n &&& bitsAt 3 7 4 ≠ 0 then (d, 2) else (d.setSub i (rset (d.sub i) 3 1 (rf n 3 1)), 0))

/-- SUB_WANT (R273). -/
def execSubWant (q : Requester) (w : Fin 16) (v : Word) (s : State) : Host.Outcome State Fault Refusal :=
  s.run (subWantEffect q w v)

/-- SUB_DISABLE on an entry: EN clears, and a stream that the entry owns is owned no more (R288). -/
def Dev.subDisable (d : Dev) (i : Nat) : Dev :=
  let e := d.sub i
  let k := subOut e
  let d := d.setSub i (rsetBits e 0 13 13 0)
  if outOwned (d.outRec k) ∧ rbits (d.outRec k) 16 19 0 = i then d.disown k else d

/-- SUB_DISABLE. -/
def subDisableEffect (q : Requester) (w : Nat) (v : Word) (d : Dev) : Dev :=
  d.subWindow q w v (fun i d => (d.subDisable i, 0))

/-- SUB_DISABLE (R273, R288). -/
def execSubDisable (q : Requester) (w : Fin 16) (v : Word) (s : State) : Host.Outcome State Fault Refusal :=
  s.run (subDisableEffect q w v)

/-- A command on the source 8L + s its word names: leg L must be the window's. -/
def Dev.srcWindow (d : Dev) (q : Requester) (w : Nat) (v : Word) (f : Nat → Dev → Dev × Nat) : Dev :=
  d.fwdWindow q w (d.mayLeg w (wfld v 15 0 / 8)) (f (wfld v 15 0))

/-- SRC_READ. -/
def srcReadEffect (q : Requester) (w : Nat) (v : Word) (d : Dev) : Dev :=
  d.srcWindow q w v (fun i d => (d.setRegsNat (Reg.FWD_REC w 0) (d.src i) 16, 0))

/-- SRC_READ (R269). -/
def execSrcRead (q : Requester) (w : Fin 16) (v : Word) (s : State) : Host.Outcome State Fault Refusal :=
  s.run (srcReadEffect q w v)

/-- SRC_WRITE: byte 0 only. -/
def srcWriteEffect (q : Requester) (w : Nat) (v : Word) (d : Dev) : Dev :=
  d.srcWindow q w v (fun i d =>
    let b := d.fld (Reg.FWD_REC w 0) 7 0
    if 16 ≤ b then (d, 2) else (d.setSrc i (rset (d.src i) 0 1 b), 0))

/-- SRC_WRITE (R269). -/
def execSrcWrite (q : Requester) (w : Fin 16) (v : Word) (s : State) : Host.Outcome State Fault Refusal :=
  s.run (srcWriteEffect q w v)

/-! ### Selection (R274) -/

/-- An entry with CUR_S, CUR_T, SYNC and REBASE. -/
def subCur (e cs ct : Nat) (sync rebase : Bool) : Nat := rsetBits e 4 5 0 (cs + 4 * ct + 16 * sync.toNat + 32 * rebase.toNat)

/-- select() of R274 for an enabled entry of a receiving leg with wanted ranks `ws` and `wt`: whether the packet is
selected, the entry after it, and the rank of a key request. -/
def selectEntry (m : Media) (ws wt e : Nat) : Bool × Nat × Option Nat :=
  let sync := subSync e
  let cs := subCurS e
  let ct := subCurT e
  let rb := subRebase e
  let sim := m.kind == 3
  if m.kind = 0 then (true, if sync then subCur e cs ct false true else e, none)
  else if m.start = false then
    (!sync && (if sim then m.s == cs else decide (m.s ≤ cs)) && decide (m.t ≤ ct), e, none)
  else
    let ct := if wt < ct then wt else if ct < wt ∧ (m.t = 0 ∨ m.upsw) then wt else ct
    let up := m.key && (if sim then m.s == ws else if sync then m.s == 0 else m.s == cs + 1 && decide (m.s ≤ ws))
    let down := !up && !sim && !sync && decide (ws < cs)
    let need := !up && !down && (sync || cs != ws)
    let rb := if up && (sim || sync) then true else rb
    let need' := if need then some (if sim then ws else if sync then 0 else cs + 1) else none
    let cs := if up then m.s else if down then ws else cs
    let sync := if up then false else sync
    (!sync && (if sim then m.s == cs else decide (m.s ≤ cs)) && decide (m.t ≤ ct), subCur e cs ct sync rb, need')

/-- key_need(): once per round per entry (R274). -/
def Dev.keyNeed (d : Dev) (src i : Nat) : Option Nat → Dev
  | none => d
  | some rank =>
    if i ∈ d.fwd.keyMark then d
    else { d with fwd := { d.fwd with keyMark := addMark d.fwd.keyMark i, feedback := d.fwd.feedback ++ [.keyNeed src rank] } }

/-- A bad entry or an unended walk: FWD_SUB_BAD once per row per list (R272) (assumption 88). -/
def Dev.subBad (d : Dev) (list leg dom i : Nat) : Dev :=
  if list ∈ d.fwd.subBadMark then d
  else { d with fwd := { d.fwd with subBadMark := addMark d.fwd.subBadMark list } }.raise Ev.FWD_SUB_BAD leg dom (leBytes 3 i)

/-- What a walk has found: the entries it changes with their new values, and the entries selected, in list order. -/
structure Walk where
  changes : List (Nat × Nat)
  sel : List Nat
  deriving DecidableEq, Repr

/-- One entry of a walk (assumption 88). -/
def Dev.walkEntry (d : Dev) (src : Nat) (m : Media) (on : Bool) (i : Nat) (w : Walk) : Dev × Walk :=
  let e := d.sub i
  let l := subLeg e
  if subEn e = false ∨ on = false ∨ d.legReceives l = false then (d, w)
  else
    let c := rf (d.hdr l) 12 1
    let r := selectEntry m (min (rbits e 3 1 0) (c % 4)) (min (rbits e 3 3 2) (c / 4 % 4)) e
    (d.keyNeed src i r.2.2,
      { changes := if r.2.1 = e then w.changes else w.changes ++ [(i, r.2.1)]
        sel := if r.1 then w.sel ++ [i] else w.sel })

/-- A walk of the list that starts at `list` (R272): source leg `leg`, its domain, whether the source may send. -/
def Dev.walk (d : Dev) (list src leg dom : Nat) (m : Media) (on : Bool) : Nat → Nat → Walk → Dev × Walk
  | 0, i, w => (d.subBad list leg dom i, w)
  | n + 1, i, w =>
    if d.subIn dom i = false then ((d.count Reg.FWD_SUB_BAD_CNT).subBad list leg dom i, w)
    else
      let e := d.sub i
      let r := if d.legDomain (subLeg e) = dom then d.walkEntry src m on i w
        else ((d.count Reg.FWD_SUB_BAD_CNT).subBad list leg dom i, w)
      if subLast e then r else r.1.walk list src leg dom m on n (i + 1) r.2

/-- The list of a source is walked; SUB_PTR 0 means no list (assumption 88). -/
def Dev.walkList (d : Dev) (list src leg dom : Nat) (m : Media) (on : Bool) : Dev × Walk :=
  if list = 0 then (d, ⟨[], []⟩) else d.walk list src leg dom m on 65536 list ⟨[], []⟩

/-- Held changes of CUR, SYNC and REBASE are applied (R275) (assumption 89). -/
def Dev.applyChanges (d : Dev) (l : List (Nat × Nat)) : Dev :=
  d.forEach l (fun d c => d.setSub c.1 (rset (d.sub c.1) 4 1 (rf c.2 4 1)))

/-! ### Sealing and sending -/

/-- NO_KEY, once per row per leg (R97). -/
def Dev.noKey (d : Dev) (leg dom : Nat) : Dev :=
  let d := d.count Reg.CIP_NO_KEY
  if leg ∈ d.cip.noKeyMark then d
  else { d with cip := { d.cip with noKeyMark := addMark d.cip.noKeyMark leg } }.raise Ev.NO_KEY leg dom

/-- KEY_MISMATCH, once per row per leg (R94). -/
def Dev.keyMismatch (d : Dev) (leg dom : Nat) : Dev :=
  let d := d.count Reg.CIP_KEY_MISMATCH
  if leg ∈ d.cip.mismatchMark then d
  else { d with cip := { d.cip with mismatchMark := addMark d.cip.mismatchMark leg } }.raise Ev.KEY_MISMATCH leg dom

/-- The agent that seals a packet toward a leg (R91, R92): a round engine under transforms 1 to 4, else the port's
egress pipe. -/
def Dev.sealAgent (d : Dev) (l : Nat) (clear : Bool) (t : Nat) : Nat :=
  if !clear && !streaming t then 16 + l % 4
  else 12 + if d.fld Reg.NET_LANE_MODE 1 0 = 0 then d.legPort l % 4 else d.legPort l / 2

/-- Encryption or decryption of bytes with a slot's session keys at an index (assumption 48). -/
def Dev.cipherRun (d : Dev) (encrypt rtcp : Bool) (k index : Nat) (bytes : List Byte) : List Byte :=
  let r := d.slot k
  let o := if rtcp then 80 else 0
  (List.range bytes.length).map (Config.cipherByte encrypt (slotTransform r) (rf r (48 + o) 32) (rf r (80 + o) 14) index bytes)

/-- The tag of a sent packet. -/
def Dev.sealTag (d : Dev) (k index n : Nat) : List Byte :=
  (List.range n).map (Config.tagByte (slotTransform (d.slot k)) (rf (d.slot k) 48 148) index)

/-- An RTP packet for a leg: header, payload, outbound stream `o`, its leaf, and what its queue entry carries. -/
structure Outgoing where
  leg : Nat
  o : Nat
  q : Nat
  header : List Byte
  payload : List Byte
  seq : Nat
  twcc : Option Nat
  time : Nat
  agent : Option Nat
  cut : Option Nat
  ring : Option Nat
  tag : Nat
  tsReq : Bool
  notify : Bool
  deriving DecidableEq, Repr

/-- The queue entry of an outgoing packet. -/
def Outgoing.frame (x : Outgoing) (chain nbuf len : Nat) : QFrame :=
  { chain := chain, nbuf := nbuf, len := len, leg := some x.leg, leaf := some x.q, stream := some (outKey x.leg x.o),
    tsReq := x.tsReq, tag := x.tag, ring := x.ring, notify := x.notify, cutOf := x.cut, twcc := x.twcc }

/-- A released packet is lost before it reaches its queue (R277): DROPS, its send-log entry, its descriptor. -/
def Dev.lost (d : Dev) (x : Outgoing) (len status : Nat) : Dev :=
  (((d.outCount (outKey x.leg x.o) 40).sendLog (x.frame 0 0 len) none)).frameDone (x.frame 0 0 len) status 0 noTs

/-- Length of an outgoing frame through the FCS, once its tag is added (assumption 92). -/
def Dev.sealedLen (d : Dev) (x : Outgoing) : Nat :=
  let r := d.outRec (outKey x.leg x.o)
  (Config.egressHeader x.leg).length + x.header.length + x.payload.length +
    (if outClear r then 0 else tagBytes (slotTransform (d.slot (outSlot r)))) + 4

/-- A sealed packet is handed to EGS: enqueued, or started at once as a cut-through replica (assumption 92). -/
def Dev.handOver (d : Dev) (x : Outgoing) (id len : Nat) : Dev :=
  let d := (d.share (d.desc id).last id (2 ^ 49) 49 (id / 2 ^ 22)).1
  let f := x.frame id (d.desc id).nbuf len
  if x.cut.isSome then d.cutStart x.leg f else d.enqueue f 0

/-- An outgoing packet is given buffers, mirrored, sealed and handed over (R91, R103, R278, R353). -/
def Dev.send (d : Dev) (x : Outgoing) : Dev :=
  let r := d.outRec (outKey x.leg x.o)
  let k := outSlot r
  let clear := outClear r
  let dom := d.legDomain x.leg
  let len := d.sealedLen x
  let t := slotTransform (d.slot k)
  if clear = false ∧ slotState (d.slot k) < 2 then (d.noKey x.leg dom).lost x len 3
  else if clear = false ∧ d.canSeal k x.leg dom = false then (d.keyMismatch x.leg dom).lost x len 3
  else if clear = false ∧ d.maxFrame (d.legPort x.leg) < len then (d.count Reg.CIP_TOO_LONG).lost x len 3
  else
    let pool := (Config.replicaPool (d.legPort x.leg)).val
    let n := buffersFor (d.fld (Reg.BPM_POOL_CFG pool) 7 0) (len - 4)
    match d.alloc pool (x.agent.getD (d.sealAgent x.leg clear t)) n dom with
    | (none, d) => d.lost x len 4
    | (some id, d) =>
      let eh := Config.egressHeader x.leg
      let d := d.mirrorOut x.leg id (eh ++ x.header ++ x.payload) x.time x.o
      if clear then (d.storeFrame id (eh ++ x.header ++ x.payload)).handOver x id len
      else match d.takeRtpIndex (40 * x.leg + 8 + x.o) x.leg x.seq k with
        | (none, d) => (d.freeChain id).lost x len 3
        | (some i, d) =>
          (d.storeFrame id (eh ++ x.header ++ d.cipherRun true false k i x.payload ++ d.sealTag k i (tagBytes t))).handOver x id len

/-! ### Replicas (R276 to R278) -/

/-- Clock rate of an outbound stream (FLAGS.CLK). -/
def outRate (r : Nat) : Nat := [90000, 48000, 16000, 8000].getD (rbits r 7 5 4) 0

/-- The transport-wide number of the next packet toward a leg, when its profile carries one (R277) (assumption 89). -/
def Dev.takeTwcc (d : Dev) (l : Nat) : Option Nat × Dev :=
  let h := d.hdr l
  if (d.profile (rf h 1 1)).twcc = 0 then (none, d) else (some (rf h 18 2), d.setHdr l (rset h 18 2 (rf h 18 2 + 1)))

/-- abs-send-time: seconds of the row time base in 6.18 fixed point (R278). -/
def Dev.absSend (d : Dev) : Nat := (d.tb d.rowTb).time / 2 ^ 22 / 10 ^ 9 % 2 ^ 24

/-- The extension block of a packet toward a leg (R278). -/
def Dev.outExt (d : Dev) (l : Nat) (m : Media) (twcc : Option Nat) : List Byte :=
  let x := d.profile (rf (d.hdr l) 1 1)
  let el (id : Nat) (v : Option (List Byte)) : List (Nat × List Byte) := if id = 0 then [] else (v.map (fun b => (id, b))).toList
  extBlock (el x.twcc (twcc.map (beBytes 2)) ++ el x.absSend (some (beBytes 3 d.absSend)) ++ el x.audio m.audio ++
    el x.dd m.dd ++ el x.lidx m.lidx)

/-- The next sequence number of an outbound stream, taken (assumption 89). -/
def Dev.takeSeq (d : Dev) (k : Nat) : Nat × Dev :=
  let r := d.outRec k
  (rf r 20 2, d.setOut k (rset r 20 2 (rf r 20 2 + 1)))

/-- The timeline of an outbound stream at a packet with RTP timestamp `ts` and house index `h` (R277): the out timestamp
and the record; `rebase` starts or continues it anew (assumption 89). -/
def outTime (r ts h : Nat) (rebase : Bool) : Nat × Nat :=
  let sent := rbits r 16 21 21 == 1
  let r := if rebase then
      let off := if sent then rf r 28 4 + max 1 (sub32 h (rf r 32 4)) + 2 ^ 32 - ts else h + 2 ^ 32 - ts
      rsetBits (rset r 24 4 (off % 2 ^ 32)) 16 21 21 1
    else r
  let t := (ts + rf r 24 4) % 2 ^ 32
  (t, if t = rf r 28 4 then r else rset (rset r 28 4 t) 32 4 h)

/-- A packet's entry owns its stream, or takes it over at REBASE (R276); false when the stream is another's. -/
def Dev.takeOwner (d : Dev) (i : Nat) : Bool × Dev :=
  let e := d.sub i
  let k := subOut e
  let r := d.outRec k
  if outOwned r ∧ rbits r 16 19 0 = i then (true, d)
  else if subRebase e then
    (true, (d.setOut k (rsetBits (rsetBits r 16 19 0 i) 16 20 20 1)).raise Ev.FWD_SUB_SYNCED (subLeg e) (d.legDomain (subLeg e)) (leBytes 3 i))
  else (false, d.count Reg.FWD_NOT_OWNER)

/-! ### Repair: history (R281) and FEC (R283) -/

/-- Entries of history rings that name a chain. -/
def Dev.histRefs (d : Dev) (chain : Nat) : Nat := tat 0 d.fwd.hist chain

/-- A chain gains or loses a history entry; agent 24 gives its share back with the last (R281). -/
def Dev.histUnref (d : Dev) (chain : Nat) : Dev :=
  let n := d.histRefs chain - 1
  let d : Dev := { d with fwd := { d.fwd with hist := tset 0 d.fwd.hist chain n } }
  if n = 0 then ({ d with fwd := { d.fwd with made := terase d.fwd.made chain } }).giveBack 24 chain else d

/-- HIST_SLOT of a stream lies in its domain's range and in the area. -/
def Dev.histOk (d : Dev) (dom slot : Nat) : Bool :=
  let b := 16 * d.fld (Reg.FWD_DOM_HIST dom) 11 0
  decide (b ≤ slot ∧ slot < b + 16 * d.fld (Reg.FWD_DOM_HIST dom) 28 16 ∧ slot < d.fld Reg.FWD_HIST_COUNT 16 0)

/-- Address of the history entry of a sequence number. -/
def Dev.histAddr (d : Dev) (slot seq : Nat) : Nat :=
  d.reg64 Reg.FWD_HIST_ADDR_LO Reg.FWD_HIST_ADDR_HI + 4096 * slot + 16 * (seq % 256)

/-- A released packet enters its stream's history ring (R281). -/
def Dev.histWrite (d : Dev) (l k chain seq ts : Nat) (marker : Bool) : Dev :=
  let r := d.outRec k
  let dom := d.legDomain l
  let slot := rf r 10 2
  if rbits r 7 1 1 = 0 ∨ d.histOk dom slot = false then d
  else
    let a := d.histAddr slot seq
    let (old, d) := d.dramGet 10 dom a 4
    let d := if 2 ^ 31 ≤ leNat old then d.histUnref (leNat old % 2 ^ 25) else d
    let keep := decide (d.poolLevel (chain / 2 ^ 22) < 2) && (d.desc chain).owners.testBit 24
    let d : Dev := if keep then { d with fwd := { d.fwd with hist := tset 0 d.fwd.hist chain (d.histRefs chain + 1) } } else d
    d.dramPut 10 dom a (leBytes 4 (chain + if keep then 2 ^ 31 else 0) ++ leBytes 2 seq ++ [b8 marker.toNat, 0] ++
      leBytes 4 ts ++ leBytes 4 d.rowNs)

/-- What a repair packet recovers of an RTP packet (RFC 8627): its first bytes, its length past the fixed header, its
timestamp, and all after its SSRC (assumption 91). -/
def recovery (header payload : List Byte) : List Byte :=
  header.take 2 ++ beBytes 2 (header.length + payload.length - 12) ++ (header.drop 4).take 4 ++ header.drop 12 ++ payload

/-- The repair packet of a run (R283, RFC 8627): R = 0, F = 0, one mask word (assumption 91). -/
def repairPayload (x : FecRun) : List Byte :=
  let r := leBytes x.len x.parity
  b8 (byteAt r 0 % 64) :: ((r.drop 1).take 7 ++ beBytes 2 x.first ++
    beBytes 2 (2 ^ 15 + (2 ^ x.count - 1) * 2 ^ (15 - x.count)) ++ r.drop 8)

/-- A leg's packet of agent 24 on support stream `o`: numbered and sent in queue 2L + 1. -/
def Dev.repairSend (d : Dev) (l o ts : Nat) (m : Media) (payload : List Byte) (marker : Bool) (ext : Bool) : Dev :=
  let k := outKey l o
  let (seq, d) := d.takeSeq k
  let (tw, d) := if ext then d.takeTwcc l else (none, d)
  let e := if ext then d.outExt l m tw else []
  let r := d.outRec k
  d.send { leg := l, o := o, q := 2 * l + 1, header := rtpHeader m e marker (rbits r 6 6 0) seq ts (rf r 0 4),
           payload := payload, seq := seq, twcc := tw, time := 0, agent := some 24, cut := none, ring := none,
           tag := 0, tsReq := false, notify := false }

/-- A media packet that carries nothing of a source: the header of a repair packet. -/
def plainMedia (csrc payload : List Byte) : Media :=
  { pad := false, csrc := csrc, marker := false, ts := 0, audio := none, dd := none, lidx := none, payload := payload,
    kind := 0, s := 0, t := 0, start := false, fin := false, key := false, upsw := false }

/-- A run ends: at least 2 packets are protected (R283). -/
def Dev.fecEnd (d : Dev) (l o : Nat) : Dev :=
  let k := outKey l o
  let x := tat {} d.fwd.runs k
  let r := d.outRec k
  let fs := rbits r 9 4 0
  let d : Dev := { d with fwd := { d.fwd with runs := tset {} d.fwd.runs k {} } }
  if x.count < 2 ∨ d.outOn (outKey l fs) = false then d
  else
    let d := (d.hdrCount l 40).count Reg.FWD_FEC
    d.repairSend l fs x.ts (plainMedia (beBytes 4 (rf r 0 4)) []) (repairPayload x) false false

/-- FEC_K in force for a leg: 0 off, 1 acts as 0. -/
def Dev.fecK (d : Dev) (l : Nat) : Nat := if rbits (d.hdr l) 13 3 0 = 1 then 0 else rbits (d.hdr l) 13 3 0

/-- A media packet joins its stream's run; a new FEC_K or owner ends the old run first (R283). -/
def Dev.fecAdd (d : Dev) (l o seq ts : Nat) (header payload : List Byte) : Dev :=
  let k := outKey l o
  let r := d.outRec k
  let n := d.fecK l
  let own := rbits r 16 20 0
  let x := tat {} d.fwd.runs k
  let d := if x.count ≠ 0 ∧ (x.k ≠ n ∨ x.owner ≠ own) then d.fecEnd l o else d
  if n = 0 ∨ rbits r 7 3 3 = 0 ∨ rbits r 7 1 1 = 0 then d
  else
    let x := tat {} d.fwd.runs k
    let b := recovery header payload
    let y : FecRun := { count := x.count + 1, first := if x.count = 0 then seq else x.first,
                        parity := x.parity ^^^ leNat b, len := max x.len b.length, ts := ts, owner := own, k := n }
    let d : Dev := { d with fwd := { d.fwd with runs := tset {} d.fwd.runs k y } }
    if n ≤ y.count then d.fecEnd l o else d

/-! ### Release -/

/-- A media packet is numbered, rewritten and sent on an outbound stream (R277, R278): out marker, timestamp and house
index are given; `chain` is its source chain for the history ring. -/
def Dev.sendMedia (d : Dev) (l o : Nat) (m : Media) (marker : Bool) (ts chain time : Nat) (cut : Bool) : Dev :=
  let k := outKey l o
  let (seq, d) := d.takeSeq k
  let (tw, d) := d.takeTwcc l
  let r := d.outRec k
  let header := rtpHeader m (d.outExt l m tw) marker (rbits r 6 6 0) seq ts (rf r 0 4)
  let d := ((d.outCount k 36).hdrCount l 24).count64 Reg.FWD_REPLICAS_LO
  let d := if cut then (d.hdrCount l 28).count64 Reg.FWD_CT_LO else d
  let d := d.histWrite l k chain seq ts marker
  let d := d.send { leg := l, o := o, q := 2 * l, header := header, payload := m.payload, seq := seq, twcc := tw,
                    time := time, agent := none, cut := if cut then some chain else none, ring := none, tag := 0,
                    tsReq := false, notify := false }
  d.fecAdd l o seq ts header m.payload

/-- A replica of a packet is released to the entry's stream (R276, R277); `time` is the packet's ingress time. -/
def Dev.replica (d : Dev) (m : Media) (chain time i : Nat) (cut : Bool) : Dev :=
  let e := d.sub i
  let l := subLeg e
  let k := subOut e
  if d.outOn k = false then d
  else
    let (mine, d) := d.takeOwner i
    if mine = false then d
    else
      let r := d.outRec k
      let (ts, r) := outTime r m.ts (d.houseIndex (outRate r) (time / 2 ^ 40)) (subRebase e)
      let d := (d.setOut k r).setSub i (rsetBits (d.sub i) 4 5 5 0)
      let marker := if m.kind = 1 ∨ m.kind = 2 then m.fin && m.s == subCurS e else m.marker
      d.sendMedia l (k % 32) m marker ts chain time cut

/-- Agent 24's share of a chain goes back when no history entry names it. -/
def Dev.histSettle (d : Dev) (chain : Nat) : Dev :=
  if (d.desc chain).owners.testBit 24 ∧ d.histRefs chain = 0 then
    ({ d with fwd := { d.fwd with made := terase d.fwd.made chain } }).giveBack 24 chain
  else d

/-- Agent 24 is to hold a share of a chain that goes to these outbound streams (R281). -/
def Dev.histWants (d : Dev) (chain : Nat) (outs : List Nat) : Bool :=
  decide (d.poolLevel (chain / 2 ^ 22) < 2) && outs.any (fun k => rbits (d.outRec k) 7 1 1 == 1)

/-- A producer's chain is shared to agent 24, with what a repair packet needs of it. -/
def Dev.histShare (d : Dev) (chain : Nat) (m : Media) (outs : List Nat) : Dev :=
  if d.histWants chain outs then
    let a := (d.desc chain).last
    let d := (d.share a chain (2 ^ a + 2 ^ 24) a (chain / 2 ^ 22)).1
    { d with fwd := { d.fwd with made := tset ([], []) d.fwd.made chain (m.payload, m.dd.getD []) } }
  else d

/-- The packets of an internal producer (R172, R231): sent on its own outbound stream if SEND is set, and offered to
its list. `chain` is the producer's chain, `m` carries its layer attributes. -/
def Dev.produce (d : Dev) (l o : Nat) (m : Media) (chain : Nat) : Dev :=
  let k := outKey l o
  let r := d.outRec k
  let m := { m with kind := rbits r 15 1 0 }
  let now := (d.tb d.rowTb).time
  let (d, w) := d.walkList (rbits r 12 19 0) (65536 + k) l (d.legDomain l) m (d.legReceives l)
  let d := (d.applyChanges w.changes).histShare chain m (k :: w.sel.map (fun i => subOut (d.sub i)))
  let d := if rbits r 6 7 7 = 1 ∧ d.outOn k then
      let h := d.houseIndex (outRate r) (now / 2 ^ 40)
      let (ts, r) := outTime (d.outRec k) m.ts h false
      (d.setOut k (rsetBits r 16 21 21 1)).sendMedia l o m m.marker ts chain 0 false
    else d
  (d.forEach w.sel (fun d i => d.replica m chain now i false)).histSettle chain

/-! ### Retransmission (R282) -/

/-- Sequence numbers a NACK asks for. -/
def nackSeqs : Nat → List Byte → List Nat
  | 0, _ => []
  | n + 1, f =>
    let pid := beAt f 0 2
    let blp := beAt f 2 2
    pid :: ((List.range 16).filter (fun i => blp.testBit i)).map (fun i => (pid + 1 + i) % 2 ^ 16) ++ nackSeqs n (f.drop 4)

/-- The outbound stream of a leg with an SSRC (EN set). -/
def Dev.outBySsrc (d : Dev) (l ssrc : Nat) : Option Nat :=
  (List.range 32).find? (fun o => d.outOn (outKey l o) && rf (d.outRec (outKey l o)) 0 4 == ssrc)

/-- A sequence number is served from the history ring, in RFC 4588 form on RTX_STREAM; false when it is not. The chain's
frame holds its UDP payload from `l4` on, under the source's profile (assumption 91). -/
def Dev.rtxServe (d : Dev) (l o seq : Nat) (media : Nat → Media) : Bool × Dev :=
  let r := d.outRec (outKey l o)
  let (e, d) := d.dramGet 10 (d.legDomain l) (d.histAddr (rf r 10 2) seq) 16
  let c := leAt e 0 4
  if c < 2 ^ 31 ∨ leAt e 4 2 ≠ seq ∨ d.fld Reg.FWD_CFG 9 0 * 10 ^ 6 < sub32 d.rowNs (leAt e 12 4) ∨
      d.outOn (outKey l (rbits r 8 4 0)) = false then (false, d)
  else
    let m := media (c % 2 ^ 25)
    (true, ((d.hdrCount l 36).count Reg.FWD_RTX).repairSend l (rbits r 8 4 0) (leAt e 8 4) m
      (beBytes 2 seq ++ m.payload) (byteAt e 6 % 2 == 1) true)

/-- Serves a list of sequence numbers; answers those not served. -/
def Dev.rtxServeAll (d : Dev) (l o : Nat) (media : Nat → Media) : List Nat → List Nat × Dev
  | [] => ([], d)
  | s :: t =>
    let a := d.rtxServe l o s media
    let b := a.2.rtxServeAll l o media t
    (if a.1 then b.1 else s :: b.1, b.2)

/-- Numbers a NACK asked for and history did not serve: counted, FWD_HIST_MISS once per row per leg. -/
def Dev.histMiss (d : Dev) (l n : Nat) : Dev :=
  if n = 0 then d
  else
    let d := d.count Reg.FWD_HIST_MISS_CNT n
    if l ∈ d.fwd.histMark then d
    else { d with fwd := { d.fwd with histMark := addMark d.fwd.histMark l } }.raise Ev.FWD_HIST_MISS l (d.legDomain l)

/-! ### Feedback (R284) -/

/-- The packets of an RTCP compound. -/
def rtcpPackets : Nat → List Byte → List (List Byte)
  | 0, _ => []
  | k + 1, f =>
    if f.length < 4 then []
    else
      let n := 4 * (beAt f 2 2 + 1)
      f.take n :: rtcpPackets k (f.drop n)

/-- Type of an RTCP packet as FWD_FB_ROUTE numbers it. -/
def rtcpType (f : List Byte) : Nat :=
  let fmt := byteAt f 0 % 32
  match byteAt f 1 with
  | 200 => 0
  | 201 => 1
  | 205 => if fmt = 1 then 2 else if fmt = 15 then 5 else 6
  | 206 => if fmt = 1 then 3 else if fmt = 4 then 4 else 6
  | _ => 6

/-- Route of a type for a domain: 0 discard, 1 Vadjaryn, 2 host, 3 both. -/
def Dev.fbRoute (d : Dev) (dom t : Nat) : Nat := d.fld (Reg.FWD_FB_ROUTE dom) (2 * t + 1) (2 * t)

/-- Media SSRC of a feedback packet: a FIR names it in its entry (RFC 5104). -/
def mediaSsrc (f : List Byte) : Nat := if rtcpType f = 4 then beAt f 12 4 else beAt f 8 4

/-- OWNER source of the stream a PLI or FIR names. -/
def Dev.fbOwner (d : Dev) (l : Nat) (f : List Byte) : Option Nat :=
  if rtcpType f = 3 ∨ rtcpType f = 4 then
    match d.outBySsrc l (mediaSsrc f) with
    | some o =>
      let r := d.outRec (outKey l o)
      if outOwned r then some (rbits r 16 19 0) else none
    | none => none
  else none

/-- One packet of a verified compound from a leg: what of it goes by the route, after R282 (assumption 90). -/
def Dev.fbPacket (d : Dev) (l : Nat) (media : Nat → Media) (f : List Byte) : Option (List Byte) × Dev :=
  let dom := d.legDomain l
  if rtcpType f = 2 ∧ d.bit (Reg.FWD_FB_ROUTE dom) 16 then
    match d.outBySsrc l (mediaSsrc f) with
    | none => (some f, d)
    | some o =>
      let r := d.outRec (outKey l o)
      if rbits r 7 2 1 = 3 then
        let (left, d) := d.rtxServeAll l o media (nackSeqs ((f.length - 12) / 4) (f.drop 12))
        let d := d.histMiss l left.length
        (if left = [] then none else some (f.take 12 ++ left.flatMap (fun s => beBytes 2 s ++ [0, 0])), d)
      else (some f, d)
  else (some f, d)

/-- The packets of a compound go where their types are routed; the answer says whether the host is to get it. -/
def Dev.feedback (d : Dev) (l : Nat) (media : Nat → Media) : List (List Byte) → Bool × Dev
  | [] => (false, d)
  | f :: t =>
    let (g, d) := d.fbPacket l media f
    let route := d.fbRoute (d.legDomain l) (rtcpType f)
    let d : Dev := match g with
      | some b =>
        if route % 2 = 1 then
          { d with fwd := { d.fwd with feedback := d.fwd.feedback ++ [.rtcp l (rtcpType f) (d.fbOwner l f) b] } }
        else d
      | none => d
    let r := d.feedback l media t
    (r.1 || (g.isSome && decide (2 ≤ route)), r.2)

end Sys2Proof.Machine
end

