-- ==== Sys2Proof/Machine/Picture.lean ====
section
/-! DEFINITION. What the video blocks share: busy time, key requests (R227), pictures assembled from packets (R225) and
bitstream rings (R219, R257). -/

namespace Sys2Proof.Machine

/-! ### Busy time -/

/-- Busy time of the unit whose register is `a`. -/
def Dev.busyOf (d : Dev) (a : Nat) : Busy := tat {} d.busy a

/-- Busy time replaced. -/
def Dev.setBusy (d : Dev) (a : Nat) (x : Busy) : Dev := { d with busy := tset {} d.busy a x }

/-- A unit starts to work (assumption 81). -/
def Dev.work (d : Dev) (a : Nat) : Dev := d.setBusy a { d.busyOf a with since := some d.tim.clocks }

/-- A unit has done its work (assumption 81). -/
def Dev.rest (d : Dev) (a : Nat) : Dev :=
  match (d.busyOf a).since with
  | some t => d.setBusy a { d.busyOf a with since := none, acc := (d.busyOf a).acc + (d.tim.clocks - t) }
  | none => d

/-- A unit's round ends: its register shows the last 60 rounds in 0.1 % units (assumption 81). -/
def Dev.busyTick (d : Dev) (a : Nat) : Dev :=
  let x := d.busyOf a
  let acc := x.acc + (x.since.map (fun t => d.tim.clocks - t)).getD 0
  let p := d.period true
  let hist := (acc :: x.hist).take 60
  let since := x.since.map (fun _ => d.tim.clocks)
  if hist.sum = 0 then (d.setBusy a { since := since }).setFld a 15 0 0
  else (d.setBusy a { since := since, hist := hist }).setFld a 15 0 (min 1000 (1000 * hist.sum * 2 * p.2 / (60 * 3 * p.1)))

/-! ### Key requests (R227) -/

/-- Something for Vadjaryn's feedback queue. -/
def Dev.tellVadjaryn (d : Dev) (f : Feedback) : Dev := { d with fwd := { d.fwd with feedback := d.fwd.feedback ++ [f] } }

/-- A request is due: PLI_INT rounds have passed since the last one. -/
def Asker.isDue (a : Asker) (round int : Nat) : Bool := a.at_.all (fun r => decide (int ≤ round - r))

/-- The next request is a FIR. -/
def Asker.isFir (a : Asker) (firAfter : Nat) : Bool := firAfter != 0 && a.plis == firAfter

/-- A request is made in a round. -/
def Asker.made (a : Asker) (round firAfter : Nat) : Asker :=
  if a.isFir firAfter then { plis := 0, fir := (a.fir + 1) % 256, at_ := some round } else { a with plis := a.plis + 1, at_ := some round }

/-- A PLI or FIR is posted for a stream. -/
def Dev.postRequest (d : Dev) (leg stream firAfter : Nat) (a : Asker) : Dev :=
  d.tellVadjaryn (.keyRequest leg stream (if a.isFir firAfter then some a.fir else none))

/-! ### Pictures (R225) -/

/-- Sequence number `a` is before `b`. -/
def seqBefore (a b : Nat) : Bool :=
  let n := (b + 2 ^ 16 - a % 2 ^ 16) % 2 ^ 16
  decide (0 < n ∧ n < 2 ^ 15)

/-- Sequence number of a picture's marker packet. -/
def Picture.marker (p : Picture) : Option Nat := (p.pkts.find? (fun k => k.marker)).map (fun k => k.seq)

/-- Lowest sequence number held. -/
def Picture.lowest (p : Picture) : Option Nat := p.pkts.head?.map (fun k => k.seq)

/-- A packet put among a picture's by sequence number; one already held is not taken again. -/
def addPkt (k : VidPkt) : List VidPkt → List VidPkt
  | [] => [k]
  | x :: t => if x.seq = k.seq then x :: t else if seqBefore k.seq x.seq then k :: x :: t else x :: addPkt k t

/-- The first packet is held: the expected one, or any when none is expected. -/
def Picture.hasFirst (p : Picture) (first : Option Nat) : Bool :=
  match first, p.lowest with
  | _, none => false
  | none, some _ => true
  | some f, some l => f == l

/-- Every packet from the first to the marker is held. -/
def Picture.whole (p : Picture) (first : Option Nat) : Bool :=
  match p.lowest, p.marker with
  | some l, some m => p.hasFirst first && !p.short && p.pkts.length == (m + 2 ^ 16 - l) % 2 ^ 16 + 1
  | _, _ => false

/-- The sequence number expected first of each picture of a list. -/
def expect : Option Nat → List Picture → List (Option Nat × Picture)
  | _, [] => []
  | f, p :: t => (f, p) :: expect (p.marker.map (fun m => (m + 1) % 2 ^ 16)) t

/-- Pictures of a stream with the sequence number each should begin with. -/
def Stream.expected (s : Stream) : List (Option Nat × Picture) := expect s.next s.pics

/-- A packet comes too late: its picture has ended. -/
def Stream.stale (s : Stream) (seq ts : Nat) : Bool :=
  s.last == some ts || s.next.any (fun n => seqBefore seq n) || s.pics.any (fun p => p.ts == ts && (p.dead || p.ended))

/-- The picture of a timestamp changed, or begun by `new` in its place by sequence number. -/
def onPicture (ts seq : Nat) (new : Picture) (f : Picture → Picture) : List Picture → List Picture
  | [] => [f new]
  | p :: t => if p.ts = ts then f p :: t
    else if p.lowest.any (fun l => seqBefore seq l) then f new :: p :: t else p :: onPicture ts seq new f t

/-- Pictures at the head that have ended make way. -/
def popPics : List Picture → Stream → Stream
  | [], s => { s with pics := [] }
  | p :: t, s => if p.dead then popPics t { s with next := p.marker.map (fun m => (m + 1) % 2 ^ 16), last := some p.ts } else { s with pics := p :: t }

/-- The head of a stream without pictures that have ended. -/
def Stream.pop (s : Stream) : Stream := popPics s.pics s

/-- Bytes of the ring that pictures hold. -/
def Stream.bytes (s : Stream) : Nat := (s.pics.map (fun p => if p.dead then 0 else (p.pkts.map (fun k => k.len)).sum)).sum

/-- Sequence numbers from `a` up to but not including `b` that a picture does not hold. -/
def Picture.missing (p : Picture) (a b : Nat) : List Nat :=
  ((List.range ((b + 2 ^ 16 - a) % 2 ^ 16)).map (fun i => (a + i) % 2 ^ 16)).filter (fun s => p.pkts.all (fun k => k.seq != s))

/-- What is missing of every picture whose wait starts now: it is incomplete and a later picture has a packet. -/
def newHolds : List (Option Nat × Picture) → List Nat
  | (f, p) :: (g, q) :: t =>
    (match q.lowest with
      | some b => if p.hold ∨ p.dead ∨ p.ended ∨ p.whole f then [] else p.missing ((f.orElse (fun _ => p.lowest)).getD b) b
      | none => []) ++ newHolds ((g, q) :: t)
  | _ => []

/-- HOLD_MS runs for every incomplete picture before the last. -/
def startHolds : List (Option Nat × Picture) → List Picture
  | (f, p) :: x :: t => { p with hold := p.hold || (!p.dead && !p.ended && !p.whole f) } :: startHolds (x :: t)
  | l => l.map (fun e => e.2)

/-! ### Bitstream rings -/

/-- Bytes of a ring from an offset on, around its end. -/
def Dev.ringPeek (d : Dev) (base len off n : Nat) : List Byte :=
  let a := min n (len - off)
  d.dramRead (base + off) a ++ d.dramRead base (n - a)

/-- The same, read by a port for a domain. -/
def Dev.ringGet (d : Dev) (port dom base len off n : Nat) : List Byte × Dev :=
  let a := min n (len - off)
  let (x, d) := d.dramGet port dom (base + off) a
  if n ≤ a then (x, d)
  else
    let (y, d) := d.dramGet port dom base (n - a)
    (x ++ y, d)

/-- Bytes written into a ring, around its end. -/
def Dev.streamPut (d : Dev) (port dom base len off : Nat) (b : List Byte) : Dev :=
  let a := min b.length (len - off)
  let d := d.dramPut port dom (base + off) (b.take a)
  if b.length ≤ a then d else d.dramPut port dom base (b.drop a)

/-- Payloads of a picture's packets, read by a port. -/
def Dev.pictureGet (d : Dev) (port dom base len : Nat) : List VidPkt → List (List Byte) × Dev
  | [] => ([], d)
  | k :: t =>
    let (x, d) := d.ringGet port dom base len k.off k.len
    let r := d.pictureGet port dom base len t
    (x :: r.1, r.2)

/-- A packet type of Table 13-1's RTP formats that the depacketiser accepts (R218). -/
def rtpTaken (codec : Nat) (payload : List Byte) : Bool :=
  let b := byteAt payload 0
  if codec = 1 then (decide (1 ≤ b % 32 ∧ b % 32 ≤ 23) || b % 32 == 28)
  else if codec = 2 then decide (b / 2 % 64 ≤ 49)
  else true

/-- `n` bytes the video engines make, for draw `z`. -/
def videoBytes (z n : Nat) : List Byte := (List.range n).map (fun i => Config.videoByte z i)

/-- The size of a picture in memory: 4:2:0, one or two bytes a sample. -/
def pictureBytes (w h : Nat) (ten : Bool) : Nat := w * h * 3 / 2 * (if ten then 2 else 1)

end Sys2Proof.Machine
end

