-- ==== Sys2Proof/Machine/Vdec.lean ====
section
/-! DEFINITION. Video decode contexts (chapter 13): packets and pictures (R218, R219, R225), decode, commit and rollback
(R220 to R224), references and key requests (R226, R227), the video swap (R222, R230) and the command window (R236). -/

namespace Sys2Proof.Machine

/-- Configuration bytes of a context record (Table 13-2). -/
def vdeCfg : RecMask := ⟨bytesAt 0 64, bitsAt 0 3 0 + bitsAt 1 3 0 + bitsAt 2 4 0 + bytesAt 3 1 + bitsAt 4 12 0 + bitsAt 6 2 0 +
  bytesAt 7 6 + bytesAt 14 4 + bitsAt 24 35 0 + bytesAt 32 4 + bytesAt 40 12 + bytesAt 52 8⟩

/-- TARGET. -/
def vdeLive : RecMask := ⟨bytesAt 64 1, bitsAt 64 3 0⟩

/-- Context record. -/
def Dev.vrec (d : Dev) (k : Nat) : Nat := tat 0 d.vde.recs k
/-- Context record replaced. -/
def Dev.setVrec (d : Dev) (k r : Nat) : Dev := { d with vde := { d.vde with recs := tset 0 d.vde.recs k r } }
/-- The rest of a context. -/
def Dev.vctx (d : Dev) (k : Nat) : VdeCtx := tat {} d.vde.ctxs k
/-- The rest of a context replaced. -/
def Dev.setVctx (d : Dev) (k : Nat) (x : VdeCtx) : Dev := { d with vde := { d.vde with ctxs := tset {} d.vde.ctxs k x } }
/-- Domain of a context. -/
def Dev.vdeDomain (d : Dev) (k : Nat) : Nat := d.fld (Reg.VDE_CTX_DOM (k / 8)) (4 * (k % 8) + 3) (4 * (k % 8))

/-- CODEC. -/
def vCodec (r : Nat) : Nat := rbits r 0 1 0
/-- CORE. -/
def vCore (r : Nat) : Nat := rbits r 1 3 0
/-- SOLO. -/
def vSolo (r : Nat) : Bool := rbits r 0 2 2 == 1
/-- LEG. -/
def vLeg (r : Nat) : Nat := rbits r 4 12 0
/-- STREAM. -/
def vStream (r : Nat) : Nat := rbits r 6 2 0
/-- STATE. -/
def vState (r : Nat) : Nat := rbits r 65 1 0
/-- REF_VALID. -/
def vRefs (r : Nat) : Nat := rf r 66 2

/-- PENDING shows the pictures that wait to start. -/
def Dev.vPending (d : Dev) (k : Nat) : Dev :=
  let n := ((d.vctx k).str.pics.filter (fun p => p.ready.isSome && p.core.isNone && !p.ended && !p.dead)).length
  d.setVrec k (rset (d.vrec k) 73 1 n)

/-- A context's stream replaced, pictures that have ended making way. -/
def Dev.setPics (d : Dev) (k : Nat) (l : List Picture) : Dev :=
  let x := d.vctx k
  (d.setVctx k { x with str := { x.str with pics := l }.pop }).vPending k

/-- A counter of a record and the one over all contexts. -/
def Dev.vCount (d : Dev) (k off reg : Nat) : Dev := (d.setVrec k (rcount (d.vrec k) off)).count reg

/-- A PLI or FIR of a context (Table 13-3). -/
def Dev.vAsk (d : Dev) (k : Nat) : Dev :=
  let r := d.vrec k
  let a := (d.vctx k).ask
  let fir := rbits r 7 7 0
  let d := if a.isFir fir then d.vCount k 108 Reg.VDE_FIR else d.vCount k 104 Reg.VDE_PLI
  (d.postRequest (vLeg r) (vStream r) fir a).setVctx k { d.vctx k with ask := a.made d.tim.round fir }

/-- A request of a context when PLI_INT rounds have passed. -/
def Dev.vAskDue (d : Dev) (k : Nat) : Dev :=
  if (d.vctx k).ask.isDue d.tim.round (rf (d.vrec k) 16 2) then d.vAsk k else d

/-- RUN to WAIT_KEY (assumption 80). -/
def Dev.vKeyWait (d : Dev) (k : Nat) : Dev :=
  if vState (d.vrec k) = 2 then
    let d := (d.setVrec k (rsetBits (d.vrec k) 65 1 0 1)).raise Ev.VDE_KEY_WAIT k (d.vdeDomain k)
    let x := d.vctx k
    (d.setVctx k { x with recover := false, ask := { x.ask with plis := 0 } }).vAskDue k
  else d

/-- Address of the bitstream ring. -/
def vRing (r : Nat) : Nat × Nat := (rf r 40 8, rf r 48 4)

/-- The header of a picture, once its first packet is held; `first` is the sequence number expected. -/
def Dev.vHeader (d : Dev) (k : Nat) (first : Option Nat) (p : Picture) : Option Config.PicHeader :=
  let r := d.vrec k
  match p.pkts with
  | x :: _ => if p.hasFirst first then some (Config.picHeader (vCodec r) p.z (d.ringPeek (vRing r).1 (vRing r).2 x.off x.len)) else none
  | [] => none

/-- REF_VALID after a picture that will not be shown (R226). -/
def Dev.vClearRefs (d : Dev) (k : Nat) (h : Option Config.PicHeader) (p : Picture) : Dev :=
  let r := d.vrec k
  let keep := match h with
    | some x => 65535 - x.refresh.toNat
    | none => if vCodec r = 3 ∧ Config.chainIntact p.z then 65535 else 0
  let own := match p.slot with
    | some s => 2 ^ s.1
    | none => 0
  d.setVrec k (rset r 66 2 (vRefs r &&& keep &&& (65535 - own)))

/-- Picture `ts` of a context ends without a commit: its core and slot are free. -/
def Dev.vEnd (d : Dev) (k : Nat) (p : Picture) : Dev :=
  let d := match p.core with
    | some c => d.rest (Reg.VDE_CORE_BUSY c)
    | none => d
  d.setPics k ((d.vctx k).str.pics.map (fun q => if q.ts = p.ts then { q with dead := true, core := none, slot := none, stuck := false } else q))

/-- A picture lost or rolled back (R224 to R227). -/
def Dev.vFail (d : Dev) (k : Nat) (first : Option Nat) (p : Picture) : Dev :=
  let h := d.vHeader k first p
  let d := (d.vClearRefs k h p).vEnd k p
  if h.all (fun x => x.reference) then d.vKeyWait k else d

/-- A picture rolled back: counted, with event `ev` (R224). -/
def Dev.vRollback (d : Dev) (k : Nat) (first : Option Nat) (p : Picture) (ev : Nat) : Dev :=
  ((d.vCount k 92 Reg.VDE_ROLLBACKS).raise ev k (d.vdeDomain k)).vFail k first p

/-- A picture skipped (R226). -/
def Dev.vSkip (d : Dev) (k : Nat) (h : Config.PicHeader) (p : Picture) : Dev :=
  ((((d.vCount k 100 Reg.VDE_SKIPPED).vClearRefs k (some h) p).vEnd k p)).vKeyWait k

/-! ### Arrival -/

/-- A context takes packets of a leg's stream. -/
def Dev.vdeTakes (d : Dev) (k l s : Nat) : Bool :=
  let r := d.vrec k
  vState r != 0 && vLeg r == l && vStream r == s

/-- Contexts that take packets of a leg's stream (R219). -/
def Dev.vdeWants (d : Dev) (l s : Nat) : List Nat :=
  if d.regionOff 40 then [] else (d.vde.recs.map (fun e => e.1)).filter (fun k => d.vdeTakes k l s)

/-- Backlog (R226): every picture is discarded (assumption 80). -/
def Dev.vBacklog (d : Dev) (k : Nat) : Dev :=
  let l := (d.vctx k).str.pics
  if (rbits (d.vrec k) 73 7 0) ≤ rbits (d.vrec k) 3 7 0 then d
  else
    let d := d.forEach (l.filter (fun p => !p.dead)) (fun d p => d.vEnd k p)
    let d := (d.setVrec k (rset (d.vrec k) 66 2 0)).raise Ev.VDE_BACKLOG k (d.vdeDomain k)
    d.vKeyWait k

/-- Pictures that are complete become ready, in order; HOLD_MS starts for those a later picture has overtaken, and NACK_EN
posts what they miss (R225) (assumption 80). -/
def Dev.vReady (d : Dev) (k : Nat) : Dev :=
  let s := (d.vctx k).str
  let e := s.expected
  let nacks := newHolds e
  let d := if nacks ≠ [] ∧ rbits (d.vrec k) 0 3 3 = 1 then d.tellVadjaryn (.nack (vLeg (d.vrec k)) (vStream (d.vrec k)) nacks) else d
  let held := (startHolds e).zip (e.map (fun x => x.1))
  let news := (held.filter (fun x => x.1.ready.isNone && !x.1.dead && x.1.whole x.2)).map (fun x => x.1.ts)
  let n := d.vde.order
  let d := { d with vde := { d.vde with order := n + news.length } }
  let pics := held.map (fun (x : Picture × Option Nat) => if x.1.ts ∈ news then { x.1 with ready := some (n + news.idxOf x.1.ts) } else x.1)
  (d.setPics k pics).vBacklog k

/-- A packet of a picture of context `k` is discarded: the picture counts as having a missing packet. -/
def Dev.vShort (d : Dev) (k ts seq z : Nat) : Dev :=
  let x := d.vctx k
  d.setPics k (onPicture ts seq { ts := ts, z := z } (fun p => { p with short := true }) x.str.pics)

/-- A packet reaches a context (R218, R219, R225). -/
def Dev.vArrive (d : Dev) (k chain seq ts : Nat) (marker : Bool) (payload : List Byte) (verified : Bool) : Dev :=
  let r := d.vrec k
  let x := d.vctx k
  let (z, d) := d.draw
  if x.str.stale seq ts then (if rtpTaken (vCodec r) payload then d else d.count Reg.VDE_UNSUP_PKT)
  else if rtpTaken (vCodec r) payload = false then (d.count Reg.VDE_UNSUP_PKT).vShort k ts seq z
  else if (vRing r).2 < x.str.bytes + payload.length then (d.vCount k 96 Reg.VDE_LOST).vShort k ts seq z
  else
    let pk : VidPkt := ⟨seq, chain, x.put, payload.length, marker, verified⟩
    let d := d.streamPut 2 (d.vdeDomain k) (vRing r).1 (vRing r).2 x.put payload
    let d := d.setVctx k { d.vctx k with put := (x.put + payload.length) % max 1 (vRing r).2 }
    let d := d.setPics k (onPicture ts seq { ts := ts, z := z } (fun p => { p with pkts := addPkt pk p.pkts }) x.str.pics)
    d.vReady k

/-- A video packet reaches every context that names its leg and stream; the chain's share goes back (R114, R219). -/
def Dev.vdeArrive (d : Dev) (l s chain seq ts : Nat) (marker : Bool) (payload : List Byte) (verified : Bool) : Dev :=
  (d.forEach (d.vdeWants l s) (fun d k => d.vArrive k chain seq ts marker payload verified)).giveBack 39 chain

/-! ### Commit (R223) and verdicts (R224) -/

/-- The head picture of a context commits once its decode has ended and every packet has passed. -/
def Dev.vCommit (d : Dev) (k : Nat) : Dev :=
  match (d.vctx k).str.expected with
  | (f, p) :: _ =>
    match p.slot, d.vHeader k f p with
    | some (slot, _), some h =>
      if p.ended && !p.dead && p.pkts.all (fun x => x.verified) then
        let r := d.vrec k
        let refs := (if h.key then 0 else vRefs r &&& (65535 - h.refresh.toNat) &&& (65535 - 2 ^ slot)) + (if h.reference then 2 ^ slot else 0)
        let r := rset (rset (rset r 66 2 refs) 68 4 ((rf r 68 4 + 1) % 2 ^ 32)) 72 1 slot
        let r := rset (rset (rset r 74 1 (min h.layer (rbits r 64 1 0))) 76 4 p.ts) 80 4 d.round32
        let r := rcount (rset r 84 4 (h.width % 2 ^ 16 + 2 ^ 16 * (h.height % 2 ^ 16))) 88
        let x := d.vctx k
        let d := (d.setVrec k r).setVctx k { x with copy := !x.copy, shown := true, recover := false, unsup := x.unsup && !h.key }
        let d := if x.recover then d.raise Ev.VDE_RECOVERED k (d.vdeDomain k) else d
        d.setPics k ((d.vctx k).str.pics.map (fun q => if q.ts = p.ts then { q with dead := true } else q))
      else d
    | _, _ => d
  | [] => d

/-- The verdict of a packet reaches a context. -/
def Dev.vVerdict (d : Dev) (k chain : Nat) (ok : Bool) : Dev :=
  match (d.vctx k).str.expected.find? (fun e => !e.2.dead && e.2.pkts.any (fun x => x.chain == chain && !x.verified)) with
  | none => d
  | some (f, p) =>
    if ok then
      let upd (q : Picture) : Picture := { q with pkts := q.pkts.map (fun x => if x.chain = chain then { x with verified := true } else x) }
      (d.setPics k ((d.vctx k).str.pics.map (fun q => if q.ts = p.ts then upd q else q))).vCommit k
    else d.vRollback k f p Ev.VDE_ROLLBACK

/-- The verdict of a packet of a leg's stream. -/
def Dev.vdeVerdict (d : Dev) (l s chain : Nat) (ok : Bool) : Dev := d.forEach (d.vdeWants l s) (fun d k => d.vVerdict k chain ok)

/-! ### Decode (R220) -/

/-- Slots of a context that compositors read (R243). -/
def Dev.heldSlots (d : Dev) (k : Nat) : List Nat :=
  d.cmp.cis.flatMap (fun e => ((e.2.frame.map (fun f => f.holds)).getD []).filterMap (fun h => if h.1 = k then some h.2 else none))

/-- Slots a decode may take (R223, R229): not a reference, not the newest output, not being written, not being read
(assumption 79) (assumption 79). -/
def Dev.freeSlots (d : Dev) (k : Nat) : List Nat :=
  let r := d.vrec k
  let x := d.vctx k
  let held := d.heldSlots k
  (List.range (rbits r 2 4 0)).filter (fun j => !(vRefs r).testBit j && !(x.shown && rbits r 72 7 0 == j) &&
    x.str.pics.all (fun p => p.slot.all (fun s => s.1 != j)) && !held.contains j)

/-- A picture may start on core `c`: the head of its context's stream, ready, or begun under SOLO. -/
def Dev.vStartable (d : Dev) (c k : Nat) : Option (Option Nat × Picture) :=
  let r := d.vrec k
  if vState r = 0 ∨ vCore r ≠ c then none
  else match (d.vctx k).str.expected with
    | (f, p) :: _ => if p.core.isNone && !p.ended && !p.dead && (p.ready.isSome || (vSolo r && p.hasFirst f)) then some (f, p) else none
    | [] => none

/-- A core has a picture in hand. -/
def Dev.coreBusy (d : Dev) (c : Nat) : Bool := d.vde.ctxs.any (fun e => e.2.str.pics.any (fun p => p.core == some c))

/-- The context whose picture starts next on a core: the one ready first, the lower context first at a tie (R220). -/
def Dev.vNext (d : Dev) (c : Nat) : Option Nat :=
  let l := (d.vde.ctxs.map (fun e => e.1)).filter (fun k => (d.vStartable c k).isSome)
  let key (k : Nat) : Nat := ((d.vStartable c k).bind (fun e => e.2.ready)).getD 0
  l.foldl (fun b k => match b with
    | some j => if key k < key j then some k else b
    | none => some k) none

/-- VDE_UNSUPPORTED, once per key picture (R227) (assumption 80). -/
def Dev.vUnsupported (d : Dev) (k : Nat) (h : Config.PicHeader) (p : Picture) : Dev :=
  let x := d.vctx k
  let d := if x.unsup && !h.key then d else (d.setVctx k { x with unsup := true }).raise Ev.VDE_UNSUPPORTED k (d.vdeDomain k)
  d.vSkip k h p

/-- A picture outside Table 13-1 or the size limits (R217, R227) (assumption 79). -/
def vTooMuch (r : Nat) (h : Config.PicHeader) : Bool :=
  !h.tools || decide (rf r 8 2 < h.width ∨ rf r 10 2 < h.height ∨ 4096 < h.width ∨ 2304 < h.height ∨ h.width < 64 ∨ h.height < 64 ∨
    h.width % 2 = 1 ∨ h.height % 2 = 1)

/-- The head picture of a context starts on its core, or is skipped, or waits for a slot (assumption 79). -/
def Dev.vStart (d : Dev) (c k : Nat) (p : Picture) (h : Config.PicHeader) : Dev :=
  let r := d.vrec k
  let refs := if h.key then 0 else h.refs.toNat
  if rbits r 64 3 2 < h.temporal then d.vEnd k p
  else if vTooMuch r h then d.vUnsupported k h p
  else if refs &&& vRefs r ≠ refs then d.vSkip k h p
  else
    let upd (d : Dev) (f : Picture → Picture) : Dev := d.setPics k ((d.vctx k).str.pics.map (fun q => if q.ts = p.ts then f q else q))
    match d.freeSlots k with
    | [] =>
      let d := upd d (fun q => { q with stuck := true })
      if d.vde.slotMark then d else { d with vde := { d.vde with slotMark := true } }.raise Ev.VDE_NO_SLOT k (d.vdeDomain k)
    | l =>
      let (z, d) := d.draw
      let j := l.getD (Config.freeSlot z % l.length) 0
      let d := (upd d (fun q => { q with core := some c, slot := some (j, rbits r 24 35 0 + j * rf r 32 4), stuck := false })).work (Reg.VDE_CORE_BUSY c)
      if vState r = 1 then
        (d.setVrec k (rsetBits (d.vrec k) 65 1 0 2)).setVctx k { d.vctx k with recover := true }
      else d

/-- DECODE_START (R220): a free core takes its next picture. -/
def decodeStartEffect (c : Nat) (d : Dev) : Dev :=
  if d.regionOff 40 ∨ d.coreBusy c then d
  else match d.vNext c with
    | none => d
    | some k =>
      match d.vStartable c k with
      | some (f, p) =>
        match d.vHeader k f p with
        | some h => d.vStart c k p h
        | none => d
      | none => d

/-- DECODE_START. -/
def execDecodeStart (core : Fin 16) (s : State) : Host.Outcome State Fault Refusal := s.run (decodeStartEffect core)

/-- A line of a context's ring read poisoned (R316). -/
def Dev.vPoisoned (d : Dev) (r : Nat) : Bool :=
  d.dmc.poison.any (fun e => e.1 == 2 && decide ((vRing r).1 ≤ 64 * e.2 ∧ 64 * e.2 < (vRing r).1 + (vRing r).2))

/-- DECODE_END (R223, R224): the decode of the picture on a core ends; under SOLO only once the picture is complete. -/
def decodeEndEffect (c : Nat) (d : Dev) : Dev :=
  match d.vde.ctxs.find? (fun e => e.2.str.pics.any (fun p => p.core == some c)) with
  | none => d
  | some (k, x) =>
    match x.str.expected.find? (fun e => e.2.core == some c) with
    | none => d
    | some (f, p) =>
      match p.slot, d.vHeader k f p with
      | some (_, addr), some h =>
        if p.whole f = false then d
        else
          let r := d.vrec k
          let dom := d.vdeDomain k
          let bad := d.vPoisoned r
          let (payloads, d) := d.pictureGet 2 dom (vRing r).1 (vRing r).2 p.pkts
          if bad ∨ Config.bitstreamOk (vCodec r) p.z payloads = false then d.vRollback k f p Ev.VDE_BITSTREAM
          else
            let (z, d) := d.draw
            let d := d.dramPut 2 dom addr (videoBytes z (min (rf r 32 4) (pictureBytes h.width h.height h.ten)))
            let (z, d) := d.draw
            let d := d.dramPut 2 dom (rf r 52 8 + if x.copy then 0 else 65536) (videoBytes z 65536)
            let d := d.setPics k ((d.vctx k).str.pics.map (fun q => if q.ts = p.ts then { q with core := none, ended := true } else q))
            (d.rest (Reg.VDE_CORE_BUSY c)).vCommit k
      | _, _ => d

/-- DECODE_END. -/
def execDecodeEnd (core : Fin 16) (s : State) : Host.Outcome State Fault Refusal := s.run (decodeEndEffect core)

/-- VDE_PIC_LOST (R225): HOLD_MS of a context's oldest incomplete picture ends. -/
def vdePicLostEffect (k : Nat) (d : Dev) : Dev :=
  match (d.vctx k).str.expected.find? (fun e => e.2.hold && !e.2.dead && !e.2.ended && !e.2.whole e.1) with
  | none => d
  | some (f, p) =>
    let d := d.vCount k 96 Reg.VDE_LOST
    let d := if k ∈ d.vde.lostMark then d
      else { d with vde := { d.vde with lostMark := addMark d.vde.lostMark k } }.raise Ev.VDE_PIC_LOST k (d.vdeDomain k)
    (d.vFail k f p).vReady k

/-- VDE_PIC_LOST. -/
def execVdePicLost (ctx : Fin 1024) (s : State) : Host.Outcome State Fault Refusal := s.run (vdePicLostEffect ctx)

/-! ### OFF and on (Table 13-3), the video swap (R219, R222, R230) -/

/-- A context turns OFF. -/
def Dev.vOff (d : Dev) (k : Nat) : Dev :=
  let x := d.vctx k
  let d := d.forEach (x.str.pics.filterMap (fun p => p.core)) (fun d c => d.rest (Reg.VDE_CORE_BUSY c))
  let d := d.setVctx k { ask := { fir := x.ask.fir } }
  d.setVrec k (rset (rsetBits (rset (d.vrec k) 66 2 0) 65 1 0 0) 73 1 0)

/-- A context leaves OFF: WAIT_KEY, and a PLI at once. -/
def Dev.vOn (d : Dev) (k : Nat) : Dev := (d.setVrec k (rset (rsetBits (d.vrec k) 65 1 0 1) 66 2 0)).vAsk k

/-- The conditions of R219 and R220 on a context. -/
def Dev.vOk (d : Dev) (k : Nat) : Bool :=
  let r := d.vrec k
  let dom := d.vdeDomain k
  let others := (d.vde.recs.filter (fun e => e.1 != k && vCodec e.2 != 0 && vCore e.2 == vCore r)).map (fun e => e.2)
  d.legDomain (vLeg r) == dom && d.inCarves dom (rbits r 24 35 0) (rbits r 2 4 0 * rf r 32 4) &&
    d.inCarves dom (rf r 40 8) (rf r 48 4) && d.inCarves dom (rf r 52 8) 131072 &&
    (if vSolo r then others.isEmpty else others.all (fun e => !vSolo e))

/-- A context with CODEC set is turned on, or stays OFF with VDE_CFG_ERR. -/
def Dev.vTry (d : Dev) (k : Nat) : Dev := if d.vOk k then d.vOn k else d.raise Ev.VDE_CFG_ERR k (d.vdeDomain k)

/-- What of a record a change of applies as OFF and on again (R230): CODEC, CORE, DPB_SLOTS, SLOT_BYTES and the base
addresses. -/
def vFixed (r : Nat) : List Nat := [vCodec r, vCore r, rbits r 2 4 0, rf r 32 4, rf r 24 8, rf r 40 8, rf r 52 8]

/-- A context at a video swap; `old` is its record of before. -/
def Dev.vSwap (d : Dev) (k old : Nat) : Dev :=
  let r := d.vrec k
  let d := if vState old ≠ 0 ∧ (vCodec r = 0 ∨ vFixed r ≠ vFixed old) then d.vOff k else d
  if vCodec r ≠ 0 ∧ vState (d.vrec k) = 0 then d.vTry k else d

/-- Sixteenths of the factor f of R222 for 1, 2 or 3 spatial layers. -/
def loadFactor (layers : Nat) : Nat := if layers ≤ 1 then 16 else if layers = 2 then 20 else 21

/-- Declared load of a decode core in luma samples per second, times 16 (R222). -/
def Dev.vLoad (d : Dev) (c : Nat) : Nat :=
  ((d.vde.recs.filter (fun e => vState e.2 != 0 && vCore e.2 == c)).map (fun e =>
    rf e.2 8 2 * rf e.2 10 2 * rbits e.2 12 7 0 * loadFactor (if vCodec e.2 = 3 then rbits e.2 64 1 0 + 1 else 1))).sum

/-- VDE at a video swap. -/
def Dev.vdeSwap (d : Dev) : Dev :=
  let old := d.vde.recs
  let d := { d with vde := { d.vde with recs := tableSwap 0 vdeCfg d.vde.recs d.vde.recSh } }
  let d := d.forEach (d.vde.recs.map (fun e => e.1)) (fun d k => d.vSwap k (tat 0 old k))
  d.forEach (List.range 16) (fun d c =>
    let n := d.vLoad c
    let d := d.setFld (Reg.VDE_CORE_DECL c) 15 0 (min 65535 (n / 16000000))
    if 500 * 16000000 < n then d.raise Ev.VDE_OVERCOMMIT c else d)

/-- VDE at a round tick: marks end, pictures that found no slot are skipped unless one is free (R229), contexts that RESET
turned OFF come back, requests are made (R227). -/
def Dev.vdeRound (d : Dev) : Dev :=
  let d := { d with vde := { d.vde with lostMark := [], slotMark := false } }
  let d := d.forEach (d.vde.ctxs.map (fun e => e.1)) (fun d k =>
    match (d.vctx k).str.expected with
    | (f, p) :: _ =>
      match d.vHeader k f p with
      | some h => if p.stuck && (d.freeSlots k).isEmpty then d.vSkip k h p else d
      | none => d
    | [] => d)
  let d := d.forEach (d.vde.recs.map (fun e => e.1)) (fun d k =>
    if (d.vctx k).reset then
      let d := d.setVctx k { d.vctx k with reset := false }
      if vCodec (d.vrec k) ≠ 0 ∧ vState (d.vrec k) = 0 then d.vTry k else d
    else if vState (d.vrec k) = 1 then d.vAskDue k else d)
  d.forEach (List.range 16) (fun d c => d.busyTick (Reg.VDE_CORE_BUSY c))

/-! ### Commands (R236) -/

/-- A VDE command of window `w`: DOMAIN (1) outside its contexts; the answer of `f` is the result. -/
def Dev.vdeWindow (d : Dev) (q : Requester) (w : Nat) (v : Word) (f : Nat → Dev → Dev × Nat) : Dev :=
  d.window q 40 w none (fun _ d =>
    let i := wfld v 9 0
    let p := if w ≠ 0 ∧ d.vdeDomain i ≠ w then (d, 1) else f i d
    p.1.setReg (Reg.VDE_CMD_STAT w) (w32 p.2))

/-- VDE_READ_ACTIVE. -/
def vdeReadActiveEffect (q : Requester) (w : Nat) (v : Word) (d : Dev) : Dev :=
  d.vdeWindow q w v (fun i d => (d.setRegsNat (Reg.VDE_REC w 0) (d.vrec i) 32, 0))

/-- VDE_READ_ACTIVE (R236). -/
def execVdeReadActive (q : Requester) (w : Fin 16) (v : Word) (s : State) : Host.Outcome State Fault Refusal :=
  s.run (vdeReadActiveEffect q w v)

/-- VDE_READ_SHADOW. -/
def vdeReadShadowEffect (q : Requester) (w : Nat) (v : Word) (d : Dev) : Dev :=
  d.vdeWindow q w v (fun i d => (d.setRegsNat (Reg.VDE_REC w 0) (vdeCfg.view (d.vrec i) (tat 0 d.vde.recSh i)) 32, 0))

/-- VDE_READ_SHADOW (R236). -/
def execVdeReadShadow (q : Requester) (w : Fin 16) (v : Word) (s : State) : Host.Outcome State Fault Refusal :=
  s.run (vdeReadShadowEffect q w v)

/-- The ranges of Table 13-2 for a context that is not off. -/
def vdeRange (r : Nat) : Bool :=
  vCodec r == 0 || decide (2 ≤ rbits r 2 4 0 ∧ rbits r 2 4 0 ≤ 16 ∧ 1 ≤ rbits r 3 7 0 ∧ rbits r 3 7 0 ≤ 16 ∧ 1 ≤ rbits r 12 7 0 ∧
    rbits r 12 7 0 ≤ 120 ∧ rf r 14 2 ≤ 1000 ∧ 1 ≤ rf r 16 2 ∧ rf r 24 8 % 4096 = 0 ∧ rf r 32 4 % 4096 = 0 ∧ rf r 40 8 % 4096 = 0 ∧
    rf r 48 4 % 4096 = 0 ∧ 65536 ≤ rf r 48 4 ∧ rf r 48 4 ≤ 2 ^ 26 ∧ rf r 52 8 % 4096 = 0)

/-- WRITE_CFG: BAD (2) for a reserved bit or a value out of range, SEALED (3) under a seal. -/
def Dev.vdeWriteCfg (d : Dev) (w i : Nat) : Dev × Nat :=
  let r := d.regsNat (Reg.VDE_REC w 0) 32
  if vdeCfg.bad r || !vdeRange r then (d, 2)
  else if d.sealed 40 then (d.sealDrop 40 (blockOffset (Reg.VDE_CMD w)), 3)
  else ({ d with vde := { d.vde with recSh := tset 0 d.vde.recSh i (vdeCfg.take (tat 0 d.vde.recSh i) r) } }, 0)

/-- VDE_WRITE_CFG. -/
def vdeWriteCfgEffect (q : Requester) (w : Nat) (v : Word) (d : Dev) : Dev := d.vdeWindow q w v (fun i d => d.vdeWriteCfg w i)

/-- VDE_WRITE_CFG (R236). -/
def execVdeWriteCfg (q : Requester) (w : Fin 16) (v : Word) (s : State) : Host.Outcome State Fault Refusal :=
  s.run (vdeWriteCfgEffect q w v)

/-- VDE_WRITE_LIVE: TARGET. -/
def vdeWriteLiveEffect (q : Requester) (w : Nat) (v : Word) (d : Dev) : Dev :=
  d.vdeWindow q w v (fun i d =>
    let r := d.regsNat (Reg.VDE_REC w 0) 32
    if vdeLive.bad r then (d, 2) else (d.setVrec i (vdeLive.take (d.vrec i) r), 0))

/-- VDE_WRITE_LIVE (R236). -/
def execVdeWriteLive (q : Requester) (w : Fin 16) (v : Word) (s : State) : Host.Outcome State Fault Refusal :=
  s.run (vdeWriteLiveEffect q w v)

/-- VDE_RESET: OFF at once, and on again at the next round boundary. -/
def vdeResetEffect (q : Requester) (w : Nat) (v : Word) (d : Dev) : Dev :=
  d.vdeWindow q w v (fun i d =>
    let d := d.vOff i
    (d.setVctx i { d.vctx i with reset := true }, 0))

/-- VDE_RESET (R236). -/
def execVdeReset (q : Requester) (w : Fin 16) (v : Word) (s : State) : Host.Outcome State Fault Refusal :=
  s.run (vdeResetEffect q w v)

end Sys2Proof.Machine
end

