-- ==== Sys2Proof/Machine/Compose.lean ====
section
/-! DEFINITION. Compositors (chapter 14): layers (R240, R241), frames and surfaces (R243 to R245), commits (R41, R247) and the
flatten cache (R248, R249). -/

namespace Sys2Proof.Machine

/-- An instance. -/
def Dev.ci (d : Dev) (i : Nat) : Ci := tat {} d.cmp.cis i
/-- An instance replaced. -/
def Dev.setCi (d : Dev) (i : Nat) (x : Ci) : Dev := { d with cmp := { d.cmp with cis := tset {} d.cmp.cis i x } }
/-- Domain of an instance. -/
def Dev.ciDomain (d : Dev) (i : Nat) : Nat := d.fld (Reg.CMP_CI_CFG i) 31 28
/-- Layers of an instance; 0 means it does not exist (R237). -/
def Dev.ciLayers (d : Dev) (i : Nat) : Nat := d.fld (Reg.CMP_CI_CFG i) 23 20
/-- Pixel pipe of an instance. -/
def Dev.ciPipe (d : Dev) (i : Nat) : Nat := d.fld (Reg.CMP_CI_CFG i) 26 24
/-- Output width. -/
def Dev.ciW (d : Dev) (i : Nat) : Nat := d.fld (Reg.CMP_CI_SIZE i) 15 0
/-- Output height. -/
def Dev.ciH (d : Dev) (i : Nat) : Nat := d.fld (Reg.CMP_CI_SIZE i) 31 16
/-- P010 output. -/
def Dev.ciTen (d : Dev) (i : Nat) : Bool := d.bit (Reg.CMP_CI_CFG i) 16
/-- The instance exists and is enabled. -/
def Dev.ciOn (d : Dev) (i : Nat) : Bool := d.bit (Reg.CMP_CI_CTL i) 31 && d.ciLayers i != 0
/-- FPS_DIV; 0 acts as 1 (assumption 83). -/
def Dev.ciDiv (d : Dev) (i : Nat) : Nat := max 1 (d.fld (Reg.CMP_CI_CTL i) 2 0)

/-- A cadence of rounds starts a frame in round `m` (R60). -/
def onCadence (m div phase : Nat) : Bool := (m + 8 * div - phase) % div == 0

/-- The instance uses round `m` (R244). -/
def Dev.ciUses (d : Dev) (i m : Nat) : Bool := onCadence m (d.ciDiv i) (d.fld (Reg.CMP_CI_CTL i) 6 4)

/-- An active layer descriptor (Table 14-1). -/
def Dev.layer (d : Dev) (i l : Nat) : Nat := d.regsNat (Reg.CMP_LAYER i l 0) 16

/-- KIND of a descriptor. -/
def lKind (r : Nat) : Nat := rbits r 0 1 0
/-- STATIC. -/
def lStatic (r : Nat) : Bool := rbits r 0 2 2 == 1
/-- A 4:2:0 source. -/
def l420 (r : Nat) : Bool := lKind r == 1 || rbits r 1 1 0 != 2
/-- CTX. -/
def lCtx (r : Nat) : Nat := rbits r 4 9 0
/-- Source size: of the surface, or MAX_W × MAX_H of the context. -/
def Dev.lSource (d : Dev) (r : Nat) : Nat × Nat := if lKind r = 1 then (rf (d.vrec (lCtx r)) 8 2, rf (d.vrec (lCtx r)) 10 2) else (rf r 36 2, rf r 38 2)

/-- Bits of a descriptor that are not reserved. -/
def layerBits : Nat := bitsAt 0 3 0 + bitsAt 1 1 0 + bytesAt 2 1 + bitsAt 4 9 0 + bytesAt 8 16 + bitsAt 24 35 0 + bytesAt 32 11

/-- A length scaled from `c` to `t` lies within 1/4 to 4. -/
def scaleOk (t c : Nat) : Bool := decide (0 < c ∧ 0 < t ∧ c ≤ 4 * t ∧ t ≤ 4 * c)

/-- The conditions of R241. -/
def Dev.layerBad (d : Dev) (i r : Nat) : Bool :=
  let s := d.lSource r
  let odd (l : List Nat) : Bool := l.any (fun v => v % 2 == 1)
  r != r &&& layerBits || lKind r == 3 || (lKind r == 2 && rbits r 1 1 0 == 3) ||
    decide (s.1 < rf r 8 2 + rf r 12 2 ∨ s.2 < rf r 10 2 + rf r 14 2) ||
    decide (d.ciW i < rf r 16 2 + rf r 20 2 ∨ d.ciH i < rf r 18 2 + rf r 22 2) ||
    !scaleOk (rf r 20 2) (rf r 12 2) || !scaleOk (rf r 22 2) (rf r 14 2) ||
    odd [rf r 16 2, rf r 18 2, rf r 20 2, rf r 22 2] ||
    (l420 r && odd [rf r 8 2, rf r 10 2, rf r 12 2, rf r 14 2, s.1, s.2]) ||
    (lKind r == 1 && d.vdeDomain (lCtx r) != d.ciDomain i)

/-- First layer of the flatten run: layers from it up have STATIC set (R248); LAYERS when there is none. -/
def Dev.runStart (d : Dev) (i : Nat) : Nat :=
  let n := d.ciLayers i
  n - ((List.range n).reverse.takeWhile (fun l => lStatic (d.layer i l))).length

/-- Bad layers are counted at each frame and reported once per commit (R241). -/
def Dev.reportBad (d : Dev) (i l : Nat) : Dev :=
  let d := d.count Reg.CMP_LAYER_BAD_CNT
  let x := d.ci i
  if l ∈ x.badMark then d
  else (d.setCi i { x with badMark := addMark x.badMark l }).raise Ev.CMP_LAYER_BAD i (d.ciDomain i) [b8 l]

/-- A decode context has a picture to show (R243). -/
def Dev.showing (d : Dev) (k : Nat) : Bool := vState (d.vrec k) != 0 && (d.vctx k).shown

/-- A layer as composed: its descriptor and whether it shows FILL. -/
def Dev.asPlan (d : Dev) (r : Nat) : Nat × Bool := (r, lKind r == 1 && !d.showing (lCtx r))

/-- Layers that compose, from `a` up to but not including `b`. -/
def Dev.goodLayers (d : Dev) (i a b : Nat) : List Nat :=
  (((List.range b).drop a).map (fun l => d.layer i l)).filter (fun r => lKind r != 0 && !d.layerBad i r)

/-- The box around destinations: x, y, width, height. -/
def boxOf (l : List Nat) : Nat × Nat × Nat × Nat :=
  let lo (f : Nat → Nat) : Nat := l.foldl (fun m r => min m (f r)) 65536
  let hi (f : Nat → Nat) : Nat := l.foldl (fun m r => max m (f r)) 0
  if l = [] then (0, 0, 0, 0)
  else
    let x := lo (fun r => rf r 16 2)
    let y := lo (fun r => rf r 18 2)
    (x, y, hi (fun r => rf r 16 2 + rf r 20 2) - x, hi (fun r => rf r 18 2 + rf r 22 2) - y)

/-- Bytes of a picture or surface layer's source are read by the pixel pipes' port (assumption 84). -/
def Dev.readSource (d : Dev) (i : Nat) (p : Nat × Bool) : Dev :=
  let r := p.1
  let dom := d.ciDomain i
  if p.2 then d
  else if lKind r = 1 then
    let v := d.vrec (lCtx r)
    (d.dramGet 4 dom (rbits v 24 35 0 + rbits v 72 7 0 * rf v 32 4) (rf v 84 2 * rf v 86 2 * 3 / 2)).2
  else
    let px := if rbits r 1 1 0 = 2 then 4 else if rbits r 1 1 0 = 1 then 2 else 1
    let base := rbits r 24 35 0
    let stride := rf r 32 4
    let d := d.forEach (List.range (rf r 14 2)) (fun d y => (d.dramGet 4 dom (base + stride * (rf r 10 2 + y) + px * rf r 8 2) (px * rf r 12 2)).2)
    if l420 r then d.forEach (List.range (rf r 14 2 / 2)) (fun d y =>
      (d.dramGet 4 dom (base + stride * rf r 38 2 + stride * (rf r 10 2 / 2 + y) + px * rf r 8 2) (px * rf r 12 2)).2) else d

/-- Newest slots that layers of decode contexts read. -/
def Dev.slotsOf (d : Dev) (l : List (Nat × Bool)) : List (Nat × Nat) :=
  l.filterMap (fun p => if lKind p.1 = 1 && !p.2 then some (lCtx p.1, rbits (d.vrec (lCtx p.1)) 72 7 0) else none)

/-! ### Surfaces (R245) -/

/-- Bytes from one row of an output surface to the next. -/
def Dev.ciStride (d : Dev) (i : Nat) : Nat := (d.ciW i * (if d.ciTen i then 2 else 1) + 255) / 256 * 256

/-- Address of an output surface. -/
def Dev.ciSurf (d : Dev) (i j : Nat) : Nat :=
  d.fld (Reg.CMP_CI_SURF_LO i) 31 12 * 4096 + 2 ^ 32 * d.fld (Reg.CMP_CI_SURF_HI i) 3 0 +
    j * ((d.ciStride i * d.ciH i * 3 / 2 + 4095) / 4096 * 4096)

/-- Surface of the newest complete frame. -/
def Dev.ciNewest (d : Dev) (i : Nat) : Nat := d.fld (Reg.CMP_CI_STAT i) 26 24

/-- Surfaces of an instance that an encode context still reads. -/
def Dev.encReads (d : Dev) (i : Nat) : List Nat :=
  d.ven.ctxs.filterMap (fun e => if rbits (tat 0 d.ven.recs e.1) 5 5 0 = i then e.2.frame.bind (fun f => f.surf) else none)

/-- Surfaces of an instance that a display output scans. -/
def Dev.scanned (d : Dev) (i : Nat) : List Nat :=
  d.dpo.filterMap (fun e => if d.fld (Reg.DPO_CFG e.1) 27 22 = i then e.2.scan.map (fun s => s.1) else none)

/-- The surface a frame takes (assumption 83). -/
def Dev.pickSurf (d : Dev) (i : Nat) : Option Nat :=
  (List.range (d.fld (Reg.CMP_CI_CFG i) 15 12)).find? (fun j =>
    !((d.ci i).complete && d.ciNewest i == j) && !(d.scanned i).contains j && !(d.encReads i).contains j)

/-- Encode contexts that wait for an instance's frame of round `m` read surface `j`. -/
def Dev.giveSurf (d : Dev) (i m : Nat) (j : Option Nat) : Dev :=
  d.forEach (d.ven.ctxs.map (fun e => e.1)) (fun d k =>
    let x := tat ({} : VenCtx) d.ven.ctxs k
    match x.frame with
    | some f =>
      if rbits (tat 0 d.ven.recs k) 5 5 0 = i ∧ f.round = m ∧ f.surf = none then
        { d with ven := { d.ven with ctxs := tset {} d.ven.ctxs k { x with frame := some { f with surf := j } } } }
      else d
    | none => d)

/-! ### Frames -/

/-- Value of a component (0 luma, 1 Cb, 2 Cr) at a pixel, in 8 bits: none where sources or blending decide it (assumption 84). -/
def composed (bg : Word) (plan : List (Nat × Bool)) (c x y : Nat) : Option Nat :=
  plan.foldl (fun v p =>
    let r := p.1
    if rf r 16 2 ≤ x ∧ x < rf r 16 2 + rf r 20 2 ∧ rf r 18 2 ≤ y ∧ y < rf r 18 2 + rf r 22 2 then
      if rf r 2 1 = 0 then v else if p.2 && rf r 2 1 == 255 then some (rf r (40 + c) 1) else none
    else v) (some (wfld bg (8 * c + 7) (8 * c)))

/-- Bytes of a sample: 8 bits, or the 10 bits of P010 in bits [15:6] (assumption 84). -/
def sampleBytes (z i : Nat) (ten : Bool) (v : Option Nat) : List Byte :=
  match v, ten with
  | some n, false => [b8 n]
  | some n, true => leBytes 2 (n * 256)
  | none, false => [Config.videoByte z i]
  | none, true => leBytes 2 ((Config.videoByte z (2 * i)).toNat * 256 + (Config.videoByte z (2 * i + 1)).toNat / 64 * 64)

/-- A composed frame is written to its surface (R242, R245) (assumption 84). -/
def Dev.writeFrame (d : Dev) (i : Nat) (f : CmpFrame) : Dev :=
  let (z, d) := d.draw
  let w := d.ciW i
  let h := d.ciH i
  let bg := d.reg (Reg.CMP_CI_BG i)
  let ten := d.ciTen i
  let a := d.ciSurf i f.surf
  let d := d.forEach (List.range h) (fun d y => d.dramPut 5 (d.ciDomain i) (a + y * d.ciStride i)
    ((List.range w).flatMap (fun x => sampleBytes z (w * y + x) ten (composed bg f.plan 0 x y))))
  d.forEach (List.range (h / 2)) (fun d y => d.dramPut 5 (d.ciDomain i) (a + (h + y) * d.ciStride i)
    ((List.range w).flatMap (fun x => sampleBytes z (w * (h + y) + x) ten (composed bg f.plan (1 + x % 2) (x / 2 * 2) (2 * y)))))

/-- The flatten run is rendered into the cache, or stays without one (R248, R249): the run as composed from then on. -/
def Dev.rebuildRun (d : Dev) (i : Nat) : Dev :=
  let run := d.goodLayers i (d.runStart i) (d.ciLayers i)
  let b := boxOf run
  let n := 4 * b.2.2.1 * b.2.2.2
  let x := { d.ci i with rebuild := false }
  if run = [] then (d.setCi i { x with run := [] }).setBit (Reg.CMP_CI_STAT i) 30 false
  else if d.fld (Reg.CMP_CACHE_BYTES i) 31 0 < n then
    let d := (d.setCi i { x with run := [], smallMark := true }).setBit (Reg.CMP_CI_STAT i) 30 false
    if x.smallMark then d else d.raise Ev.CMP_CACHE_SMALL i (d.ciDomain i)
  else
    let plan := run.map d.asPlan
    let d := d.forEach plan (fun d p => d.readSource i p)
    let (z, d) := d.draw
    let d := d.dramPut 4 (d.ciDomain i) (d.fld (Reg.CMP_CACHE_LO i) 31 12 * 4096 + 2 ^ 32 * d.fld (Reg.CMP_CACHE_HI i) 3 0) (videoBytes z n)
    (d.setCi i { x with run := plan }).setBit (Reg.CMP_CI_STAT i) 30 true

/-- A frame starts on its pipe: its surface, cache, layers and slots; false when no surface qualifies. -/
def Dev.startFrame (d : Dev) (i : Nat) (f : CmpFrame) : Dev × Bool :=
  match d.pickSurf i with
  | none =>
    let d := (d.setCi i { d.ci i with frame := none }).count Reg.CMP_NO_SURF_CNT
    let d := d.giveSurf i f.round (if (d.ci i).complete then some (d.ciNewest i) else none)
    (if d.cmp.surfMark then d
      else { d with cmp := { d.cmp with surfMark := true } }.raise Ev.CMP_NO_SURF i (d.ciDomain i), false)
  | some j =>
    let n := d.ciLayers i
    let due := (d.ci i).rebuild
    let d := if due then d.rebuildRun i else d
    let valid := d.bit (Reg.CMP_CI_STAT i) 30
    let top := if valid then d.runStart i else n
    let bad := (List.range n).filter (fun l => lKind (d.layer i l) != 0 && d.layerBad i (d.layer i l) && (decide (l < top) || due))
    let d := d.forEach bad (fun d l => d.reportBad i l)
    let live := (d.goodLayers i 0 top).map d.asPlan
    let d := d.forEach live (fun d p => d.readSource i p)
    let plan := live ++ if valid then (d.ci i).run else []
    let held := d.slotsOf (if due && valid then plan else live)
    let d := d.setCi i { d.ci i with frame := some { f with running := true, surf := j, holds := held, plan := plan, rebuild := due && valid } }
    let d := d.giveSurf i f.round (some j)
    ((d.setFld (Reg.CMP_CI_STAT i) 11 0 0).work (Reg.CMP_PP_BUSY (d.ciPipe i)), true)

/-- An idle pipe takes its ready frames in order of round, then instance (R238), until one runs. -/
def Dev.pipeNext (d : Dev) (p : Nat) : Nat → Dev
  | 0 => d
  | n + 1 =>
    let mine := (List.range 64).filter (fun i => d.ciPipe i == p && (d.ci i).frame.isSome)
    let frame (i : Nat) : CmpFrame := (d.ci i).frame.getD ⟨0, false, 0, [], [], false⟩
    if mine.any (fun i => (frame i).running) then d
    else match mine.foldl (fun (b : Option Nat) i => match b with
        | some j => if (frame i).round < (frame j).round then some i else b
        | none => some i) none with
      | none => d
      | some i =>
        let r := d.startFrame i (frame i)
        if r.2 then r.1 else r.1.pipeNext p n

/-- Display outputs that never took the frame an instance now replaces count it (R254). -/
def Dev.dropCount (d : Dev) (i : Nat) : Dev :=
  d.forEach (List.range 2) (fun d o =>
    let x := tat ({} : Dpo) d.dpo o
    if d.fld (Reg.DPO_CFG o) 27 22 = i ∧ d.fld (Reg.DPO_STAT o) 2 0 = 3 ∧ (d.ci i).complete ∧
        x.scan.all (fun s => s.2 != (d.reg (Reg.CMP_CI_FRAME i)).toNat) then d.count (Reg.DPO_DROP o) else d)

/-- CMP_FRAME_DONE (R245): the last row of an instance's frame is written. -/
def cmpFrameDoneEffect (i : Nat) (d : Dev) : Dev :=
  match (d.ci i).frame with
  | none => d
  | some f =>
    if f.running = false then d
    else
      let d := (d.writeFrame i f).dropCount i
      let d := d.setCi i { d.ci i with frame := none, complete := true }
      let d := ((d.setFld (Reg.CMP_CI_STAT i) 26 24 f.surf).setFld (Reg.CMP_CI_STAT i) 11 0 0).setReg (Reg.CMP_CI_FRAME i) (w32 f.round)
      let d := if f.rebuild then (d.count Reg.CMP_REBUILDS).raise Ev.CMP_CACHE_REBUILT i (d.ciDomain i) else d
      (d.rest (Reg.CMP_PP_BUSY (d.ciPipe i))).pipeNext (d.ciPipe i) 64

/-- CMP_FRAME_DONE. -/
def execCmpFrameDone (inst : Fin 64) (s : State) : Host.Outcome State Fault Refusal := s.run (cmpFrameDoneEffect inst)

/-! ### Commits (R41, R247) -/

/-- What a commit may change of the flatten run: which layers form it, and their descriptors. -/
def Dev.runOf (d : Dev) (i : Nat) : Nat × List Nat := (d.runStart i, ((List.range (d.ciLayers i)).drop (d.runStart i)).map (fun l => d.layer i l))

/-- A commit applies (assumption 83). -/
def Dev.commitApply (d : Dev) (i : Nat) : Dev :=
  let before := d.runOf i
  let d := d.forEach (List.range (d.ciLayers i)) (fun d l =>
    d.forEach (List.range 16) (fun d k => d.setReg (Reg.CMP_LAYER i l k) (d.sh (Reg.CMP_LAYER i l k))))
  let x := d.ci i
  let d := d.setCi i { x with rebuild := x.rebuild || d.runOf i != before, badMark := [], smallMark := false, commitAt := none }
  let d := (d.setBit (Reg.CMP_COMMIT_STAT i) 31 false).setReg (Reg.CMP_COMMIT_AT i) (w32 d.round32)
  d.raise Ev.CMP_COMMIT_DONE i (d.ciDomain i)

/-- CMP_COMMIT.GO (R247): refused while the video blocks are off (R38), otherwise accepted. -/
def Dev.commitAccept (d : Dev) (i : Nat) : Dev :=
  if d.ciLayers i = 0 ∨ d.bit (Reg.CMP_COMMIT_STAT i) 31 then d
  else if d.ciOn i = false then d.commitApply i
  else
    let e := d.tim.round + if d.within true 1 4 then 2 else 1
    (d.setCi i { d.ci i with commitAt := some e }).setBit (Reg.CMP_COMMIT_STAT i) 31 true

/-- A register command on an instance: another domain's is ignored with CMP_DOMAIN. -/
def Dev.ciWindow (d : Dev) (q : Requester) (i : Nat) (f : Dev → Dev) : Dev :=
  d.by q (fun a d =>
    if a.mayUse (d.ciDomain i) = false then (if d.regionOff 42 then d else d.raise Ev.CMP_DOMAIN i a.dom)
    else f d)

/-- CMP_COMMIT. -/
def cmpCommitEffect (q : Requester) (i : Nat) (v : Word) (d : Dev) : Dev :=
  d.ciWindow q i (fun d =>
    if wbit v 0 = false then d
    else if d.power ≠ 0 then d.raise Ev.SWAP_POWER 4 (d.ciDomain i) (leBytes 2 i)
    else d.commitAccept i)

/-- CMP_COMMIT (R247). -/
def execCmpCommit (q : Requester) (inst : Fin 64) (v : Word) (s : State) : Host.Outcome State Fault Refusal :=
  s.run (cmpCommitEffect q inst v)

/-- CACHE_REBUILD (R249). -/
def cacheRebuildEffect (q : Requester) (i : Nat) (v : Word) (d : Dev) : Dev :=
  d.ciWindow q i (fun d => if wbit v 0 && !d.regionOff 42 then d.setCi i { d.ci i with rebuild := true } else d)

/-- CACHE_REBUILD. -/
def execCacheRebuild (q : Requester) (inst : Fin 64) (v : Word) (s : State) : Host.Outcome State Fault Refusal :=
  s.run (cacheRebuildEffect q inst v)

/-! ### The round (R239, R244) -/

/-- Composed destination area of an instance: the flatten run once, by its box (R238, R239). -/
def Dev.ciArea (d : Dev) (i : Nat) : Nat :=
  let area (r : Nat) : Nat := rf r 20 2 * rf r 22 2
  let s := d.runStart i
  let b := boxOf (d.goodLayers i s (d.ciLayers i))
  ((d.goodLayers i 0 s).map area).sum + b.2.2.1 * b.2.2.2

/-- Rounds per second as numerator and denominator. -/
def Dev.roundRate (d : Dev) : Nat × Nat := let p := d.period true; (10 ^ 9 * p.2, p.1)

/-- CMP at a video swap: declared loads, instances that leave OFF. -/
def Dev.cmpSwap (d : Dev) : Dev :=
  let d := d.forEach (List.range 64) (fun d i =>
    let on := d.ciOn i
    let x := d.ci i
    let d := if on ≠ x.on then d.setCi i { x with on := on, rebuild := x.rebuild || on } else d
    d.setBit (Reg.CMP_CI_STAT i) 31 on)
  let r := d.roundRate
  d.forEach (List.range 8) (fun d p =>
    let n := (((List.range 64).filter (fun i => d.ciOn i && d.ciPipe i == p)).map (fun i => d.ciArea i * r.1 / (r.2 * d.ciDiv i))).sum
    let d := d.setFld (Reg.CMP_PP_DECL p) 15 0 (min 65535 (n / 10 ^ 6))
    if 10 ^ 9 < n then d.raise Ev.CMP_OVERCOMMIT p else d)

/-- A frame falls due in an instance (assumption 83). -/
def Dev.ciFrameDue (d : Dev) (i : Nat) : Dev :=
  let x := d.ci i
  if x.frame.isSome then
    let d := d.count Reg.CMP_LATE_CNT
    if d.cmp.lateMark then d else { d with cmp := { d.cmp with lateMark := true } }.raise Ev.CMP_LATE i (d.ciDomain i)
  else d.setCi i { x with frame := some { round := d.tim.round } }

/-- CMP at a round tick: commits apply, frames fall due, idle pipes start. -/
def Dev.cmpRound (d : Dev) : Dev :=
  let d := { d with cmp := { d.cmp with lateMark := false, surfMark := false } }
  let d := d.forEach (List.range 64) (fun d i =>
    if (d.ci i).commitAt.any (fun e => decide (e ≤ d.tim.round)) && (d.ciUses i d.tim.round || !d.ciOn i) then d.commitApply i else d)
  let d := d.forEach ((List.range 64).filter (fun i => d.ciOn i && d.ciUses i d.tim.round)) Dev.ciFrameDue
  let d := d.forEach (List.range 8) (fun d p => d.pipeNext p 64)
  d.forEach (List.range 8) (fun d p => d.busyTick (Reg.CMP_PP_BUSY p))

end Sys2Proof.Machine
end

