-- ==== Sys2Proof/Machine/Dram.lean ====
section
/-! DEFINITION. The DRAM controllers' queues, refresh and open pages (R308 to R316). Memory itself takes a write when it is
accepted (R313), so queues decide only when counters, hazards and refreshes move. -/

namespace Sys2Proof.Machine

/-- Controller `k`. -/
def Dev.dmcUnit (d : Dev) (k : Nat) : DmcUnit := tat {} d.dmc.units k

/-- Controller `k` replaced. -/
def Dev.setDmc (d : Dev) (k : Nat) (u : DmcUnit) : Dev := { d with dmc := { d.dmc with units := tset {} d.dmc.units k u } }

/-- Class of a port (Table 18-2). -/
def portClass (p : Nat) : Nat := [0, 1, 1, 1, 1, 2, 2, 2, 1, 1, 1, 2, 0, 0, 1, 0].getD p 0

/-- Ports in panic at a controller. -/
def Dev.inPanic (d : Dev) (k p : Nat) : Bool := d.bit (Reg.DMC_PANIC_STAT k) p

/-- Any panic at a controller. -/
def Dev.anyPanic (d : Dev) (k : Nat) : Bool := d.fld (Reg.DMC_PANIC_STAT k) 15 0 != 0

/-- A port's panic is asserted or dropped at every controller (R312). -/
def Dev.setPanic (d : Dev) (p : Nat) (on : Bool) : Dev :=
  let d := d.forEach (List.range 8) (fun d k => d.setBit (Reg.DMC_PANIC_STAT k) p on)
  if on then d else { d with dmc := { d.dmc with longMark := d.dmc.longMark.filter (fun m => m % 16 != p) } }

/-- Refreshes are per bank (REF_MODE 1). -/
def Dev.perBank (d : Dev) (k : Nat) : Bool := d.bit (Reg.DMC_CFG k) 9

/-- OWED in eighths of a refresh (R310). -/
def Dev.owed (d : Dev) (k : Nat) : Int := sInt 8 (d.fld (Reg.DMC_STAT k) 11 4)

/-- OWED set. -/
def Dev.setOwed (d : Dev) (k : Nat) (v : Int) : Dev := d.setFld (Reg.DMC_STAT k) 11 4 (uNat 8 v)

/-- Eighths that one refresh command or one due instant counts (R309) (assumption 97). -/
def Dev.refreshUnit (d : Dev) (k : Nat) : Int := if d.perBank k then 1 else 8

/-- A refresh is forced: OWED is 8 or more (R310); in per-bank mode revision A1 waits for 9 whole ones (KB-2). -/
def Dev.forced (d : Dev) (k : Nat) : Bool := decide ((if d.perBank k then 72 else 64) ≤ d.owed k)

/-- The delay update itself (R308): every bank is precharged (assumption 99). -/
def Dev.delayUpdate (d : Dev) (k : Nat) : Dev :=
  d.setDmc k { d.dmcUnit k with banks := [], updateTemp := d.fld (Reg.DMC_STAT k) 20 16, updateDue := false }

/-- issue_refresh (R310): the banks it covers are precharged, and a due delay update follows one issued without panic, or a
forced one (R308). Which bank pair a per-bank refresh covers is not stated (assumption 97). -/
def Dev.issueRefresh (d : Dev) (k : Nat) (forced : Bool) : Dev :=
  let d := d.setOwed k (d.owed k - d.refreshUnit k)
  let u := d.dmcUnit k
  let p := d.draw
  let d := if d.perBank k then
      p.2.setDmc k { u with banks := tclear u.banks (2 * (Config.refreshPair p.1 % 8)) (2 * (Config.refreshPair p.1 % 8) + 2) }
    else d.setDmc k { u with banks := [] }
  let d := if u.updateDue && (!d.anyPanic k || forced) then d.delayUpdate k else d
  if forced = false then d
  else
    let d := d.count (Reg.DMC_REF_FORCED k)
    if k ∈ d.dmc.forcedMark then d
    else { d with dmc := { d.dmc with forcedMark := addMark d.dmc.forcedMark k } }.raise Ev.DMC_REF_FORCED k

/-- REFRESH_DUE (R310): OWED rises, and a refresh is forced at once when it must be. -/
def refreshDueEffect (k : Nat) (d : Dev) : Dev :=
  if d.trained k = false then d
  else
    let d := d.setOwed k (min 127 (d.owed k + d.refreshUnit k))
    if d.forced k then d.issueRefresh k true else d

/-- REFRESH_DUE. -/
def execRefreshDue (k : Fin 8) (s : State) : Host.Outcome State Fault Refusal := s.run (refreshDueEffect k)

/-- Distance of two numbers. -/
def gap (a b : Nat) : Nat := (a - b) + (b - a)

/-- MR4_POLL (R308, R309, R315): the refresh-rate field, DMC_HOT when the rate becomes × 0.25 or the temperature passes its
limit, the DRAM's write error count, and a delay update when the code has moved by RETRAIN_DT (assumption 99). -/
def mr4PollEffect (k : Nat) (mr4 rate : Nat) (above : Bool) (wrErr : Nat) (d : Dev) : Dev :=
  if d.trained k = false then d
  else
    let d := d.lvRegion (48 + k)
    let d := d.setFld (Reg.DMC_STAT k) 20 16 mr4
    let d := if d.bit (Reg.DMC_CFG k) 8 then d.count (Reg.DMC_LECC_WR k) wrErr else d
    let hot := rate == 4 || above
    let u := d.dmcUnit k
    let dt := d.fld (Reg.DMC_RETRAIN k) 19 16
    let d := d.setDmc k { u with
      hot := hot, updateDue := u.updateDue || (decide (0 < dt) && decide (dt ≤ gap (mr4 % 32) u.updateTemp)) }
    if hot && !u.hot then d.raise Ev.DMC_HOT k 0 [b8 mr4] else d

/-- MR4_POLL. -/
def execMr4Poll (k : Fin 8) (mr4 : BitVec 8) (rate : Fin 5) (above : Bool) (wrErr : Nat) (s : State) :
    Host.Outcome State Fault Refusal := s.run (mr4PollEffect k mr4.toNat rate above wrErr)

/-- DELAY_UPDATE (R308). -/
def delayUpdateEffect (k : Nat) (d : Dev) : Dev := if d.trained k then (d.lvRegion (48 + k)).delayUpdate k else d

/-- DELAY_UPDATE. -/
def execDelayUpdate (k : Fin 8) (s : State) : Host.Outcome State Fault Refusal := s.run (delayUpdateEffect k)

/-- DMC_PANIC_LONG (R312), once per episode. -/
def dmcPanicLongEffect (k port : Nat) (d : Dev) : Dev :=
  let m := 16 * k + port
  if d.trained k = false ∨ d.inPanic k port = false ∨ d.fld (Reg.DMC_QOS k) 31 16 = 0 ∨ m ∈ d.dmc.longMark then d
  else { d with dmc := { d.dmc with longMark := addMark d.dmc.longMark m } }.raise Ev.DMC_PANIC_LONG k 0 [b8 port]

/-- DMC_PANIC_LONG. -/
def execDmcPanicLong (k : Fin 8) (port : Fin 16) (s : State) : Host.Outcome State Fault Refusal :=
  s.run (dmcPanicLongEffect k port)

/-! ### Requests (R311, R313) -/

/-- may_issue of R313 for `r` behind the older requests `older`. -/
def mayIssue (older : List DramReq) (r : DramReq) : Bool :=
  match older.find? (fun q => q.line == r.line && (q.data.isSome || r.data.isSome)) with
  | some _ => false
  | none => true

/-- The write that blocks `r`, if the oldest request that blocks it is a write. -/
def blocker (older : List DramReq) (r : DramReq) : Option DramReq :=
  (older.find? (fun q => q.line == r.line && (q.data.isSome || r.data.isSome))).filter (fun q => q.data.isSome)

/-- promote() of R313: the blocking write takes the waiting request's class and panic priority. -/
def promote (older : List DramReq) (r : DramReq) : List DramReq :=
  match blocker older r with
  | none => older
  | some b => older.map (fun q => if q = b then { q with cls := max q.cls r.cls, panic := q.panic || r.panic } else q)

/-- Queued reads (`false`) or writes (`true`). -/
def DmcUnit.held (u : DmcUnit) (write : Bool) : Nat := (u.queue.filter (fun q => q.data.isSome == write)).length

/-- A request enters the queue of its controller (R311, R313); a write takes effect in memory (assumption 98). -/
def Dev.enterQueue (d : Dev) (k : Nat) (r : DramReq) : Dev :=
  let u := d.dmcUnit k
  let ok := mayIssue u.queue r
  let q := promote u.queue r ++ [r]
  let d := d.setDmc k { u with queue := q, drain := u.drain || (!ok && r.data.isNone) || decide (48 ≤ ({ u with queue := q }).held true) }
  let d := if ok then d else d.count (Reg.DMC_HAZARD_WAIT k)
  match r.data with
  | some v => d.dramWrite (64 * r.line) (leBytes 64 v)
  | none => d

/-- Stalled requests enter as their queue has room, oldest first (R311). -/
def Dev.unstall (d : Dev) (k : Nat) : List DramReq → Dev
  | [] => d
  | r :: t =>
    let u := d.dmcUnit k
    if u.held r.data.isSome < 64 then
      ((d.setDmc k { u with stalled := u.stalled.filter (fun q => q != r) }).enterQueue k r).unstall k t
    else d.unstall k t

/-- DRAM_REQUEST (R311, R318): a request of a port for a domain, for the line of `addr`. -/
def dramRequestEffect (port dom addr : Nat) (data : Option Nat) (d : Dev) : Dev :=
  let line := addr / 64
  let deny := d.dramDeny dom (64 * line) 64
  let k := d.dmcOf addr
  if deny = 3 ∨ d.trained k = false then d
  else if deny ≠ 0 then d.dramReport deny port dom (64 * line)
  else
    let r : DramReq := ⟨port, portClass port, line, data, d.tim.clocks, d.inPanic k port⟩
    let u := d.dmcUnit k
    if 64 ≤ u.held data.isSome then d.setDmc k { u with stalled := u.stalled ++ [r] } else d.enterQueue k r

/-- DRAM_REQUEST. -/
def execDramRequest (port dom : Fin 16) (addr : BitVec 36) (data : Option (BitVec 512)) (s : State) :
    Host.Outcome State Fault Refusal := s.run (dramRequestEffect port dom addr.toNat (data.map (·.toNat)))

/-! ### Command slots (R310 to R314) -/

/-- Class of a request after its wait (R311): it rises by one when AGE_NS has passed, never above RT (assumption 98). -/
def Dev.agedClass (d : Dev) (k : Nat) (r : DramReq) : Nat :=
  let age := d.fld (Reg.DMC_QOS k) 15 0
  min 2 (r.cls + if 0 < age ∧ age ≤ (d.tim.clocks - r.since) * 2 / 3 then 1 else 0)

/-- A request hits its bank's open row. -/
def Dev.rowHit (d : Dev) (k line : Nat) : Bool :=
  let loc := d.dmcLocal (64 * line)
  match tat none (d.dmcUnit k).banks (dramBank loc) with
  | some o => o.row == dramRow loc
  | none => false

/-- Requests that could be chosen, each behind its elders: reads and writes that may issue; a write only while writes
drain, with panic priority, or when a younger read waits for it. -/
def DmcUnit.ready (u : DmcUnit) : List DramReq → List DramReq → List DramReq
  | _, [] => []
  | older, r :: t =>
    let rest := u.ready (older ++ [r]) t
    if mayIssue older r && (r.data.isNone || u.drain || r.panic || t.any (fun q => q.line == r.line && q.data.isNone)) then
      r :: rest
    else rest

/-- Rank of a request (R312): class, then row hit. -/
def Dev.slotRank (d : Dev) (k : Nat) (r : DramReq) : Nat := 2 * d.agedClass k r + (d.rowHit k r.line).toNat

/-- The first of highest rank. -/
def Dev.bestOf (d : Dev) (k : Nat) : List DramReq → Option DramReq
  | [] => none
  | r :: t =>
    match d.bestOf k t with
    | none => some r
    | some b => if d.slotRank k r < d.slotRank k b then some b else some r

/-- The request a slot chooses (R312): the oldest of a port in panic first, then the best of the rest. -/
def Dev.slotChoice (d : Dev) (k : Nat) : Option DramReq × Option DramReq :=
  let l := (d.dmcUnit k).ready [] (d.dmcUnit k).queue
  (l.find? (fun r => r.panic || d.inPanic k r.port), d.bestOf k l)

/-- A request leaves its queue: row hit or miss, its bank's open row, lines counted, and the drain's end at 16 (R312,
R314). -/
def Dev.issueReq (d : Dev) (k : Nat) (r : DramReq) : Dev :=
  let loc := d.dmcLocal (64 * r.line)
  let idle := d.fld (Reg.DMC_PAGE k) 9 0
  let d := d.count (if d.rowHit k r.line then Reg.DMC_PAGE_HIT k else Reg.DMC_PAGE_MISS k)
  let d := d.count64 (if r.data.isSome then Reg.DMC_WR_LO k else Reg.DMC_RD_LO k)
  let u := d.dmcUnit k
  let u := { u with queue := u.queue.erase r
                    banks := tset none u.banks (dramBank loc) (if idle = 0 then none else some ⟨dramRow loc, idle⟩) }
  let u := { u with drain := u.drain && decide (16 < u.held true) }
  (d.setDmc k u).unstall k u.stalled

/-- The idle timer of one bank (R314). -/
def bankTick (idle : Nat) (hit : Bool) (o : OpenRow) : Option OpenRow :=
  if hit then some { o with timer := idle } else if o.timer = 0 then none else some { o with timer := o.timer - 1 }

/-- The idle timers run every four command slots (R314). -/
def Dev.bankTimers (d : Dev) (k : Nat) : Dev :=
  let u := d.dmcUnit k
  if u.slots < 3 then d.setDmc k { u with slots := u.slots + 1 }
  else
    let hit (b : Nat) (o : OpenRow) : Bool :=
      u.queue.any (fun q => let loc := d.dmcLocal (64 * q.line); dramBank loc == b && dramRow loc == o.row)
    d.setDmc k { u with
      slots := 0
      banks := (List.range 16).foldl (fun m b => match tat none m b with
        | some o => tset none m b (bankTick (d.fld (Reg.DMC_PAGE k) 9 0) (hit b o) o)
        | none => m) u.banks }

/-- One command slot of a controller (R310, R312): what it does, and the read it issues, if any (assumption 98). -/
def Dev.slotStep (d : Dev) (k : Nat) : Dev × Option DramReq :=
  let d := d.lvRegion (48 + k)
  let d := if d.anyPanic k then d.count (Reg.DMC_PANIC_CYC k) else d
  let c := d.slotChoice k
  if d.forced k then (d.issueRefresh k true, none)
  else match c.1 with
    | some r => (d.issueReq k r, if r.data.isNone then some r else none)
    | none =>
      if 0 < d.owed k ∧ d.anyPanic k = false then (d.issueRefresh k false, none)
      else match c.2 with
        | some r => (d.issueReq k r, if r.data.isNone then some r else none)
        | none => if -64 < d.owed k ∧ (d.dmcUnit k).queue = [] then (d.issueRefresh k false, none) else (d, none)

/-- What a read's link brought (R315, R316): `link` 1 a corrected error, 3 two failures; the poisoned line, if any
(assumption 99) (assumption 99). -/
def Dev.linkResult (d : Dev) (k : Nat) (r : DramReq) (link : Nat) : Dev × Option (Nat × Nat) :=
  if d.bit (Reg.DMC_CFG k) 8 = false then (d, none)
  else if link = 1 then
    let d := d.count (Reg.DMC_LECC_CORR k)
    if k ∈ d.dmc.corrMark then (d, none)
    else ({ d with dmc := { d.dmc with corrMark := addMark d.dmc.corrMark k } }.raise Ev.DMC_LECC_CORR k, none)
  else if link = 3 then
    ((d.count (Reg.DMC_LECC_UNCORR k)).raise Ev.DMC_LECC_UNCORR k 0 (leBytes 5 (64 * r.line) ++ [b8 r.port]), some (r.port, r.line))
  else (d, none)

end Sys2Proof.Machine
end

