-- ==== Sys2Proof/Machine/Display.lean ====
section
/-! DEFINITION. Display outputs (chapter 14): timing (R251), states (R252), lock to the round (R253), scanning (R254, R255) and the
AUX window (R256). -/

namespace Sys2Proof.Machine

/-- A display output. -/
def Dev.dp (d : Dev) (o : Nat) : Dpo := tat {} d.dpo o
/-- A display output replaced. -/
def Dev.setDp (d : Dev) (o : Nat) (x : Dpo) : Dev := { d with dpo := tset {} d.dpo o x }
/-- STATE: 0 DISABLED, 1 WAIT_HPD, 2 TRAINING, 3 ACTIVE, 4 FAILED. -/
def Dev.dpState (d : Dev) (o : Nat) : Nat := d.fld (Reg.DPO_STAT o) 2 0
/-- Domain of an output. -/
def Dev.dpDomain (d : Dev) (o : Nat) : Nat := d.fld (Reg.DPO_CFG o) 31 28
/-- Source compositor. -/
def Dev.dpSrc (d : Dev) (o : Nat) : Nat := d.fld (Reg.DPO_CFG o) 27 22
/-- Pixel clock, kHz. -/
def Dev.dpClk (d : Dev) (o : Nat) : Nat := d.fld (Reg.DPO_PCLK o) 19 0
/-- Pixels of a line and lines of a frame, blanking included. -/
def Dev.dpTotal (d : Dev) (o : Nat) : Nat × Nat := (d.fld (Reg.DPO_HTIME_A o) 31 16, d.fld (Reg.DPO_VTIME_A o) 31 16)

/-- A timing R251 accepts (assumption 85). -/
def Dev.dpOk (d : Dev) (o : Nat) : Bool :=
  let i := d.dpSrc o
  let w := d.fld (Reg.DPO_HTIME_A o) 15 0
  let h := d.fld (Reg.DPO_VTIME_A o) 15 0
  let clk := d.dpClk o
  let rate := d.fld (Reg.DPO_CFG o) 20 19
  let lanes := d.fld (Reg.DPO_CFG o) 18 17
  let t := d.dpTotal o
  let r := d.roundRate
  let want := t.1 * t.2 * r.1
  let have_ := clk * 1000 * r.2
  w == d.ciW i && h == d.ciH i && decide (w ≤ 3840 ∧ h ≤ 2160 ∧ clk ≤ 600000) && rate != 3 && lanes != 3 &&
    decide (clk * 24 * 10 ≤ 2 ^ lanes * ([2700000, 5400000, 8100000].getD rate 0) * 8) && d.ciDomain i == d.dpDomain o &&
    (!d.bit (Reg.DPO_CFG o) 21 || decide ((max want have_ - min want have_) * 1000 ≤ want))

/-- A state entered; outside ACTIVE nothing is scanned. -/
def Dev.dpEnter (d : Dev) (o st : Nat) : Dev :=
  let d := d.setFld (Reg.DPO_STAT o) 2 0 st
  if st = 3 then d
  else ((d.setFld (Reg.DPO_STAT o) 9 6 0).setBit (Reg.DPO_STAT o) 5 false).setDp o { d.dp o with scan := none, takes := 0, underMark := false, lostMark := false }

/-- A register command on an output: another domain's is ignored with CMP_DOMAIN. -/
def Dev.dpWindow (d : Dev) (q : Requester) (o : Nat) (f : Dev → Dev) : Dev :=
  d.by q (fun a d =>
    if d.regionOff 45 then d else if a.mayUse (d.dpDomain o) then f d else d.raise Ev.CMP_DOMAIN o a.dom)

/-- EN written 1 (R252); in RETIRED it ignores writes (R363). -/
def Dev.dpOn (d : Dev) (o : Nat) : Dev :=
  if d.retired ∨ d.dpState o ≠ 0 then d
  else
    let d := d.setBit (Reg.DPO_CTL o) 0 true
    if d.dpOk o then d.dpEnter o 1 else d.raise Ev.DPO_CFG_ERR o (d.dpDomain o)

/-- DPO_ENABLE. -/
def dpoEnableEffect (q : Requester) (o : Nat) (d : Dev) : Dev := d.dpWindow q o (fun d => d.dpOn o)

/-- DPO_ENABLE (R252). -/
def execDpoEnable (q : Requester) (o : Fin 2) (s : State) : Host.Outcome State Fault Refusal := s.run (dpoEnableEffect q o)

/-- EN written 0: DISABLED, main link off. -/
def Dev.dpOff (d : Dev) (o : Nat) : Dev := (d.setBit (Reg.DPO_CTL o) 0 false).dpEnter o 0

/-- DPO_DISABLE. -/
def dpoDisableEffect (q : Requester) (o : Nat) (d : Dev) : Dev := d.dpWindow q o (fun d => if d.retired then d else d.dpOff o)

/-- DPO_DISABLE (R252). -/
def execDpoDisable (q : Requester) (o : Fin 2) (s : State) : Host.Outcome State Fault Refusal := s.run (dpoDisableEffect q o)

/-- RETRAIN: from ACTIVE, counted, or from FAILED while HPD is high. -/
def Dev.dpRetrain (d : Dev) (o : Nat) : Dev :=
  if d.dpState o = 3 then (d.dpEnter o 2).count (Reg.DPO_RETRAINS o)
  else if d.dpState o = 4 ∧ d.bit (Reg.DPO_STAT o) 4 then d.dpEnter o 2
  else d

/-- DPO_RETRAIN. -/
def dpoRetrainEffect (q : Requester) (o : Nat) (d : Dev) : Dev := d.dpWindow q o (fun d => d.dpRetrain o)

/-- DPO_RETRAIN (R252). -/
def execDpoRetrain (q : Requester) (o : Fin 2) (s : State) : Host.Outcome State Fault Refusal := s.run (dpoRetrainEffect q o)

/-- DPO_HPD: HPD has been high for 100 ms. -/
def dpoHpdEffect (o : Nat) (d : Dev) : Dev :=
  if d.dpState o = 1 then ((d.dpEnter o 2).setBit (Reg.DPO_STAT o) 4 true).raise Ev.DPO_HPD o (d.dpDomain o) [1] else d

/-- DPO_HPD (R252). -/
def execDpoHpd (o : Fin 2) (s : State) : Host.Outcome State Fault Refusal := s.run (dpoHpdEffect o)

/-- HPD_LOW: HPD has been low for 2 ms. -/
def hpdLowEffect (o : Nat) (d : Dev) : Dev :=
  let st := d.dpState o
  if st = 0 then d
  else
    let d := ((d.dpEnter o 1).setBit (Reg.DPO_STAT o) 4 false).raise Ev.DPO_HPD o (d.dpDomain o) [0]
    if st = 3 then d.raise Ev.DPO_LINK_LOST o (d.dpDomain o) else d

/-- HPD_LOW (R252). -/
def execHpdLow (o : Fin 2) (s : State) : Host.Outcome State Fault Refusal := s.run (hpdLowEffect o)

/-- An AUX transaction that waited for training to end starts (R256). -/
def Dev.auxGo (d : Dev) (o : Nat) : Dev := d.setDp o { d.dp o with aux := (d.dp o).aux.map (fun a => { a with waiting := false }) }

/-- DPO_LINK_UP: equalisation is done, at swings and pre-emphases `levels`. -/
def dpoLinkUpEffect (o : Nat) (levels : Nat) (d : Dev) : Dev :=
  if d.dpState o = 2 then
    let n := 2 ^ d.fld (Reg.DPO_CFG o) 18 17
    let d := ((d.dpEnter o 3).setFld (Reg.DPO_STAT o) 9 6 (2 ^ n - 1)).setFld (Reg.DPO_TRAIN_STAT o) 15 0 (levels % 2 ^ (4 * n))
    (d.raise Ev.DPO_LINK_UP o (d.dpDomain o)).auxGo o
  else d

/-- DPO_LINK_UP (R252). -/
def execDpoLinkUp (o : Fin 2) (levels : BitVec 16) (s : State) : Host.Outcome State Fault Refusal := s.run (dpoLinkUpEffect o levels.toNat)

/-- DPO_TRAIN_FAIL: cause 1 capabilities, 2 clock recovery, 3 equalisation. -/
def dpoTrainFailEffect (o cause : Nat) (d : Dev) : Dev :=
  if d.dpState o = 2 then ((d.dpEnter o 4).raise Ev.DPO_TRAIN_FAIL o (d.dpDomain o) [b8 (cause + 1)]).auxGo o else d

/-- DPO_TRAIN_FAIL (R252). -/
def execDpoTrainFail (o : Fin 2) (cause : Fin 3) (s : State) : Host.Outcome State Fault Refusal := s.run (dpoTrainFailEffect o cause)

/-- TRAIN_RETRY: one second in FAILED with HPD high. -/
def trainRetryEffect (o : Nat) (d : Dev) : Dev := if d.dpState o = 4 ∧ d.bit (Reg.DPO_STAT o) 4 then d.dpEnter o 2 else d

/-- TRAIN_RETRY (R252). -/
def execTrainRetry (o : Fin 2) (s : State) : Host.Outcome State Fault Refusal := s.run (trainRetryEffect o)

/-- HPD_IRQ: the pulse shows a lane out of lock. -/
def hpdIrqEffect (o : Nat) (d : Dev) : Dev :=
  if d.dpState o = 3 then ((d.dpEnter o 2).count (Reg.DPO_RETRAINS o)).raise Ev.DPO_LINK_LOST o (d.dpDomain o) else d

/-- HPD_IRQ (R252). -/
def execHpdIrq (o : Fin 2) (s : State) : Host.Outcome State Fault Refusal := s.run (hpdIrqEffect o)

/-! ### Lock and scanning (R253 to R255) -/

/-- The steering an output needs lies within 500 ppm: its frame rate against the round rate of the rounds' time base. -/
def Dev.inPull (d : Dev) (o : Nat) : Bool :=
  let t := d.dpTotal o
  let r := d.roundRate
  let want : Int := t.1 * t.2 * r.1 * (2 ^ 40 + d.rateEff (d.tickTb true))
  let have_ : Int := d.dpClk o * 1000 * r.2 * 2 ^ 40
  decide ((want - have_).natAbs * 2000 ≤ have_.natAbs)

/-- DPO_LOCK_LOST, once, when the pull range is exceeded (assumption 85). -/
def Dev.pullCheck (d : Dev) (o : Nat) : Dev :=
  if d.bit (Reg.DPO_CFG o) 21 = false ∨ d.dpState o ≠ 3 then d
  else if d.inPull o then d.setDp o { d.dp o with lostMark := false }
  else
    let d := d.setBit (Reg.DPO_STAT o) 5 false
    if (d.dp o).lostMark then d else (d.setDp o { d.dp o with lostMark := true }).raise Ev.DPO_LOCK_LOST o (d.dpDomain o)

/-- LOCKED at a vertical blank that begins now: the first active line begins within a line of LOCK_OFFSET after a tick
(assumption 85) (assumption 85). -/
def Dev.lockCheck (d : Dev) (o : Nat) : Dev :=
  if d.bit (Reg.DPO_CFG o) 21 = false ∨ d.inPull o = false then d
  else
    let t := d.dpTotal o
    let line := t.1 * 10 ^ 6 * 2 ^ 40 / max 1 (d.dpClk o)
    let p := d.period true
    let per := p.1 * 2 ^ 40 / p.2
    let first := (d.tb (d.tickTb true)).time + (t.2 - d.fld (Reg.DPO_VTIME_A o) 15 0) * line
    let at_ := d.boundary true d.tim.round + d.fld (Reg.DPO_LOCK_OFFSET o) 14 0 * 1000 * 2 ^ 40
    let e := (first + per - at_ % per) % per
    d.setBit (Reg.DPO_STAT o) 5 (decide (min e (per - e) < line))

/-- VBLANK (R254): the newest complete frame is taken, the one before is released (assumption 85). -/
def vblankEffect (o : Nat) (d : Dev) : Dev :=
  if d.dpState o ≠ 3 then d
  else
    let i := d.dpSrc o
    let x := d.dp o
    let d := d.setPanic (6 + o) false
    let d := if (d.ci i).complete then
        let s := (d.ciNewest i, (d.reg (Reg.CMP_CI_FRAME i)).toNat)
        let n := if x.scan = some s then x.takes + 1 else 1
        let d := if n = d.ciDiv i + 1 then d.count (Reg.DPO_REPEAT o) else d
        let d := (d.setDp o { x with scan := some s, takes := n, underMark := false }).count (Reg.DPO_FRAMES o)
        (d.dramGet (6 + o) (d.dpDomain o) (d.ciSurf i s.1) (d.ciStride i * d.ciH i * 3 / 2)).2
      else d.setDp o { x with scan := none, takes := 0, underMark := false }
    (d.pullCheck o).lockCheck o

/-- VBLANK. -/
def execVblank (o : Fin 2) (s : State) : Host.Outcome State Fault Refusal := s.run (vblankEffect o)

/-- A line of black after an empty FIFO (R255): the FIFO's level is below PANIC_ON. -/
def Dev.underflow (d : Dev) (o : Nat) : Dev :=
  if d.dpState o ≠ 3 ∨ (d.dp o).scan = none then d
  else
    let d := d.count (Reg.DPO_UNDERFLOW_LINES o)
    let d := if 0 < d.fld (Reg.DPO_PANIC o) 4 0 then d.setPanic (6 + o) true else d
    if (d.dp o).underMark then d else (d.setDp o { d.dp o with underMark := true }).raise Ev.DPO_UNDERFLOW o (d.dpDomain o)

/-- DPO_UNDERFLOW. -/
def dpoUnderflowEffect (o : Nat) (d : Dev) : Dev := d.underflow o

/-- DPO_UNDERFLOW (R255). -/
def execDpoUnderflow (o : Fin 2) (s : State) : Host.Outcome State Fault Refusal := s.run (dpoUnderflowEffect o)

/-- The video swap of the outputs: an output enabled with a timing R251 does not accept stays DISABLED (R251). -/
def Dev.dpoSwap (d : Dev) : Dev :=
  d.forEach [0, 1] (fun d o =>
    if d.bit (Reg.DPO_CTL o) 0 && !d.dpOk o then (d.dpEnter o 0).raise Ev.DPO_CFG_ERR o (d.dpDomain o) else d)

/-! ### AUX (R256) -/

/-- A write of DPO_AUX_CMD with operation `op`: one transaction at a time; one asked for during training waits (assumption 86). -/
def Dev.auxStart (d : Dev) (o op : Nat) (v : Word) : Dev :=
  if d.bit (Reg.DPO_AUX_STAT o) 31 then d
  else
    let n := wfld v 27 24 + 1
    let bytes := leBytes n (d.regsNat (Reg.DPO_AUX_DATA o 0) 4)
    (d.setReg (Reg.DPO_AUX_STAT o) (w32 (2 ^ 31))).setDp o
      { d.dp o with aux := some { op := op, addr := wfld v 19 0, len := n, bytes := bytes, waiting := d.dpState o == 2 } }

/-- An AUX command on an output. -/
def Dev.auxWindow (d : Dev) (q : Requester) (o op : Nat) (v : Word) : Dev := d.dpWindow q o (fun d => d.auxStart o op v)

/-- AUX_NATIVE_READ. -/
def auxNativeReadEffect (q : Requester) (o : Nat) (v : Word) (d : Dev) : Dev := d.auxWindow q o 1 v

/-- AUX_NATIVE_READ (R256). -/
def execAuxNativeRead (q : Requester) (o : Fin 2) (v : Word) (s : State) : Host.Outcome State Fault Refusal := s.run (auxNativeReadEffect q o v)

/-- AUX_NATIVE_WRITE. -/
def auxNativeWriteEffect (q : Requester) (o : Nat) (v : Word) (d : Dev) : Dev := d.auxWindow q o 2 v

/-- AUX_NATIVE_WRITE (R256). -/
def execAuxNativeWrite (q : Requester) (o : Fin 2) (v : Word) (s : State) : Host.Outcome State Fault Refusal := s.run (auxNativeWriteEffect q o v)

/-- AUX_I2C_READ. -/
def auxI2cReadEffect (q : Requester) (o : Nat) (v : Word) (d : Dev) : Dev := d.auxWindow q o 3 v

/-- AUX_I2C_READ (R256). -/
def execAuxI2cRead (q : Requester) (o : Fin 2) (v : Word) (s : State) : Host.Outcome State Fault Refusal := s.run (auxI2cReadEffect q o v)

/-- AUX_I2C_WRITE. -/
def auxI2cWriteEffect (q : Requester) (o : Nat) (v : Word) (d : Dev) : Dev := d.auxWindow q o 4 v

/-- AUX_I2C_WRITE (R256). -/
def execAuxI2cWrite (q : Requester) (o : Fin 2) (v : Word) (s : State) : Host.Outcome State Fault Refusal := s.run (auxI2cWriteEffect q o v)

/-- A transaction ends with a result (assumption 86). -/
def Dev.auxEnd (d : Dev) (o result : Nat) : Dev := (d.setReg (Reg.DPO_AUX_STAT o) (w32 result)).setDp o { d.dp o with aux := none }

/-- AUX_REPLY: 0 ACK with the bytes read, 1 NACK, 2 DEFER; after 7 retries a DEFER is the result (assumption 86). -/
def auxReplyEffect (o reply : Nat) (bytes : List Byte) (d : Dev) : Dev :=
  match (d.dp o).aux with
  | none => d
  | some a =>
    if a.waiting then d
    else if reply = 2 then (if 7 ≤ a.defers then d.auxEnd o 2 else d.setDp o { d.dp o with aux := some { a with defers := a.defers + 1, waiting := true } })
    else
      let d := if reply = 0 ∧ a.op % 2 = 1 then
          let old := leBytes 16 (d.regsNat (Reg.DPO_AUX_DATA o 0) 4)
          d.setRegsNat (Reg.DPO_AUX_DATA o 0) (leNat (patch old 0 (bytes.take a.len))) 4
        else d
      d.auxEnd o reply

/-- AUX_REPLY (R256). -/
def execAuxReply (o : Fin 2) (reply : Fin 3) (bytes : List Byte) (s : State) : Host.Outcome State Fault Refusal :=
  s.run (auxReplyEffect o reply bytes)

/-- AUX_DEFER_RETRY: 400 µs after a DEFER the transaction is sent again. -/
def auxDeferRetryEffect (o : Nat) (d : Dev) : Dev := if d.dpState o = 2 then d else d.auxGo o

/-- AUX_DEFER_RETRY (R256). -/
def execAuxDeferRetry (o : Fin 2) (s : State) : Host.Outcome State Fault Refusal := s.run (auxDeferRetryEffect o)

/-- AUX_TIMEOUT: no reply within 500 µs. -/
def auxTimeoutEffect (o : Nat) (d : Dev) : Dev := if (d.dp o).aux.any (fun a => !a.waiting) then d.auxEnd o 3 else d

/-- AUX_TIMEOUT (R256). -/
def execAuxTimeout (o : Fin 2) (s : State) : Host.Outcome State Fault Refusal := s.run (auxTimeoutEffect o)

end Sys2Proof.Machine
end

