-- ==== Sys2Proof/Machine/Swatch.lean ====
section
/-! DEFINITION. Swatches and event logs (chapter 22): the trigger sources (R378), the swatch's ESN (R380, R381), and the
registers of the logs (R386). -/

namespace Sys2Proof.Machine

/-- SWT_TRIG (R378): GO fires HOST. -/
def swtTrigEffect (q : Requester) (v : Word) (d : Dev) : Dev := d.sd0 q 4 (fun d => if wbit v 0 then d.fire 1 else d)

/-- SWT_TRIG. -/
def execSwtTrig (q : Requester) (v : Word) (s : State) : Host.Outcome State Fault Refusal := s.run (swtTrigEffect q v)

/-- SWATCH_IN_EDGE (R378): the edge chosen by PIN_POL fires PIN (assumption 113). -/
def swatchInEdgeEffect (falling : Bool) (d : Dev) : Dev := if d.bit Reg.SWT_CTL 5 = falling then d.fire 2 else d

/-- SWATCH_IN_EDGE. -/
def execSwatchInEdge (falling : Bool) (s : State) : Host.Outcome State Fault Refusal := s.run (swatchInEdgeEffect falling)

/-- SWT_MATCH as a time of its time base, in units of 2^-40 ns. -/
def Dev.matchTime (d : Dev) : Nat :=
  (((d.reg Reg.SWT_MATCH_SEC_LO).toNat + 2 ^ 32 * d.fld Reg.SWT_MATCH_SEC_HI 15 0) * 10 ^ 9 + (d.reg Reg.SWT_MATCH_NS).toNat) * 2 ^ 40

/-- TIME_MATCH (R378): the match time base reaches SWT_MATCH; MATCH_EN clears and TIME fires. -/
def timeMatchEffect (d : Dev) : Dev :=
  if d.bit Reg.SWT_MATCH_CFG 31 = false then d
  else
    let d := d.advance (d.clocksTo (d.fld Reg.SWT_MATCH_CFG 2 0) d.matchTime)
    (d.setBit Reg.SWT_MATCH_CFG 31 false).fire 4

/-- TIME_MATCH. -/
def execTimeMatch (s : State) : Host.Outcome State Fault Refusal := s.run timeMatchEffect

/-- DEBUG_TRIGGER (R378, Table 21-3): from level OBSERVE on. -/
def debugTriggerEffect (d : Dev) : Dev := if 1 ≤ d.level then d.fire 16 else d

/-- DEBUG_TRIGGER. -/
def execDebugTrigger (s : State) : Host.Outcome State Fault Refusal := s.run debugTriggerEffect

/-- SWT_SWATCH (R380, R381): at T0 + 384 the pending swatch takes its place behind every event of that clock (assumption 113). -/
def swtSwatchEffect (d : Dev) : Dev :=
  if d.bit Reg.SWT_STAT 31 && !d.tim.queue.contains .swatch then d.post .swatch else d

/-- SWT_SWATCH. -/
def execSwtSwatch (s : State) : Host.Outcome State Fault Refusal := s.run swtSwatchEffect

/-- An access to a log of another domain (Table 22-3): the instance is the domain (assumption 114). -/
def Dev.logWindow (d : Dev) (q : Requester) (w : Nat) (f : Dev → Dev) : Dev :=
  d.window q 4 w (some Ev.SWT_DOMAIN) (fun _ d => f d)

/-- Records dropped since log `w` last had space are reported once it has some (R386) (assumption 114). -/
def Dev.logLost (d : Dev) (w : Nat) : Dev :=
  let l := tat (0, 0) d.swt.lost w
  if l.1 = 0 ∨ d.logSpace w = 0 then d
  else ({ d with swt := { d.swt with lost := tset (0, 0) d.swt.lost w (0, 0) } }).raise Ev.SWT_LOG_LOST w w
    (leBytes 2 (min l.1 0xFFFF) ++ leBytes 8 l.2)

/-- LOG_RD_WRITE (R386): the reader frees records. -/
def logRdWriteEffect (q : Requester) (w : Nat) (v : Word) (d : Dev) : Dev :=
  d.logWindow q w (fun d => (d.setReg (Reg.SWT_LOG_RD w) v).logLost w)

/-- LOG_RD_WRITE. -/
def execLogRdWrite (q : Requester) (d : Fin 16) (v : Word) (s : State) : Host.Outcome State Fault Refusal :=
  s.run (logRdWriteEffect q d v)

/-- The HL fields of SWT_LOG_CFG. -/
abbrev logCfgHl : Nat := 0x601F07FF

/-- SWT_LOG_CFG takes a value: HL fields only while the log is disabled, else SWT_WHILE_RUN if one would change (R8, R42);
EN 0 zeroes WR, RD and LOST. -/
def Dev.logCfgWrite (d : Dev) (w : Nat) (v : Word) : Dev :=
  let a := Reg.SWT_LOG_CFG w
  let old := (d.reg a).toNat
  let on := d.bit a 31
  let d := if on && (old &&& logCfgHl) != (v.toNat &&& logCfgHl) then
      d.raise Ev.SWT_WHILE_RUN w w (leBytes 4 (a % 2 ^ 20))
    else d
  let d := d.setReg a (w32 (mix (if on then 2 ^ 31 else logCfgHl + 2 ^ 31) old v.toNat))
  if wbit v 31 then d
  else
    let d := ((d.setReg (Reg.SWT_LOG_WR w) 0).setReg (Reg.SWT_LOG_RD w) 0).setReg (Reg.SWT_LOG_LOST w) 0
    { d with swt := { d.swt with lost := tset (0, 0) d.swt.lost w (0, 0), unsig := tset 0 d.swt.unsig w 0 } }

/-- LOG_EN_WRITE (R386). -/
def logEnWriteEffect (q : Requester) (w : Nat) (v : Word) (d : Dev) : Dev := d.logWindow q w (fun d => d.logCfgWrite w v)

/-- LOG_EN_WRITE. -/
def execLogEnWrite (q : Requester) (d : Fin 16) (v : Word) (s : State) : Host.Outcome State Fault Refusal :=
  s.run (logEnWriteEffect q d v)

end Sys2Proof.Machine
end

