-- ==== Sys2Proof/Machine/Host.lean ====
section
/-! DEFINITION. The host interface (chapter 20): doorbells, ring control, MSI-X coalescing, resets and link state, and the
window onto DRAM. -/

namespace Sys2Proof.Machine

/-- A function may act on a domain through the BARs (R340, R344): the PF on every domain, a VF on its own. -/
def Dev.fnServes (d : Dev) (fn dom : Nat) : Bool := !d.regionOff 5 && (fn == 0 || (d.fnBound fn && d.fnDomain fn == dom))

/-- A doorbell value rejected (R346, R347). -/
def Dev.dbBad (d : Dev) (k : Nat) : Dev := (d.count Reg.HST_DB_BAD).raise Ev.DB_BAD k (k / 16)

/-- A doorbell value that a ring accepts (R346, R347): not before the last one, and within the ring of the device's index. -/
def Dev.dbAccepts (d : Dev) (k v : Nat) : Bool :=
  let last := (d.reg (rHost k)).toNat
  (v == last || after v last) && decide (sub32 v (d.reg (rDev k)).toNat ≤ d.ringSize k)

/-- DOORBELL_PI (R346). -/
def doorbellPiEffect (fn dom r : Nat) (v : Word) (d : Dev) : Dev :=
  let k := ringKey dom r
  if d.fnServes fn dom = false then d
  else if d.dbAccepts k v.toNat then d.setReg (rHost k) v else d.dbBad k

/-- DOORBELL_PI. -/
def execDoorbellPi (fn d : Fin 16) (r : Fin 6) (v : Word) (s : State) : Host.Outcome State Fault Refusal :=
  s.run (doorbellPiEffect fn d r v)

/-! ### Rings on and off -/

/-- A ring stops with an error (R356, R358): 1 bad descriptor, 2 DMA error (assumption 105). -/
def Dev.ringStop (d : Dev) (k err : Nat) : Dev := d.setReg (rStat k) (w32 (2 ^ 31 + err))

/-- Frames of a ring that EGS still holds write no record any more (R358); how many there were. -/
def Dev.forgetFrames (d : Dev) (k : Nat) : Dev × Nat :=
  let mine (f : QFrame) : Bool := f.ring == some k
  let clear (l : List QFrame) : List QFrame := l.map (fun f => if mine f then { f with ring := none } else f)
  let onWire : List QFrame := d.egs.tx.filterMap (fun e => e.2.map (fun t => t.frame))
  let n := ((d.egs.leaves.flatMap (fun e => e.2) ++ d.egs.cq.flatMap (fun e => e.2) ++ onWire).filter mine).length
  ({ d with egs := { d.egs with
      leaves := d.egs.leaves.map (fun e => (e.1, clear e.2)), cq := d.egs.cq.map (fun e => (e.1, clear e.2))
      tx := d.egs.tx.map (fun e => (e.1, e.2.map (fun t => { t with frame := if mine t.frame then { t.frame with ring := none } else t.frame }))) } }, n)

/-- EN 0 (R358): the ring's shares are released, descriptors that have not started are discarded, indices are zero. -/
def Dev.ringOff (d : Dev) (k : Nat) : Dev :=
  let d := d.forEach (tat [] d.hst.held k) (fun d h => if h.share then d.giveBack 43 h.chain else d)
  let p := d.forgetFrames k
  let d := p.1
  let n := p.2 + (tat none d.hst.waits k).toList.length + (tat none d.hst.inject k).toList.length
  let c := completionRing k
  let d := { d with hst := { d.hst with
    held := tset [] d.hst.held k [], waits := tset none d.hst.waits k none, inject := tset none d.hst.inject k none, unsig := tset 0 d.hst.unsig k 0
    resv := if k % 16 < 6 then tset 0 d.hst.resv c (tat 0 d.hst.resv c - n) else d.hst.resv } }
  (((d.setReg (rDev k) 0).setReg (rHost k) 0).setReg (rStat k) 0).setBit (rCfg k) 31 false

/-- The HL fields of HST_RING_CFG. -/
abbrev ringCfgHl : Nat := 0x001F01FF

/-- A write of HST_RING_CFG (R345, R358). -/
def Dev.ringCfgWrite (d : Dev) (k : Nat) (v : Word) : Dev :=
  let a := rCfg k
  let old := (d.reg a).toNat
  if d.bit a 31 then
    let d := if (old &&& ringCfgHl) != (v.toNat &&& ringCfgHl) then d.raise Ev.HST_WHILE_RUN k (k / 16) (leBytes 4 (a % 2 ^ 20)) else d
    if wbit v 31 then d else d.ringOff k
  else
    let d := d.setReg a (w32 (v.toNat &&& (ringCfgHl + 2 ^ 31)))
    if wbit v 31 then (d.setReg (rDev k) 0).setReg (rHost k) 0 else d

/-- A register of a ring (Table 20-8): another domain's access raises HST_DOMAIN. -/
def Dev.ringWindow (d : Dev) (q : Requester) (k : Nat) (f : Dev → Dev) : Dev :=
  d.by q (fun a d =>
    if d.regionOff 5 then d
    else if a.mayUse (k / 16) then f d
    else d.raise Ev.HST_DOMAIN k a.dom)

/-- RING_EN_WRITE (R358). -/
def ringEnWriteEffect (q : Requester) (dom r : Nat) (v : Word) (d : Dev) : Dev :=
  d.ringWindow q (ringKey dom r) (fun d => d.ringCfgWrite (ringKey dom r) v)

/-- RING_EN_WRITE. -/
def execRingEnWrite (q : Requester) (d r : Fin 16) (v : Word) (s : State) : Host.Outcome State Fault Refusal :=
  s.run (ringEnWriteEffect q d r v)

/-- MSI-X entries, pending bits and Bus Master Enable of a function are cleared. -/
def Dev.clearMsix (d : Dev) (fn : Nat) : Dev :=
  { d with hst := { d.hst with
    msix := tclear d.hst.msix (512 * fn) (512 * fn + 512)
    pba := d.hst.pba.filter (fun i => i / 512 != fn), bme := tset 0 d.hst.bme fn 0 } }

/-- HST_FLR (R357): EN 0 on the 16 rings of the VF's domain, its MSI-X table and doorbells cleared (assumption 15). -/
def hstFlrEffect (fn : Nat) (d : Dev) : Dev :=
  if fn = 0 ∨ d.regionOff 5 = true then d
  else
    let dom := d.fnDomain fn
    let d := if dom = 0 then d else d.forEach (List.range 16) (fun d r => d.ringOff (ringKey dom r))
    (d.clearMsix fn).raise Ev.HST_FLR fn dom

/-- HST_FLR. -/
def execHstFlr (fn : Fin 16) (s : State) : Host.Outcome State Fault Refusal := s.run (hstFlrEffect fn)

/-- HST_LINK (R357): speed, width or state changed. Losing the link resets nothing. -/
def hstLinkEffect (v : Word) (d : Dev) : Dev :=
  let w := w32 (v.toNat &&& 0x1FF3F)
  if d.reg Reg.HST_LINK_STAT = w then d
  else (d.setReg Reg.HST_LINK_STAT w).raise Ev.HST_LINK 0 0 (leBytes 4 w.toNat)

/-- HST_LINK. -/
def execHstLink (v : Word) (s : State) : Host.Outcome State Fault Refusal := s.run (hstLinkEffect v)

/-- BUS_MASTER_ENABLE (R356). -/
def busMasterEnableEffect (fn : Nat) (on : Bool) (d : Dev) : Dev :=
  { d with hst := { d.hst with bme := tset 0 d.hst.bme fn on.toNat } }

/-- BUS_MASTER_ENABLE. -/
def execBusMasterEnable (fn : Fin 16) (on : Bool) (s : State) : Host.Outcome State Fault Refusal :=
  s.run (busMasterEnableEffect fn on)

/-- MSIX_COAL_TIMEOUT (R354, R386): the message of what is written and not signalled; `src` 16 is the domain's log. -/
def msixCoalTimeoutEffect (dom src : Nat) (d : Dev) : Dev :=
  if src = 16 then
    if d.fld (Reg.SWT_LOG_COAL dom) 31 16 = 0 ∨ tat 0 d.swt.unsig dom = 0 then d
    else { d with swt := { d.swt with unsig := tset 0 d.swt.unsig dom 0 } }.message (d.serving dom) (d.fld (Reg.SWT_LOG_CFG dom) 8 0)
  else
    let k := ringKey dom src
    if d.fld (Reg.HST_RING_COAL dom src) 31 16 = 0 ∨ tat 0 d.hst.unsig k = 0 then d
    else { d with hst := { d.hst with unsig := tset 0 d.hst.unsig k 0 } }.message (d.serving dom) (d.fld (rCfg k) 8 0)

/-- MSIX_COAL_TIMEOUT. -/
def execMsixCoalTimeout (d : Fin 16) (src : Fin 17) (s : State) : Host.Outcome State Fault Refusal :=
  s.run (msixCoalTimeoutEffect d src)

/-- DMA_ERR (R356): no part of the descriptor takes effect. -/
def dmaErrEffect (dom r : Nat) (d : Dev) : Dev :=
  let k := ringKey dom r
  if d.ringOn k = false then d
  else ((d.ringStop k 2).count Reg.HST_DMA_ERR).raise Ev.DMA_ERR k dom

/-- DMA_ERR. -/
def execDmaErr (d : Fin 16) (r : Fin 6) (s : State) : Host.Outcome State Fault Refusal := s.run (dmaErrEffect d r)

/-! ### BAR2 (R343) -/

/-- Window of a function: its device address and its size (assumption 107). -/
def Dev.bar2Window (d : Dev) (fn : Nat) : Nat × Nat :=
  if fn = 0 then
    let size := 2 ^ d.fld Reg.HST_BAR2_SIZE 5 0
    ((d.reg64 Reg.HST_BAR2_BASE_LO Reg.HST_BAR2_BASE_HI) / size * size, size)
  else (d.reg64 (Reg.HST_VF_WIN_LO fn) (Reg.HST_VF_WIN_HI fn), 2 ^ 28)

/-- The PF's BAR2 maps the staging area (R397, R399): cast-on waits for a push (assumption 107). -/
def Dev.stagingOpen (d : Dev) : Bool :=
  let c := d.fld Reg.SYS_CASTON 7 0
  (c == 1 && d.fld Reg.SYS_CASTON 11 8 == 3) || c == 2 || c == 4

/-- BAR2_ACCESS (R343): through DRAM port 0 with the function's domain; what lies outside the window is not the
function's. While cast-on waits for a push, the PF's accesses reach the staging area (assumption 107). -/
def bar2AccessEffect (fn : Nat) (op : Bar2Op) (d : Dev) : Dev :=
  let w := d.bar2Window fn
  let dom := d.fnDomain fn
  if d.fnBound fn = false ∨ d.regionOff 5 = true then d
  else if fn = 0 ∧ d.stagingOpen = true then
    match op with
    | .write off b => if off + b.length ≤ 0x1800000 then { d with sram := memWrite d.sram off b } else d
    | .read _ _ => d
  else match op with
    | .write off b => if off + b.length ≤ w.2 ∧ b ≠ [] then d.dramPut 0 dom (w.1 + off) b else d
    | .read off n => if off + n ≤ w.2 ∧ n ≠ 0 then (d.dramGet 0 dom (w.1 + off) n).2 else d

/-- BAR2_ACCESS. -/
def execBar2Access (fn : Fin 16) (op : Bar2Op) (s : State) : Host.Outcome State Fault Refusal :=
  s.run (bar2AccessEffect fn op)

end Sys2Proof.Machine
end

