-- ==== Sys2Proof/Machine/Parse.lean ====
section
/-! DEFINITION. The frame parser (R74): tag, IP and UDP headers of a frame without its FCS, their checksums, and a frame's
lengths and checksums written again. -/

namespace Sys2Proof.Machine

/-- A frame's headers: TCI of its tag, EtherType behind it, offset of the network header, IPv6, addresses in IPv4-mapped
form (R78), protocol, MF or fragment offset, offset of the UDP header, and offset of the UDP payload. -/
structure Headers where
  tci : Option Nat
  etherType : Nat
  net : Nat
  v6 : Bool
  src : List Byte
  dst : List Byte
  proto : Nat
  frag : Bool
  l4 : Nat
  off : Nat
  deriving DecidableEq, Repr

/-- An EtherType that marks a tag. -/
def isTag (t : Nat) : Bool := t == 0x8100 || t == 0x88A8

/-- An IPv4 address in its mapped form (R78). -/
def mapped (a : List Byte) : List Byte := List.replicate 10 0 ++ [0xFF, 0xFF] ++ a

/-- The headers of a frame (R74), tagged or not; IPv4 options are skipped by IHL (assumption 41). -/
def headersAt (tagged : Bool) (f : List Byte) : Headers :=
  let net := if tagged then 18 else 14
  let et := beAt f (net - 2) 2
  let v6 := et == 0x86DD
  let l4 := if v6 then net + 40 else net + 4 * (byteAt f net % 16)
  { tci := if tagged then some (beAt f 14 2) else none
    etherType := et, net := net, v6 := v6
    src := if v6 then (f.drop (net + 8)).take 16 else mapped ((f.drop (net + 12)).take 4)
    dst := if v6 then (f.drop (net + 24)).take 16 else mapped ((f.drop (net + 16)).take 4)
    proto := if v6 then byteAt f (net + 6) else byteAt f (net + 9)
    frag := !v6 && beAt f (net + 6) 2 % 2 ^ 14 != 0
    l4 := l4, off := l4 + 8 }

/-- The headers of a frame whose tag may have either TPID (assumption 41). -/
def headers (f : List Byte) : Headers := headersAt (isTag (beAt f 12 2)) f

/-- The IPv4 header of a frame. -/
def Headers.ipv4 (h : Headers) (f : List Byte) : List Byte := (f.drop h.net).take (h.l4 - h.net)

/-- The IPv4 header checksum holds. -/
def Headers.sumOk (h : Headers) (f : List Byte) : Bool := onesSum (h.ipv4 f) == 0xFFFF

/-- The UDP datagram of a frame, by its own length. -/
def Headers.datagram (h : Headers) (f : List Byte) : List Byte := (f.drop h.l4).take (beAt f (h.l4 + 4) 2)

/-- The UDP payload of a frame. -/
def Headers.payload (h : Headers) (f : List Byte) : List Byte := (h.datagram f).drop 8

/-- The sum of the pseudo-header and a datagram. -/
def Headers.udpSum (h : Headers) (udp : List Byte) : Nat :=
  let a := if h.v6 then h.src ++ h.dst else h.src.drop 12 ++ h.dst.drop 12
  onesAdd (onesSum a) (onesAdd ((17 + udp.length) % 65536) (onesSum udp))

/-- The UDP checksum holds; a zero IPv4 checksum passes (R76). -/
def Headers.udpOk (h : Headers) (f : List Byte) : Bool :=
  (!h.v6 && beAt f (h.l4 + 6) 2 == 0) || h.udpSum (h.datagram f) == 0xFFFF

/-- Complement of a one's complement sum, as a checksum field. -/
def checksum (n : Nat) : List Byte := beBytes 2 (0xFFFF - n)

/-- A frame with a new UDP payload: IP and UDP lengths, the IPv4 header checksum and the UDP checksum follow (R350). -/
def Headers.rebuild (h : Headers) (f p : List Byte) : List Byte :=
  let n := p.length + 8
  let front := f.take h.off
  let front := patch front (h.l4 + 4) (beBytes 2 n)
  let front := if h.v6 then patch front (h.net + 4) (beBytes 2 n) else patch front (h.net + 2) (beBytes 2 (n + h.l4 - h.net))
  let front := if h.v6 then front else
    let z := patch front (h.net + 10) [0, 0]
    patch z (h.net + 10) (checksum (onesSum (h.ipv4 z)))
  let front := patch front (h.l4 + 6) [0, 0]
  let c := 0xFFFF - h.udpSum (front.drop h.l4 ++ p)
  patch front (h.l4 + 6) (beBytes 2 (if c = 0 then 0xFFFF else c)) ++ p

/-- A frame whose UDP datagram the parser can reach. -/
def Headers.isUdp (h : Headers) (f : List Byte) : Bool :=
  (h.v6 || h.etherType == 0x0800) && h.proto == 17 && !h.frag && decide (h.off ≤ f.length)

end Sys2Proof.Machine
end

