-- ==== Sys2Proof/Machine/Inject.lean ====
section
/-! DEFINITION. Injection rings (R350): frames of the host, raw, as SRTCP or as RTP. -/

namespace Sys2Proof.Machine

/-- The next descriptor of a host-to-device ring is taken (R346): none while the ring is off, has no descriptor, or its
completion ring has no free entry; its entry stays reserved until it has finished (assumption 104). -/
def Dev.takeDesc (d : Dev) (k : Nat) : Option Dev :=
  let ci := (d.reg (rDev k)).toNat
  if d.ringOn k = false ∨ (d.reg (rHost k)).toNat = ci ∨ d.ringSpace (completionRing k) = 0 then none
  else
    let c := completionRing k
    some ({ d with hst := { d.hst with resv := tset 0 d.hst.resv c (tat 0 d.hst.resv c + 1) } }.setReg (rDev k) (w32 (ci + 1)))

/-- A bad descriptor stops its ring (R358) (assumption 104). -/
def Dev.badDesc (d : Dev) (k : Nat) : Dev := (d.ringStop k 1).raise Ev.HST_RING_ERR k (k / 16) [1]

/-- The injected frame's queue entry. -/
def injectFrame (x : InjDesc) (k chain nbuf len : Nat) (leaf : Option Nat) (stream : Option Nat) : QFrame :=
  { chain := chain, nbuf := nbuf, len := len, leg := leaf.map (fun q => q / 2), leaf := leaf, stream := stream,
    tsReq := x.tsReq, tag := x.tag.toNat, ring := some k, notify := x.notify }

/-- A chain's frame is handed to EGS (R291). -/
def Dev.injectOut (d : Dev) (x : InjDesc) (k id len : Nat) (leaf stream : Option Nat) : Dev :=
  let d := (d.share 42 id (2 ^ 49) 49 (id / 2 ^ 22)).1
  d.enqueue (injectFrame x k id (d.desc id).nbuf len leaf stream) x.port

/-- A descriptor ends without a frame: its chain goes back. -/
def Dev.injectFail (d : Dev) (x : InjDesc) (k id status : Nat) : Dev :=
  (d.freeChain id).complete k x.tag.toNat status 0 noTs x.notify

/-- RAW (R350): as written; toward a leg it is mirrored like every packet. -/
def Dev.injectRawRun (d : Dev) (x : InjDesc) (k id : Nat) : Dev :=
  let l := x.leg.toNat
  let d := d.storeFrame id x.frame
  let d := if x.legValid then d.mirrorOut l id x.frame 0 0 else d
  d.injectOut x k id (x.frame.length + 4) (if x.legValid then some (2 * l + 1) else none) none

/-- A packet that would be too long once sealed is dropped (chapter 05) (assumption 92). -/
def Dev.tooLong (d : Dev) (l len : Nat) : Bool := decide (d.maxFrame (d.legPort l) < len)

/-- An SRTCP packet from a compound (RFC 3711, RFC 7714): header, encrypted rest, tag and index word in the transform's
order. -/
def Dev.sealRtcp (d : Dev) (slot i : Nat) (p : List Byte) : List Byte :=
  let t := slotTransform (d.slot slot)
  let body := p.take 8 ++ d.cipherRun true true slot i (p.drop 8)
  let word := beBytes 4 (2 ^ 31 + i)
  let tag := d.sealTag slot i (rtcpTagBytes t)
  if streaming t then body ++ tag ++ word else body ++ word ++ tag

/-- The key slot of an outbound stream cannot seal a packet: EMPTY or DERIVING, or another's (R94, R97). -/
def Dev.sealRefused (d : Dev) (slot l : Nat) : Option Dev :=
  if slotState (d.slot slot) < 2 then some (d.noKey l (d.legDomain l))
  else if d.canSeal slot l (d.legDomain l) = false then some (d.keyMismatch l (d.legDomain l))
  else none

/-- SRTCP (R350): sealed with the next index of the stream's record and queued to Q2L + 1. -/
def Dev.injectSrtcpRun (d : Dev) (x : InjDesc) (k id : Nat) : Dev :=
  let l := x.leg.toNat
  let o := x.stream.toNat
  let r := d.outRec (outKey l o)
  let h := headers x.frame
  let p := h.payload x.frame
  let slot := outSlot r
  let t := slotTransform (d.slot slot)
  let out (d : Dev) (f : List Byte) : Dev :=
    if d.tooLong l (f.length + 4) then (d.count Reg.CIP_TOO_LONG).injectFail x k id 3
    else ((d.storeFrame id f).mirrorOut l id x.frame 0 o).injectOut x k id (f.length + 4) (some (2 * l + 1)) none
  if h.isUdp x.frame = false ∨ p.length < 8 then d.injectFail x k id 1
  else if outClear r then out d (h.rebuild x.frame p)
  else match d.sealRefused slot l with
    | some d => d.injectFail x k id 3
    | none =>
      if d.tooLong l (h.off + p.length + 4 + rtcpTagBytes t + 4) then (d.count Reg.CIP_TOO_LONG).injectFail x k id 3
      else match d.takeRtcpIndex (40 * l + 8 + o) l slot with
        | (none, d) => d.injectFail x k id 3
        | (some i, d) => out d (h.rebuild x.frame (d.sealRtcp slot i p))

/-- An RTP packet of the host as its stream numbers it (R350): SSRC, payload type, sequence number and timestamp. -/
def numbered (r seq : Nat) (p : List Byte) : List Byte :=
  let p := patch p 1 [b8 (byteAt p 1 / 128 * 128 + rbits r 6 6 0)]
  let p := patch p 2 (beBytes 2 seq)
  let p := patch p 4 (beBytes 4 ((beAt p 4 4 + rf r 24 4) % 2 ^ 32))
  patch p 8 (beBytes 4 (rf r 0 4))

/-- RTP (R350): numbered, sealed and queued to Q2L; BAD if the stream has EN clear or OWNED set. -/
def Dev.injectRtpRun (d : Dev) (x : InjDesc) (k id : Nat) : Dev :=
  let l := x.leg.toNat
  let o := x.stream.toNat
  let key := outKey l o
  let h := headers x.frame
  let p := h.payload x.frame
  if d.outOn key = false ∨ outOwned (d.outRec key) = true ∨ h.isUdp x.frame = false ∨ p.length < rtpHdrLen p ∨ p.length < 12 then
    d.injectFail x k id 1
  else
    let (seq, d) := d.takeSeq key
    let r := d.outRec key
    let d := d.outCount key 36
    let p := numbered r seq p
    let n := rtpHdrLen p
    let slot := outSlot r
    let t := slotTransform (d.slot slot)
    let out (d : Dev) (q : List Byte) : Dev :=
      ((d.storeFrame id (h.rebuild x.frame q)).mirrorOut l id (h.rebuild x.frame p) 0 o).injectOut x k id
        (h.off + q.length + 4) (some (2 * l)) (some key)
    let drop (d : Dev) : Dev := (d.outCount key 40).injectFail x k id 3
    if d.tooLong l (h.off + p.length + (if outClear r then 0 else tagBytes t) + 4) then drop (d.count Reg.CIP_TOO_LONG)
    else if outClear r then out d p
    else match d.sealRefused slot l with
      | some d => drop d
      | none =>
        match d.takeRtpIndex (40 * l + 8 + o) l seq slot with
        | (none, d) => drop d
        | (some i, d) => out d (p.take n ++ d.cipherRun true false slot i (p.drop n) ++ d.sealTag slot i (tagBytes t))

/-- KIND of a descriptor decides what becomes of the frame in its chain. -/
def Dev.injectRun (d : Dev) (x : InjDesc) (k id : Nat) : Dev :=
  match x.kind.toNat with
  | 0 => d.injectRawRun x k id
  | 1 => d.injectSrtcpRun x k id
  | _ => d.injectRtpRun x k id

/-- A chain for an injected frame (R350): none while the pool answers NONE. -/
def Dev.injectTry (d : Dev) (x : InjDesc) (k : Nat) : Bool × Dev :=
  let pool := d.fld Reg.HST_INJ_POOL 2 0
  let n := buffersFor (d.fld (Reg.BPM_POOL_CFG pool) 7 0) (x.frame.length + 64)
  match d.alloc pool 42 n (k / 16) with
  | (some id, d) => (true, d.injectRun x k id)
  | (none, d) => (false, d)

/-- Port of a descriptor. -/
def Dev.injectPort (d : Dev) (x : InjDesc) : Nat := if x.legValid then d.legPort x.leg.toNat else x.port

/-- A descriptor of an injection ring runs, or waits for buffers (R350). -/
def Dev.injectDesc (d : Dev) (k : Nat) (x : InjDesc) : Dev :=
  if (tat none d.hst.inject k).isSome then d
  else if d.ringOn k ∧ (x.kind = 3 ∨ x.frame.length < 60 ∨ d.maxFrame (d.injectPort x) < x.frame.length + 4) then
    (d.takeDesc k).elim d (fun _ => d.badDesc k)
  else match d.takeDesc k with
    | none => d
    | some d =>
      if x.legValid && !d.mayLeg (k / 16) x.leg.toNat then d.complete k x.tag.toNat 5 0 noTs x.notify
      else if x.kind ≠ 0 ∧ x.legValid = false then d.complete k x.tag.toNat 1 0 noTs x.notify
      else
        let r := d.injectTry x k
        if r.1 then r.2 else { r.2 with hst := { r.2.hst with inject := tset none r.2.hst.inject k (some (x, 0)) } }

/-- A row tick for the injections that wait: each retries, and after 8 rows ends with NO_BUFFER (R350). -/
def Dev.injectTick (d : Dev) : Dev :=
  d.forEach d.hst.inject (fun d e =>
    match e.2 with
    | none => d
    | some (x, n) =>
      let clear (d : Dev) : Dev := { d with hst := { d.hst with inject := tset none d.hst.inject e.1 none } }
      let r := d.injectTry x e.1
      if r.1 then clear r.2
      else if 7 ≤ n then (clear r.2).complete e.1 x.tag.toNat 4 0 noTs x.notify
      else { r.2 with hst := { r.2.hst with inject := tset none r.2.hst.inject e.1 (some (x, n + 1)) } })

/-- INJECT_RAW (R350). -/
def injectRawEffect (dom r : Nat) (x : InjDesc) (d : Dev) : Dev :=
  if d.regionOff 5 then d else d.injectDesc (ringKey dom (2 + r)) { x with kind := if x.kind = 3 then 3 else 0 }

/-- INJECT_RAW. -/
def execInjectRaw (d : Fin 16) (r : Fin 4) (desc : InjDesc) (s : State) : Host.Outcome State Fault Refusal :=
  s.run (injectRawEffect d r desc)

/-- INJECT_SRTCP (R350). -/
def injectSrtcpEffect (dom r : Nat) (x : InjDesc) (d : Dev) : Dev :=
  if d.regionOff 5 then d else d.injectDesc (ringKey dom (2 + r)) { x with kind := if x.kind = 3 then 3 else 1 }

/-- INJECT_SRTCP. -/
def execInjectSrtcp (d : Fin 16) (r : Fin 4) (desc : InjDesc) (s : State) : Host.Outcome State Fault Refusal :=
  s.run (injectSrtcpEffect d r desc)

/-- INJECT_RTP (R350). -/
def injectRtpEffect (dom r : Nat) (x : InjDesc) (d : Dev) : Dev :=
  if d.regionOff 5 then d else d.injectDesc (ringKey dom (2 + r)) { x with kind := if x.kind = 3 then 3 else 2 }

/-- INJECT_RTP. -/
def execInjectRtp (d : Fin 16) (r : Fin 4) (desc : InjDesc) (s : State) : Host.Outcome State Fault Refusal :=
  s.run (injectRtpEffect d r desc)

end Sys2Proof.Machine
end

