-- ==== Sys2Proof/Machine/Units.lean ====
section
/-! DEFINITION. The units of a skein (R158 to R160): the codec assist (0), the ASRC (1) and the copy unit (2). The numbers
that the transforms and filters compute are not stated; they are free values of `Config`. -/

namespace Sys2Proof.Machine

/-! ### Commands -/

/-- A core's program writes a slot and sets GO (R158): a running core only; while a command runs, GO is ignored. -/
def Dev.unitCommand (d : Dev) (n unit op : Nat) (c : UnitCmd) : Dev :=
  if d.regionOff (24 + n / 16) ∨ (d.core n).state ≠ 1 ∨ (d.core n).ending ≠ 0 then d
  else
    let w := op + (if c.irq then 2 ^ 30 else 0) + c.src.toNat * 256 ^ 8 + c.dst.toNat * 256 ^ 12 + c.len.toNat * 256 ^ 16 +
      c.param0.toNat * 256 ^ 20 + c.param1.toNat * 256 ^ 24
    (d.setUnitSlot n unit (mix slotMask (d.unitSlot n unit) w)).slotGo n unit

/-! ### Completion -/

/-- How a command ends: the device, ERR_CODE (0 for none), RESULT0 and RESULT1. -/
structure UnitEnd where
  dev : Dev
  err : Nat := 0
  r0 : Nat := 0
  r1 : Nat := 0

/-- Fields of a slot (Table 09-5). -/
abbrev slotSrc (s : Nat) : Nat := rf s 8 4
/-- DST. -/
abbrev slotDst (s : Nat) : Nat := rf s 12 4
/-- LEN. -/
abbrev slotLen (s : Nat) : Nat := rf s 16 4
/-- PARAM0. -/
abbrev slotP0 (s : Nat) : Nat := rf s 20 4
/-- PARAM1. -/
abbrev slotP1 (s : Nat) : Nat := rf s 24 4

/-- `[a, a+n)` lies in shared memory (R158). -/
def inShared (a n : Nat) : Bool := decide (0x200000 ≤ a ∧ a + n ≤ 0x400000)

/-- Checks of source ranges and the destination range of a core's command: 0, 2 region or 3 out of range (assumption 64). -/
def Dev.rangeErr (d : Dev) (n : Nat) (srcs : List (Nat × Nat)) (dst k : Nat) : Nat :=
  if srcs.any (fun e => !inShared e.1 e.2) || !inShared dst k then 3 else if d.mayStore n dst k then 0 else 2

/-- The bytes a codec or ASRC command writes, as free values of its slot and of shared memory. -/
def freeBytes (op s : Nat) (m : List Host.Cell) (n : Nat) : List Byte := (List.range n).map (Config.unitByte op s m)

/-- A command that reads ranges and writes `k` bytes at DST (assumption 64). -/
def Dev.unitWrite (d : Dev) (n op s : Nat) (srcs : List (Nat × Nat)) (k : Nat) : UnitEnd :=
  let e := d.rangeErr n srcs (slotDst s) k
  if e ≠ 0 then { dev := d, err := e }
  else { dev := d.shmWrite (n / 16) (slotDst s) (freeBytes op s (d.shm (n / 16)) k) }

/-- The 32 bytes of coder state at an address move on. -/
def Dev.coderState (d : Dev) (n op s a : Nat) : Dev :=
  d.shmWrite (n / 16) a ((List.range 32).map (fun i => Config.unitByte op s (d.shm (n / 16)) (0x100000 + i)))

/-- Codec assist (Table 09-6) (assumption 62). -/
def Dev.assist (d : Dev) (n s : Nat) : UnitEnd :=
  let m := d.shm (n / 16)
  let len := slotLen s
  let k := slotP1 s % 2 ^ 16
  let pvqErr := len < 2 ∨ 176 < len ∨ k < 1 ∨ 128 < k
  match rf s 0 1 with
  | 1 => if [60, 120, 240, 480, 960].contains len then d.unitWrite n 1 s [(slotSrc s, 8 * len), (slotP0 s, 8 * len)] (4 * len)
      else { dev := d, err := 1 }
  | 2 => if [60, 120, 240, 480, 960].contains len then d.unitWrite n 2 s [(slotSrc s, 4 * len), (slotP0 s, 8 * len)] (8 * len)
      else { dev := d, err := 1 }
  | 3 =>
    let e := d.unitWrite n 3 s [(slotSrc s, 0), (slotP0 s, 32)] (2 * len)
    if e.err ≠ 0 then e else { e with dev := e.dev.coderState n 3 s (slotP0 s), r0 := Config.unitCount 3 s m }
  | 4 =>
    let b := Config.unitCount 4 s m
    let e := d.unitWrite n 4 s [(slotSrc s, 2 * len), (slotP1 s, 0), (slotP0 s, 32)] b
    if e.err ≠ 0 then e else { e with dev := e.dev.coderState n 4 s (slotP0 s), r0 := b }
  | 5 => if pvqErr then { dev := d, err := 3 } else d.unitWrite n 5 s [] (2 * len)
  | 6 =>
    if pvqErr then { dev := d, err := 3 }
    else { d.unitWrite n 6 s [(slotSrc s, 4 * len)] (2 * len) with r0 := Config.unitCount 6 s m, r1 := Config.unitCount 7 s m }
  | _ => { dev := d, err := 1 }

/-- An ASRC context of a skein. -/
def Dev.asrcCtx (d : Dev) (sk i : Nat) : AsrcCtx := tat {} d.dsp.asrc (2048 * sk + i)

/-- An ASRC context replaced. -/
def Dev.setAsrc (d : Dev) (sk i : Nat) (c : AsrcCtx) : Dev :=
  { d with dsp := { d.dsp with asrc := tset {} d.dsp.asrc (2048 * sk + i) c } }

/-- Words of a list of bytes. -/
def wordsOf : Nat → List Byte → List Word
  | 0, _ => []
  | k + 1, b => w32 (leAt b 0 4) :: wordsOf k (b.drop 4)

/-- CONVERT (R159): how much of the input is used and how many samples come out are free, within LEN and PARAM1; fewer
outputs than asked end it with ERR 4 (assumption 63). -/
def Dev.asrcConvert (d : Dev) (n s : Nat) : UnitEnd :=
  let sk := n / 16
  let i := slotP0 s
  let c := d.asrcCtx sk i
  let want := slotP1 s
  if want < 1 ∨ 256 < want then { dev := d, err := 3 }
  else
    let e := d.rangeErr n [(slotSrc s, 4 * slotLen s)] (slotDst s) (4 * want)
    if e ≠ 0 then { dev := d, err := e }
    else
      let inp := wordsOf (slotLen s) (d.shmRead sk (slotSrc s) (4 * slotLen s))
      let used := min (slotLen s) (Config.asrcUsed c.ratio c.phase inp want)
      let made := min want (Config.asrcMade c.ratio c.phase inp want)
      let out := (List.range made).flatMap (fun j => leBytes 4 (Config.asrcSample c.ratio c.phase (c.hist ++ inp) j).toNat)
      let seen := c.hist ++ inp.take used
      let c := { c with hist := seen.drop (seen.length - 64), phase := Config.asrcPhase c.ratio c.phase used made }
      { dev := (d.shmWrite sk (slotDst s) out).setAsrc sk i c, err := if made < want then 4 else 0, r0 := used, r1 := made }

/-- ASRC (R159). -/
def Dev.asrcRun (d : Dev) (n s : Nat) : UnitEnd :=
  let sk := n / 16
  let i := slotP0 s
  if 2048 ≤ i then { dev := d, err := 1 }
  else match rf s 0 1 with
    | 1 => d.asrcConvert n s
    | 2 =>
      if slotP1 s < 0x02000000 ∨ 0x40000000 < slotP1 s then { dev := d, err := 3 }
      else { dev := d.setAsrc sk i { d.asrcCtx sk i with ratio := slotP1 s } }
    | 3 => { dev := d.setAsrc sk i { d.asrcCtx sk i with hist := [], phase := 0 } }
    | _ => { dev := d, err := 1 }

/-- A buffer ID that heads a chain in use. -/
def Dev.liveChain (d : Dev) (id : Nat) : Bool := decide (id < 2 ^ 25) && (d.desc id).head && (d.desc id).state != 0

/-- Data bytes a chain can hold. -/
def Dev.chainRoom (d : Dev) (id : Nat) : Nat := 2048 * (d.desc id).nbuf - (d.desc id).dataOff

/-- Copy unit (R160), agent 33 + k. -/
def Dev.copyRun (d : Dev) (n s : Nat) : UnitEnd :=
  let sk := n / 16
  let len := slotLen s
  match rf s 0 1 with
  | 1 =>
    let id := slotDst s
    if d.liveChain id = false then { dev := d, err := 1 }
    else if inShared (slotSrc s) len = false ∨ d.chainRoom id < slotP0 s + len then { dev := d, err := 3 }
    else
      let old := d.chainData id
      let old := old ++ List.replicate (slotP0 s + len - old.length) 0
      { dev := d.storeFrame id (patch old (slotP0 s) (d.shmRead sk (slotSrc s) len)) }
  | 2 =>
    let id := slotSrc s
    if d.liveChain id = false then { dev := d, err := 1 }
    else if (d.chainData id).length < len then { dev := d, err := 3 }
    else
      let e := d.rangeErr n [] (slotDst s) len
      if e ≠ 0 then { dev := d, err := e } else { dev := d.shmWrite sk (slotDst s) ((d.chainData id).take len) }
  | 3 =>
    let k := slotP0 s % 8
    if k = 0 ∨ 5 < k then { dev := d, err := 5 }
    else match d.alloc (slotP1 s % 8) (33 + sk) k (d.fld (Reg.DSP_SK_CFG sk) 3 0) with
      | (some id, d) => { dev := d, r0 := id }
      | (none, d) => { dev := d, err := 5 }
  | 4 => released (d.release (33 + sk) 4 (slotSrc s % 2 ^ 25) sk)
  | 5 => released (d.release (33 + sk) 3 (slotSrc s % 2 ^ 25) sk)
  | _ => { dev := d, err := 1 }
where
  /-- The end of a release: a refused one is a bad operand. -/
  released (r : Dev × Nat) : UnitEnd := { dev := r.1, err := if r.2 = 0 then 0 else 1 }

/-- DSP_UNIT_ERR (Table 09-7), once per row per core (assumption 64). -/
def Dev.unitErr (d : Dev) (n unit code : Nat) : Dev :=
  if n ∈ d.dsp.errMark then d
  else { d with dsp := { d.dsp with errMark := addMark d.dsp.errMark n } }.raise Ev.DSP_UNIT_ERR n
    (d.fld (Reg.DSP_SK_CFG (n / 16)) 3 0) [b8 unit, b8 code]

/-- STATUS, results and the interrupt of a command that ended (Table 09-5). -/
def Dev.unitPublish (d : Dev) (n unit s : Nat) (e : UnitEnd) : Dev :=
  let d := e.dev
  let status := 2 ^ 30 + (if e.err = 0 then 0 else 2 ^ 29 + e.err)
  let d := d.setUnitSlot n unit (rset (rset (rset (d.unitSlot n unit) 4 4 status) 28 4 e.r0) 32 4 e.r1)
  let d := if e.err = 0 then d else d.unitErr n unit e.err
  let d := if rbits s 0 30 30 = 1 then d.modCore n (fun c => c.setB2 0x11 (c.b2 0x11 ||| 2 ^ (1 + unit))) else d
  d.finishTask n

/-- UNIT_DONE (R158): the unit's oldest command completes (assumption 62). -/
def unitDoneEffect (sk unit : Nat) (d : Dev) : Dev :=
  match d.unitQueue sk unit with
  | [] => d
  | (n, s) :: rest =>
    if d.regionOff (24 + sk) then d
    else
      let d := d.setUnitQueue sk unit rest
      d.unitPublish n unit s (if unit = 0 then d.assist n s else if unit = 1 then d.asrcRun n s else d.copyRun n s)

/-- UNIT_DONE. -/
def execUnitDone (sk : Fin 6) (unit : Fin 3) (s : State) : Host.Outcome State Fault Refusal :=
  s.run (unitDoneEffect sk unit)

/-- MDCT (Table 09-6): the command is issued. -/
def mdctEffect (n : Nat) (c : UnitCmd) (d : Dev) : Dev := d.unitCommand n 0 1 c

/-- MDCT. -/
def execMdct (n : Fin 96) (c : UnitCmd) (s : State) : Host.Outcome State Fault Refusal := s.run (mdctEffect n c)

/-- IMDCT (Table 09-6): the command is issued. -/
def imdctEffect (n : Nat) (c : UnitCmd) (d : Dev) : Dev := d.unitCommand n 0 2 c

/-- IMDCT. -/
def execImdct (n : Fin 96) (c : UnitCmd) (s : State) : Host.Outcome State Fault Refusal := s.run (imdctEffect n c)

/-- RC_DECODE (Table 09-6): the command is issued. -/
def rcDecodeEffect (n : Nat) (c : UnitCmd) (d : Dev) : Dev := d.unitCommand n 0 3 c

/-- RC_DECODE. -/
def execRcDecode (n : Fin 96) (c : UnitCmd) (s : State) : Host.Outcome State Fault Refusal := s.run (rcDecodeEffect n c)

/-- RC_ENCODE (Table 09-6): the command is issued. -/
def rcEncodeEffect (n : Nat) (c : UnitCmd) (d : Dev) : Dev := d.unitCommand n 0 4 c

/-- RC_ENCODE. -/
def execRcEncode (n : Fin 96) (c : UnitCmd) (s : State) : Host.Outcome State Fault Refusal := s.run (rcEncodeEffect n c)

/-- PVQ_DECODE (Table 09-6): the command is issued. -/
def pvqDecodeEffect (n : Nat) (c : UnitCmd) (d : Dev) : Dev := d.unitCommand n 0 5 c

/-- PVQ_DECODE. -/
def execPvqDecode (n : Fin 96) (c : UnitCmd) (s : State) : Host.Outcome State Fault Refusal := s.run (pvqDecodeEffect n c)

/-- PVQ_SEARCH (Table 09-6): the command is issued. -/
def pvqSearchEffect (n : Nat) (c : UnitCmd) (d : Dev) : Dev := d.unitCommand n 0 6 c

/-- PVQ_SEARCH. -/
def execPvqSearch (n : Fin 96) (c : UnitCmd) (s : State) : Host.Outcome State Fault Refusal := s.run (pvqSearchEffect n c)

/-- CONVERT (R159): the command is issued. -/
def convertEffect (n : Nat) (c : UnitCmd) (d : Dev) : Dev := d.unitCommand n 1 1 c

/-- CONVERT. -/
def execConvert (n : Fin 96) (c : UnitCmd) (s : State) : Host.Outcome State Fault Refusal := s.run (convertEffect n c)

/-- SET_RATIO (R159): the command is issued. -/
def setRatioEffect (n : Nat) (c : UnitCmd) (d : Dev) : Dev := d.unitCommand n 1 2 c

/-- SET_RATIO. -/
def execSetRatio (n : Fin 96) (c : UnitCmd) (s : State) : Host.Outcome State Fault Refusal := s.run (setRatioEffect n c)

/-- ASRC_RESET (R159): the command is issued. -/
def asrcResetEffect (n : Nat) (c : UnitCmd) (d : Dev) : Dev := d.unitCommand n 1 3 c

/-- ASRC_RESET. -/
def execAsrcReset (n : Fin 96) (c : UnitCmd) (s : State) : Host.Outcome State Fault Refusal := s.run (asrcResetEffect n c)

/-- TO_BUF (R160): the command is issued. -/
def toBufEffect (n : Nat) (c : UnitCmd) (d : Dev) : Dev := d.unitCommand n 2 1 c

/-- TO_BUF. -/
def execToBuf (n : Fin 96) (c : UnitCmd) (s : State) : Host.Outcome State Fault Refusal := s.run (toBufEffect n c)

/-- FROM_BUF (R160): the command is issued. -/
def fromBufEffect (n : Nat) (c : UnitCmd) (d : Dev) : Dev := d.unitCommand n 2 2 c

/-- FROM_BUF. -/
def execFromBuf (n : Fin 96) (c : UnitCmd) (s : State) : Host.Outcome State Fault Refusal := s.run (fromBufEffect n c)

/-- COPY_ALLOC (R160): the command is issued. -/
def copyAllocEffect (n : Nat) (c : UnitCmd) (d : Dev) : Dev := d.unitCommand n 2 3 c

/-- COPY_ALLOC. -/
def execCopyAlloc (n : Fin 96) (c : UnitCmd) (s : State) : Host.Outcome State Fault Refusal := s.run (copyAllocEffect n c)

/-- COPY_FREE (R160): the command is issued. -/
def copyFreeEffect (n : Nat) (c : UnitCmd) (d : Dev) : Dev := d.unitCommand n 2 4 c

/-- COPY_FREE. -/
def execCopyFree (n : Fin 96) (c : UnitCmd) (s : State) : Host.Outcome State Fault Refusal := s.run (copyFreeEffect n c)

/-- COPY_DROP (R160): the command is issued. -/
def copyDropEffect (n : Nat) (c : UnitCmd) (d : Dev) : Dev := d.unitCommand n 2 5 c

/-- COPY_DROP. -/
def execCopyDrop (n : Fin 96) (c : UnitCmd) (s : State) : Host.Outcome State Fault Refusal := s.run (copyDropEffect n c)

end Sys2Proof.Machine
end

