-- ==== Sys2Proof/Machine/Jitter.lean ====
section
/-! DEFINITION. Network audio legs (chapter 10): the leg and encode group records and their window commands, arrival of
packets (R164), their places (R165), the tasks of a row (R166 to R170), late packets (R169) and encode groups (R172 to
R174). -/

namespace Sys2Proof.Machine

/-! ### Records -/

/-- Configuration bytes of a leg record (Table 10-1). -/
def jbfCfg : RecMask :=
  ⟨bytesAt 0 48, bitsAt 0 5 0 + bitsAt 1 4 0 + bitsAt 2 3 0 + bitsAt 3 6 0 + bytesAt 4 11 + bitsAt 16 11 0 + bitsAt 18 11 0 +
    bitsAt 20 14 0 + bitsAt 22 14 0 + bitsAt 24 16 0 + bitsAt 27 3 0 + bitsAt 28 10 0 + bytesAt 32 16⟩

/-- Configuration bytes of an encode group record (Table 10-4). -/
def encCfg : RecMask :=
  ⟨bytesAt 0 32, bitsAt 0 3 0 + bitsAt 1 12 0 + bytesAt 3 1 + bitsAt 4 11 0 + bitsAt 6 14 0 + bytesAt 8 4 + bitsAt 12 12 0 +
    bitsAt 14 4 0⟩

/-- LV bytes of an encode group record. -/
def encLive : RecMask := ⟨bytesAt 32 8, bytesAt 32 1 + bitsAt 33 4 0 + bytesAt 34 4⟩

/-- Leg record. -/
def Dev.jrec (d : Dev) (l : Nat) : Nat := tat 0 d.jbf.recs l

/-- Leg record replaced. -/
def Dev.setJrec (d : Dev) (l r : Nat) : Dev := { d with jbf := { d.jbf with recs := tset 0 d.jbf.recs l r } }

/-- The rest of a leg. -/
def Dev.jleg (d : Dev) (l : Nat) : JbfLeg := tat {} d.jbf.legs l

/-- The rest of a leg replaced. -/
def Dev.setJleg (d : Dev) (l : Nat) (x : JbfLeg) : Dev := { d with jbf := { d.jbf with legs := tset {} d.jbf.legs l x } }

/-- Encode group record. -/
def Dev.encRec (d : Dev) (e : Nat) : Nat := tat 0 d.jbf.enc e

/-- Encode group record replaced. -/
def Dev.setEncRec (d : Dev) (e r : Nat) : Dev := { d with jbf := { d.jbf with enc := tset 0 d.jbf.enc e r } }

/-- Domain of an encode group (JBF_ENC_DOM). -/
def Dev.encDomain (d : Dev) (e : Nat) : Nat := d.fld (Reg.JBF_ENC_DOM (e / 8)) (4 * (e % 8) + 3) (4 * (e % 8))

/-- CODEC. -/
def jCodec (r : Nat) : Nat := rbits r 0 3 0
/-- STATE: 0 OFF, 1 WAIT, 2 PLAYING, 3 DTX, 4 CONCEAL, 5 STALLED. -/
def jState (r : Nat) : Nat := rbits r 50 2 0
/-- CONC_RUN. -/
def jConc (r : Nat) : Nat := rf r 51 1
/-- NEXT_SEQ. -/
def jSeq (r : Nat) : Nat := rf r 62 2
/-- NEXT_TS. -/
def jTs (r : Nat) : Nat := rf r 64 4
/-- LEAD. -/
def jLead (r : Nat) : Nat := rbits r 1 4 3
/-- FRAME_GEN. -/
def jGen (r : Nat) : Nat := rf r 80 4
/-- DEC_ROW of a parity. -/
def jDecRow (r p : Nat) : Nat := rf r (84 + 4 * p) 4
/-- DEC_STAMP of a parity. -/
def jStamp (r p : Nat) : Nat := rbits r 22 14 0 + p
/-- PCM chain of a parity. -/
def jPcm (r p : Nat) : Nat := rf r (40 + 4 * p) 4
/-- Domain of the leg's tasks. -/
def setState (r s : Nat) : Nat := rset r 50 1 s

/-- Rate of CLK in Hz. -/
def clkRate (c : Nat) : Nat := [8000, 16000, 32000, 44100, 48000, 88200, 96000].getD c 48000

/-- Timestamp clock of a leg (R165). -/
def tsClock (r : Nat) : Nat :=
  let c := jCodec r
  if 2 ≤ c ∧ c ≤ 4 then 8000 else if 5 ≤ c then clkRate (rbits r 2 2 0) else 48000

/-- Decoded rate of a leg (R171). -/
def decodedRate (r : Nat) : Nat :=
  let c := jCodec r
  if c = 2 ∨ c = 3 then 8000 else if c = 4 then 16000 else if 5 ≤ c then clkRate (rbits r 2 2 0) else 48000

/-- Domain of a leg's state: the leg is neither OFF nor unanchored. -/
def jAnchored (r : Nat) : Bool := decide (2 ≤ jState r ∧ jState r ≤ 4)

/-- Leg counters of JBF. -/
def Dev.jbfCount (d : Dev) (a : Nat) : Dev := d.count a

/-! ### Places (R165) -/

/-- place(): start row, offset and remainder of a timestamp. -/
def place (r ts : Nat) : Nat × Nat × Nat :=
  let num := rf r 60 1 * tsClock r + rf r 92 4 + sub32 ts (rf r 52 4) * 48000
  let smp := num / tsClock r
  ((rf r 56 4 + smp / 24) % 2 ^ 32, smp % 24, num % tsClock r)

/-- House index of a timestamp's first sample. -/
def placeIndex (r ts : Nat) : Nat := let p := place r ts; (24 * p.1 + p.2.1) % 2 ^ 32

/-- Samples a timestamp and the ticks after it cover at 48 kHz. -/
def placeLen (r ts ticks : Nat) : Nat := sub32 (placeIndex r (ts + ticks)) (placeIndex r ts)

/-- The anchor of a record. -/
def setAnchor (r ts row off rem : Nat) : Nat := rset (rset (rset (rset r 52 4 ts) 56 4 row) 60 1 off) 92 4 rem

/-- anchor(): two rows out, plus the target. -/
def anchorAt (r row ts seq : Nat) : Nat :=
  let a := 48 + rf r 48 2
  rset (rset (setAnchor r ts (row + a / 24) (a % 24) 0) 62 2 seq) 64 4 ts

/-- shift_anchor() (R170). -/
def shiftAnchor (r : Nat) (k : Int) : Nat :=
  let q := (rf r 60 1 : Int) + k
  let rows := Int.fdiv q 24
  rset (rset r 56 4 (uNat 32 ((rf r 56 4 : Int) + rows))) 60 1 (q - 24 * rows).toNat

/-- Ticks of the timestamp clock that a payload covers: the frame durations of RFC 6716, one byte a tick for the 8 kHz
codecs (RFC 3551), samples for L16 and L24. -/
def payloadTicks (r : Nat) (p : List Byte) : Nat :=
  let ch := 1 + rbits r 2 3 3
  match jCodec r with
  | 1 =>
    let toc := byteAt p 0
    let c := toc / 8
    let size := if c < 12 then [480, 960, 1920, 2880].getD (c % 4) 0 else if c < 16 then [480, 960].getD (c % 2) 0
      else [120, 240, 480, 960].getD (c % 4) 0
    size * (match toc % 4 with | 0 => 1 | 1 => 2 | 2 => 2 | _ => byteAt p 1 % 64)
  | 5 => p.length / 2 / ch
  | 6 => p.length / 3 / ch
  | _ => p.length

/-! ### The slot memory -/

/-- Entry of a sequence number. -/
def slotIndex (r seq : Nat) : Nat := rbits r 24 16 0 + seq % 2 ^ rbits r 27 3 0

/-- Entry of the slot memory. -/
def Dev.jslot (d : Dev) (i : Nat) : Option JbfSlot := tat none d.jbf.slots i

/-- Entry of the slot memory replaced. -/
def Dev.setJslot (d : Dev) (i : Nat) (x : Option JbfSlot) : Dev :=
  { d with jbf := { d.jbf with slots := tset none d.jbf.slots i x } }

/-- A packet chain JBF gives up (R164). -/
def Dev.jbfDrop (d : Dev) (chain : Nat) : Dev := d.giveBack 32 chain

/-- The verified packet that holds a sequence number of a leg. -/
def Dev.jbfHeld (d : Dev) (r seq : Nat) : Option JbfSlot :=
  match d.jslot (slotIndex r seq) with
  | some x => if x.seq = seq ∧ x.verified then some x else none
  | none => none

/-- The packet chains of a leg with record `r` are released (R175). -/
def Dev.jbfEmpty (d : Dev) (r : Nat) : Dev :=
  d.forEach (List.range (2 ^ rbits r 27 3 0)) (fun d i =>
    match d.jslot (rbits r 24 16 0 + i) with
    | some x => (d.setJslot (rbits r 24 16 0 + i) none).jbfDrop x.chain
    | none => d)

/-- A leg enters STALLED (R175): its packets are released. -/
def Dev.jbfStall (d : Dev) (l : Nat) : Dev :=
  let d := d.jbfEmpty (d.jrec l)
  (d.setJrec l (setState (d.jrec l) 5)).setJleg l { d.jleg l with play := [] }

/-- A leg enters OFF (Table 10-6): packets and the chains of R163 are released, and the live part is cleared except
TARGET. `old` is its record of before. -/
def Dev.jbfOff (d : Dev) (l old : Nat) : Dev :=
  let d := d.jbfEmpty old
  let d := d.forEach [32, 36, 40, 44] (fun d i => d.giveBack 32 (rf old i 4 % 2 ^ 25))
  (d.setJrec l (d.jrec l % 256 ^ 50)).setJleg l {}

/-! ### Tasks -/

/-- Skeins that serve a group. -/
def Dev.groupSkeins (d : Dev) (g : Nat) : Nat := d.fld (Reg.HOK_GRP g) 21 16

/-- The one skein that serves both groups of a leg (R163) (assumption 68). -/
def Dev.jbfSkein (d : Dev) (r : Nat) : Option Nat :=
  let m := d.groupSkeins (rbits r 16 11 0)
  if m = d.groupSkeins (rbits r 18 11 0) then (List.range 6).find? (fun k => decide (m = 2 ^ k)) else none

/-- A task descriptor of JBF: group, row, DISCARD_LATE, stamp and ARGS (Table 07-1) (assumption 68). -/
def jbfTask (kind group row : Nat) (discard : Bool) (stamp : Nat) (args : List Byte) : Nat :=
  leNat (leBytes 2 (Config.jbfEntry kind) ++ leBytes 2 (group % 4096) ++ leBytes 4 row ++ [b8 (1 + 2 * discard.toNat), 0] ++
    leBytes 2 (0x8000 + stamp % 0x8000) ++ List.replicate 4 0 ++ args)

/-- The skein check at an issue (R163): issued with the answer Hook gives, or nothing issued, STALLED and JBF_CFG_ERR. -/
def Dev.jbfIssue (d : Dev) (l task : Nat) : Bool × Dev :=
  if (d.jbfSkein (d.jrec l)).isNone then (false, (d.jbfStall l).raise Ev.JBF_CFG_ERR l (d.legDomain l))
  else
    let (e, d) := d.submit 32 (d.legDomain l) task
    if e = 0 then (true, d) else (false, d.raise Ev.JBF_SUBMIT_FAIL l (d.legDomain l))

/-- A decode-kind task of a leg (Table 10-2), with the record's parity `p`: DEC_ROW of the parity becomes `row`. -/
def Dev.jbfDecode (d : Dev) (l kind p chain next index len row : Nat) : Bool × Dev :=
  let r := d.jrec l
  let args := [b8 kind] ++ leBytes 2 l ++ [b8 (jCodec r + 16 * rbits r 2 3 3 + 32 * rbits r 0 5 5)] ++ leBytes 4 chain ++
    leBytes 4 next ++ leBytes 4 (jPcm r p) ++ leBytes 4 (rf r 32 4) ++ leBytes 4 (rf r 36 4) ++ leBytes 4 index ++
    leBytes 2 len ++ leBytes 2 (rbits r 28 10 0)
  let (ok, d) := d.jbfIssue l (jbfTask kind (rbits r 16 11 0) row true (jStamp r p) args)
  (ok, if ok then d.setJrec l (rset (d.jrec l) (84 + 4 * p) 4 row) else d)

/-! ### Scheduling (R166, R170) -/

/-- A frame that is scheduled at a tick: what is done and the entry it is done with. -/
structure Frame where
  kind : Nat
  chain : Nat
  next : Nat
  ticks : Nat
  seqs : Nat
  level : Option Nat
  deriving DecidableEq, Repr

/-- What R166 makes of the frame at NEXT_TS. KIND 1 DECODE, 5 CNG, 2 CONCEAL, 0 silent. A sender's pause shows as the next
packet in sequence, or the one after it, with a timestamp later than the frame or the frame after it would have (assumption 66). -/
def Dev.frameDue (d : Dev) (l : Nat) : Frame :=
  let r := d.jrec l
  let seq := jSeq r
  let ticks := (d.jleg l).ticks
  let one := d.jbfHeld r seq
  let two := d.jbfHeld r ((seq + 1) % 2 ^ 16)
  let gap (x : JbfSlot) : Nat := sub32 x.ts (jTs r)
  match one with
  | some x =>
    if after x.ts (jTs r) then ⟨5, 0, 0, gap x, 0, none⟩ else ⟨1, x.chain, 0, x.ticks, 1, x.level⟩
  | none =>
    match two with
    | some y =>
      if after y.ts ((jTs r + ticks) % 2 ^ 32) then ⟨5, 0, 0, gap y, 1, none⟩
      else if jConc r < rf r 14 1 then ⟨2, 0, if rbits r 0 4 4 = 1 then y.chain else 0, ticks, 1, none⟩
      else ⟨0, 0, 0, ticks, 1, none⟩
    | none => ⟨if jConc r < rf r 14 1 then 2 else 0, 0, 0, ticks, 1, none⟩

/-- The state and CONC_RUN after a frame of a kind is scheduled (Table 10-6). -/
def framedState (r kind : Nat) : Nat :=
  match kind with
  | 1 => rset (setState r 2) 51 1 0
  | 5 => rset (setState r 3) 51 1 0
  | 2 => rset (setState r 4) 51 1 (jConc r + 1)
  | _ => setState r 4

/-- A frame becomes the anchor, and NEXT_SEQ and NEXT_TS advance past it. -/
def passFrame (r : Nat) (f : Frame) : Nat :=
  let p := place r (jTs r)
  let r' := setAnchor r (jTs r) p.1 p.2.1 p.2.2
  rset (rset r' 62 2 (jSeq r + f.seqs)) 64 4 (jTs r + f.ticks)

/-- The frame at NEXT_TS is scheduled by R166 as `f`; a refused task leaves it silent (assumption 66). -/
def Dev.scheduleFrame (d : Dev) (l : Nat) (f : Frame) : Dev :=
  let r := d.jrec l
  let index := placeIndex r (jTs r)
  let len := placeLen r (jTs r) f.ticks
  let gen := (jGen r + 1) % 2 ^ 32
  let p := gen % 2
  let d := d.setJrec l (passFrame (framedState (rset r 80 4 gen) f.kind) f)
  let (ok, d) := if f.kind = 0 then (false, d) else d.jbfDecode l f.kind p f.chain f.next index len d.row32
  let x := d.jleg l
  if jState (d.jrec l) = 5 then d
  else d.setJleg l { x with ticks := f.ticks, play := x.play ++ [⟨index, len, p, jSeq r, ok && f.kind == 2, !ok, false⟩] }

/-- Too deep (R170): the frame is decoded and not played, and later frames play `len` samples earlier. -/
def Dev.adjustDrop (d : Dev) (l : Nat) (f : Frame) : Dev :=
  let r := d.jrec l
  let index := placeIndex r (jTs r)
  let len := placeLen r (jTs r) f.ticks
  let gen := (jGen r + 1) % 2 ^ 32
  let d := d.setJrec l (shiftAnchor (passFrame (framedState (rset r 80 4 gen) 1) f) (-(len : Int)))
  ((d.jbfDecode l 4 (gen % 2) f.chain 0 index len d.row32).2).count Reg.JBF_ADJ_DROP

/-- Too shallow (R170): a comfort-noise frame fills the frame's place, and it is placed `len` samples later. -/
def Dev.adjustInsert (d : Dev) (l : Nat) (f : Frame) : Dev :=
  let r := d.jrec l
  let index := placeIndex r (jTs r)
  let len := placeLen r (jTs r) f.ticks
  let gen := (jGen r + 1) % 2 ^ 32
  let p := gen % 2
  let d := d.setJrec l (shiftAnchor (rset r 80 4 gen) len)
  let (ok, d) := d.jbfDecode l 5 p 0 0 index len d.row32
  let d := d.count Reg.JBF_ADJ_INSERT
  let x := d.jleg l
  if jState (d.jrec l) = 5 then d
  else d.setJleg l { x with play := x.play ++ [⟨index, len, p, jSeq r, false, !ok, false⟩] }

/-- The frame at NEXT_TS is due: r has reached s0 - 1 - LEAD (assumption 66). -/
def Dev.jbfDue (d : Dev) (r : Nat) : Bool :=
  jAnchored r && !after (((place r (jTs r)).1 + 2 ^ 32 - 1 - jLead r) % 2 ^ 32) d.row32

/-- Frames due at the tick are scheduled; `adj` is the depth error while an adjustment may still be applied (assumption 66). -/
def Dev.jbfFrames (d : Dev) (l : Nat) (adj : Option Int) : Nat → Dev
  | 0 => d
  | n + 1 =>
    let r := d.jrec l
    if d.jbfDue r = false then d
    else
      let f := d.frameDue l
      match adj with
      | some err =>
        let quiet : Bool := f.level.any (fun v => decide (rbits r 3 6 0 ≤ v ∧ rbits r 3 6 0 ≠ 127))
        if rf r 70 2 ≠ 0 ∧ (quiet = true ∨ rf r 10 2 ≤ rf r 70 2) ∧ (err ≤ 0 ∨ f.kind = 1) then
          let d := if 0 < err then d.adjustDrop l f else d.adjustInsert l f
          let d := if quiet then d else d.raise Ev.JBF_ADJ_FORCED l (d.legDomain l)
          (d.setJrec l (rset (d.jrec l) 70 2 0)).jbfFrames l none n
        else (d.scheduleFrame l f).jbfFrames l none n
      | none => (d.scheduleFrame l f).jbfFrames l none n

/-- House index just past the last verified frame held in sequence without a gap. -/
def Dev.heldTo (d : Dev) (r seq ts : Nat) : Nat → Nat
  | 0 => placeIndex r ts
  | n + 1 =>
    match d.jbfHeld r seq with
    | some x => d.heldTo r ((seq + 1) % 2 ^ 16) ((x.ts + x.ticks) % 2 ^ 32) n
    | none => placeIndex r ts

/-- DEPTH: what is held beyond the delivery point (R170), 0 to 65,535. -/
def Dev.depthNow (d : Dev) (r : Nat) : Nat :=
  let k := sub32 (d.heldTo r (jSeq r) (jTs r) (2 ^ rbits r 27 3 0)) (24 * d.row32)
  if 2 ^ 31 ≤ k then 0 else min k 0xFFFF

/-- The depth check of a tick (R170): DEPTH and ADJ_RUN; the error of a PLAYING leg. -/
def Dev.jbfDepth (d : Dev) (l : Nat) : Dev × Option Int :=
  let r := d.jrec l
  if jAnchored r = false then (d, none)
  else
    let r := rset r 68 2 (d.depthNow r)
    let err := (rf r 68 2 : Int) - rf r 48 2
    if jState r = 2 then
      let run := if (rf r 8 2 : Int) < err ∨ err < -(rf r 8 2 : Int) then min (rf r 70 2 + 1) 0xFFFF else 0
      (d.setJrec l (rset r 70 2 run), some err)
    else (d.setJrec l r, none)

/-! ### Delivery (R168) -/

/-- The frame that covers house index `i`. -/
def coverAt (l : List JbfFrame) (i : Nat) : Option JbfFrame := l.find? (fun f => decide (sub32 i f.start < f.len))

/-- The frame that starts within the row after its first sample, and where. -/
def startsIn (l : List JbfFrame) (i : Nat) : Option (JbfFrame × Nat) :=
  (l.find? (fun f => decide (0 < sub32 f.start i ∧ sub32 f.start i < 24))).map (fun f => (f, sub32 f.start i))

/-- A frame's stamp is unmet (R168) (assumption 67). -/
def Dev.stampUnmet (d : Dev) (r : Nat) (f : JbfFrame) : Bool :=
  !f.silent && (d.reg (Reg.HOK_STAMP (jStamp r f.parity))).toNat != jDecRow r f.parity

/-- The delivery task of a leg for the row (R168). -/
def Dev.jbfDeliver (d : Dev) (l : Nat) : Dev :=
  let r := d.jrec l
  let row := d.row32
  let x := d.jleg l
  let i := 24 * row % 2 ^ 32
  let play := x.play.filter (fun f => !decide (f.len ≤ sub32 i f.start ∧ sub32 i f.start < 2 ^ 31))
  let one := if jAnchored r then coverAt play i else none
  let two := if jAnchored r then startsIn play i else none
  let heard (f : Option JbfFrame) : Bool := f.any (fun f => !f.silent)
  let sound := heard one || heard (two.map (fun p => p.1))
  let chain (f : Option JbfFrame) : Nat := if heard f then f.elim 0 (fun f => jPcm r f.parity) else 0
  let exp (f : Option JbfFrame) : Nat := f.elim 0 (fun f => jDecRow r f.parity)
  let args := [8] ++ leBytes 2 l ++ [b8 ((!sound).toNat + 2 * (!sound && x.sound).toNat)] ++ leBytes 4 (chain one) ++
    leBytes 4 (chain (two.map (fun p => p.1))) ++ leBytes 4 (two.elim 24 (fun p => p.2)) ++ leBytes 4 (exp one) ++
    leBytes 4 (exp (two.map (fun p => p.1))) ++ leBytes 4 i ++ leBytes 2 (jStamp r 0)
  let (ok, d) := d.jbfIssue l (jbfTask 8 (rbits r 18 11 0) row false (rbits r 20 14 0) args)
  let used := one.toList ++ (two.map (fun p => p.1)).toList
  let fresh := used.filter (fun f => f.concealed && !f.begun && !d.stampUnmet r f)
  let x := d.jleg l
  if ok then
    (d.setJleg l { x with
      play := play.map (fun f => if f ∈ used then { f with begun := true } else f), sound := sound
      unmet := used.any (d.stampUnmet r) }).count Reg.JBF_CONCEALED fresh.length
  else d.setJleg l { x with sound := false, unmet := false }

/-! ### A leg's row -/

/-- JBF_DECODE_MISSED and JBF_LATE of the row that has ended. -/
def Dev.jbfReports (d : Dev) (l : Nat) : Dev :=
  let x := d.jleg l
  let dom := d.legDomain l
  let d := if x.unmet then (d.count Reg.JBF_DEC_MISSED).raise Ev.JBF_DECODE_MISSED l dom else d
  let d := if x.late + x.early + x.ovf = 0 then d
    else
      let sat (n : Nat) : List Byte := leBytes 2 (min n 0xFFFF)
      d.raise Ev.JBF_LATE l dom (sat x.late ++ sat x.early ++ sat x.ovf)
  if x.unmet || x.late + x.early + x.ovf != 0 then d.setJleg l { x with unmet := false, late := 0, early := 0, ovf := 0 } else d

/-- A leg's quiet rows and its stall (Table 10-6). -/
def Dev.jbfQuiet (d : Dev) (l : Nat) : Dev :=
  let r := d.jrec l
  let r := rset r 76 2 (min (rf r 76 2 + 1) 0xFFFF)
  let d := d.setJrec l r
  if jAnchored r ∧ rf r 12 2 ≤ rf r 76 2 then (d.jbfStall l).raise Ev.JBF_STALL l (d.legDomain l) else d

/-- Everything a tick does to a leg. -/
def Dev.jbfLegTick (d : Dev) (l : Nat) : Dev :=
  let d := d.jbfReports l
  let d := if (d.jleg l).reset then d.jbfOff l (d.jrec l) else d
  if jState (d.jrec l) = 0 then d
  else
    let d := d.jbfQuiet l
    let (d, err) := d.jbfDepth l
    let d := d.jbfFrames l err 32
    d.jbfDeliver l

/-! ### Encode groups (R172 to R174) -/

/-- Packet times of a codec (Table 10-5). -/
def packetTimes (codec : Nat) : List Nat :=
  if codec = 1 then [5, 10, 20, 40, 80, 120] else if 2 ≤ codec ∧ codec ≤ 4 then [20, 40, 60, 80, 100, 120]
  else if codec = 5 ∨ codec = 6 then [1, 2, 8] else []

/-- A row ends a frame of length `n` of a group. -/
def Dev.frameEnds (d : Dev) (r n : Nat) : Bool := n != 0 && (d.tim.row + 1 + 120 * n - rf r 3 1) % n == 0

/-- The encoded frame of the row before is handed on, skipped or counted as missed (R173) (assumption 69). -/
def Dev.encodeHandoff (d : Dev) (e : Nat) : Dev :=
  match tat none d.jbf.pend e with
  | none => d
  | some (row, rows, chain) =>
    let d := { d with jbf := { d.jbf with pend := tset none d.jbf.pend e none } }
    let r := d.encRec e
    match chain with
    | none => d
    | some c =>
      let b := d.chainData c
      if (d.reg (Reg.HOK_STAMP (rbits r 6 14 0))).toNat ≠ row % 2 ^ 32 then
        ((d.setEncRec e (rcount r 48)).raise Ev.JBF_ENC_MISS e (d.encDomain e)).giveBack 32 c
      else if byteAt b 2 % 2 = 1 then (d.setEncRec e (rcount r 52)).giveBack 32 c
      else
        let d := d.setEncRec e (rcount r 44)
        let l := rbits r 12 12 0
        let o := rbits r 14 4 0
        let ts := 24 * (row + 1 - rows) * outRate (d.outRec (outKey l o)) / 48000 % 2 ^ 32
        (d.produce l o { plainMedia [] ((b.drop 8).take (leAt b 0 2)) with ts := ts } c).giveBack 32 c

/-- NONE for a payload chain: counted in MISSED, JBF_NONE once per row (R173). -/
def Dev.encodeNone (d : Dev) (e : Nat) : Dev :=
  let d := d.setEncRec e (rcount (d.encRec e) 48)
  if d.jbf.noneMark then d
  else { d with jbf := { d.jbf with noneMark := true } }.raise Ev.JBF_NONE e (d.encDomain e)

/-- The frame that ends at the row is encoded (R173) (assumption 69). -/
def Dev.encodeIssue (d : Dev) (e : Nat) : Dev :=
  let r := d.encRec e
  let dom := d.encDomain e
  let (c, d) := d.alloc (d.fld Reg.JBF_TX_POOL 2 0) 32 (if jCodec r = 1 then 2 else 1) dom
  let d := if c.isNone then d.encodeNone e else d
  let flags := rbits r 33 1 0
  let args := [9] ++ leBytes 2 e ++ [b8 flags] ++ leBytes 4 (c.getD 0) ++ leBytes 4 (rf r 8 4) ++ leBytes 4 (rbits r 1 12 0) ++
    leBytes 4 (24 * (d.tim.row + 1 - rf r 40 1)) ++ leBytes 2 (rf r 40 1) ++ leBytes 2 (rf r 36 2) ++
    [b8 (rf r 34 1), b8 (rf r 35 1), b8 (rbits r 33 4 3), 0] ++ leBytes 2 (rbits r 6 14 0)
  let (k, d) := d.submit 32 dom (jbfTask 9 (rbits r 4 11 0) d.row32 true (rbits r 6 14 0) args)
  let d := if k = 0 then d else d.raise Ev.JBF_SUBMIT_FAIL e dom
  { d with jbf := { d.jbf with pend := tset none d.jbf.pend e (some (d.tim.row, rf r 40 1, c)) } }

/-- Everything a tick does to an encode group: a new packet time starts after a frame end that is also one of its own
(R174). -/
def Dev.encodeTick (d : Dev) (e : Nat) : Dev :=
  let d := d.encodeHandoff e
  let r := d.encRec e
  if jCodec r = 0 then d
  else
    let act := rf r 40 1
    let req := rf r 32 1
    let d := if act = 0 ∧ d.frameEnds r req then d.setEncRec e (rset r 40 1 req) else d
    if d.frameEnds r (rf (d.encRec e) 40 1) then
      let d := d.encodeIssue e
      let r := d.encRec e
      if rf r 40 1 ≠ req ∧ d.frameEnds r req then d.setEncRec e (rset r 40 1 req) else d
    else d

/-! ### Arrival (R164, R165, R169) -/

/-- A packet of a leg's stream is shared to JBF (R164). -/
def Dev.jbfWants (d : Dev) (l s : Nat) : Bool :=
  jCodec (d.jrec l) != 0 && rbits (d.jrec l) 1 2 0 == s && jState (d.jrec l) != 0 && !d.regionOff 34

/-- A sequence number is before NEXT_SEQ of an anchored leg. -/
def jBehind (r seq : Nat) : Bool :=
  let k := (jSeq r + 2 ^ 16 - seq) % 2 ^ 16
  jAnchored r && decide (0 < k ∧ k < 2 ^ 15)

/-- The redo window of a concealed frame is open (R169): the tick that starts its first row is at least JBF_REDO_MARGIN
microseconds away. -/
def Dev.redoOpen (d : Dev) (f : JbfFrame) : Bool :=
  let n := sub32 f.start (24 * d.row32)
  f.concealed && decide (n < 2 ^ 31) && decide ((d.tb d.rowTb).time + d.fld Reg.JBF_REDO_MARGIN 8 0 * 1000 * 2 ^ 40 ≤
    d.boundary false (d.tim.row + n / 24))

/-- The concealed frame a sequence number may still replace (assumption 67). -/
def Dev.redoFrame (d : Dev) (l seq : Nat) : Option JbfFrame := (d.jleg l).play.find? (fun f => f.seq == seq && d.redoOpen f)

/-- A LATE packet: counted for the row (assumption 67). -/
def Dev.jbfLate (d : Dev) (l chain : Nat) : Dev :=
  ((d.count Reg.JBF_LATE_DROP).setJleg l { d.jleg l with late := (d.jleg l).late + 1 }).jbfDrop chain

/-- REDO (R169): the frame is decoded from the checkpoint in the current row (assumption 67). -/
def Dev.jbfRedo (d : Dev) (l chain : Nat) (f : JbfFrame) : Dev :=
  let (ok, d) := d.jbfDecode l 3 f.parity chain 0 f.start f.len d.row32
  if ok = false then d
  else
    let r := d.jrec l
    let n := jConc r - 1
    let d := (d.setJrec l (if n = 0 ∧ jState r = 4 then setState (rset r 51 1 0) 2 else rset r 51 1 n)).count Reg.JBF_REDONE
    d.setJleg l { d.jleg l with play := (d.jleg l).play.map (fun g => if g = f then { g with concealed := false } else g) }

/-- JITTER (R170, RFC 3550 A.8). -/
def jitterOf (r : Nat) (old : Nat × Nat) (arrival ts : Nat) : Nat :=
  let a := wSigned (w32 (sub32 arrival old.1))
  let b := wSigned (w32 (sub32 ts old.2)) * 48000 / (tsClock r : Int)
  let j := rf r 72 4
  j + (a - b).natAbs - (j + 8) / 16

/-- A packet of a leg is verified: it anchors the leg in WAIT or STALLED (R165), or replaces a concealment (R169). -/
def Dev.jbfVerified (d : Dev) (l i : Nat) : Dev :=
  match d.jslot i with
  | none => d
  | some x =>
    let d := d.setJslot i (some { x with verified := true })
    let r := rset (d.jrec l) 76 2 0
    let r := match (d.jleg l).last with
      | some o => rset r 72 4 (jitterOf r o x.arrival x.ts)
      | none => r
    let d := (d.setJrec l r).setJleg l { d.jleg l with last := some (x.arrival, x.ts) }
    if jState r = 1 ∨ jState r = 5 then
      let d' := (d.setJrec l (rset (setState (anchorAt r d.row32 x.ts x.seq) 2) 51 1 0)).setJleg l { d.jleg l with ticks := x.ticks }
      if jState r = 5 then d'.raise Ev.JBF_RESUME l (d.legDomain l) else d'
    else if jBehind r x.seq then
      match d.redoFrame l x.seq with
      | some f => d.jbfRedo l x.chain f
      | none => (d.setJslot i none).jbfLate l x.chain
    else d

/-- A packet of a leg's stream reaches JBF (R164), verified at once when its stream is CLEAR. -/
def Dev.jbfArrive (d : Dev) (l chain seq ts : Nat) (level : Option Nat) (payload : List Byte) (verified : Bool) : Dev :=
  let r := d.jrec l
  let i := slotIndex r seq
  let old := d.jslot i
  let ahead := sub32 (placeIndex r ts) (24 * d.row32)
  let x := d.jleg l
  if jState r = 0 then d.jbfDrop chain
  else if old.any (fun o => o.seq == seq) then (d.count Reg.JBF_DUP).jbfDrop chain
  else if jBehind r seq ∧ (d.redoFrame l seq).isNone then d.jbfLate l chain
  else if jAnchored r ∧ rf r 6 2 < ahead ∧ ahead < 2 ^ 31 then
    ((d.count Reg.JBF_EARLY_DROP).setJleg l { x with early := x.early + 1 }).jbfDrop chain
  else if old.any (fun o => !jBehind r o.seq) then
    ((d.count Reg.JBF_SLOT_OVF).setJleg l { x with ovf := x.ovf + 1 }).jbfDrop chain
  else
    let d := match old with
      | some o => d.jbfDrop o.chain
      | none => d
    let d := d.setJslot i (some ⟨chain, seq, ts, level, payloadTicks r payload, d.houseIndex 48000 d.rowNs, false⟩)
    if verified then d.jbfVerified l i else d

/-- The verdict of a packet JBF holds (R164). -/
def Dev.jbfVerdict (d : Dev) (l chain : Nat) (ok : Bool) : Dev :=
  let r := d.jrec l
  match ((List.range (2 ^ rbits r 27 3 0)).map (fun i => rbits r 24 16 0 + i)).find? (fun i => (d.jslot i).any (fun x => x.chain == chain)) with
  | some i => if ok then d.jbfVerified l i else (d.setJslot i none).jbfDrop chain
  | none => d

/-! ### Commands (R176) and swaps -/

/-- A JBF command of window `w` (R176): DOMAIN (1) outside its legs or groups, BAD (2) for a group that does not exist; the
answer of `f` is the result. -/
def Dev.jbfWindow (d : Dev) (q : Requester) (w : Nat) (v : Word) (f : Nat → Dev → Dev × Nat) : Dev :=
  d.window q 34 w none (fun _ d =>
    let i := wfld v 12 0
    let p := if wbit v 27 then
        if 2047 < i then (d, 2) else if w ≠ 0 ∧ d.encDomain i ≠ w then (d, 1) else f i d
      else if d.mayLeg w i = false then (d, 1) else f i d
    p.1.setReg (Reg.JBF_CMD_STAT w) (w32 p.2))

/-- The record a command stages: 96 or 64 bytes. -/
def Dev.jbfStaged (d : Dev) (w : Nat) (v : Word) : Nat := d.regsNat (Reg.JBF_REC w 0) (if wbit v 27 then 16 else 24)

/-- A record is shown. -/
def Dev.jbfShow (d : Dev) (w : Nat) (v : Word) (r : Nat) : Dev := d.setRegsNat (Reg.JBF_REC w 0) r (if wbit v 27 then 16 else 24)

/-- The active record a command names. -/
def Dev.jbfActive (d : Dev) (v : Word) (i : Nat) : Nat := if wbit v 27 then d.encRec i else d.jrec i

/-- The shadow record a command names. -/
def Dev.jbfShadow (d : Dev) (v : Word) (i : Nat) : Nat := if wbit v 27 then tat 0 d.jbf.encSh i else tat 0 d.jbf.recSh i

/-- JBF_READ_ACTIVE (R176). -/
def jbfReadActiveEffect (q : Requester) (w : Nat) (v : Word) (d : Dev) : Dev :=
  d.jbfWindow q w v (fun i d => (d.jbfShow w v (d.jbfActive v i), 0))

/-- JBF_READ_ACTIVE. -/
def execJbfReadActive (q : Requester) (w : Fin 16) (v : Word) (s : State) : Host.Outcome State Fault Refusal :=
  s.run (jbfReadActiveEffect q w v)

/-- JBF_READ_SHADOW (R176). -/
def jbfReadShadowEffect (q : Requester) (w : Nat) (v : Word) (d : Dev) : Dev :=
  d.jbfWindow q w v (fun i d =>
    (d.jbfShow w v ((if wbit v 27 then encCfg else jbfCfg).view (d.jbfActive v i) (d.jbfShadow v i)), 0))

/-- JBF_READ_SHADOW. -/
def execJbfReadShadow (q : Requester) (w : Fin 16) (v : Word) (s : State) : Host.Outcome State Fault Refusal :=
  s.run (jbfReadShadowEffect q w v)

/-- WRITE_CFG: BAD for a reserved bit, an odd DEC_STAMP or a SLOT_LOG2 outside 2 to 10; SEALED (3) under a seal. -/
def Dev.jbfWriteCfg (d : Dev) (w : Nat) (v : Word) (i : Nat) : Dev × Nat :=
  let r := d.jbfStaged w v
  let enc := wbit v 27
  if (if enc then encCfg else jbfCfg).bad r || (!enc && (r.testBit 176 || decide (rbits r 27 3 0 < 2 ∨ 10 < rbits r 27 3 0))) then (d, 2)
  else if d.sealed 34 then (d.sealDrop 34 (blockOffset (Reg.JBF_CMD w)), 3)
  else
    let n := (if enc then encCfg else jbfCfg).take (d.jbfShadow v i) r
    (if enc then { d with jbf := { d.jbf with encSh := tset 0 d.jbf.encSh i n } }
      else { d with jbf := { d.jbf with recSh := tset 0 d.jbf.recSh i n } }, 0)

/-- JBF_WRITE_CFG (R176). -/
def jbfWriteCfgEffect (q : Requester) (w : Nat) (v : Word) (d : Dev) : Dev := d.jbfWindow q w v (fun i d => d.jbfWriteCfg w v i)

/-- JBF_WRITE_CFG. -/
def execJbfWriteCfg (q : Requester) (w : Fin 16) (v : Word) (s : State) : Host.Outcome State Fault Refusal :=
  s.run (jbfWriteCfgEffect q w v)

/-- WRITE_LIVE: TARGET clamped to its bounds, or an encode group's bytes 32 to 39, BAD when R174 is broken (assumption 69). -/
def Dev.jbfWriteLive (d : Dev) (w : Nat) (v : Word) (i : Nat) : Dev × Nat :=
  let n := d.jbfStaged w v
  if wbit v 27 then
    let r := d.encRec i
    let codec := if jCodec r = 0 then jCodec (d.jbfShadow v i) else jCodec r
    if encLive.bad n || !decide (rf n 32 1 ∈ packetTimes codec) then (d, 2) else (d.setEncRec i (encLive.take r n), 0)
  else
    let r := d.jrec i
    (d.setJrec i (rset r 48 2 (max (rf r 4 2) (min (rf n 48 2) (rf r 6 2)))), 0)

/-- JBF_WRITE_LIVE (R176). -/
def jbfWriteLiveEffect (q : Requester) (w : Nat) (v : Word) (d : Dev) : Dev := d.jbfWindow q w v (fun i d => d.jbfWriteLive w v i)

/-- JBF_WRITE_LIVE. -/
def execJbfWriteLive (q : Requester) (w : Fin 16) (v : Word) (s : State) : Host.Outcome State Fault Refusal :=
  s.run (jbfWriteLiveEffect q w v)

/-- JBF_RESET (R176): the leg turns OFF at the next tick; an encode group has no state of Table 10-6. -/
def jbfResetEffect (q : Requester) (w : Nat) (v : Word) (d : Dev) : Dev :=
  d.jbfWindow q w v (fun i d =>
    (if wbit v 27 ∨ jState (d.jrec i) = 0 then d else d.setJleg i { d.jleg i with reset := true }, 0))

/-- JBF_RESET. -/
def execJbfReset (q : Requester) (w : Fin 16) (v : Word) (s : State) : Host.Outcome State Fault Refusal :=
  s.run (jbfResetEffect q w v)

/-- The ratio of a leg's ASRC context, set once when the leg is enabled (R171): unsigned Q4.28, to nearest (assumption 69). -/
def Dev.jbfRatio (d : Dev) (l : Nat) : Dev :=
  let r := d.jrec l
  match d.jbfSkein r with
  | some k => d.setAsrc k (rbits r 28 10 0) { d.asrcCtx k (rbits r 28 10 0) with ratio := (decodedRate r * 2 ^ 29 + 48000) / 96000 }
  | none => d

/-- A leg after an audio swap (Table 10-6); `old` is its record of before. -/
def Dev.jbfLegSwap (d : Dev) (l old : Nat) : Dev :=
  let on := jCodec (d.jrec l) != 0
  if jState old = 0 then if on then (d.setJrec l (setState (d.jrec l) 1)).jbfRatio l else d
  else if on then d else d.jbfOff l old

/-- The audio swap of JBF's records (R162, R172). -/
def Dev.jbfSwap (d : Dev) : Dev :=
  let recs := d.jbf.recs
  let enc := d.jbf.enc
  let d := { d with jbf := { d.jbf with
    recs := tableSwap 0 jbfCfg d.jbf.recs d.jbf.recSh
    enc := tableSwap 0 encCfg d.jbf.enc d.jbf.encSh } }
  let keys (a b : Tbl Nat) : List Nat := (tmerge (fun _ => 0) a b).map (fun e => e.1)
  let d := d.forEach (keys recs d.jbf.recs) (fun d l => d.jbfLegSwap l (tat 0 recs l))
  d.forEach (keys enc d.jbf.enc) (fun d e =>
    if jCodec (tat 0 enc e) ≠ 0 ∧ jCodec (d.encRec e) = 0 then
      (d.setEncRec e (rset (d.encRec e) 40 1 0)).giveBack 32 (rf (tat 0 enc e) 8 4 % 2 ^ 25)
    else d)

/-! ### The row tick -/

/-- JBF at a row tick: legs, then encode groups, in ascending order (R166). -/
def Dev.jbfTick (d : Dev) : Dev :=
  let d := { d with jbf := { d.jbf with noneMark := false } }
  let d := d.forEach (d.jbf.recs.map (fun e => e.1)) Dev.jbfLegTick
  d.forEach (d.jbf.enc.map (fun e => e.1)) Dev.encodeTick

end Sys2Proof.Machine
end

