-- ==== Sys2Proof/Machine/Coded.lean ====
section
/-! DEFINITION. Coded frames leave the video engines: packets of at most MTU bytes in chains of the block's pool, handed to
forwarding as the outbound stream (R235, R266). -/

namespace Sys2Proof.Machine

/-- Payloads of a coded frame: their number, lengths and bytes are the device's, within MTU with the fixed RTP header
(assumption 82) (assumption 82). -/
def codedPayloads (z mtu : Nat) : List (List Byte) :=
  let lens := if Config.codedLens z = [] then [1] else Config.codedLens z
  lens.zipIdx.map (fun e => (List.range (max 1 (min e.1 (mtu - 12)))).map (fun i => Config.codedByte z e.2 i))

/-- The packets of a coded frame or layer: RTP timestamp, layers, whether it is a key frame and ends the picture; AV1 carries
a dependency descriptor. -/
def codedMedia (z mtu codec ts s t : Nat) (key last : Bool) : List Media :=
  let l := codedPayloads z mtu
  l.zipIdx.map (fun e =>
    { plainMedia [] e.1 with
      ts := ts, s := s, t := t, start := e.2 == 0, fin := e.2 + 1 == l.length, key := key, upsw := true
      marker := last && e.2 + 1 == l.length, dd := if codec = 3 then some (Config.codedDescriptor z e.2) else none })

/-- Chains for the payloads of a frame, none as soon as one is refused; those already granted are freed (R235). -/
def Dev.frameChains (d : Dev) (agent pool dom : Nat) : List Media → List Nat → Option (List Nat) × Dev
  | [], got => (some got.reverse, d)
  | m :: t, got =>
    match d.alloc pool agent (buffersFor (d.fld (Reg.BPM_POOL_CFG pool) 7 0) m.payload.length) dom with
    | (some c, d) => (d.storeFrame c m.payload).frameChains agent pool dom t (c :: got)
    | (none, d) => (none, d.forEach got Dev.freeChain)

/-- A frame's packets are handed to forwarding, in order; false when a chain is refused. -/
def Dev.emitFrame (d : Dev) (agent pool dom l o : Nat) (ms : List Media) : Bool × Dev :=
  match d.frameChains agent pool dom ms [] with
  | (some cs, d) => (true, d.forEach (ms.zip cs) (fun d e => (d.produce l o e.1 e.2).giveBack agent e.2))
  | (none, d) => (false, d)

/-- The 90 kHz house index at the present round boundary (R232). -/
def Dev.roundTs (d : Dev) : Nat := d.houseIndex 90000 (d.boundary true d.tim.round / 2 ^ 40)

end Sys2Proof.Machine
end

