-- ==== Sys2Proof/Machine/Stitch.lean ====
section
/-! DEFINITION. The square stitcher (chapter 15): galleries and tiles (R257 to R260), pictures over time (R263, R264), key frames
(R265), output (R266, R267) and the command window (R268). -/

namespace Sys2Proof.Machine

/-- Configuration bytes of a gallery record (Table 15-3). -/
def galCfg : RecMask := ⟨bytesAt 0 32, bitsAt 0 3 0 + bitsAt 1 4 0 + bitsAt 2 4 0 + bytesAt 3 7 + bitsAt 10 12 0 + bitsAt 12 4 0 +
  bytesAt 14 4 + bytesAt 20 4 + bitsAt 24 35 0⟩
/-- KEY_REQ of a gallery. -/
def galLive : RecMask := ⟨bytesAt 32 1, bitsAt 32 0 0⟩
/-- Configuration bytes of a tile entry (Table 15-4). -/
def tileCfg : RecMask := ⟨bytesAt 0 12, bitsAt 0 4 0 + bytesAt 1 3 + bitsAt 4 12 0 + bitsAt 6 2 0 + bytesAt 8 4⟩

/-- Gallery record. -/
def Dev.gal (d : Dev) (g : Nat) : Nat := tat 0 d.sqs.gals g
/-- Gallery record replaced. -/
def Dev.setGal (d : Dev) (g r : Nat) : Dev := { d with sqs := { d.sqs with gals := tset 0 d.sqs.gals g r } }
/-- Tile entry. -/
def Dev.tile (d : Dev) (t : Nat) : Nat := tat 0 d.sqs.tiles t
/-- Tile entry replaced. -/
def Dev.setTile (d : Dev) (t r : Nat) : Dev := { d with sqs := { d.sqs with tiles := tset 0 d.sqs.tiles t r } }
/-- The rest of a gallery. -/
def Dev.gst (d : Dev) (g : Nat) : SqsGal := tat {} d.sqs.gstate g
/-- The rest of a gallery replaced. -/
def Dev.setGst (d : Dev) (g : Nat) (x : SqsGal) : Dev := { d with sqs := { d.sqs with gstate := tset {} d.sqs.gstate g x } }
/-- The rest of a tile. -/
def Dev.tst (d : Dev) (t : Nat) : SqsTile := tat {} d.sqs.tstate t
/-- The rest of a tile replaced. -/
def Dev.setTst (d : Dev) (t : Nat) (x : SqsTile) : Dev := { d with sqs := { d.sqs with tstate := tset {} d.sqs.tstate t x } }
/-- Domain of a gallery. -/
def Dev.galDomain (d : Dev) (g : Nat) : Nat := d.fld (Reg.SQS_GAL_DOM (g / 8)) (4 * (g % 8) + 3) (4 * (g % 8))
/-- Domain of an encode context. -/
def Dev.venDomain (d : Dev) (k : Nat) : Nat := d.fld (Reg.VEN_CTX_DOM (k / 8)) (4 * (k % 8) + 3) (4 * (k % 8))

/-- CODEC of a gallery. -/
def gCodec (r : Nat) : Nat := rbits r 0 1 0
/-- UNIT of a gallery. -/
def gUnit (r : Nat) : Nat := rbits r 0 3 3
/-- COLS. -/
def gCols (r : Nat) : Nat := rbits r 1 4 0
/-- ROWS. -/
def gRows (r : Nat) : Nat := rbits r 2 4 0
/-- Bitstream ring: address and length. -/
def gRing (r : Nat) : Nat × Nat := (rbits r 24 35 0, rf r 20 4)
/-- KIND of a tile. -/
def tKind (r : Nat) : Nat := rbits r 0 1 0
/-- STATE of a tile. -/
def tState (r : Nat) : Nat := rbits r 12 1 0
/-- SOURCE: leg or encode context. -/
def tSource (r : Nat) : Nat := if tKind r = 2 then rbits r 4 8 0 else rbits r 4 12 0

/-- A gallery's counter and the one over all galleries. -/
def Dev.gCount (d : Dev) (g off reg n : Nat) : Dev := (d.setGal g (rcount (d.gal g) off n)).count reg n

/-- Keys of a gallery's tile entries that are not zero. -/
def Dev.tilesOf (d : Dev) (g : Nat) : List Nat := (d.sqs.tiles.map (fun e => e.1)).filter (fun t => t / 256 == g)

/-- What the check of a tile's picture finds. -/
def Dev.tileCheck (d : Dev) (t : Nat) (p : Picture) : Config.TileInfo :=
  let g := d.gal (t / 256)
  Config.tileInfo (gCodec g) p.z ((p.pkts.head?.map (fun k => d.ringPeek (gRing g).1 (gRing g).2 k.off k.len)).getD [])

/-- QUEUED shows the pictures that wait. -/
def Dev.tQueued (d : Dev) (t : Nat) : Dev :=
  d.setTile t (rset (d.tile t) 13 1 ((d.tst t).str.pics.filter (fun p => p.ready.isSome && !p.dead)).length)

/-- Pictures of a tile replaced. -/
def Dev.setTilePics (d : Dev) (t : Nat) (l : List Picture) : Dev :=
  let x := d.tst t
  (d.setTst t { x with str := { x.str with pics := l }.pop }).tQueued t

/-- Pictures of a tile that `p` names end (assumption 87). -/
def Dev.tileRelease (d : Dev) (t : Nat) (p : Picture → Bool) : Dev :=
  d.setTilePics t ((d.tst t).str.pics.map (fun q => if p q then { q with dead := true } else q))

/-- A request of a tile: PLI or FIR, or KEY_REQ of its encode context (R264). -/
def Dev.tAsk (d : Dev) (t : Nat) : Dev :=
  let r := d.tile t
  let fir := rbits r 3 7 0
  let x := d.tst t
  let d := if tKind r = 2 then
      { d with ven := { d.ven with recs := tset 0 d.ven.recs (tSource r) (rsetBits (tat 0 d.ven.recs (tSource r)) 75 0 0 1) } }
    else d.postRequest (tSource r) (rbits r 6 2 0) fir x.ask
  d.setTst t { x with ask := x.ask.made d.tim.round fir }

/-- A request when PLI_INT rounds have passed. -/
def Dev.tAskDue (d : Dev) (t : Nat) : Dev := if (d.tst t).ask.isDue d.tim.round (rf (d.tile t) 10 2) then d.tAsk t else d

/-- A tile leaves RUN with a cause (Table 15-5). -/
def Dev.tHold (d : Dev) (t cause : Nat) : Dev :=
  if tState (d.tile t) ≠ 2 then d
  else
    let d := d.setTile t (rsetBits (d.tile t) 12 1 0 1)
    let d := d.tileRelease t (fun p => p.ready.isSome && !(d.tileCheck t p).entry)
    let d := d.raise Ev.SQS_TILE_HOLD t (d.galDomain (t / 256)) [b8 cause]
    (d.setTst t { d.tst t with ask := { (d.tst t).ask with plis := 0 } }).tAskDue t

/-- A tile's picture is lost. -/
def Dev.tLost (d : Dev) (t ts cause : Nat) : Dev :=
  ((d.gCount (t / 256) 52 Reg.SQS_TILE_LOST 1).tileRelease t (fun p => p.ts == ts)).tHold t cause

/-- Pictures that are complete are checked (R258, R264) and queued, five being one too many. -/
def Dev.tReady (d : Dev) (t : Nat) : Dev :=
  let r := d.tile t
  let s := (d.tst t).str
  let e := s.expected
  let nacks := newHolds e
  let d := if nacks ≠ [] ∧ tKind r = 1 ∧ rbits r 0 4 4 = 1 then d.tellVadjaryn (.nack (tSource r) (rbits r 6 2 0) nacks) else d
  let held := (startHolds e).zip (e.map (fun x => x.1))
  let d := d.setTst t { d.tst t with str := { s with pics := held.map (fun x => x.1) } }
  d.forEach (held.filter (fun x => x.1.ready.isNone && !x.1.dead && x.1.whole x.2)) (fun d x =>
    let p := x.1
    let i := d.tileCheck t p
    if rbits (d.tile t) 0 3 2 < i.temporal ∨ (gCodec (d.gal (t / 256)) = 3 ∧ 0 < i.spatial) then d.tileRelease t (fun q => q.ts == p.ts)
    else if i.ok = false then ((d.count Reg.SQS_STRUCT_ERR).tileRelease t (fun q => q.ts == p.ts)).tHold t 2
    else
      let n := ((d.tst t).str.pics.filter (fun q => q.ready.isSome && !q.dead)).length
      let d := d.setTilePics t ((d.tst t).str.pics.map (fun q => if q.ts = p.ts then { q with ready := some 0 } else q))
      if n < 4 then d
      else if tState (d.tile t) = 2 then d.tHold t 3
      else match (d.tst t).str.pics.find? (fun q => q.ready.isSome && !q.dead) with
        | some o => d.tileRelease t (fun q => q.ts == o.ts)
        | none => d)

/-- A verified packet reaches a tile (R257, R260). -/
def Dev.tArrive (d : Dev) (t seq ts : Nat) (marker : Bool) (payload : List Byte) : Dev :=
  let g := t / 256
  let r := d.gal g
  let x := d.tst t
  let (z, d) := d.draw
  if x.str.stale seq ts then d
  else
    let held := ((d.tilesOf g).map (fun u => (d.tst u).str.bytes)).sum
    let new : Picture := { ts := ts, z := z }
    if (gRing r).2 < held + payload.length then
      (d.count Reg.SQS_RING_DROP).setTilePics t (onPicture ts seq new (fun p => p) x.str.pics) |>.tLost t ts 4
    else
      let put := (d.gst g).put
      let d := d.streamPut 8 (d.galDomain g) (gRing r).1 (gRing r).2 put payload
      let d := d.setGst g { d.gst g with put := (put + payload.length) % max 1 (gRing r).2 }
      let pk : VidPkt := ⟨seq, 0, put, payload.length, marker, true⟩
      (d.setTilePics t (onPicture ts seq new (fun p => { p with pkts := addPkt pk p.pkts }) x.str.pics)).tReady t

/-- Tiles that take packets of a leg's stream. -/
def Dev.sqsWants (d : Dev) (l s : Nat) : List Nat :=
  if d.regionOff 44 then []
  else (d.sqs.tiles.filter (fun e => tState e.2 != 0 && tKind e.2 == 1 && tSource e.2 == l && rbits e.2 6 2 0 == s)).map (fun e => e.1)

/-- A packet of a leg's stream with its verdict: taken, or its picture is lost; the chain's share goes back (R257). -/
def Dev.sqsVerdict (d : Dev) (l s chain seq ts : Nat) (marker : Bool) (payload : List Byte) (ok : Bool) : Dev :=
  (d.forEach (d.sqsWants l s) (fun d t =>
    if ok then d.tArrive t seq ts marker payload
    else if (d.tst t).str.stale seq ts then d
    else
      let (z, d) := d.draw
      (d.setTilePics t (onPicture ts seq { ts := ts, z := z } (fun p => p) (d.tst t).str.pics)).tLost t ts 1)).giveBack 41 chain

/-- Packets of an encode context before they are encrypted (R260): `n` is the sequence number of the first. -/
def Dev.sqsFromVen (d : Dev) (k n ts : Nat) (payloads : List (List Byte)) : Dev :=
  if d.regionOff 44 then d
  else
    d.forEach ((d.sqs.tiles.filter (fun e => tState e.2 != 0 && tKind e.2 == 2 && tSource e.2 == k)).map (fun e => e.1)) (fun d t =>
      d.forEach payloads.zipIdx (fun d e => d.tArrive t ((n + e.2) % 2 ^ 16) ts (e.2 + 1 == payloads.length) e.1))

/-- TILE_PICTURE_LOST (R264): HOLD_MS of a tile's oldest incomplete picture ends. -/
def tilePictureLostEffect (t : Nat) (d : Dev) : Dev :=
  match (d.tst t).str.expected.find? (fun e => e.2.hold && !e.2.dead && !e.2.whole e.1) with
  | some (_, p) => (d.tLost t p.ts 1).tReady t
  | none => d

/-- TILE_PICTURE_LOST. -/
def execTilePictureLost (tile : Fin 16384) (s : State) : Host.Outcome State Fault Refusal := s.run (tilePictureLostEffect tile)

/-! ### Gallery frames (R263, R265, R267) -/

/-- A key frame is due: left OFF, changed or refused a chain, or requested with its holdoff passed (R265). -/
def Dev.keyDue (d : Dev) (g : Nat) : Bool :=
  let x := d.gst g
  x.due || (rbits (d.gal g) 32 0 0 == 1 && x.keyAt.all (fun r => decide (rf (d.gal g) 16 2 ≤ d.tim.round - r)))

/-- A gallery key frame: every tile to WAIT_ENTRY with its queued entry pictures (assumption 87). -/
def Dev.galKey (d : Dev) (g : Nat) (f : GalFrame) : Dev :=
  let live := (d.tilesOf g).filter (fun t => tState (d.tile t) != 0)
  let d := d.forEach live (fun d t =>
    let d := d.setTile t (rsetBits (d.tile t) 12 1 0 1)
    d.tileRelease t (fun p => !(p.ready.isSome && (d.tileCheck t p).entry)))
  let d := (d.setGal g (rsetBits (d.gal g) 32 0 0 0)).gCount g 44 Reg.SQS_GEN_TILES live.length
  let x := d.gst g
  (d.setGst g { x with due := false, keyAt := some d.tim.round, count := 0,
                       frame := some { f with running := true, key := true, skips := live.length } }).raise Ev.SQS_KEY g (d.galDomain g)

/-- One tile of a frame: the picture it takes is copied, or a skip tile is generated (R263) (assumption 87). -/
def Dev.tileStep (d : Dev) (t : Nat) (got : List (List Byte) × Nat) : Dev × List (List Byte) × Nat :=
  let pics := (d.tst t).str.pics
  let entry (p : Picture) : Bool := p.ready.isSome && !p.dead && (d.tileCheck t p).entry
  let pick := if tState (d.tile t) = 2 then pics.head?.filter (fun p => p.ready.isSome && !p.dead) else pics.find? entry
  match pick with
  | none => (d, got.1, got.2 + 1)
  | some p =>
    let g := d.gal (t / 256)
    let (b, d) := d.pictureGet 8 (d.galDomain (t / 256)) (gRing g).1 (gRing g).2 p.pkts
    let older := pics.takeWhile (fun q => q.ts != p.ts)
    let d := d.tileRelease t (fun q => q.ts == p.ts || older.any (fun o => o.ts == q.ts))
    let d := if tState (d.tile t) = 2 then d
      else (d.setTile t (rsetBits (d.tile t) 12 1 0 2)).raise Ev.SQS_TILE_JOIN t (d.galDomain (t / 256))
    (d, got.1 ++ b, got.2)

/-- A gallery frame that is no key frame (assumption 87). -/
def Dev.galStep (d : Dev) (g : Nat) (f : GalFrame) : Dev :=
  let r := ((d.tilesOf g).filter (fun t => tState (d.tile t) != 0)).foldl (fun (a : Dev × List (List Byte) × Nat) t => a.1.tileStep t a.2) (d, [], 0)
  let d := r.1.gCount g 44 Reg.SQS_GEN_TILES r.2.2
  d.setGst g { d.gst g with frame := some { f with running := true, pictures := r.2.1, skips := r.2.2 } }

/-- An idle unit starts its next gallery frame, in order of round, then gallery (R267). -/
def Dev.unitNext (d : Dev) (u : Nat) : Dev :=
  let mine := (List.range 64).filter (fun g => gUnit (d.gal g) == u && (d.gst g).frame.isSome)
  let frame (g : Nat) : GalFrame := (d.gst g).frame.getD { round := 0 }
  if mine.any (fun g => (frame g).running) then d
  else match mine.foldl (fun (b : Option Nat) g => match b with
      | some j => if (frame g).round < (frame j).round then some g else b
      | none => some g) none with
    | none => d
    | some g =>
      let d := if d.keyDue g then d.galKey g (frame g) else d.galStep g (frame g)
      d.work (Reg.SQS_UNIT_BUSY u)

/-- SQS_FRAME_DONE (R266, R267): a gallery's frame is handed to forwarding. -/
def sqsFrameDoneEffect (g : Nat) (d : Dev) : Dev :=
  match (d.gst g).frame with
  | none => d
  | some f =>
    if f.running = false then d
    else
      let r := d.gal g
      let dom := d.galDomain g
      let (z, d) := d.draw
      let ts := d.houseIndex 90000 (d.boundary true f.round / 2 ^ 40)
      let ms := codedMedia z (rf r 14 2) (gCodec r) ts 0 0 f.key true
      let (ok, d) := d.emitFrame 41 (d.fld Reg.SQS_TX_POOL 2 0) dom (rbits r 10 12 0) (rbits r 12 4 0) ms
      let d := if ok then
          let d := d.gCount g 36 Reg.SQS_FRAMES 1
          let d := if f.key then d.setGal g (rcount (d.gal g) 40) else d
          d.setGst g { d.gst g with count := (d.gst g).count + 1 }
        else (d.setGst g { d.gst g with due := true }).raise Ev.SQS_NONE g dom
      let d := d.setGst g { d.gst g with frame := none }
      (d.rest (Reg.SQS_UNIT_BUSY (gUnit r))).unitNext (gUnit r)

/-- SQS_FRAME_DONE. -/
def execSqsFrameDone (gallery : Fin 64) (s : State) : Host.Outcome State Fault Refusal := s.run (sqsFrameDoneEffect gallery)

/-- A frame falls due in a gallery: a frame running keeps the unit, one not started is skipped (R267). -/
def Dev.galDue (d : Dev) (g : Nat) : Dev :=
  let new := fun (d : Dev) => d.setGst g { d.gst g with frame := some { round := d.tim.round } }
  match (d.gst g).frame with
  | none => new d
  | some f =>
    let d := d.gCount g 48 Reg.SQS_SKIP_LATE 1
    let d := if d.sqs.lateMark then d else { d with sqs := { d.sqs with lateMark := true } }.raise Ev.SQS_LATE g (d.galDomain g)
    if f.running then d else new d

/-- SQS at a round tick. -/
def Dev.sqsRound (d : Dev) : Dev :=
  let d := { d with sqs := { d.sqs with lateMark := false } }
  let d := d.forEach (d.sqs.tiles.map (fun e => e.1)) (fun d t => if tState (d.tile t) = 1 then d.tAskDue t else d)
  let d := d.forEach ((List.range 64).filter (fun g => rbits (d.gal g) 33 0 0 == 1 &&
    onCadence d.tim.round (max 1 (rbits (d.gal g) 3 7 0)) (rbits (d.gal g) 4 7 0))) Dev.galDue
  (d.forEach [0, 1] Dev.unitNext).forEach [0, 1] (fun d u => d.busyTick (Reg.SQS_UNIT_BUSY u))

/-! ### The video swap (R259, R260) -/

/-- The conditions of R257 and R259. -/
def Dev.galOk (d : Dev) (g : Nat) : Bool :=
  let r := d.gal g
  let dom := d.galDomain g
  (gCodec r == 2 || gCodec r == 3) && decide (1 ≤ gCols r ∧ gCols r ≤ 16 ∧ 1 ≤ gRows r ∧ gRows r ≤ 16 ∧ gCols r * rf r 6 2 ≤ 4096 ∧
    gRows r * rf r 8 2 ≤ 2304) && d.legDomain (rbits r 10 12 0) == dom && d.inCarves dom (gRing r).1 (gRing r).2

/-- Cells of a tile: column, row, width, height. -/
def tileBox (r : Nat) : Nat × Nat × Nat × Nat := (rbits r 1 3 0, rbits r 1 7 4, rbits r 2 3 0 + 1, rbits r 2 7 4 + 1)

/-- Two tiles share a cell. -/
def overlap (a b : Nat × Nat × Nat × Nat) : Bool :=
  decide (a.1 < b.1 + b.2.2.1 ∧ b.1 < a.1 + a.2.2.1 ∧ a.2.1 < b.2.1 + b.2.2.2 ∧ b.2.1 < a.2.1 + a.2.2.2)

/-- The conditions of R260. -/
def Dev.tileOk (d : Dev) (t : Nat) : Bool :=
  let r := d.tile t
  let g := d.gal (t / 256)
  let b := tileBox r
  let dom := d.galDomain (t / 256)
  rbits g 33 0 0 == 1 && tKind r != 3 && decide (b.1 + b.2.2.1 ≤ gCols g ∧ b.2.1 + b.2.2.2 ≤ gRows g) &&
    (d.tilesOf (t / 256)).all (fun u => u == t || tKind (d.tile u) == 0 || !overlap b (tileBox (d.tile u))) &&
    (if tKind r = 2 then d.venDomain (tSource r) == dom else d.legDomain (tSource r) == dom)

/-- A tile turns OFF: its queue is released. -/
def Dev.tOff (d : Dev) (t : Nat) : Dev :=
  (d.setTst t { ask := { fir := (d.tst t).ask.fir } }).setTile t (rset (rsetBits (d.tile t) 12 1 0 0) 13 1 0)

/-- A tile with KIND set leaves OFF, or stays OFF with SQS_CFG_ERR. -/
def Dev.tTry (d : Dev) (t : Nat) : Dev :=
  if d.tileOk t then (d.setTile t (rsetBits (d.tile t) 12 1 0 1)).tAsk t else d.raise Ev.SQS_CFG_ERR t (d.galDomain (t / 256))

/-- A gallery turns OFF. -/
def Dev.gOff (d : Dev) (g : Nat) : Dev :=
  let d := if ((d.gst g).frame.map (fun f => f.running)).getD false then d.rest (Reg.SQS_UNIT_BUSY (gUnit (d.gal g))) else d
  (d.setGst g {}).setGal g (rsetBits (d.gal g) 33 0 0 0)

/-- A gallery with CODEC set leaves OFF, or stays OFF with SQS_CFG_ERR. -/
def Dev.gTry (d : Dev) (g : Nat) : Dev :=
  if d.galOk g then (d.setGal g (rsetBits (d.gal g) 33 0 0 1)).setGst g { d.gst g with due := true } else d.raise Ev.SQS_CFG_ERR g (d.galDomain g)

/-- What a change of starts a key frame (R265): CODEC, COLS, ROWS, TILE_W, TILE_H, BASE_Q. -/
def gShape (r : Nat) : List Nat := [gCodec r, gCols r, gRows r, rf r 6 2, rf r 8 2, rbits r 5 7 0]

/-- A gallery at a video swap; `old` is its record of before. -/
def Dev.galSwap (d : Dev) (g old : Nat) : Dev :=
  let r := d.gal g
  if rbits r 33 0 0 = 1 then
    if gCodec r = 0 then d.gOff g
    else if d.galOk g = false then (d.gOff g).raise Ev.SQS_CFG_ERR g (d.galDomain g)
    else if gShape r ≠ gShape old then d.setGst g { d.gst g with due := true } else d
  else if gCodec r ≠ 0 then d.gTry g else d

/-- A tile at a video swap (Table 15-5); `old` is its entry of before. -/
def Dev.tileSwap (d : Dev) (t old : Nat) : Dev :=
  let r := d.tile t
  let d := if tState r ≠ 0 ∧ (tileCfg.bits &&& r ≠ tileCfg.bits &&& old ∨ rbits (d.gal (t / 256)) 33 0 0 = 0) then d.tOff t else d
  if tKind r ≠ 0 ∧ tState (d.tile t) = 0 then d.tTry t else d

/-- SQS at a video swap. -/
def Dev.sqsSwap (d : Dev) : Dev :=
  let gals := d.sqs.gals
  let tiles := d.sqs.tiles
  let d := { d with sqs := { d.sqs with
    gals := tableSwap 0 galCfg gals d.sqs.galSh, tiles := tableSwap 0 tileCfg tiles d.sqs.tileSh } }
  let d := d.forEach (d.sqs.gals.map (fun e => e.1)) (fun d g => d.galSwap g (tat 0 gals g))
  d.forEach (d.sqs.tiles.map (fun e => e.1)) (fun d t => d.tileSwap t (tat 0 tiles t))

/-! ### Commands (R268) -/

/-- An SQS command of window `w`: DOMAIN (1) with SQS_DOMAIN outside its galleries, BAD (2) for a gallery that does not exist;
the answer of `f` is the result. -/
def Dev.sqsWindow (d : Dev) (q : Requester) (w : Nat) (v : Word) (f : Nat → Dev → Dev × Nat) : Dev :=
  d.window q 44 w (some Ev.SQS_DOMAIN) (fun a d =>
    let i := wfld v 13 0
    let g := if wbit v 27 then i / 256 else i
    let p := if 64 ≤ g then (d, 2)
      else if w ≠ 0 ∧ d.galDomain g ≠ w then (d.raise Ev.SQS_DOMAIN (if wbit v 27 then i else g) a.dom, 1) else f i d
    p.1.setReg (Reg.SQS_CMD_STAT w) (w32 p.2))

/-- Words of the record a command names: 16 for a gallery, 4 for a tile entry. -/
def sqsWords (v : Word) : Nat := if wbit v 27 then 4 else 16

/-- The active record a command names. -/
def Dev.sqsActive (d : Dev) (v : Word) (i : Nat) : Nat := if wbit v 27 then d.tile i else d.gal i

/-- SQS_READ_ACTIVE. -/
def sqsReadActiveEffect (q : Requester) (w : Nat) (v : Word) (d : Dev) : Dev :=
  d.sqsWindow q w v (fun i d => (d.setRegsNat (Reg.SQS_REC w 0) (d.sqsActive v i) (sqsWords v), 0))

/-- SQS_READ_ACTIVE (R268). -/
def execSqsReadActive (q : Requester) (w : Fin 16) (v : Word) (s : State) : Host.Outcome State Fault Refusal :=
  s.run (sqsReadActiveEffect q w v)

/-- The masks of the record a command names. -/
def sqsCfg (v : Word) : RecMask := if wbit v 27 then tileCfg else galCfg

/-- SQS_READ_SHADOW. -/
def sqsReadShadowEffect (q : Requester) (w : Nat) (v : Word) (d : Dev) : Dev :=
  d.sqsWindow q w v (fun i d =>
    let sh := if wbit v 27 then tat 0 d.sqs.tileSh i else tat 0 d.sqs.galSh i
    (d.setRegsNat (Reg.SQS_REC w 0) ((sqsCfg v).view (d.sqsActive v i) sh) (sqsWords v), 0))

/-- SQS_READ_SHADOW (R268). -/
def execSqsReadShadow (q : Requester) (w : Fin 16) (v : Word) (s : State) : Host.Outcome State Fault Refusal :=
  s.run (sqsReadShadowEffect q w v)

/-- The ranges of Table 15-3 for a gallery that is not off. -/
def galRange (r : Nat) : Bool :=
  gCodec r == 0 || (gCodec r != 1 && decide (1 ≤ rbits r 3 7 0 ∧ rbits r 3 7 0 ≤ 6 ∧ rbits r 4 7 0 < rbits r 3 7 0 ∧
    (if gCodec r = 2 then rbits r 5 7 0 ≤ 51 else 1 ≤ rbits r 5 7 0) ∧ rf r 6 2 % 64 = 0 ∧ rf r 8 2 % 64 = 0 ∧ 256 ≤ rf r 14 2 ∧
    rf r 14 2 ≤ 8960 ∧ rf r 20 4 % 4096 = 0 ∧ 262144 ≤ rf r 20 4 ∧ rf r 20 4 ≤ 2 ^ 26 ∧ rf r 24 8 % 4096 = 0))

/-- The ranges of Table 15-4 for a tile that is not off. -/
def tileRange (r : Nat) : Bool :=
  tKind r == 0 || decide (rf r 8 2 ≤ 1000 ∧ 1 ≤ rf r 10 2 ∧ (tKind r ≠ 2 ∨ rbits r 4 12 9 = 0))

/-- WRITE_CFG: BAD (2) for a reserved bit or a value out of range, SEALED (3) under a seal. -/
def Dev.sqsWriteCfg (d : Dev) (w : Nat) (v : Word) (i : Nat) : Dev × Nat :=
  let r := d.regsNat (Reg.SQS_REC w 0) (sqsWords v)
  if (sqsCfg v).bad r || !(if wbit v 27 then tileRange r else galRange r) then (d, 2)
  else if d.sealed 44 then (d.sealDrop 44 (blockOffset (Reg.SQS_CMD w)), 3)
  else
    (if wbit v 27 then { d with sqs := { d.sqs with tileSh := tset 0 d.sqs.tileSh i (tileCfg.take (tat 0 d.sqs.tileSh i) r) } }
      else { d with sqs := { d.sqs with galSh := tset 0 d.sqs.galSh i (galCfg.take (tat 0 d.sqs.galSh i) r) } }, 0)

/-- SQS_WRITE_CFG. -/
def sqsWriteCfgEffect (q : Requester) (w : Nat) (v : Word) (d : Dev) : Dev := d.sqsWindow q w v (fun i d => d.sqsWriteCfg w v i)

/-- SQS_WRITE_CFG (R268). -/
def execSqsWriteCfg (q : Requester) (w : Fin 16) (v : Word) (s : State) : Host.Outcome State Fault Refusal :=
  s.run (sqsWriteCfgEffect q w v)

/-- SQS_WRITE_LIVE: KEY_REQ, where a 0 leaves a pending request; a tile entry has no LV byte. -/
def sqsWriteLiveEffect (q : Requester) (w : Nat) (v : Word) (d : Dev) : Dev :=
  d.sqsWindow q w v (fun i d =>
    let r := d.regsNat (Reg.SQS_REC w 0) (sqsWords v)
    if wbit v 27 then (d, 0)
    else if galLive.bad r then (d, 2)
    else (d.setGal i (d.gal i ||| (galLive.bits &&& r)), 0))

/-- SQS_WRITE_LIVE (R268). -/
def execSqsWriteLive (q : Requester) (w : Fin 16) (v : Word) (s : State) : Host.Outcome State Fault Refusal :=
  s.run (sqsWriteLiveEffect q w v)

/-- SQS_RESET: a gallery through OFF to a key frame at the next frame start, a tile through the last row of Table 15-5. -/
def sqsResetEffect (q : Requester) (w : Nat) (v : Word) (d : Dev) : Dev :=
  d.sqsWindow q w v (fun i d =>
    if wbit v 27 then
      let d := d.tOff i
      (if tKind (d.tile i) ≠ 0 then d.tTry i else d, 0)
    else
      let d := d.gOff i
      (if gCodec (d.gal i) ≠ 0 then d.gTry i else d, 0))

/-- SQS_RESET (R268). -/
def execSqsReset (q : Requester) (w : Fin 16) (v : Word) (s : State) : Host.Outcome State Fault Refusal :=
  s.run (sqsResetEffect q w v)

end Sys2Proof.Machine
end

