-- ==== Sys2Proof/Machine/Ingress.lean ====
section
/-! DEFINITION. A received frame (chapters 04 and 05): the MAC's checks (R71), the parser (R74), the flow store (R79), the
policers (R87), the checks before decryption (R94 to R98), the chain's new owners (R113), and the walk of its
subscription list (R272 to R275, R280). -/

namespace Sys2Proof.Machine

/-! ### The MAC (R71) -/

/-- FEC is on: always but in MODE 2 without FEC25 (Table 04-1) (assumption 38). -/
def Dev.fecOn (d : Dev) : Bool := d.fld Reg.NET_LANE_MODE 1 0 != 2 || d.bit Reg.NET_LANE_MODE 2

/-- Codewords of a frame are counted; FEC_UNCORR once per row per port (assumption 38). -/
def Dev.fecCounts (d : Dev) (p corrected lost : Nat) : Dev :=
  let d := (d.count (Reg.NET_FEC_CORR p) corrected).count (Reg.NET_FEC_UNCORR p) lost
  if lost = 0 ∨ p ∈ d.net.fecMark then d
  else { d with net := { d.net with fecMark := addMark d.net.fecMark p } }.raise Ev.FEC_UNCORR p

/-- The destination is the port's address, the broadcast address or a multicast address. -/
def Dev.macHit (d : Dev) (p : Nat) (f : List Byte) : Bool :=
  byteAt f 0 % 2 == 1 || f.take 6 == (d.regBytes (Reg.NET_PORT_MAC_LO p) 2).take 6

/-- The counter of the first condition that fails a frame, none for an accepted frame (assumption 38). -/
def Dev.macFault (d : Dev) (p : Nat) (f : List Byte) (fcsOk : Bool) (lost : Nat) : Option Nat :=
  if f.length + 4 < 64 then some (Reg.NET_RX_RUNT p)
  else if d.maxFrame p < f.length + 4 then some (Reg.NET_RX_OVERSIZE p)
  else if fcsOk = false ∨ lost ≠ 0 then some (Reg.NET_RX_FCS_ERR p)
  else if d.macHit p f = false then some (Reg.NET_RX_MAC_MISS p)
  else none

/-- Ingress timestamp of a frame now (R48). -/
def Dev.ingressTime (d : Dev) (p : Nat) : Nat :=
  (d.tb (d.fld (Reg.TIM_PORT_CFG p) 10 8)).time - (d.reg (Reg.TIM_PORT_IN_LAT p)).toNat * 2 ^ 24

/-- LV writes of the packet blocks take effect at a packet, and those of the port at its frame (Table 02-5). -/
def Dev.packetUnit (d : Dev) (p : Nat) : Dev :=
  let blocks := [10, 11, 12, 13, 15, 35, 36]
  d.lvTake (fun a => blocks.contains (regionOf a) || decide (Reg.NET_PORT_CFG p ≤ a ∧ a < Reg.NET_PORT_CFG p + 0x100))

/-! ### The parser (R74) -/

/-- A packet on its way in: port, ingress timestamp, chain, frame without its FCS, and whether the MAC fails it at its
end (R444). -/
structure Ingress where
  port : Nat
  time : Nat
  chain : Nat
  bytes : List Byte
  bad : Bool
  deriving DecidableEq, Repr

/-- What the parser does with a frame (Table 04-3): PTP (its message starts at `off`), to a domain's host ring, dropped, or an
RTP or RTCP packet to a local address (index, its domain). -/
inductive Disp where
  | ptp (off : Nat)
  | host (dom cause : Nat)
  | drop (cause : Nat)
  | packet (idx dom : Nat) (rtcp : Bool)
  deriving DecidableEq, Repr

/-- The lowest VALID local address entry that holds an address (R446). -/
def Dev.localIdx (d : Dev) (a : List Byte) : Option Nat :=
  (List.range 256).find? (fun i => d.bit (Reg.CLS_LOCAL_CTL i) 31 && d.regBytes (Reg.CLS_LOCAL_ADDR i 0) 4 == a)

/-- Where a PTP message starts in a frame (R49). -/
def Headers.ptp (h : Headers) (f : List Byte) : Option Nat :=
  if h.etherType = 0x88F7 then some h.net
  else if h.isUdp f ∧ (beAt f (h.l4 + 2) 2 = 319 ∨ beAt f (h.l4 + 2) 2 = 320) then some h.off
  else none

/-- Disposition of a UDP payload (Table 04-3). -/
def payloadDisp (idx dom : Nat) (p : List Byte) : Disp :=
  let a := byteAt p 0
  let b := byteAt p 1
  if p = [] then .host dom 6
  else if a ≤ 3 then .host dom 4
  else if 20 ≤ a ∧ a ≤ 63 then .host dom 5
  else if 128 ≤ a ∧ a ≤ 191 then .packet idx dom (decide (192 ≤ b ∧ b ≤ 223))
  else .host dom 6

/-- Disposition of a frame: the first row of Table 04-3 that matches (assumption 41). -/
def Dev.parse (d : Dev) (h : Headers) (f : List Byte) : Disp :=
  match h.ptp f with
  | some off => .ptp off
  | none =>
    if h.tci.isSome && isTag h.etherType then .host 0 1
    else if h.etherType ≠ 0x0800 ∧ h.v6 = false then .host 0 0
    else if h.v6 = false ∧ h.sumOk f = false then .drop 11
    else if h.frag then .host 0 2
    else match d.localIdx h.dst with
      | none => .drop 10
      | some i =>
        let dom := d.fld (Reg.CLS_LOCAL_CTL i) 3 0
        if h.proto ≠ 17 then .host dom 3 else payloadDisp i dom (h.payload f)

/-- Headers of a frame: CLS_PARSE_CFG.TPID marks the one accepted tag. -/
def Dev.frameHeaders (d : Dev) (f : List Byte) : Headers := headersAt (beAt f 12 2 == d.fld Reg.CLS_PARSE_CFG 15 0) f

/-! ### Drops and the host -/

/-- A count that a frame failed by the MAC does not take: it is counted only in its MAC counter (R444) (assumption 42). -/
def Dev.tally (d : Dev) (bad : Bool) (a : Nat) : Dev := if bad then d else d.count a

/-- A packet passes policer `i` (R85); one failed by the MAC spends its tokens and is not counted (R444) (assumption 44). -/
def Dev.policed (d : Dev) (x : Ingress) (h : Headers) (i : Nat) : Nat × Dev :=
  let dscp := if h.v6 then beAt x.bytes h.net 2 / 64 % 64 else if h.etherType = 0x0800 then byteAt x.bytes (h.net + 1) / 4 else 0
  let r := d.police i x.port (x.bytes.length + 4) dscp (h.tci.map (fun t => t / 2 ^ 13))
  if x.bad then (r.1, d.setPolicer i (rset (r.2.policer i) 30 2 (rf (d.policer i) 30 2))) else r

/-- A packet goes to a domain's host ring with a cause: its charge moves first (R445) (assumption 42). -/
def Dev.hostWith (d : Dev) (x : Ingress) (dom cause : Nat) (leg : Option Nat) (stream : Nat) : Dev :=
  if x.bad then d.freeChain x.chain
  else match d.charge x.chain dom with
    | (d, true) => d.toHost dom x.chain leg cause x.port stream
    | (d, false) => d.freeChain x.chain

/-- A frame that classification sends to the host (R74): counted by cause and policed by its domain's exception policer
(assumption 42) (assumption 42). -/
def Dev.exception (d : Dev) (x : Ingress) (h : Headers) (dom cause : Nat) (leg : Option Nat) : Dev :=
  let r := (d.tally x.bad (Reg.CLS_EXC_CNT cause)).policed x h (d.fld (Reg.CLS_EXC_POL dom) 15 0)
  if r.1 = 2 then r.2.freeChain x.chain else r.2.hostWith x dom cause leg 0

/-- A PTP message (R49): to Vadjaryn's queue when its port and domain are a time base's in PTP mode, else to the host. PTP
frames are not policed (R87) (assumption 41). -/
def Dev.ptpFrame (d : Dev) (x : Ingress) (off : Nat) : Dev :=
  let dom := byteAt x.bytes (off + 4)
  let tbs := (List.range 8).filter (fun k => let c := d.reg (Reg.TIM_TB_CFG k); wfld c 1 0 == 1 && wfld c 6 4 == x.port && wfld c 31 24 == dom)
  if x.bad then d.freeChain x.chain
  else if tbs = [] then (d.count (Reg.CLS_EXC_CNT 9)).hostWith x 0 9 none 0
  else
    let d := if byteAt x.bytes off % 16 = 0 then d.forEach tbs Dev.syncSeen else d
    { d with net := { d.net with ptp := d.net.ptp ++ [(x.port, x.time, x.bytes)] } }.freeChain x.chain

/-! ### Records of the flow store (R78, R79) -/

/-- Key of a transport record. -/
def transportKey (port idx : Nat) (h : Headers) (f : List Byte) : List Byte :=
  b8 1 :: h.src ++ leBytes 2 (beAt f h.l4 2) ++ leBytes 2 (beAt f (h.l4 + 2) 2) ++ [b8 idx] ++
    leBytes 2 (match h.tci with
      | some t => t % 2 ^ 12 + 2 ^ 12 + port * 2 ^ 13
      | none => port * 2 ^ 13)

/-- Key of a stream record. -/
def streamKey (leg ssrc : Nat) : List Byte := b8 2 :: leBytes 4 ssrc ++ leBytes 2 leg

/-- STREAM of a stream record. -/
def recStream (r : Nat) : Nat := rbits r 6 2 0
/-- MEDIA of a stream record. -/
def recMedia (r : Nat) : Nat := rbits r 6 5 4
/-- KEY_SLOT of a stream record. -/
def recSlot (r : Nat) : Nat := rbits r 10 14 0
/-- CLEAR of a stream record. -/
def recClear (r : Nat) : Bool := rbits r 10 15 15 == 1
/-- SUB_PTR of a stream record. -/
def recSub (r : Nat) : Nat := rf r 12 3
/-- TERM of a stream record. -/
def recTerm (r : Nat) : Bool := rbits r 15 0 0 == 1
/-- FWD of a stream record. -/
def recFwd (r : Nat) : Bool := rbits r 15 1 1 == 1

/-! ### Packets in flight -/

/-- A packet in flight. -/
def Dev.packetAt (d : Dev) (chain : Nat) : Option Packet := d.fwd.flight.find? (fun x => x.chain == chain)

/-- A packet in flight replaced. -/
def Dev.setPacket (d : Dev) (x : Packet) : Dev :=
  { d with fwd := { d.fwd with flight := d.fwd.flight.map (fun y => if y.chain = x.chain then x else y) } }

/-- Source number of a packet (R269). -/
def Packet.source (x : Packet) : Nat := 8 * x.leg + x.stream

/-- A round engine handles the packet: nothing is released before its verdict (R92). -/
def Packet.round (x : Packet) : Bool := !x.clear && !streaming x.transform

/-- The RTP or RTCP packet of a chain in plaintext. -/
def Dev.packetBytes (d : Dev) (x : Packet) : List Byte := (d.chainData x.chain).drop x.l4Off

/-- A packet as forwarding sees it. -/
def Dev.packetMedia (d : Dev) (x : Packet) : Media :=
  let m := mediaOf (d.packetBytes x) (d.profile x.profile) (rbits (d.src x.source) 0 1 0)
  match x.attrs with
  | some a => m.withAttrs a
  | none => m

/-- The payload without its padding. -/
def Media.body (m : Media) : List Byte :=
  if m.pad then m.payload.take (m.payload.length - byteAt m.payload (m.payload.length - 1)) else m.payload

/-- Audio level of a packet (RFC 6464). -/
def Media.level (m : Media) : Option Nat := m.audio.map (fun b => byteAt b 0 % 128)

/-- An earlier packet of the same source holds changes or has not been walked (R275). -/
def Dev.walkBlocked (d : Dev) (x : Packet) : Bool :=
  (d.fwd.flight.takeWhile (fun y => y.chain != x.chain)).any (fun y =>
    y.source == x.source && !y.rtcp && y.fwd && (!y.walked || y.changes != []))

/-- The walk of a packet's list (R272 to R274): changes are held (R275). -/
def Dev.walkPacket (d : Dev) (x : Packet) : Dev × Packet :=
  match x.attrs with
  | none => (d, { x with walked := true })
  | some _ =>
    let r := d.walkList x.subPtr x.source x.leg x.dom (d.packetMedia x) (d.legSends x.leg)
    (r.1, { x with walked := true, changes := r.2.changes, sel := r.2.sel })

/-! ### Cut-through (R280) -/

/-- Length through the FCS of a replica for an entry. -/
def Dev.replicaLen (d : Dev) (m : Media) (i : Nat) : Nat :=
  let e := d.sub i
  let l := subLeg e
  let r := d.outRec (subOut e)
  let tw := if (d.profile (rf (d.hdr l) 1 1)).twcc = 0 then none else some 0
  (Config.egressHeader l).length + 12 + m.csrc.length + (d.outExt l m tw).length + m.payload.length +
    (if outClear r then 0 else tagBytes (slotTransform (d.slot (outSlot r)))) + 4

/-- First byte in to first byte out of a replica that is cut through (Table 16-7). -/
def Dev.cutLatency (d : Dev) : Nat := tat 290 [(0, 230), (1, 250)] (d.fld Reg.NET_LANE_MODE 1 0) * gateNs

/-- When a packet's verdict comes, after its first byte: 60 ns after its last byte (R99, Table 05-6). -/
def Dev.verdictAfter (d : Dev) (x : Packet) : Nat := x.len * d.byteTime + 60 * gateNs

/-- A packet so short that its verdict comes before a replica that is cut through starts: a replica is released at its start,
so these are decided at the verdict, and cancelled by a failure (R100, R277). -/
def Dev.verdictFirst (d : Dev) (x : Packet) : Bool := decide (d.verdictAfter x ≤ d.cutLatency)

/-- The conditions of Table 16-6 for an entry of a packet that itself changes nothing (assumption 50). -/
def Dev.cutOk (d : Dev) (x : Packet) (m : Media) (i : Nat) : Bool :=
  let e := d.sub i
  let l := subLeg e
  let r := d.outRec (subOut e)
  !x.round && rbits (d.hdr l) 0 1 1 == 1 && (outClear r || streaming (slotTransform (d.slot (outSlot r)))) &&
  x.changes == [] && (x.clear || !subRebase e) && d.admits l (d.replicaLen m i)

/-- The first CT_MAX selected replicas of a packet. -/
def Dev.cutFirst (d : Dev) (x : Packet) : List Nat := x.sel.take (min 4 (rbits (d.hdr x.leg) 0 4 2))

/-- The candidates of a packet: cut through, or counted in FWD_CT_DENIED (assumption 50). -/
def Dev.cutCandidates (d : Dev) (x : Packet) : Dev × Packet :=
  let m := d.packetMedia x
  (d.cutFirst x).foldl (fun (s : Dev × Packet) i =>
    if s.1.cutOk x m i then (s.1.replica m x.chain x.time i true, { s.2 with cut := s.2.cut ++ [i] })
    else (s.1.count Reg.FWD_CT_DENIED, s.2)) (d, x)

/-- The candidates whose start comes before the verdict (assumption 50). -/
def Dev.cutAhead (d : Dev) (x : Packet) : Dev × Packet := if d.verdictFirst x then (d, x) else d.cutCandidates x

/-- A packet in flight reaches its walk, unless it must wait. -/
def Dev.startWalk (d : Dev) (x : Packet) : Dev :=
  if x.fwd = false ∨ x.rtcp ∨ x.walked ∨ d.walkBlocked x then d
  else
    let r := d.walkPacket x
    let c := r.1.cutAhead r.2
    c.1.setPacket c.2

/-- FWD_WALK_RESUME (R275). -/
def fwdWalkResumeEffect (chain : Nat) (d : Dev) : Dev :=
  match d.packetAt chain with
  | some x => d.startWalk x
  | none => d

/-- FWD_WALK_RESUME. -/
def execFwdWalkResume (chain : BitVec 25) (s : State) : Host.Outcome State Fault Refusal :=
  s.run (fwdWalkResumeEffect chain.toNat)

end Sys2Proof.Machine
end

