-- ==== Sys2Proof/Machine/Receive.lean ====
section
/-! DEFINITION. FRAME_RECEIVED, TAG_VERDICT and returned ring entries: checks before decryption (R94 to R98), the new
owners of a chain (R113), and what every consumer of a packet does at its verdict (Table 05-5, R351 to R353). -/

namespace Sys2Proof.Machine

/-! ### Before decryption -/

/-- Length of the SRTP or SRTCP packet below which it is dropped (R98). -/
def shortest (rtcp : Bool) (t : Nat) (p : List Byte) : Nat := if rtcp then 12 + rtcpTagBytes t else rtpHdrLen p + tagBytes t

/-- Word with the E flag and index of an SRTCP packet (RFC 3711, RFC 7714). -/
def srtcpWord (t : Nat) (p : List Byte) : Nat := beAt p (p.length - 4 - if streaming t then 0 else rtcpTagBytes t) 4

/-- Index at which a packet is checked (R98) (assumption 47). -/
def Dev.checkIndex (d : Dev) (x : Packet) (p : List Byte) : Nat :=
  if x.rtcp then srtcpWord x.transform p % 2 ^ 31 else rtpIndex (d.indexPending x.leg x.stream false) x.seq

/-- The packet without its tag, decrypted (R90). -/
def Dev.plain (d : Dev) (x : Packet) (p : List Byte) : List Byte :=
  if x.rtcp then
    let body := p.take (p.length - 4 - rtcpTagBytes x.transform)
    if srtcpWord x.transform p < 2 ^ 31 then body else body.take 8 ++ d.cipherRun false true x.slot x.index (body.drop 8)
  else
    let n := rtpHdrLen p
    p.take n ++ d.cipherRun false false x.slot x.index ((p.take (p.length - tagBytes x.transform)).drop n)

/-- The packet is dropped before decryption: none when it passes (R94, R97, R98, R102). `bad` packets are not counted. -/
def Dev.cipDrop (d : Dev) (x : Packet) (p : List Byte) : Option Dev :=
  let s := d.slot x.slot
  if slotState s < 2 then some (if x.macBad then d else d.noKey x.leg x.dom)
  else if d.slotDom x.slot ≠ x.dom ∨ slotLeg s ≠ x.leg ∨ slotDir s = 1 then
    some (if x.macBad then d else d.keyMismatch x.leg x.dom)
  else if slotState s = 3 then some (d.tally x.macBad Reg.CIP_QUAR_DROP)
  else if p.length < shortest x.rtcp x.transform p then some (d.tally x.macBad Reg.CIP_SHORT)
  else if isReplay (d.indexPending x.leg x.stream x.rtcp) x.rtcp (d.checkIndex x p) then
    some (if x.macBad then d else d.count64 Reg.CIP_REPLAY_LO)
  else none

/-! ### New owners -/

/-- The ingress pipe or round engine that works on a packet (R91, R92). -/
def Dev.cipAgent (d : Dev) (x : Packet) : Nat :=
  if x.round then 16 + x.leg % 4 else 8 + if d.fld Reg.NET_LANE_MODE 1 0 = 0 then x.port % 4 else x.port / 2

/-- Agents that a packet's chain is shared to at classification, the last owner first (R113, R279, R281, R447) (assumption 51). -/
def Dev.consumers (d : Dev) (x : Packet) : List Nat :=
  let lane := x.fwd && x.attrs.isSome && (!x.walked || x.sel != [])
  let hist := lane && (!x.walked || d.histWants x.chain (x.sel.map (fun i => subOut (d.sub i)))) && decide (d.poolLevel (x.chain / 2 ^ 22) < 2)
  let l := (if x.term && x.media == 0 && d.jbfWants x.leg x.stream then [32] else []) ++
    (if x.term && x.media == 1 && d.vdeWants x.leg x.stream != [] then [39] else []) ++
    (if x.term && x.media == 1 && d.sqsWants x.leg x.stream != [] then [41] else []) ++
    (if lane then [20 + x.leg % 4] else []) ++ (if hist then [24] else []) ++ (if d.mirrors false x.leg then [43] else [])
  if x.rtcp ∨ l = [] then [d.cipAgent x] else l

/-- A chain is shared to its consumers (assumption 51). -/
def Dev.shareTo (d : Dev) (chain : Nat) (l : List Nat) : Dev :=
  (d.share (d.desc chain).last chain ((l.map (fun a => 2 ^ a)).sum) (l.headD 0) (chain / 2 ^ 22)).1

/-- An agent holds a share of a chain. -/
def Dev.holds (d : Dev) (chain a : Nat) : Bool := (d.desc chain).state != 0 && (d.desc chain).owners.testBit a

/-- An agent's share of a chain goes back, if it holds one. -/
def Dev.drop (d : Dev) (chain a : Nat) : Dev := if d.holds chain a then d.giveBack a chain else d

/-! ### The verdict -/

/-- An inbound packet in plaintext goes to its domain's record ring (R353); `share` says whether agent 43 holds a share of
the chain for it. -/
def Dev.mirrorIn (d : Dev) (x : Packet) (share : Bool) (frame : List Byte) : Dev :=
  let k := ringKey x.dom 14
  if d.ringSpace k = 0 then (if share then d.giveBack 43 x.chain else d).ringFull k
  else d.ringPacket k x.chain share frame x.time (some x.leg) 32 x.port x.stream

/-- The source packet of a chain in a history ring, as a repair packet carries it. -/
def Dev.chainMedia (d : Dev) (chain : Nat) : Media :=
  match lookup d.fwd.made chain with
  | some (payload, dd) => { plainMedia [] payload with dd := if dd = [] then none else some dd }
  | none =>
    let f := d.chainData chain
    let p := f.drop (d.frameHeaders f).off
    let h := d.desc chain
    let r := (d.flowLookup (streamKey h.leg (beAt p 8 4))).getD 0
    mediaOf p (d.profile (rf r 16 1)) (rbits (d.src (8 * h.leg + h.stream)) 0 1 0)

/-- Verified RTCP (R284): its packets go where their types are routed, once to the host for the whole compound; the chain
is then a mirror's or free. -/
def Dev.rtcpVerified (d : Dev) (x : Packet) : Dev :=
  let p := d.packetBytes x
  let frame := d.chainData x.chain
  let d := d.mirTake x.leg
  let r := d.feedback x.leg d.chainMedia (rtcpPackets p.length p)
  let mirrored := r.2.mirrors false x.leg
  let d := if r.1 then r.2.toHost x.dom x.chain (some x.leg) 14 x.port x.stream else r.2
  if mirrored then (if r.1 then d else d.shareTo x.chain [43]).mirrorIn x (!r.1) frame
  else if r.1 then d else d.freeChain x.chain

/-- Forwarding at a good verdict (R271, R275 to R277): held changes and the template structure are applied, the walk that
waited is made, its candidates denied (R280), and the replicas that wait are released in list order. -/
def Dev.fwdVerified (d : Dev) (x : Packet) : Dev :=
  let m := d.packetMedia x
  let d := d.holdTemplates x.source m
  let late := x.fwd && !x.walked
  let r := if late then d.walkPacket x else (d, x)
  let d := r.1.applyChanges r.2.changes
  let x := { r.2 with changes := [] }
  let c := if late then ((d.cutFirst x).foldl (fun d _ => d.count Reg.FWD_CT_DENIED) d, x)
    else if d.verdictFirst x then d.cutCandidates x else (d, x)
  let d := c.1
  let x := c.2
  d.forEach (x.sel.filter (fun i => !x.cut.contains i)) (fun d i => d.replica m x.chain x.time i false)

/-- Media blocks at a verdict: those that saw the packet in advance commit or undo, the others take it now if it passed
(R164, R219, R257). -/
def Dev.mediaVerdict (d : Dev) (x : Packet) (ok : Bool) : Dev :=
  let m := d.packetMedia x
  let ahead := !x.round && !x.clear
  let d := if x.term = false ∨ x.media ≠ 0 then d
    else if ahead then d.jbfVerdict x.leg x.chain ok
    else if d.holds x.chain 32 ∧ ok then d.jbfArrive x.leg x.chain x.seq x.ts m.level m.body true
    else d.drop x.chain 32
  let d := if x.term = false ∨ x.media ≠ 1 then d
    else if ahead then d.vdeVerdict x.leg x.stream x.chain ok
    else if d.holds x.chain 39 ∧ ok then d.vdeArrive x.leg x.stream x.chain x.seq x.ts m.marker m.body true
    else d.drop x.chain 39
  if d.holds x.chain 41 then d.sqsVerdict x.leg x.stream x.chain x.seq x.ts m.marker m.body ok else d

/-- The record of a packet left no consumer (R447) (assumption 51). -/
def Packet.unclaimed (x : Packet) : Bool := !x.rtcp && !x.fwd && (!x.term || decide (2 ≤ x.media))

/-- A packet without a consumer and without a mirror is counted as it is released (R447). -/
def Dev.unclaimed (d : Dev) (x : Packet) : Dev :=
  if x.unclaimed && !d.holds x.chain 43 && !x.macBad then d.count Reg.CLS_NO_CONSUMER else d

/-- Bytes a replica of `len` bytes has sent when its packet's verdict comes; a stitch first continues to 60 bytes (R100). -/
def Dev.stitchBytes (d : Dev) (x : Packet) (len : Nat) : Nat :=
  min (len - 4) (max 60 ((d.verdictAfter x - d.cutLatency) / d.byteTime))

/-- Cut-through replicas of a failed packet that are still on the wire are ended with an inverted FCS (R100). -/
def Dev.stitches (d : Dev) (x : Packet) : Dev :=
  d.forEach d.egs.tx (fun d e =>
    match e.2 with
    | some t => if t.frame.cutOf = some x.chain ∧ t.bad = false then d.stitch e.1 (d.stitchBytes x t.frame.len) t else d
    | none => d)

/-- The verdict passes. -/
def Dev.verdictPass (d : Dev) (x : Packet) : Dev :=
  let i := 40 * x.leg + x.stream
  let d := if x.clear then d else (d.slotPass x.slot).setIndex i (indexVerified (d.index i) x.rtcp x.index)
  let d := d.setDesc x.chain { d.desc x.chain with verified := true }
  if x.rtcp then d.rtcpVerified x
  else
    let frame := d.chainData x.chain
    let d := (d.unclaimed x).mediaVerdict x true
    let d := (d.fwdVerified x).histSettle x.chain
    let d := (d.drop x.chain (20 + x.leg % 4)).drop x.chain (d.cipAgent x)
    if d.holds x.chain 43 then d.mirrorIn x true frame else d

/-- The verdict fails (R100, R444): a failure of the MAC is not one of the slot (assumption 46). -/
def Dev.verdictFail (d : Dev) (x : Packet) : Dev :=
  let d := if x.clear ∨ x.macBad then d else d.slotFail x.slot x.leg x.dom
  let d := (d.stitches x).unclaimed x
  let d := if x.rtcp then d else (d.mediaVerdict x false).histSettle x.chain
  ((d.drop x.chain (20 + x.leg % 4)).drop x.chain 43).drop x.chain (d.cipAgent x)

/-- The verdict of a packet in flight (assumption 47). -/
def Dev.verdict (d : Dev) (chain : Nat) (ok : Bool) : Dev :=
  match d.packetAt chain with
  | none => d
  | some x =>
    let d : Dev := { d with fwd := { d.fwd with flight := d.fwd.flight.filter (fun y => y.chain != chain) } }
    if ok && !x.macBad then d.verdictPass x else d.verdictFail x

/-- TAG_VERDICT (R99): it may change a slot, so CIP's LV writes take effect (assumption 47). -/
def tagVerdictEffect (chain : Nat) (ok : Bool) (d : Dev) : Dev := (d.lvCommit 0xC00000 0xE00000).verdict chain ok

/-- TAG_VERDICT. -/
def execTagVerdict (chain : BitVec 25) (ok : Bool) (s : State) : Host.Outcome State Fault Refusal :=
  s.run (tagVerdictEffect chain.toNat ok)

/-! ### Classification of a packet -/

/-- A packet that is decrypted as it comes is seen by the audio and video blocks before its verdict (Table 05-5). -/
def Dev.ahead (d : Dev) (x : Packet) : Dev :=
  if x.rtcp ∨ x.round ∨ x.clear then d
  else
    let m := d.packetMedia x
    let d := if d.holds x.chain 32 then d.jbfArrive x.leg x.chain x.seq x.ts m.level m.body false else d
    if d.holds x.chain 39 then d.vdeArrive x.leg x.stream x.chain x.seq x.ts m.marker m.body false else d

/-- FWD_NO_LAYER (R270), once per row per leg. -/
def Dev.noLayer (d : Dev) (leg dom : Nat) : Dev :=
  let d := d.count Reg.FWD_NO_LAYER_CNT
  if leg ∈ d.fwd.noLayerMark then d
  else { d with fwd := { d.fwd with noLayerMark := addMark d.fwd.noLayerMark leg } }.raise Ev.FWD_NO_LAYER leg dom

/-- A packet's layer attributes (R269 to R271); without them it is forwarded to no one. -/
def Dev.layered (d : Dev) (x : Packet) : Dev × Packet :=
  if x.rtcp ∨ x.fwd = false then (d, x)
  else
    let m := d.packetMedia x
    let a := d.attrsOf x.source m
    let d := d.srcSeen x.source m.ts a
    ((if a.isNone && !x.macBad then d.noLayer x.leg x.dom else d), { x with attrs := a, walked := a.isNone })

/-- A packet enters flight: its list is walked unless it must wait, its chain is shared to its consumers, and those that may
use it before its verdict see it. A CLEAR packet's changes and its verdict are at once. -/
def Dev.putInFlight (d : Dev) (x : Packet) : Dev :=
  let r := d.layered x
  let x := r.2
  let d : Dev := { r.1 with fwd := { r.1.fwd with flight := r.1.fwd.flight ++ [x] } }
  let blocked := d.walkBlocked x
  let w := if x.fwd && !x.rtcp && !x.walked && !blocked then d.walkPacket x else (d, x)
  let w := if x.clear && !x.macBad then (w.1.applyChanges w.2.changes, { w.2 with changes := [] }) else w
  let d := (w.1.setPacket w.2).mirTake x.leg
  let d := d.shareTo x.chain (d.consumers w.2)
  let c := if w.2.walked then d.cutAhead w.2 else (d, w.2)
  let d := (c.1.setPacket c.2).ahead c.2
  if x.clear then d.verdict x.chain (!x.macBad) else d

/-- The packet of a stream record, before its checks. -/
def Dev.packetOf (d : Dev) (x : Ingress) (h : Headers) (p : List Byte) (leg s : Nat) (rtcp : Bool) : Packet :=
  { chain := x.chain, port := x.port, leg := leg, stream := recStream s, dom := recDom s, slot := recSlot s
    transform := slotTransform (d.slot (recSlot s)), clear := recClear s, rtcp := rtcp, index := 0
    seq := beAt p 2 2, ts := beAt p 4 4, ssrc := beAt p 8 4, l4Off := h.off, media := recMedia s, term := recTerm s
    fwd := recFwd s, subPtr := recSub s, profile := rf s 16 1, macBad := x.bad, len := x.bytes.length + 4, time := x.time, attrs := none
    walked := !recFwd s || rtcp, changes := [], sel := [], cut := [] }

/-- A packet of a leg's stream, policed and charged (R76, R87, R94 to R98, R445) (assumption 40). -/
def Dev.accept (d : Dev) (x : Ingress) (y : Packet) (p : List Byte) : Dev :=
  let d := if !y.rtcp && (d.profile y.profile).unsearched p then d.tally x.bad (Reg.CLS_EXC_CNT 13) else d
  match d.charge x.chain y.dom with
  | (d, false) => d.freeChain x.chain
  | (d, true) =>
    let d := d.setDesc x.chain { d.desc x.chain with leg := y.leg, stream := y.stream }
    if y.clear then d.putInFlight y
    else match d.cipDrop y p with
      | some d => d.freeChain x.chain
      | none =>
        let y := { y with index := d.checkIndex y p }
        (d.storeFrame x.chain (x.bytes.take y.l4Off ++ d.plain y p)).putInFlight y

/-- A demoted packet (R87): its buffers are refused while their pool is at THROTTLE or above. -/
def Dev.demote (d : Dev) (x : Ingress) : Dev × Bool :=
  let d := d.setDesc x.chain { d.desc x.chain with de := true }
  let pool := x.chain / 2 ^ 22
  if 2 ≤ d.poolLevel pool then (d.allocNone pool (d.desc x.chain).last, false) else (d, true)

/-- A packet whose stream record is found (R76, R87). -/
def Dev.streamPacket (d : Dev) (x : Ingress) (h : Headers) (p : List Byte) (leg s : Nat) (rtcp : Bool) : Dev :=
  let r := d.policed x h (rf s 8 2)
  let d := r.2
  if r.1 = 2 then d.freeChain x.chain
  else if r.1 = 3 then d.hostWith x (recDom s) 15 (some leg) (recStream s)
  else if recClear s ∧ d.bit Reg.CLS_PARSE_CFG 16 ∧ h.udpOk x.bytes = false then
    (d.tally x.bad (Reg.CLS_EXC_CNT 12)).freeChain x.chain
  else
    let e := if r.1 = 1 then d.demote x else (d, true)
    if e.2 then e.1.accept x (e.1.packetOf x h p leg s rtcp) p else e.1.freeChain x.chain

/-- An RTP or RTCP packet: the two lookups of R79. -/
def Dev.mediaPacket (d : Dev) (x : Ingress) (h : Headers) (idx dom : Nat) (rtcp : Bool) : Dev :=
  let p := h.payload x.bytes
  match d.flowLookup (transportKey x.port idx h x.bytes) with
  | none => d.exception x h dom 7 none
  | some t =>
    match d.flowLookup (streamKey (recLeg t) (beAt p (if rtcp then 4 else 8) 4)) with
    | none => d.exception x h (recDom t) 8 (some (recLeg t))
    | some s => d.streamPacket x h p (recLeg t) s rtcp

/-- A frame in a chain is classified (R74) (assumption 40). -/
def Dev.classify (d : Dev) (x : Ingress) : Dev :=
  let h := d.frameHeaders x.bytes
  match d.parse h x.bytes with
  | .ptp off => d.ptpFrame x off
  | .host dom c => d.exception x h dom c none
  | .drop c => (d.tally x.bad (Reg.CLS_EXC_CNT c)).freeChain x.chain
  | .packet idx dom rtcp => d.mediaPacket x h idx dom rtcp

/-- FRAME_RECEIVED (R71): the MAC's checks, its own frames (R72), a chain charged to SD0 (R445), and classification
(assumption 40) (assumption 40). -/
def frameReceivedEffect (p : Nat) (f : RxFrame) (d : Dev) : Dev :=
  if d.portUp p = false ∨ d.regionOff 8 = true then d
  else
    let d := d.packetUnit p
    let lost := if d.fecOn then f.uncorrectable else 0
    let d := d.fecCounts p (if d.fecOn then f.corrected else 0) lost
    let fault := d.macFault p f.bytes f.fcsOk lost
    let d := match fault with
      | some a => d.count a
      | none => (d.count64 (Reg.NET_RX_FRAMES_LO p)).count64 (Reg.NET_RX_BYTES_LO p) (f.bytes.length + 4)
    if d.macHit p f.bytes = false then d
    else if beAt f.bytes 12 2 = 0x8808 then (if fault.isSome then d else d.macControl p f.bytes)
    else
      let time := d.ingressTime p
      match d.alloc f.pool p (min 5 (buffersFor (d.fld (Reg.BPM_POOL_CFG f.pool) 7 0) f.bytes.length)) 0 with
      | (none, d) => d.post (.packet p none)
      | (some id, d) =>
        let d := (d.storeFrame id f.bytes).post (.packet p (some id))
        (d.setDesc id { d.desc id with ts := time }).classify ⟨p, time, id, f.bytes, fault.isSome⟩

/-- FRAME_RECEIVED. -/
def execFrameReceived (p : Fin 8) (f : RxFrame) (s : State) : Host.Outcome State Fault Refusal :=
  s.run (frameReceivedEffect p f)

/-! ### Returned entries (R347, R352) -/

/-- A returned entry of a ring: its share is given up, or its chain re-enters classification. -/
def Dev.entryBack (d : Dev) (k i action : Nat) : Dev :=
  match (tat [] d.hst.held k).find? (fun h => h.index == i) with
  | none => d
  | some h =>
    let d : Dev := { d with hst := { d.hst with held := tset [] d.hst.held k ((tat [] d.hst.held k).filter (fun y => y.index != i)) } }
    let give (d : Dev) : Dev := if h.share then d.giveBack 43 h.chain else d
    if action ≠ 1 then give d
    else if 10 ≤ k % 16 ∧ k % 16 ≤ 13 ∧ (h.cause = 7 ∨ h.cause = 8) then
      (d.post (.packet h.port (some h.chain))).classify ⟨h.port, (d.desc h.chain).ts, h.chain, d.chainData h.chain, false⟩
    else give (d.count Reg.HST_REINJ_REFUSED)

/-- LIMIT of a ring advances: the entries it passes are given with the host fields the host left in their slots, and those
given before are returned, in index order. -/
def Dev.limitTo (d : Dev) (k v : Nat) (entries : List HostFields) : Dev :=
  let last := (d.reg (rHost k)).toNat
  let size := d.ringSize k
  let l := (entries.take (sub32 v last)).zipIdx
  let d := (d.forEach l (fun d e =>
    let f : HostEntry := ⟨e.1.bufAddr.toNat, e.1.bufLen.toNat, e.1.action.toNat⟩
    { d with hst := { d.hst with fields := tset {} d.hst.fields (d.slotKey k (last + e.2)) f } })).setReg (rHost k) (w32 v)
  d.forEach l (fun d e => d.entryBack k (sub32 (last + e.2) size) e.1.action.toNat)

/-- DOORBELL_LIMIT (R347) (assumption 105). -/
def doorbellLimitEffect (fn dom r : Nat) (v : Word) (entries : List HostFields) (d : Dev) : Dev :=
  let k := ringKey dom (6 + r)
  if d.fnServes fn dom = false then d
  else if d.dbAccepts k v.toNat then (d.packetUnit 8).limitTo k v.toNat entries else d.dbBad k

/-- DOORBELL_LIMIT. -/
def execDoorbellLimit (fn d : Fin 16) (r : Fin 10) (v : Word) (entries : List HostFields) (s : State) :
    Host.Outcome State Fault Refusal := s.run (doorbellLimitEffect fn d r v entries)

end Sys2Proof.Machine
end

