-- ==== Sys2Proof/Machine/Poison.lean ====
section
/-! DEFINITION. A DRAM controller's command slot (R312) and what a read that failed twice does to its requester (R316). -/

namespace Sys2Proof.Machine

/-- Buffer whose data holds a line of DRAM (R107). -/
def Dev.bufferAt (d : Dev) (line : Nat) : Option Nat :=
  let base (p : Nat) : Nat := d.reg64 (Reg.BPM_POOL_BASE_LO p) (Reg.BPM_POOL_BASE_HI p) / 2048 * 2048
  ((List.range 8).find? (fun p => p != 0 && decide (base p ≤ 64 * line ∧ 64 * line < base p + 2048 * d.fld (Reg.BPM_POOL_COUNT p) 22 0))).map
    (fun p => p * 2 ^ 22 + (64 * line - base p) / 2048)

/-- Head of the chain that holds a buffer. -/
def Dev.headOf (d : Dev) (id : Nat) : Option Nat :=
  (d.bpm.descs.find? (fun e => e.2.head && e.2.state != 0 && (d.chainIds e.1 e.2.nbuf).contains id)).map (fun e => e.1)

/-- A frame in an egress queue is dropped: its chain goes back and its stream counts it. -/
def Dev.frameLost (d : Dev) (f : QFrame) : Dev :=
  let d := (d.release 49 4 f.chain (f.chain / 2 ^ 22)).1
  let d := match f.stream with
    | some k => d.outCount k 40
    | none => d
  (d.sendLog f none).frameDone f 3 0 noTs

/-- The frame of a chain is dropped (R316): it leaves its queue, ends with an inverted FCS when it is on the wire, its
verdict fails when that is awaited, and the jitter buffer gives it up. -/
def Dev.dropFrame (d : Dev) (c : Nat) : Dev :=
  let mine (l : List QFrame) : List QFrame := l.filter (fun f => f.chain == c)
  let rest (l : List QFrame) : List QFrame := l.filter (fun f => f.chain != c)
  let out := d.egs.leaves.flatMap (fun e => mine e.2) ++ d.egs.cq.flatMap (fun e => mine e.2)
  let leaves := (d.egs.leaves.filter (fun e => mine e.2 != [])).map (fun e => (e.1, rest e.2))
  let cqs := (d.egs.cq.filter (fun e => mine e.2 != [])).map (fun e => (e.1, rest e.2))
  let d := d.forEach leaves (fun d e => (d.setLeaf e.1 e.2).sweepPath e.1)
  let d := d.forEach cqs (fun d e => d.setCq e.1 e.2)
  let d := d.forEach out Dev.frameLost
  let d := d.forEach d.egs.tx (fun d e =>
    match e.2 with
    | some t =>
      let t' : TxFrame := { t with bad := true }
      if t.frame.chain = c then ({ d with egs := { d.egs with tx := tset none d.egs.tx e.1 (some t') } } : Dev) else d
    | none => d)
  let d : Dev := { d with fwd := { d.fwd with flight := d.fwd.flight.map (fun (x : Packet) => if x.chain = c then { x with macBad := true } else x) } }
  d.forEach (d.jbf.slots.filter (fun (e : Nat × Option JbfSlot) => e.2.any (fun x => x.chain == c))) (fun d e => (d.setJslot e.1 none).jbfDrop c)

/-- A poisoned line reaches its requester (R316). -/
def Dev.poisoned (d : Dev) (port line : Nat) : Dev :=
  if port = 1 then
    match (d.bufferAt line).bind d.headOf with
    | some c => d.dropFrame c
    | none => d
  else if port = 6 ∨ port = 7 then d.underflow (port - 6)
  else { d with dmc := { d.dmc with poison := if (port, line) ∈ d.dmc.poison then d.dmc.poison else d.dmc.poison ++ [(port, line)] } }

/-- DRAM_COMMAND_SLOT (R312): `link` says what the link of a read it issues brings: 1 a corrected error, 2 one failure (the
read is repeated and passes), 3 two. -/
def dramCommandSlotEffect (k link : Nat) (d : Dev) : Dev :=
  if d.trained k = false then d
  else
    let t := (d.bankTimers k).slotStep k
    match t.2 with
    | none => t.1
    | some r =>
      let l := t.1.linkResult k r link
      match l.2 with
      | some x => l.1.poisoned x.1 x.2
      | none => l.1

/-- DRAM_COMMAND_SLOT. -/
def execDramCommandSlot (k : Fin 8) (link : Fin 4) (s : State) : Host.Outcome State Fault Refusal :=
  s.run (dramCommandSlotEffect k link)

end Sys2Proof.Machine
end

