-- ==== Sys2Proof/Machine/Field.lean ====
section
/-! DEFINITION. Clock groups and the isolation link (chapter 12): channel maps (R200), states (R208), row FIFOs (R203),
tension loops (R204), gauges (R206), tick copies and the link (R216, R448). -/

namespace Sys2Proof.Machine

/-! ### Groups and channels -/

/-- RATE code of a group. -/
def Dev.grpRate (d : Dev) (k : Nat) : Nat := d.fld (Reg.FLD_CG_CFG_A k) 27 24
/-- SLOTS of a group. -/
def Dev.grpSlots (d : Dev) (k : Nat) : Nat := d.fld (Reg.FLD_CG_CFG_A k) 11 8
/-- A master group. -/
def Dev.grpMaster (d : Dev) (k : Nat) : Bool := d.bit (Reg.FLD_CG_CFG_A k) 21
/-- REF: 0 HOUSE, 1 BUFFER, 2 MCLK_IN. -/
def Dev.grpRef (d : Dev) (k : Nat) : Nat := d.fld (Reg.FLD_CG_CFG_A k) 20 19
/-- PATH is ASRC. -/
def Dev.grpAsrc (d : Dev) (k : Nat) : Bool := d.bit (Reg.FLD_CG_CFG_A k) 18
/-- Domain of a group. -/
def Dev.grpDomain (d : Dev) (k : Nat) : Nat := d.fld (Reg.FLD_CG_CFG_A k) 31 28
/-- STATE of a group: 0 OFF, 1 ACQUIRE, 2 RUN, 3 LOST, 4 MUTED, 5 HELD. -/
def Dev.grpState (d : Dev) (k : Nat) : Nat := d.fld (Reg.FLD_CG_STAT k) 2 0
/-- w of R200. -/
def Dev.grpStep (d : Dev) (k : Nat) : Nat := if d.grpRate k ≤ 4 then 1 else 2

/-- House-locked by configuration (Table 12-2). -/
def Dev.houseLocked (d : Dev) (k : Nat) : Bool := d.grpMaster k && d.grpRef k == 0 && !d.grpAsrc k
/-- Samples travel straight between the group and Cable: the loop is locked (R204). -/
def Dev.direct (d : Dev) (k : Nat) : Bool := d.houseLocked k && d.bit (Reg.FLD_CG_STAT k) 18
/-- Samples pass through the row FIFOs (R203). -/
def Dev.viaFifo (d : Dev) (k : Nat) : Bool := !d.grpAsrc k && !d.direct k

/-- First channel and channel count of a port's pin. -/
def Dev.portRange (d : Dev) (out : Bool) (p : Nat) : Nat × Nat := portChannels d.regs out p

/-- The port that maps a channel number, and the number's place in its range. -/
def Dev.portOf (d : Dev) (out : Bool) (c : Nat) : Option (Nat × Nat) :=
  (List.range 256).findSome? (fun p =>
    let r := d.portRange out p
    if r.1 ≤ c ∧ c < r.1 + r.2 then some (p, c - r.1) else none)

/-- Input channels that ports map, in ascending order. -/
def Dev.mappedIn (d : Dev) : List Nat :=
  let l := ((List.range 256).map (d.portRange false)).filter (fun r => r.2 != 0)
  (List.range 1024).filter (fun c => l.any (fun r => decide (r.1 ≤ c ∧ c < r.1 + r.2)))

/-- Domain of a field channel (R200). -/
def Dev.chanDomain (d : Dev) (out : Bool) (c : Nat) : Nat := (d.portOf out c).elim 0 (fun x => d.grpDomain (x.1 / 8))

/-- A clock group. -/
def Dev.grp (d : Dev) (k : Nat) : Group := tat {} d.field.groups k
/-- A clock group replaced. -/
def Dev.setGrp (d : Dev) (k : Nat) (g : Group) : Dev := { d with field := { d.field with groups := tset {} d.field.groups k g } }

/-! ### Selvedge events (R448, R449) -/

/-- An event of the selvedge die: with its row and frame index, held while the link is down (assumption 77). -/
def Dev.selRaise (d : Dev) (code inst dom : Nat) (idx : Option Nat) (more : List Byte := []) : Dev :=
  let args := leBytes 4 d.field.selRow ++ leBytes 2 (idx.getD 0xFFFF) ++ more
  if d.linkUp then d.raise code inst dom args
  else if d.field.held.length < 1024 then
    { d with field := { d.field with held := d.field.held ++ [(code, inst, dom, args)] } }
  else { d with field := { d.field with discarded := min (d.field.discarded + 1) 0xFFFFFFFF } }

/-- An event of a clock group. -/
def Dev.grpRaise (d : Dev) (code k : Nat) (more : List Byte := []) : Dev :=
  d.selRaise code k (d.grpDomain k) (some ((d.grp k).idx - 1)) more

/-- The gauge as event arguments. -/
def Dev.gaugeArgs (d : Dev) (k : Nat) : List Byte := leBytes 4 (d.reg (Reg.FLD_CG_GAUGE k)).toNat

/-- FLD_STATE_MIRROR follows a group while the link is up. -/
def Dev.mirrorState (d : Dev) (k : Nat) : Dev :=
  if d.linkUp then
    d.setFld (Reg.FLD_STATE_MIRROR (k / 8)) (4 * (k % 8) + 3) (4 * (k % 8))
      (d.grpState k + 8 * (d.bit (Reg.FLD_CG_STAT k) 19).toNat)
  else d

/-- A group's state. -/
def Dev.setGrpState (d : Dev) (k v : Nat) : Dev := (d.setFld (Reg.FLD_CG_STAT k) 2 0 v).mirrorState k

/-- LOOP_LOCK and LOOP_HOLD (assumption 75). -/
def Dev.setLoop (d : Dev) (k : Nat) (lock hold : Bool) : Dev :=
  ((d.setBit (Reg.FLD_CG_STAT k) 18 lock).setBit (Reg.FLD_CG_STAT k) 19 hold).mirrorState k

/-- A group reaches RUN (Table 12-3). -/
def Dev.grpRun (d : Dev) (k : Nat) : Dev :=
  let d := d.setGrpState k 2
  (d.setGrp k { d.grp k with joined := false, first := true }).grpRaise Ev.CG_RESUMED k (d.gaugeArgs k)

/-- Slips of a group in RUN (R203): counted, CG_SLIP once per row. -/
def Dev.slipped (d : Dev) (k n : Nat) : Dev :=
  if n = 0 ∨ d.grpState k ≠ 2 then d
  else
    let d := d.count (Reg.FLD_CG_SLIP k) n
    if (d.grp k).slipMark then d else (d.setGrp k { d.grp k with slipMark := true }).grpRaise Ev.CG_SLIP k

/-! ### Writes of FLD_CG_CTL -/

/-- An access to a block 61 register of a group (R200, R215): ignored on a board without field audio, dropped and counted
while the link is down. -/
def Dev.grpWindow (d : Dev) (q : Requester) (k : Nat) (f : Dev → Dev) : Dev :=
  d.window q 61 (d.grpDomain k) (some Ev.FLD_DOMAIN) (fun _ d =>
    if d.fldAbsent then d else if d.linkUp then f d else d.count Reg.FLD_LINK_LOST_WR)

/-- Nominal frame rate in 1/16 Hz. -/
def Dev.nominal (d : Dev) (k : Nat) : Nat := 16 * groupRate (d.grpRate k)

/-- The frequency word moves within its bounds (R204): STEER_MAX for HOUSE and BUFFER, where MCLK leads it otherwise
(assumption 75) (assumption 75). -/
def Dev.steer (d : Dev) (k : Nat) : Dev :=
  if d.grpMaster k = false ∨ d.bit (Reg.FLD_CG_STAT k) 19 then d
  else
    let (i, d) := d.draw
    let n := 4096 * groupRate (d.grpRate k)
    let range := if d.grpRef k ≤ 1 then n * d.fld (Reg.FLD_CG_LOOP k) 19 8 / 1000000 else n
    d.setReg (Reg.FLD_CG_FREQ k) (w32 (n - range + 2 * range * (Config.loopWord i).val / 65536))

/-- A group leaves OFF for ACQUIRE (assumption 116). -/
def Dev.grpOn (d : Dev) (k : Nat) : Dev :=
  let d := d.setBit (Reg.FLD_CG_CTL k) 0 true
  if d.grpState k ≠ 0 then d
  else
    let slips := d.forEach (List.range 64) (fun d j =>
      let c := ((d.reg (Reg.FLD_SLIP_A j)).toNat, (d.reg (Reg.FLD_SLIP_B j)).toNat)
      { d with field := { d.field with slips := tset {} d.field.slips (32 * j + k) ⟨c, c, 32⟩ } })
    (((slips.setGrp k { rate := d.nominal k }).setLoop k false false).setGrpState k 1).steer k

/-- CG_ENABLE (R208, R363). -/
def cgEnableEffect (q : Requester) (k : Nat) (d : Dev) : Dev :=
  d.grpWindow q k (fun d => if d.retired then d else d.grpOn k)

/-- CG_ENABLE. -/
def execCgEnable (q : Requester) (k : Fin 32) (s : State) : Host.Outcome State Fault Refusal := s.run (cgEnableEffect q k)

/-- A group turns OFF: outputs high impedance, inputs ignored. -/
def Dev.grpOff (d : Dev) (k : Nat) : Dev := ((d.setGrp k {}).setLoop k false false).setGrpState k 0

/-- CG_DISABLE (R208). -/
def cgDisableEffect (q : Requester) (k : Nat) (d : Dev) : Dev :=
  d.grpWindow q k (fun d => let d := d.setBit (Reg.FLD_CG_CTL k) 0 false; if d.grpState k = 0 then d else d.grpOff k)

/-- CG_DISABLE. -/
def execCgDisable (q : Requester) (k : Fin 32) (s : State) : Host.Outcome State Fault Refusal := s.run (cgDisableEffect q k)

/-- CG_ACK (R208): a HELD group acquires again at RATE. -/
def cgAckEffect (q : Requester) (k : Nat) (d : Dev) : Dev :=
  d.grpWindow q k (fun d =>
    if d.grpState k = 5 then (d.setGrp k { d.grp k with rate := d.nominal k }).setGrpState k 1 else d)

/-- CG_ACK. -/
def execCgAck (q : Requester) (k : Fin 32) (s : State) : Host.Outcome State Fault Refusal := s.run (cgAckEffect q k)

/-! ### What a group meets on its pins (R207, R208) -/

/-- CG_LOST: clock loss of a slave group. -/
def cgLostEffect (k : Nat) (d : Dev) : Dev :=
  let st := d.grpState k
  if d.grpMaster k ∨ ¬(st = 2 ∨ st = 4 ∨ st = 5) then d
  else
    let d := d.count (Reg.FLD_CG_LOSS k)
    let g := d.grp k
    let d := d.setGrp k { g with output := { g.output with on := false, k := 24 }, pins := g.pins.map (fun p => p.map (fun _ => 0)) }
    if st = 5 then d else (d.setGrpState k 3).grpRaise Ev.CG_LOST k

/-- CG_LOST. -/
def execCgLost (k : Fin 32) (s : State) : Host.Outcome State Fault Refusal := s.run (cgLostEffect k)

/-- CG_EDGES_RESUME. -/
def cgEdgesResumeEffect (k : Nat) (d : Dev) : Dev := if d.grpState k = 3 then d.setGrpState k 4 else d

/-- CG_EDGES_RESUME. -/
def execCgEdgesResume (k : Fin 32) (s : State) : Host.Outcome State Fault Refusal := s.run (cgEdgesResumeEffect k)

/-- CG_RATE_CHANGE: rate deviation of a slave group. -/
def cgRateChangeEffect (k : Nat) (d : Dev) : Dev :=
  if d.grpMaster k = false ∧ d.grpState k = 2 then (d.setGrpState k 4).grpRaise Ev.CG_RATE_CHANGE k (d.gaugeArgs k) else d

/-- CG_RATE_CHANGE. -/
def execCgRateChange (k : Fin 32) (s : State) : Host.Outcome State Fault Refusal := s.run (cgRateChangeEffect k)

/-- A frame period lies within 0.5 % of the expected one; rates in 1/16 Hz. -/
def nearRate (rate expected : Nat) : Bool := decide (200 * (max rate expected - min rate expected) ≤ rate ∧ rate ≠ 0)

/-- CG_STABLE (Table 12-3): sixteen stable frames of a slave group at a measured rate. -/
def cgStableEffect (k rate : Nat) (d : Dev) : Dev :=
  let st := d.grpState k
  let g := d.grp k
  if d.grpMaster k ∨ ¬(st = 1 ∨ st = 4) then d
  else if nearRate rate g.rate then d.grpRun k
  else if st = 1 then d
  else if d.bit (Reg.FLD_CG_CFG_A k) 17 ∧ 16 * 7000 ≤ rate ∧ rate ≤ 16 * (if d.grpStep k = 1 then 100000 else 200000) then
    (d.setGrp k { g with rate := rate }).grpRun k
  else (d.setGrpState k 5).grpRaise Ev.CG_HELD k

/-- CG_STABLE. -/
def execCgStable (k : Fin 32) (rate : BitVec 32) (s : State) : Host.Outcome State Fault Refusal := s.run (cgStableEffect k rate.toNat)

/-- CG_GLITCH: `n` glitches removed, the event once per row. -/
def cgGlitchEffect (k n : Nat) (d : Dev) : Dev :=
  if d.grpMaster k ∨ d.grpState k = 0 ∨ n = 0 then d
  else
    let d := d.count (Reg.FLD_CG_GLITCH k) n
    if (d.grp k).glitchMark then d else (d.setGrp k { d.grp k with glitchMark := true }).grpRaise Ev.CG_GLITCH k

/-- CG_GLITCH. -/
def execCgGlitch (k : Fin 32) (n : Nat) (s : State) : Host.Outcome State Fault Refusal := s.run (cgGlitchEffect k n)

/-- LOOP_HOLD (R204): the reference is lost; the frequency word stays. -/
def loopHoldEffect (k : Nat) (d : Dev) : Dev :=
  if d.grpMaster k ∧ d.grpState k ≠ 0 ∧ d.bit (Reg.FLD_CG_STAT k) 19 = false then (d.setLoop k false true).grpRaise Ev.LOOP_HOLD k
  else d

/-- LOOP_HOLD. -/
def execLoopHold (k : Fin 32) (s : State) : Host.Outcome State Fault Refusal := s.run (loopHoldEffect k)

/-- LOOP_LOCK (R204, Table 12-3): the loop locks, for BUFFER only with the level at TARGET; a group in ACQUIRE qualifies. -/
def loopLockEffect (k : Nat) (d : Dev) : Dev :=
  if d.grpMaster k = false ∨ d.grpState k = 0 ∨ (d.grpRef k = 1 ∧ d.fld (Reg.FLD_CG_FIFO k) 21 16 ≠ d.fld (Reg.FLD_CG_FIFO k) 4 0) then d
  else
    let held := d.bit (Reg.FLD_CG_STAT k) 19
    let d := d.setLoop k true false
    let d := if held then d.grpRaise Ev.LOOP_LOCK k else d
    if d.grpState k = 1 then d.grpRun k else d

/-- LOOP_LOCK. -/
def execLoopLock (k : Fin 32) (s : State) : Host.Outcome State Fault Refusal := s.run (loopLockEffect k)

/-- GAUGE_WINDOW (R206): `n` frame starts over `span` selvedge clocks from the first to the last. -/
def gaugeWindowEffect (k n span : Nat) (d : Dev) : Dev :=
  if d.grpState k = 0 then d
  else d.setReg (Reg.FLD_CG_GAUGE k) (w32 (if n < 2 ∨ span = 0 then 0 else (2 * 16 * (n - 1) * 196608000 + span) / (2 * span)))

/-- GAUGE_WINDOW. -/
def execGaugeWindow (k : Fin 32) (n : Nat) (span : Nat) (s : State) : Host.Outcome State Fault Refusal := s.run (gaugeWindowEffect k n span)

/-! ### Tick copies (R203, R209, R39) -/

/-- 64 zero words. -/
def zeroFrame : List Int := List.replicate 64 0

/-- Words of a field input channel for a slot row, as received (R178). -/
def Dev.rxRow (d : Dev) (c row : Nat) : Option (List Int) :=
  let x := tat (0, []) d.field.rx (2 * c + row % 2)
  if x.1 = row ∧ x.2.length = 24 then some x.2 else none

/-- Field input channels of a group: (channel, place in a frame's words). -/
def Dev.grpInputs (d : Dev) (k : Nat) : List (Nat × Nat) :=
  (List.range 64).flatMap (fun i =>
    let v := d.reg (Reg.FLD_PORT_MAP (8 * k + i / 8))
    if wbit v 15 ∧ i % 8 < d.grpSlots k then [(wfld v 9 0 + d.grpStep k * (i % 8), i)] else [])

/-- Field output channels of a group. -/
def Dev.grpOutputs (d : Dev) (k : Nat) : List (Nat × Nat) :=
  (List.range 64).flatMap (fun i =>
    let v := d.reg (Reg.FLD_PORT_MAP (8 * k + i / 8))
    if wbit v 31 ∧ i % 8 < d.grpSlots k then [(wfld v 25 16 + d.grpStep k * (i % 8), i)] else [])

/-- 24 frames of a group's input FIFO cross as slot row `row` (R203): the newest is repeated where fewer wait, and one is
discarded where 24 or more remain; the first send since RUN of a free group leaves at most 23, uncounted. -/
def Dev.fifoSend (d : Dev) (k row : Nat) : Dev :=
  let g := d.grp k
  let have_ := g.inFifo.take 24
  let last := have_.getLastD (if g.newest = [] then zeroFrame else g.newest)
  let frames := have_ ++ List.replicate (24 - have_.length) last
  let left := g.inFifo.drop 24
  let free := !(d.grpMaster k && decide (d.grpRef k ≤ 1))
  let first := g.first && free
  let left' := if first then left.drop (left.length - 23) else if 24 ≤ left.length then left.drop 1 else left
  let slips := (24 - have_.length) + (if first then 0 else left.length - left'.length)
  let d := d.setGrp k { g with inFifo := left', first := false }
  let d := d.forEach (d.grpInputs k) (fun d p =>
    { d with field := { d.field with rx := tset (0, []) d.field.rx (2 * p.1 + row % 2) (row, frames.map (fun f => f.getD p.2 0)) } })
  (d.setFld (Reg.FLD_CG_FIFO k) 21 16 left'.length).slipped k slips

/-- Base address of a ring in skein shared memory. -/
def fieldRingBase (a : Word) : Nat := 0x200000 + 4096 * wfld a 8 0

/-- A word of a ring's header. -/
def Dev.ringWord (d : Dev) (a : Word) (off : Nat) : Nat := leNat (d.shmRead (wfld a 26 24) (fieldRingBase a + off) 4)

/-- Bytes of a ring's header written. -/
def Dev.ringPut (d : Dev) (a : Word) (off : Nat) (b : List Byte) : Dev := d.shmWrite (wfld a 26 24) (fieldRingBase a + off) b

/-- A group's rings are moved by the near end while its skein has power. -/
def Dev.ringUsed (d : Dev) (a : Word) : Bool := wbit a 31 && decide (d.power ≤ 1)

/-- The headers of a converted group's rings at a tick copy (Table 12-5): the row that ended, its frames and edge. -/
def Dev.ringRow (d : Dev) (k row : Nat) : Dev :=
  let g := d.grp k
  let a := d.reg (Reg.FLD_RING_IN_A k)
  let b := d.reg (Reg.FLD_RING_OUT_A k)
  let d := if d.ringUsed a then
      ((d.ringPut a 8 (leBytes 4 (row + 2 ^ 32 - 1) ++ leBytes 2 g.words)).ringPut a 16 (leBytes 4 g.edge)).ringPut a 20 [b8 (d.grpState k)]
    else d
  let d := if d.ringUsed b then (d.ringPut b 16 (leBytes 4 g.edge)).ringPut b 20 [b8 (d.grpState k)] else d
  d.setGrp k { d.grp k with words := 0 }

/-- A group at a tick copy. -/
def Dev.grpTick (d : Dev) (k row : Nat) : Dev :=
  if d.grpState k = 0 then d
  else
    let d := d.setGrp k { d.grp k with idx := 0, glitchMark := false, slipMark := false }
    let d := if d.grpAsrc k then d.ringRow k row else if d.viaFifo k then d.fifoSend k row else d
    (d.setGrp k { d.grp k with edge := 0 }).steer k

/-- A slip channel meets R213: A holds EN, DST and SRC. -/
def Dev.slipValid (d : Dev) (a : Word) : Bool :=
  match d.portOf false (wfld a 9 0), d.portOf true (wfld a 25 16) with
  | some x, some y =>
    let g := x.1 / 8
    let h := y.1 / 8
    !d.grpAsrc g && !d.grpAsrc h && (g == h || (d.houseLocked g && d.houseLocked h)) && d.grpDomain g == d.grpDomain h
  | _, _ => false

/-- SLIP_INVALID for the slip channels that a swap set and left enabled but invalid (R213) (assumption 76). -/
def Dev.slipCheck (d : Dev) (old : Tbl Word) : Dev :=
  d.forEach (List.range 64) (fun d j =>
    let a := d.reg (Reg.FLD_SLIP_A j)
    let same := tget regReset old (Reg.FLD_SLIP_A j) == a && tget regReset old (Reg.FLD_SLIP_B j) == d.reg (Reg.FLD_SLIP_B j)
    if wbit a 31 ∧ same = false ∧ d.slipValid a = false then d.selRaise Ev.SLIP_INVALID j (d.chanDomain true (wfld a 25 16)) none
    else d)

/-- The selvedge die applies an acknowledged swap at its copy of tick T (R39) (assumption 76). -/
def Dev.selSwap (d : Dev) (row : Nat) : Dev :=
  match d.pat.sel with
  | some (t, gen) =>
    if t = row then
      let old := d.regs
      let d := (d.copyRegions (fun n => n == 61)).setFld Reg.FLD_SEL_GEN 15 0 gen
      { d with pat := { d.pat with sel := none } }.slipCheck old
    else d
  | none => d

/-- TICK_COPY (R39, R203, R209): the copy of the row's tick reaches the selvedge die. -/
def tickCopyEffect (d : Dev) : Dev :=
  if d.fldAbsent ∨ d.linkUp = false ∨ d.power = 3 then d
  else
    let row := d.row32
    let d := { d with field := { d.field with selRow := row, okRow := some (d.field.okRow.getD row) } }
    (d.selSwap row).forEach (List.range 32) (fun d k => d.grpTick k row)

/-- TICK_COPY. -/
def execTickCopy (s : State) : Host.Outcome State Fault Refusal := s.run tickCopyEffect

/-! ### The link -/

/-- Word `i` of a channel's newest row replaced by the word before it (R216). -/
def replaceWord (t : Tbl (Nat × List Int)) (c i : Nat) : Tbl (Nat × List Int) :=
  let a := tat (0, []) t (2 * c)
  let b := tat (0, []) t (2 * c + 1)
  let p := if after b.1 a.1 ∨ a.2 = [] then 1 else 0
  let x := if p = 1 then b else a
  let y := if p = 1 then a else b
  if i < x.2.length then tset (0, []) t (2 * c + p) (x.1, x.2.set i (if i = 0 then y.2.getLastD 0 else x.2.getD (i - 1) 0)) else t

/-- LINK_CRC (R216): a bad frame; the audio words it carried, as (to the selvedge die, channel, word of the row), are
replaced (assumption 77). -/
def linkCrcEffect (words : List (Bool × Nat × Nat)) (d : Dev) : Dev :=
  if d.fldAbsent ∨ d.linkUp = false then d
  else
    let d := if words = [] then d else d.count Reg.FLD_LINK_CRC
    let d := d.forEach words (fun d w =>
      if w.1 then { d with field := { d.field with tx := replaceWord d.field.tx w.2.1 w.2.2 } }
      else { d with field := { d.field with rx := replaceWord d.field.rx w.2.1 w.2.2 } })
    if d.field.crcMark then d else { d with field := { d.field with crcMark := true } }.raise Ev.LINK_CRC 0

/-- LINK_CRC. -/
def execLinkCrc (words : List (Bool × Fin 1024 × Fin 24)) (s : State) : Host.Outcome State Fault Refusal :=
  s.run (linkCrcEffect (words.map (fun w => (w.1, w.2.1.val, w.2.2.val))))

/-- The link is lost (R216): an audio swap not acknowledged aborts. `locks` are the lanes that still hold lock (assumption 77). -/
def Dev.linkFall (d : Dev) (locks : Nat) : Dev :=
  let d := ((d.setBit Reg.FLD_LINK_STAT 8 false).setFld Reg.FLD_LINK_STAT 7 0 locks).count Reg.FLD_LINK_DOWNS
  let d := { d with field := { d.field with okRow := none } }
  let d := d.forEach (d.field.groups.map (fun e => e.1)) (fun d k => d.setGrp k { d.grp k with linkK := 0 })
  let d := d.raise Ev.FLD_LINK_DOWN 0
  if d.pat.acked then d else d.audioAbort

/-- FLD_LINK_DOWN (R216). -/
def fldLinkDownEffect (locks : Nat) (d : Dev) : Dev := if d.fldAbsent ∨ d.linkUp = false then d else d.linkFall locks

/-- FLD_LINK_DOWN. -/
def execFldLinkDown (locks : BitVec 8) (s : State) : Host.Outcome State Fault Refusal := s.run (fldLinkDownEffect locks.toNat)

/-- FLD_LINK_UP (R216, R448): FLD_LINK_UP is raised, then the held events cross (assumption 77). -/
def fldLinkUpEffect (d : Dev) : Dev :=
  if d.fldAbsent ∨ d.linkUp then d
  else
    let d := d.setFld Reg.FLD_LINK_STAT 8 0 0x1FF
    let d := d.raise Ev.FLD_LINK_UP 0 0 (List.replicate 6 0 ++ leBytes 4 d.field.discarded)
    let held := d.field.held
    let d := { d with
      pat := { d.pat with zeroReport := true }
      field := { d.field with held := [], discarded := 0, okRow := none } }
    let d := d.forEach held (fun d (e : Nat × Nat × Nat × List Byte) => d.raise e.1 e.2.1 e.2.2.1 e.2.2.2)
    d.forEach (List.range 32) Dev.mirrorState

/-- FLD_LINK_UP. -/
def execFldLinkUp (s : State) : Host.Outcome State Fault Refusal := s.run fldLinkUpEffect

/-- FLD_GAUGE_MIRROR at a row tick (R206); the marks of the row end. -/
def Dev.fieldTick (d : Dev) : Dev :=
  let d := { d with field := { d.field with ringMark := [], crcMark := false } }
  if d.fldAbsent ∨ d.linkUp = false then d
  else d.forEach (List.range 32) (fun d k => d.setReg (Reg.FLD_GAUGE_MIRROR k) (d.reg (Reg.FLD_CG_GAUGE k)))

end Sys2Proof.Machine
end

