-- ==== Sys2Proof/Machine/Frames.lean ====
section
/-! DEFINITION. Frames of the clock groups: capture and drive (R197, R198, R201), mutes (R208), rings (R209), the slip path
(R212 to R214), and what crosses between Cable and the selvedge die (R179, R203, R210). -/

namespace Sys2Proof.Machine

/-! ### Samples and mutes -/

/-- Bits of a slot. -/
def Dev.grpWidth (d : Dev) (k : Nat) : Nat := 16 + 8 * d.fld (Reg.FLD_CG_CFG_A k) 7 6

/-- FMT of a group: 3 is PDM. -/
def Dev.grpFmt (d : Dev) (k : Nat) : Nat := d.fld (Reg.FLD_CG_CFG_A k) 23 22

/-- A received slot as a Q1.23 sample (R198); a PDM decimator gives 24 bits (R197). -/
def Dev.slotSample (d : Dev) (k : Nat) (v : Word) : Int :=
  if d.grpFmt k = 3 ∨ d.grpWidth k = 24 then sInt 24 v.toNat
  else if d.grpWidth k = 16 then sInt 16 v.toNat * 256
  else sInt 24 (v.toNat / 256)

/-- A sample as the bits of a sent slot (R198). -/
def Dev.sampleSlot (d : Dev) (k : Nat) (x : Int) : Nat :=
  if d.grpWidth k = 16 then uNat 16 (clampI (-0x8000) 0x7FFF (roundEven x 8))
  else if d.grpWidth k = 24 then uNat 24 x
  else uNat 24 x * 256

/-- One frame of a mute or unmute (R208): the words as sent. While there is sound, `base` follows the last good words. -/
def rampFrame (r : Ramp) (want : Bool) (words : List Int) : List Int × Ramp :=
  let r := if want = r.on then r else { r with on := want, k := 0 }
  let sent := if r.on then (if r.k < 24 then words.map (fun x => Int.tdiv (x * (r.k + 1)) 24) else words)
    else if r.k < 24 then (List.range 64).map (fun i => Int.tdiv (r.base.getD i 0 * (23 - r.k)) 24)
    else zeroFrame
  (sent, { on := r.on, k := min 24 (r.k + 1), base := if r.on then sent else r.base })

/-- A register of the selvedge die as a frame of a group meets it (R201): a house-locked group's row tick T is the start of
its frame that carries house sample 24T. -/
def Dev.frameReg (d : Dev) (k row a : Nat) : Word :=
  match d.pat.sel with
  | some (t, _) => if d.direct k ∧ d.linkUp ∧ after t row = false then d.sh a else d.reg a
  | none => d.reg a

/-! ### Capture -/

/-- The words of a captured frame; `slots` holds slot s of port p at 8s + p. -/
def Dev.captured (d : Dev) (k row : Nat) (slots : List Word) : List Int :=
  (List.range 64).map (fun i =>
    let p := 8 * k + i / 8
    let s := i % 8
    if d.bit (Reg.FLD_PORT_MAP p) 15 ∧ s < d.grpSlots k ∧ wbit (d.frameReg k row (Reg.FLD_PORT_MASK p)) s then
      d.slotSample k (slots.getD (8 * s + i / 8) 0)
    else 0)

/-- A word of a house-locked group crosses to Cable as word `n` of slot row `row`. -/
def Dev.rxWord (d : Dev) (c row n : Nat) (x : Int) : Dev :=
  let key := 2 * c + row % 2
  let old := tat (0, []) d.field.rx key
  let words := if n = 0 then [x] else if old.1 = row ∧ old.2.length = n then old.2 ++ [x] else []
  { d with field := { d.field with rx := tset (0, []) d.field.rx key (row, words) } }

/-- RING_ERR once per row per group (R209). -/
def Dev.ringErr (d : Dev) (k : Nat) : Dev :=
  if k ∈ d.field.ringMark then d
  else { d with field := { d.field with ringMark := addMark d.field.ringMark k } }.raise Ev.FLD_RING_ERR k (d.grpDomain k)

/-- A sample of a ring. -/
def ringSample (a : Word) (x : Int) : List Byte := if wbit a 16 then leBytes 3 (uNat 24 x) else leBytes 4 (uNat 24 x * 256)

/-- Frame `n` of a ring: its address, for samples of `f` bytes in all. -/
def ringFrame (a b : Word) (n f : Nat) : Nat := fieldRingBase a + 64 + n % max 1 (wfld b 11 0) * f

/-- A captured frame enters the input ring (R209). -/
def Dev.ringIn (d : Dev) (k : Nat) (words : List Int) : Dev :=
  let a := d.reg (Reg.FLD_RING_IN_A k)
  let b := d.reg (Reg.FLD_RING_IN_B k)
  if d.ringUsed a = false ∨ d.linkUp = false then d
  else
    let bytes := (d.grpInputs k).flatMap (fun p => ringSample a (words.getD p.2 0))
    let n := d.ringWord a 0
    let lapped := decide (wfld b 11 0 < sub32 (n + 1) (d.ringWord a 4))
    let d := d.shmWrite (wfld a 26 24) (ringFrame a b n bytes.length) bytes
    let d := (d.ringPut a 0 (leBytes 4 (n + 1))).setGrp k { d.grp k with words := (d.grp k).words + 1 }
    if lapped then (d.count Reg.FLD_RING_OVF).ringErr k else d

/-- A captured frame leaves for Cable, for the row FIFO, or for the ring. -/
def Dev.sendInput (d : Dev) (k house : Nat) (words : List Int) : Dev :=
  if d.grpAsrc k then d.ringIn k words
  else if d.direct k then
    if d.linkUp then d.forEach (d.grpInputs k) (fun d p => d.rxWord p.1 (house / 24) (house % 24) (words.getD p.2 0)) else d
  else
    let g := d.grp k
    let full := decide (64 ≤ g.inFifo.length)
    let d := d.setGrp k { g with inFifo := (if full then g.inFifo.drop 1 else g.inFifo) ++ [words], newest := words }
    if full then d.slipped k 1 else d

/-- The capture side of a frame: a frame whose clock was lost before its last slot is discarded (R207) (assumption 74). -/
def Dev.capture (d : Dev) (k house : Nat) (slots : List Word) : Dev :=
  let st := d.grpState k
  let g := d.grp k
  if st = 2 ∧ slots.length < 8 * d.grpSlots k then d
  else
    let (sent, ramp) := rampFrame g.input (st == 2) (d.captured k (house / 24) slots)
    (d.setGrp k { g with cap := sent, capPrev := g.cap, input := ramp }).sendInput k house sent

/-! ### The slip path (R212 to R214) -/

/-- BCLK periods before the first data bit (Table 12-1). -/
def Dev.firstBit (d : Dev) (k : Nat) : Nat :=
  match d.grpFmt k with
  | 0 => 1
  | 1 => 0
  | _ => d.fld (Reg.FLD_CG_CFG_A k) 5 5

/-- The word of slot `s` of group `g` is ready, 150 ns after its last bit, no later than slot `u` of group `k` starts, when
both frames start together: times in parts of a frame of 1/48,000 s. -/
def Dev.slipInTime (d : Dev) (g s k u : Nat) : Bool :=
  let bg := d.grpSlots g * d.grpWidth g
  let bk := d.grpSlots k * d.grpWidth k
  decide ((d.firstBit g + (s + 1) * d.grpWidth g) * bk * 1000000 + 7200 * bg * bk ≤ (d.firstBit k + u * d.grpWidth k) * bg * 1000000)

/-- The newest complete word of an input channel at the start of slot `u` of group `k`'s frame (R212). -/
def Dev.newestWord (d : Dev) (src k u : Nat) : Int :=
  match d.portOf false src with
  | none => 0
  | some (p, s) =>
    let h := p / 8
    let g := d.grp h
    let i := 8 * (p % 8) + s
    let mine := (d.grp k).idx
    if g.idx < mine ∨ (g.idx = mine ∧ d.slipInTime h s k u) then g.cap.getD i 0 else g.capPrev.getD i 0

/-- The exact product of a slip channel's settings for output channel `c`, with 42 fraction bits; zero when they name
another output or break R213 (assumption 76). -/
def Dev.slipPart (d : Dev) (cfg : Nat × Nat) (c k u : Nat) : Int :=
  let a := w32 cfg.1
  if wbit a 31 ∧ wfld a 25 16 = c ∧ d.slipValid a then (wfld (w32 cfg.2) 22 0 : Int) * d.newestWord (wfld a 9 0) k u else 0

/-- The contribution of slip channel `j` to output channel `c` in slot `u` of group `k` (R212, R214). -/
def Dev.slipTerm (d : Dev) (j c k u : Nat) : Int :=
  let f := tat {} d.field.slips (32 * j + k)
  let new := d.slipPart f.now c k u
  if f.k < 32 then roundEven (d.slipPart f.old c k u * (31 - f.k) + new * (f.k + 1)) 24 else roundEven new 19

/-- Slip settings are taken at a frame start of a destination group: a change starts the crossfade (R214). -/
def Dev.slipTake (d : Dev) (k row : Nat) : Dev :=
  d.forEach (List.range 64) (fun d j =>
    let c := ((d.frameReg k row (Reg.FLD_SLIP_A j)).toNat, (d.frameReg k row (Reg.FLD_SLIP_B j)).toNat)
    let f := tat {} d.field.slips (32 * j + k)
    if f.now = c then d
    else { d with field := { d.field with slips := tset {} d.field.slips (32 * j + k) ⟨c, f.now, 0⟩ } })

/-- One frame of every crossfade under way has run. -/
def Dev.slipNext (d : Dev) (k : Nat) : Dev :=
  d.forEach (List.range 64) (fun d j =>
    let f := tat {} d.field.slips (32 * j + k)
    if f.k < 32 then { d with field := { d.field with slips := tset {} d.field.slips (32 * j + k) { f with k := f.k + 1 } } } else d)

/-! ### Drive -/

/-- A field output's word of house sample `house`, zero when it has not crossed (R179). -/
def Dev.txWord (d : Dev) (c house : Nat) : Int :=
  let x := tat (0, []) d.field.tx (2 * c + house / 24 % 2)
  if x.1 = house / 24 then x.2.getD (house % 24) 0 else 0

/-- The next frame of a row FIFO: an empty one repeats the last played (R203) (assumption 74). -/
def Dev.fifoPlay (d : Dev) (k : Nat) : List Int × Dev :=
  let g := d.grp k
  match g.outFifo with
  | f :: rest => (f, d.setGrp k { g with outFifo := rest, played := some f })
  | [] => (g.played.getD zeroFrame, if g.joined then d.slipped k 1 else d)

/-- The next frame of an output ring: zeros when the task has none ready (R209). -/
def Dev.ringPlay (d : Dev) (k : Nat) : List Int × Dev :=
  let a := d.reg (Reg.FLD_RING_OUT_A k)
  let b := d.reg (Reg.FLD_RING_OUT_B k)
  if d.ringUsed a = false then (zeroFrame, d)
  else
    let n := d.ringWord a 4
    if n = d.ringWord a 0 then (zeroFrame, (d.count Reg.FLD_RING_UNDER).ringErr k)
    else
      let l := d.grpOutputs k
      let w := if wbit a 16 then 3 else 4
      let bytes := d.shmRead (wfld a 26 24) (ringFrame a b n (w * l.length)) (w * l.length)
      let val (j : Nat) : Int := if w = 3 then sInt 24 (leAt bytes (3 * j) 3) else sInt 24 (leAt bytes (4 * j) 4 / 256)
      let words := (List.range 64).map (fun i => ((List.range l.length).zip l).foldl (fun x e => if e.2.2 = i then val e.1 else x) 0)
      (words, d.ringPut a 4 (leBytes 4 (n + 1)))

/-- Cable's contribution to a frame: it ramps to zero from the last words while the link is down (R216), and is zero in P2
(R213). -/
def Dev.cableWords (d : Dev) (k house : Nat) : List Int × Dev :=
  let (words, d) := if d.grpAsrc k then d.ringPlay k
    else if d.direct k then
      ((List.range 64).map (fun i => (d.grpOutputs k).foldl (fun x p => if p.2 = i then d.txWord p.1 house else x) 0), d)
    else d.fifoPlay k
  let g := d.grp k
  if d.linkUp = false then
    ((List.range 64).map (fun i => if g.linkK < 24 then Int.tdiv (g.cable.getD i 0 * (23 - g.linkK)) 24 else 0),
      d.setGrp k { g with linkK := min 24 (g.linkK + 1) })
  else
    let words := if 2 ≤ d.power then zeroFrame else words
    (words, d.setGrp k { g with cable := words })

/-- The slip path added to the words of a frame, with one saturation (R212). -/
def Dev.addSlip (d : Dev) (k : Nat) (words : List Int) : List Int × Dev :=
  if d.grpAsrc k then (words, d)
  else
    (d.grpOutputs k).foldl (fun (acc : List Int × Dev) p =>
      let x := acc.1.getD p.2 0 + ((List.range 64).map (fun j => d.slipTerm j p.1 k (p.2 % 8))).sum
      let y := clampI (-0x800000) 0x7FFFFF x
      (acc.1.set p.2 y, if x = y then acc.2 else acc.2.count Reg.FLD_SLIP_SAT)) (words, d)

/-- What the pins of a group drive for a frame's words (R201, R208): none where high impedance. -/
def Dev.pinsOf (d : Dev) (k row : Nat) (words : List Int) : List (Option Nat) :=
  (List.range 64).map (fun i =>
    let p := 8 * k + i / 8
    let s := i % 8
    let m := d.frameReg k row (Reg.FLD_PORT_MASK p)
    if d.bit (Reg.FLD_PORT_MAP p) 31 = false ∨ d.grpSlots k ≤ s then none
    else if wbit m (8 + s) then some (if d.grpState k = 3 then 0 else d.sampleSlot k (words.getD i 0))
    else if wbit m 16 ∧ d.grpState k ≠ 3 then none else some 0)

/-- The drive side of a frame (assumption 74). -/
def Dev.drive (d : Dev) (k house : Nat) : Dev :=
  let (cable, d) := d.cableWords k house
  let d := d.slipTake k (house / 24)
  let (words, d) := d.addSlip k cable
  let d := d.slipNext k
  let g := d.grp k
  let (sent, ramp) := rampFrame g.output (d.grpState k == 2 && !d.pat.muted) words
  d.setGrp k { g with output := ramp, pins := d.pinsOf k (house / 24) sent }

/-- CG_FRAME_START (R201 to R203, R212): a frame starts, `clk` selvedge clocks after the tick copy; it carries house sample
`house` in a house-locked group, and its slots bring `slots` (assumption 74). -/
def cgFrameStartEffect (k house clk : Nat) (slots : List Word) (d : Dev) : Dev :=
  if d.grpState k = 0 ∨ d.fldAbsent then d
  else
    let d := d.lvCommit (Reg.FLD_CG_FIFO k) (Reg.FLD_CG_LOOP k + 4)
    let d := d.setGrp k { d.grp k with edge := clk, idx := (d.grp k).idx + 1 }
    (d.capture k house slots).drive k house

/-- CG_FRAME_START. -/
def execCgFrameStart (k : Fin 32) (house : BitVec 32) (clk : BitVec 17) (slots : List Word) (s : State) :
    Host.Outcome State Fault Refusal := s.run (cgFrameStartEffect k house.toNat clk.toNat slots)

/-! ### Between Cable and the near end -/

/-- What Cable reads as field input `c` for slot row `row` (R178, R200, R210, R216): none when it is absent. -/
def Dev.fieldIn (d : Dev) (c row : Nat) : Option (List Int) :=
  let zeros := some (List.replicate 24 0)
  if d.fldAbsent then zeros
  else match d.portOf false c with
    | none => zeros
    | some (p, i) =>
      let k := p / 8
      if i % d.grpStep k ≠ 0 ∨ d.grpState k = 0 then zeros
      else if d.grpAsrc k then
        let s := d.reg (Reg.FLD_IN_SLOT c)
        if wbit s 31 = false then zeros
        else if (d.reg (Reg.HOK_STAMP (d.fld (Reg.FLD_IN_STAMP c) 14 0))).toNat ≠ row then none
        else
          let b := d.shmRead (wfld s 18 16) (0x200000 + 256 * wfld s 12 0 + 128 * (row % 2)) 96
          some ((List.range 24).map (fun n => sInt 24 (leAt b (4 * n) 3)))
      else if d.bit (Reg.FLD_PORT_MASK p) i = false then zeros
      else if d.linkUp = false ∨ d.field.okRow.all (fun r => after r row) then none
      else d.rxRow c row

/-- Cable's 24 words of field output `c` for emitted row `e` cross the link (R179), and fill its converted slot (R210). -/
def Dev.fieldOut (d : Dev) (c e : Nat) (words : List Int) : Dev :=
  let d := if d.linkUp then { d with field := { d.field with tx := tset (0, []) d.field.tx (2 * c + e % 2) (e, words) } } else d
  let s := d.reg (Reg.FLD_OUT_SLOT c)
  let conv := (d.portOf true c).any (fun x => d.grpAsrc (x.1 / 8))
  if conv && wbit s 31 && !d.fldAbsent then
    d.shmWrite (wfld s 18 16) (0x200000 + 256 * wfld s 12 0 + 128 * (e % 2)) (words.flatMap (fun x => leBytes 4 (uNat 32 x)) ++ leBytes 4 e)
  else d

/-- The frames of emitted row `e` join the row FIFOs of the groups that use them (R203). -/
def Dev.fieldJoin (d : Dev) (e : Nat) : Dev :=
  if d.linkUp = false ∨ d.fldAbsent then d
  else d.forEach (List.range 32) (fun d k =>
    if d.grpState k = 0 ∨ d.viaFifo k = false then d
    else
      let g := d.grp k
      let outs := d.grpOutputs k
      let frames := (List.range 24).map (fun n => (List.range 64).map (fun i =>
        outs.foldl (fun x p => if p.2 = i then
          (let t := tat (0, []) d.field.tx (2 * p.1 + e % 2); if t.1 = e then t.2.getD n 0 else 0) else x) 0))
      let full := decide (24 ≤ g.outFifo.length)
      let run := d.grpState k == 2
      let d := d.setGrp k { g with
        outFifo := (if full then g.outFifo.drop 1 else g.outFifo) ++ frames, joined := g.joined || run }
      if full && g.joined then d.slipped k 1 else d)

end Sys2Proof.Machine
end

