-- ==== Sys2Proof/Machine/Cable.lean ====
section
/-! DEFINITION. Cable (chapter 11): sources and lists (R177, R183), exact sums (R184 to R187), gains (R188 to R191), what a
swap and a row tick do. The row's work itself stands in Mix. -/

namespace Sys2Proof.Machine

/-! ### Sources and lists -/

/-- Domain of a bus. -/
def Dev.busDomain (d : Dev) (b : Nat) : Nat := d.fld (Reg.CAB_BUS_DOM (b / 8)) (4 * (b % 8) + 3) (4 * (b % 8))

/-- Domain of a source; none for a reserved number (Table 11-1). -/
def Dev.srcDomain (d : Dev) (s : Nat) : Option Nat :=
  if s < 8192 then some (d.legDomain s) else if s < 9216 then some (d.chanDomain false (s - 8192))
  else if s < 11264 then some (d.busDomain (s - 9216)) else none

/-- DEPTH of a bus. -/
def Dev.busDepth (d : Dev) (b : Nat) : Nat := d.fld (Reg.CAB_BUS_CFG b) 31 30
/-- First entry of a bus's list. -/
def Dev.busBase (d : Dev) (b : Nat) : Nat := d.fld (Reg.CAB_BUS_CFG b) 18 0
/-- Entries of a bus's list. -/
def Dev.busLen (d : Dev) (b : Nat) : Nat := d.fld (Reg.CAB_BUS_LEN b) 19 0

/-- The crosspoint entries of a domain: first, and how many (assumption 70). -/
def Dev.xpRange (d : Dev) (dom : Nat) : Nat × Nat := (1024 * d.fld (Reg.CAB_DOM_XP dom) 8 0, 1024 * d.fld (Reg.CAB_DOM_XP dom) 25 16)

/-- Entry `i` lies in a domain's range. -/
def Dev.xpIn (d : Dev) (dom i : Nat) : Bool := decide ((d.xpRange dom).1 ≤ i ∧ i < (d.xpRange dom).1 + (d.xpRange dom).2)

/-- A bus's list stays within its domain's range (R183) (assumption 70). -/
def Dev.listFits (d : Dev) (b : Nat) : Bool :=
  let r := d.xpRange (d.busDomain b)
  d.busLen b == 0 || decide (r.1 ≤ d.busBase b ∧ d.busBase b + d.busLen b ≤ r.1 + r.2)

/-- A bus sums its list: DEPTH 1 or 2, and the list within its range. -/
def Dev.busSums (d : Dev) (b : Nat) : Bool := (d.busDepth b == 1 || d.busDepth b == 2) && d.listFits b

/-- A crosspoint entry as Cable reads it: its index, source, gain code, RANKED, and whether it is bad. -/
structure Xp where
  idx : Nat
  src : Nat
  gain : Nat
  ranked : Bool
  bad : Bool
  deriving DecidableEq, Repr

/-- The checks of R183 on an entry's word, after an entry of source `prev` (assumption 70). -/
def Dev.xpBad (d : Dev) (b w : Nat) (prev : Option Nat) : Bool :=
  let s := w % 2 ^ 14
  decide (w / 2 ^ 39 ≠ 0) || w.testBit 15 || prev.any (fun p => decide (s ≤ p)) || d.srcDomain s != some (d.busDomain b) ||
    (decide (9216 ≤ s) && (d.busDepth b == 1 || d.busDepth (s - 9216) != 1))

/-- A list from entry `i` on, `n` entries, checked in order. -/
def Dev.xpList (d : Dev) (b : Nat) (prev : Option Nat) (i : Nat) : Nat → List Xp
  | 0 => []
  | n + 1 =>
    let w := tat 0 d.cab.xp i
    ⟨i, w % 2 ^ 14, w / 2 ^ 16 % 2 ^ 23, w.testBit 14, d.xpBad b w prev⟩ :: d.xpList b (some (w % 2 ^ 14)) (i + 1) n

/-- Every entry of a bus's list, none when the bus sums nothing. -/
def Dev.listOf (d : Dev) (b : Nat) : List Xp := if d.busSums b then d.xpList b none (d.busBase b) (d.busLen b) else []

/-- The entries that contribute. -/
def Dev.goodList (d : Dev) (b : Nat) : List Xp := (d.listOf b).filter (fun x => !x.bad)

/-- CAB_LIST_BAD once per swap for each bus (R183) (assumption 70). -/
def Dev.listBad (d : Dev) (b arg : Nat) : Dev :=
  if b ∈ d.cab.badMark then d
  else { d with cab := { d.cab with badMark := addMark d.cab.badMark b } }.raise Ev.CAB_LIST_BAD b (d.busDomain b) (leBytes 4 arg)

/-- What reading a bus's list finds wrong: counted and reported. -/
def Dev.checkList (d : Dev) (b : Nat) (l : List Xp) : Dev :=
  if d.busDepth b = 3 then d.listBad b 0xFFFFFFFF
  else if d.busDepth b = 0 then d
  else if d.listFits b = false then
    let r := d.xpRange (d.busDomain b)
    d.listBad b (if d.busBase b < r.1 then d.busBase b else max (d.busBase b) (r.1 + r.2))
  else
    match l.filter (fun x => x.bad) with
    | [] => d
    | x :: t => (d.count Reg.CAB_LIST_BAD_CNT (t.length + 1)).listBad b x.idx

/-! ### Exact sums (R185, R186) -/

/-- A product added to an accumulator of 56 bits and its wrap ledger. -/
def wrapAdd (a : Int × Int) (p : Int) : Int × Int :=
  let s := a.1 + p
  if (2 : Int) ^ 55 ≤ s then (s - 2 ^ 56, a.2 + 1) else if s < -(2 : Int) ^ 55 then (s + 2 ^ 56, a.2 - 1) else (s, a.2)

/-- Division by `n`, rounded half to even. -/
def divEven (v : Int) (n : Nat) : Int :=
  let q := v / n
  let r := v - q * n
  if (n : Int) < 2 * r ∨ (2 * r = n ∧ q % 2 ≠ 0) then q + 1 else q

/-- A converted sample: its value, a ledger saturation, a clip. -/
structure Sample where
  x : Int
  sat : Bool
  clip : Bool
  deriving DecidableEq, Repr

/-- A rounded value limited to Q1.23. -/
def clipSample (q : Int) : Sample := ⟨clampI (-0x800000) 0x7FFFFF q, false, decide (q < -0x800000 ∨ 0x7FFFFF < q)⟩

/-- to_sample(). -/
def toSample (a : Int × Int) (og : Nat) : Sample :=
  if og = 0 then ⟨0, false, false⟩
  else if a.2 ≠ 0 then ⟨if 0 < a.2 then 0x7FFFFF else -0x800000, true, false⟩
  else clipSample (roundEven (a.1 * og) 39)

/-! ### Gains (R189) -/

/-- retarget(). -/
def Gain.retarget (g : Gain) (t : Nat) : Gain :=
  if g.ramping then { g with tgt := t, start := g.cur, k := 0 } else { g with tgt := t }

/-- One sample of the 24-sample ramp. -/
def Gain.rampOn (g : Gain) : Gain :=
  let k := g.k + 1
  let cur := ((g.start : Int) + Int.tdiv (((g.tgt : Int) - g.start) * k) 24).toNat
  if k = 24 then { g with cur := cur, k := k, ramping := false, wait := 0 } else { g with cur := cur, k := k }

/-- step(): the gain for a sample x after x_prev, and whether a ramp was forced (assumption 72). -/
def Gain.step (g : Gain) (zc : Nat) (x prev : Int) : Gain × Bool :=
  if g.ramping then (g.rampOn, false)
  else if g.cur = g.tgt then ({ g with wait := 0 }, false)
  else if x = 0 ∨ decide (x < 0) ≠ decide (prev < 0) then ({ g with cur := g.tgt, wait := 0 }, false)
  else if g.wait + 1 < zc then ({ g with wait := g.wait + 1 }, false)
  else (({ g with wait := g.wait + 1, ramping := true, start := g.cur, k := 0 } : Gain).rampOn, true)

/-- A gain over the samples of a row: its code at each, the gain after, and the ramps forced. -/
def Gain.row (g : Gain) (zc : Nat) (prev : Int) : List Int → List Nat × Gain × Nat
  | [] => ([], g, 0)
  | x :: t =>
    let p := g.step zc x prev
    let r := p.1.row zc x t
    (p.1.cur :: r.1, r.2.1, p.2.toNat + r.2.2)

/-- A gain that fades to zero over the row (R190). -/
def Gain.fade (g : Gain) : Gain := { cur := g.cur, tgt := 0, start := g.cur, k := 0, ramping := true, wait := 0 }

/-- Key of a crosspoint's gain (assumption 72). -/
def gainKey (b s : Nat) : Nat := 16384 * b + s

/-- The rankers that gate a bus (R193). -/
def Dev.gaters (d : Dev) (b : Nat) : List Nat :=
  (List.range 1024).filter (fun r => d.fld (Reg.CAB_RANK_CFG r) 31 30 == 3 && d.fld (Reg.CAB_RANK_CFG r) 10 0 == b)

/-- Members of a ranker. -/
def Dev.members (d : Dev) (r : Nat) : List (Nat × Nat) := tat [] d.cab.rank r

/-- Target of an entry: its GAIN, or 0 while a gate holds it closed. -/
def Dev.xpTarget (d : Dev) (gaters : List Nat) (x : Xp) : Nat :=
  if x.ranked && gaters.any (fun r => (d.members r).all (fun m => m.1 != x.src)) then 0 else x.gain

/-! ### Outputs -/

/-- What a stage hears. -/
def Dev.stageHears (d : Dev) (s : Nat) : Hears :=
  let a := d.reg (Reg.CAB_STAGE_A s)
  ⟨wbit a 31, wfld a 10 0, wbit a 30, d.fld (Reg.CAB_STAGE_B s) 13 0⟩

/-- What a field output hears. -/
def Dev.foutHears (d : Dev) (c : Nat) : Hears := ⟨d.bit (Reg.CAB_FOUT_A c) 31, d.fld (Reg.CAB_FOUT_A c) 10 0, false, 0⟩

/-- Outputs by number: stages 0 to 8,191, field outputs from 8,192 on. -/
def Dev.hears (d : Dev) (o : Nat) : Hears := if o < 8192 then d.stageHears o else d.foutHears (o - 8192)

/-- Output gain code of an output. -/
def Dev.outGain (d : Dev) (o : Nat) : Nat :=
  if o < 8192 then d.fld (Reg.CAB_STAGE_C o) 22 0 else d.fld (Reg.CAB_FOUT_B (o - 8192)) 22 0

/-- Domain of an output. -/
def Dev.outDomain (d : Dev) (o : Nat) : Nat := if o < 8192 then d.legDomain o else d.chanDomain true (o - 8192)

/-- Bytes written into a chain at an offset of its data (R180). -/
def Dev.chainPut (d : Dev) (id off : Nat) (bytes : List Byte) : Dev :=
  if d.liveChain id = false ∨ d.chainRoom id < off + bytes.length then d
  else
    let old := d.chainData id
    d.storeFrame id (patch (old ++ List.replicate (off + bytes.length - old.length) 0) off bytes)

/-- Emitted row `e` of a stage reaches its ring (R180). -/
def Dev.ringRow180 (d : Dev) (s e : Nat) (words : List Int) : Dev :=
  d.chainPut (d.fld (Reg.CAB_STAGE_D s) 24 0) (72 * (e % 128)) (words.flatMap (fun x => leBytes 3 (uNat 24 x)))

/-! ### An audio swap (R188, R190, R191) -/

/-- A bus at a swap: the gains of its new list, and its fade entries from the old list. -/
def Dev.matchBus (old new : Dev) (b : Nat) : List (Nat × Gain) × List (Nat × Gain) :=
  let ol := old.goodList b
  let nl := new.goodList b
  let gaters := if nl.isEmpty then [] else new.gaters b
  let kept := nl.map (fun x =>
    let t := new.xpTarget gaters x
    let g := tat {} old.cab.gain (gainKey b x.src)
    (x.src, if ol.any (fun y => y.src == x.src) then (if t = g.tgt then g else g.retarget t) else { cur := 0, tgt := t }))
  (kept, (ol.filter (fun y => !nl.any (fun x => x.src == y.src))).map (fun y =>
    (y.src, (tat ({} : Gain) old.cab.gain (gainKey b y.src)).fade)))

/-- A bus's swap applied to Cable's state, with the fade entries still free (assumption 72). -/
def Dev.swapBus (old d : Dev) (b room : Nat) : Dev × Nat :=
  let (kept, fades) := Dev.matchBus old d b
  let fit := fades.take room
  let cut := fades.length - fit.length
  let c := d.cab
  let gain := kept.foldl (fun m e => tset {} m (gainKey b e.1) e.2) (tclear c.gain (gainKey b 0) (gainKey (b + 1) 0))
  let d := { d with cab := { c with
    gain := gain, fade := tset [] c.fade b fit
    oldDepth := tset 0 c.oldDepth b (if d.busSums b && d.busLen b != 0 then 0 else old.busDepth b) } }
  (if cut = 0 then d else d.count Reg.CAB_FADE_CUT cut, room - fit.length)

/-- An output's swap: what it heard, and its gain. -/
def Dev.swapOut (old d : Dev) (o : Nat) : Dev :=
  let h := old.hears o
  let n := d.hears o
  let g := tat {} d.cab.out o
  let t := d.outGain o
  if h.en = false ∧ n.en = false then d
  else
    let g := if n.en = false then g else if h.en = false then { cur := t, tgt := t } else if g.tgt = t then g else g.retarget t
    { d with cab := { d.cab with out := tset {} d.cab.out o g, was := tset none d.cab.was o (if h = n then none else some h) } }

/-- Cable at the boundary of an audio swap; `old` is the device before the new set took effect. -/
def Dev.cabSwap (old d : Dev) : Dev :=
  let before := d.fld Reg.CAB_FADE_CUT 31 0
  let d := { d with cab := { d.cab with xp := d.cab.xpSh, fade := [], oldDepth := [], was := [], badMark := [], domMark := [] } }
  let d := ((List.range 2048).foldl (fun (p : Dev × Nat) b => Dev.swapBus old p.1 b p.2) (d, 16384)).1
  let d := if d.fld Reg.CAB_FADE_CUT 31 0 = before then d else d.raise Ev.CAB_FADE_FULL 0
  d.forEach (List.range 9216) (fun d o => Dev.swapOut old d o)

/-! ### The row tick (R178, R181, R211, R442) -/

/-- A restart of rows (R442): gains at their targets, fades and crossfades ended, zeros for emitted row N + 1. -/
def Dev.cabResume (d : Dev) : Dev :=
  let settle (g : Gain) : Gain := { cur := g.tgt, tgt := g.tgt }
  let e := (d.row32 + 1) % 2 ^ 32
  let c := d.cab
  let d := { d with cab := { c with
    gain := c.gain.foldl (fun (m : Tbl Gain) (x : Nat × Gain) => tset {} m x.1 (settle x.2)) ([] : Tbl Gain)
    out := c.out.foldl (fun (m : Tbl Gain) (x : Nat × Gain) => tset {} m x.1 (settle x.2)) ([] : Tbl Gain)
    fade := [], oldDepth := [], was := [], prev := [], absent := [], undone := none, due := false, skip := true } }
  let zeros := List.replicate 24 (0 : Int)
  let d := d.forEach (List.range 1024) (fun d o => if (d.foutHears o).en then d.fieldOut o e zeros else d)
  let d := d.fieldJoin e
  d.forEach (List.range 8192) (fun d s => if (d.stageHears s).en then d.ringRow180 s e zeros else d)

/-- A leg input is present for a slot row (R178). -/
def Dev.legInStamped (d : Dev) (l row : Nat) : Bool :=
  (d.reg (Reg.HOK_STAMP (d.fld (Reg.CAB_LEG_IN_B l) 14 0))).toNat == row

/-- Inputs of slot row `row` are taken (R178): mapped field inputs are read, absent sources counted. -/
def Dev.cabInputs (d : Dev) (row : Nat) : Dev :=
  let legs := (List.range 8192).filter (fun l => d.bit (Reg.CAB_LEG_IN_A l) 31 && !d.legInStamped l row)
  let f := d.mappedIn.map (fun c => (c, d.fieldIn c row))
  let fin := f.foldl (fun m x => match x.2 with
    | some w => if w.all (fun v => v == 0) then m else tset [] m x.1 w
    | none => m) []
  let absent := legs ++ (f.filter (fun x => x.2.isNone)).map (fun x => 8192 + x.1)
  let d := { d with cab := { d.cab with fin := fin, absent := absent, due := true, skip := false } }
  match absent with
  | [] => d
  | s :: _ => (d.count Reg.CAB_IN_MISSING absent.length).raise Ev.CAB_INPUT_MISSING 0 0 (leBytes 2 absent.length ++ leBytes 2 s)

/-- The record tap (R211): the samples that Cable uses as tapped inputs are written for slot row `row`. -/
def Dev.recordTap (d : Dev) (row : Nat) : Dev :=
  let base := d.fld Reg.FLD_TAP_ADDR_LO 31 6 * 64 + 2 ^ 32 * d.fld Reg.FLD_TAP_ADDR_HI 3 0
  d.forEach (List.range 1024) (fun d c =>
    if d.bit (Reg.FLD_IN_SLOT c) 30 then
      let w := tat [] d.cab.fin c
      d.dramPut 11 0 (base + 73728 * (row % 64) + 72 * c) ((List.range 24).flatMap (fun i => leBytes 3 (uNat 24 (w.getD i 0))))
    else d)

/-- CAB_OVERRUN of the row that has ended: its unwritten ring rows get zeros (R181) (assumption 71). -/
def Dev.cabOverrun (d : Dev) : Dev :=
  match d.cab.undone with
  | none => d
  | some u =>
    let d := { d with cab := { d.cab with undone := none } }
    let d := ((d.setBit Reg.CAB_STAT 0 true).count Reg.CAB_OVR_ROWS).raise Ev.CAB_OVERRUN 0 0 (leBytes 2 u.buses ++ leBytes 2 u.outputs)
    d.forEach u.stages (fun d s => d.ringRow180 s d.row32 (List.replicate 24 0))

end Sys2Proof.Machine
end

