-- ==== Sys2Proof/Machine/Mix.lean ====
section
/-! DEFINITION. Cable's row (R181): buses, outputs, meters (R194, R195) and rankers (R192, R193). -/

namespace Sys2Proof.Machine

/-! ### Sources of the row -/

/-- Slot of an enabled leg input in shared memory, its 128 bytes of a slot row (R178). -/
def Dev.legSlot (d : Dev) (l row : Nat) : List Byte :=
  let a := d.reg (Reg.CAB_LEG_IN_A l)
  d.shmRead (wfld a 18 16) (0x200000 + 256 * wfld a 12 0 + 128 * (row % 2)) 128

/-- Leg inputs present for a slot row: samples and VAD. -/
def Dev.legInputs (d : Dev) (row : Nat) : List (Nat × List Int × Bool) :=
  ((List.range 8192).filter (fun l => d.bit (Reg.CAB_LEG_IN_A l) 31 && !d.cab.absent.contains l)).map (fun l =>
    let b := d.legSlot l row
    (l, (List.range 24).map (fun i => sInt 24 (leNat ((b.drop (4 * i)).take 3))), (b.getD 96 0).toNat % 2 == 1))

/-- A bus of the row: its 24 sums with their ledgers, and the gain codes of its entries by source. -/
structure BusRow where
  sums : List (Int × Int)
  codes : List (Nat × List Nat)
  deriving DecidableEq, Repr

/-- The row in progress: the device, samples by source, sums by bus, lane-clocks used and supplied, whether all the work so
far was done, buses, outputs and stages left undone, buses already reported saturated, final samples and clips by output,
and exact values before the output gain. -/
structure Mix where
  dev : Dev
  x : Tbl (List Int) := []
  bus : List (Nat × BusRow) := []
  used : Nat := 0
  budget : Nat := 0
  ok : Bool := true
  lostBus : Nat := 0
  lostOut : Nat := 0
  lostStages : List Nat := []
  sats : List Nat := []
  final : List (Nat × List Int × Bool) := []
  pre : Tbl Int := []

/-- Samples of a source. -/
def Mix.src (m : Mix) (s : Nat) : List Int := tat (List.replicate 24 0) m.x s

/-- Work of so many lane-clocks is done if the row still has them, all later work being undone otherwise (assumption 71). -/
def Mix.spend (m : Mix) (n : Nat) : Mix :=
  if m.ok = false then m else if m.used + n ≤ m.budget then { m with used := m.used + n } else { m with ok := false }

/-- Conversions are counted: sat(bus) and CLIP (R186). -/
def Mix.convert (m : Mix) (b : Nat) (l : List Sample) : Mix :=
  let n := (l.filter (fun s => s.sat)).length
  let d := m.dev.count Reg.CAB_CLIP (l.filter (fun s => s.clip)).length
  if n = 0 then { m with dev := d }
  else
    let d := ((d.setBit (Reg.CAB_BUS_SAT (b / 32)) (b % 32) true).count (Reg.CAB_BUS_SATCNT b) n).count Reg.CAB_SAT_TOTAL n
    if b ∈ m.sats then { m with dev := d }
    else { m with dev := d.raise Ev.CAB_BUS_SAT b (d.busDomain b), sats := b :: m.sats }

/-! ### Buses (R183 to R190) -/

/-- Products of one entry added to the sums. -/
def addEntry (sums : List (Int × Int)) (x : List Int) (codes : List Nat) : List (Int × Int) :=
  (sums.zip (x.zip codes)).map (fun e => wrapAdd e.1 (e.2.1 * e.2.2 * 2))

/-- One bus: its crosspoint gains step through the row in every case; its sums only while the row has time. -/
def Mix.busRow (m : Mix) (b : Nat) : Mix :=
  let d := m.dev
  let all := d.listOf b
  let fades := tat [] d.cab.fade b
  let zc := d.fld Reg.CAB_CFG 25 16
  let good := all.filter (fun x => !x.bad)
  let step (s : Nat) (g : Gain) := g.row zc (tat 0 d.cab.prev s) (m.src s)
  let rows : List (Nat × List Nat × Gain × Nat) := good.map (fun x => (x.src, step x.src (tat {} d.cab.gain (gainKey b x.src))))
  let forced := (rows.map (fun r => r.2.2.2)).sum
  let d := { d with cab := { d.cab with gain := rows.foldl (fun (t : Tbl Gain) (r : Nat × List Nat × Gain × Nat) => tset {} t (gainKey b r.1) r.2.2.1) d.cab.gain } }
  let m := ({ m with dev := d.count Reg.CAB_FORCED_RAMP forced } : Mix).spend (24 * (all.length + fades.length))
  if m.ok = false then (if all = [] ∧ fades = [] then m else { m with lostBus := m.lostBus + 1 })
  else
    let m := { m with dev := m.dev.checkList b all }
    if all = [] ∧ fades = [] then m
    else
      let codes := rows.map (fun r => (r.1, r.2.1))
      let sums := (codes ++ fades.map (fun f => (f.1, (step f.1 f.2).1))).foldl
        (fun acc c => addEntry acc (m.src c.1) c.2) (List.replicate 24 (0, 0))
      let ret := sums.map (fun a => toSample a 0x80000)
      ({ m with bus := (b, ⟨sums, codes⟩) :: m.bus, x := tset (List.replicate 24 0) m.x (9216 + b) (ret.map (fun s => s.x)) } : Mix).convert b ret

/-- Depth at which a bus is summed in this row: its old one while it sums only fades. -/
def Dev.rowDepth (d : Dev) (b : Nat) : Nat :=
  let o := tat 0 d.cab.oldDepth b
  if o = 0 then d.busDepth b else o

/-- Steps 2 and 3; a reserved DEPTH is reported with depth 1. -/
def Mix.buses (m : Mix) : Mix :=
  let depth := (List.range 2048).map (fun b => (b, m.dev.rowDepth b))
  let one := (depth.filter (fun p => p.2 == 1 || p.2 == 3)).map (fun p => p.1)
  let two := (depth.filter (fun p => p.2 == 2)).map (fun p => p.1)
  (one ++ two).foldl Mix.busRow m

/-! ### Outputs (R187, R191) -/

/-- What an output hears: 24 sums, zero where it is disabled or its bus belongs to another domain. -/
def Mix.heard (m : Mix) (o : Nat) (h : Hears) : List (Int × Int) :=
  let zeros := List.replicate 24 ((0 : Int), (0 : Int))
  if h.en = false ∨ m.dev.busDomain h.bus ≠ m.dev.outDomain o then zeros
  else
    match m.bus.find? (fun e => e.1 == h.bus) with
    | none => zeros
    | some e =>
      match if h.minus then e.2.codes.find? (fun c => c.1 == h.src) else none with
      | none => e.2.sums
      | some c => (e.2.sums.zip ((m.src c.1).zip c.2)).map (fun p => wrapAdd p.1 (-(p.2.1 * p.2.2 * 2)))

/-- The exact value of a sum. -/
def exact (a : Int × Int) : Int := a.1 + a.2 * 2 ^ 56

/-- Sample `k` of a crossfade (R191): the sample, and what converting the old and the new value found. -/
def crossSample (k : Nat) (a b : Int × Int) (og : Nat) : Sample × Sample × Sample :=
  let none : Sample := ⟨0, false, false⟩
  if a.2 = 0 ∧ b.2 = 0 then
    if og = 0 then (none, none, none)
    else
      let s := clipSample (divEven ((a.1 * (23 - k : Int) + b.1 * (k + 1)) * og) (24 * 2 ^ 39))
      (s, none, s)
  else
    let s := toSample a og
    let t := toSample b og
    (⟨divEven (s.x * (23 - k : Int) + t.x * (k + 1)) 24, s.sat || t.sat, s.clip || t.clip⟩, s, t)

/-- One output of the row (assumption 72). -/
def Mix.output (m : Mix) (o : Nat) : Mix :=
  let d := m.dev
  let now := d.hears o
  let was := tat none d.cab.was o
  if now.en = false ∧ was.all (fun h => !h.en) then m
  else
    let minus (h : Hears) : Nat := if h.en && h.minus then 24 else 0
    let m := m.spend (minus now + (was.map minus).getD 0)
    if m.ok = false then
      { m with lostOut := m.lostOut + 1, lostStages := if o < 8192 then m.lostStages ++ [o] else m.lostStages }
    else
      let foreign (h : Hears) : Bool := h.en && d.busDomain h.bus != d.outDomain o
      let d := if foreign now && !d.cab.domMark.contains o then
          { d with cab := { d.cab with domMark := addMark d.cab.domMark o } }.raise Ev.CAB_DOMAIN now.bus (d.outDomain o)
        else d
      let b := m.heard o now
      let a := match was with
        | some h => m.heard o h
        | none => b
      let pre := match was with
        | some _ => ((a.zip b).zip (List.range 24)).map (fun p => exact p.1.1 * (23 - p.2 : Int) + exact p.1.2 * (p.2 + 1))
        | none => b.map exact
      let g := (tat {} d.cab.out o).row (d.fld Reg.CAB_CFG 25 16) (tat 0 d.cab.prev (16384 + o)) pre
      let d := { d with cab := { d.cab with out := tset {} d.cab.out o g.2.1 } }.count Reg.CAB_FORCED_RAMP g.2.2
      let m := { m with dev := d, pre := tset 0 m.pre o (pre.getLastD 0) }
      let codes : List Nat := g.1
      let (m, fin) : Mix × List Sample := match was with
        | none =>
          let l := (b.zip codes).map (fun p => toSample p.1 p.2)
          (m.convert now.bus l, l)
        | some h =>
          let l : List (Sample × Sample × Sample) := (((a.zip b).zip codes).zip (List.range 24)).map (fun p => crossSample p.2 p.1.1.1 p.1.1.2 p.1.2)
          ((m.convert h.bus (l.map (fun s => s.2.1))).convert now.bus (l.map (fun s => s.2.2)), l.map (fun s => s.1))
      let words := fin.map (fun s => s.x)
      let e := (m.dev.row32 + 1) % 2 ^ 32
      let d := if o < 8192 then m.dev.ringRow180 o e words else m.dev.fieldOut (o - 8192) e words
      { m with dev := d, final := (o, words, fin.any (fun s => s.sat || s.clip)) :: m.final }

/-- Steps 4 and 5: field outputs, then stages, each in ascending order. -/
def Mix.outputs (m : Mix) : Mix :=
  (List.range 8192).foldl Mix.output ((List.range 1024).foldl (fun m c => m.output (8192 + c)) m)

/-! ### Meters (R194, R195) -/

/-- Level of a magnitude `v / 2^23`: 0.25 dB units below full scale, before the error R194 allows. -/
def peakLevel (v : Nat) : Nat :=
  if v = 0 then 1023 else ((List.range 1023).takeWhile (fun n => decide (v ^ 160 * 10 ^ (2 * n + 1) < 2 ^ 3680))).length

/-- Level of a mean square `m / 2^80` (assumption 73). -/
def rmsLevel (m : Nat) : Nat :=
  if m = 0 then 1023 else ((List.range 1023).takeWhile (fun n => decide (m ^ 80 * 10 ^ (2 * n + 1) < 2 ^ 6400))).length

/-- A level with the error that draw `z` gives record `r`'s level `k` (assumption 73). -/
def withErr (z r k exactLevel : Nat) : Nat :=
  if exactLevel = 1023 then 1023 else min 1023 (exactLevel + (Config.meterErr (262144 * z + 4 * r + k)).val - 1)

/-- A running mean square. -/
def smooth (m ms k : Nat) : Nat := ((m : Int) + ((ms : Int) - m) / 2 ^ k).toNat

/-- A meter over a row's samples (assumption 73). -/
def Dev.meterRow (d : Dev) (z r : Nat) (x : List Int) (clip vad absent : Bool) (m : Meter) : Meter :=
  let p := withErr z r 0 (peakLevel ((x.map Int.natAbs).foldl max 0))
  let ms := (x.map (fun v => v.natAbs ^ 2)).sum * 2 ^ 34 / 24
  let peak := if 256 * p < m.peak then 256 * p else min (m.peak + d.fld Reg.CAB_CFG 7 0) (256 * p)
  let (hold, left) :=
    if p ≤ m.hold then (p, d.fld Reg.CAB_CFG2 27 16) else if 0 < m.left then (m.hold, m.left - 1) else (peak / 256, 0)
  { peak := peak, hold := hold, left := if hold = 1023 then 0 else left
    slow := smooth m.slow ms (d.fld Reg.CAB_CFG 11 8), fast := smooth m.fast ms (d.fld Reg.CAB_CFG 15 12)
    clip := m.clip || clip, vad := vad, absent := absent }

/-- The meter of a record. -/
def Dev.meter (d : Dev) (r : Nat) : Meter := tat {} d.cab.meters r

/-- FAST of a record (R194). -/
def Dev.fastLevel (d : Dev) (z r : Nat) : Nat := withErr z r 2 (rmsLevel (d.meter r).fast)

/-- Record of an output (R195). -/
def outRecord (o : Nat) : Nat := 11264 + o

/-- A meter record of Table 11-5. -/
def Dev.meterBytes (d : Dev) (z r : Nat) : List Byte :=
  let m := d.meter r
  let vad := if r < 8192 then m.vad else decide (r < 11264)
  leBytes 8 (mix 10 0 (m.peak / 256) + mix 10 10 m.hold + mix 10 20 (withErr z r 1 (rmsLevel m.slow)) +
    mix 1 30 (if 11264 ≤ r then m.clip.toNat else 0) + mix 10 32 (d.fastLevel z r) + mix 1 42 vad.toNat + mix 1 43 m.absent.toNat)

/-- A meter dump when one is due; it ends CLIP (R195). -/
def Dev.meterDump (d : Dev) (z row : Nat) : Dev :=
  let every := d.fld Reg.CAB_CFG2 15 8
  let n := d.cab.dumpRows + 1
  if every = 0 then { d with cab := { d.cab with dumpRows := 0 } }
  else if n < every then { d with cab := { d.cab with dumpRows := n } }
  else
    let a := d.fld Reg.CAB_METER_ADDR_LO 31 6 * 64 + 2 ^ 32 * d.fld Reg.CAB_METER_ADDR_HI 3 0 + 0x29000 * (d.cab.dumps % 2)
    let d := d.dramPut 12 0 (a + 64) ((List.range 20480).flatMap (d.meterBytes z))
    let d := d.dramPut 12 0 a (leBytes 4 row ++ List.replicate 60 0)
    let meters := d.cab.meters.foldl (fun (t : Tbl Meter) (e : Nat × Meter) => tset {} t e.1 { e.2 with clip := false }) ([] : Tbl Meter)
    { d with cab := { d.cab with dumpRows := 0, dumps := d.cab.dumps + 1, meters := meters } }

/-! ### Rankers (R192, R193) -/

/-- Members ordered by `before`, the first that stands before every other first. -/
def orderBy (before : Nat × Nat → Nat × Nat → Bool) : List (Nat × Nat) → List (Nat × Nat)
  | [] => []
  | x :: t => insert x (orderBy before t)
where
  /-- `x` put before the first member it precedes. -/
  insert (x : Nat × Nat) : List (Nat × Nat) → List (Nat × Nat)
    | [] => [x]
    | y :: t => if before x y then x :: y :: t else y :: insert x t

/-- Loudest first, ties by lower source: a list of (source, loud). -/
def louder (a b : Nat × Nat) : Bool := decide (b.2 < a.2) || (a.2 == b.2 && decide (a.1 < b.1))

/-- One candidate offered to a ranker's members (source, hold). -/
def offer (n margin hold : Nat) (loud : Nat → Nat) (r : List (Nat × Nat)) (c : Nat) : List (Nat × Nat) :=
  if r.any (fun m => m.1 == c) then r
  else if r.length < n then r ++ [(c, hold)]
  else
    match (orderBy louder (r.map (fun m => (m.1, loud m.1)))).getLast? with
    | none => r
    | some w => if w.2 + margin ≤ loud c then r.map (fun m => if m.1 = w.1 then (c, hold) else m) else r

/-- Members of a ranker after a row (R192). -/
def Dev.rankRow (d : Dev) (z r : Nat) : List (Nat × Nat) :=
  let cfg := d.reg (Reg.CAB_RANK_CFG r)
  let par := d.reg (Reg.CAB_RANK_PARAM r)
  let srcs := (d.goodList (wfld cfg 10 0)).map (fun x => x.src)
  let n := if wfld cfg 20 16 = 0 ∨ 16 < wfld cfg 20 16 then 16 else wfld cfg 20 16
  let vad (s : Nat) : Bool := decide (8192 ≤ s) || (d.meter s).vad
  let qual (s : Nat) : Bool := vad s && decide (d.fastLevel z s < wfld par 29 20)
  let loud (s : Nat) : Nat := 1023 - d.fastLevel z s
  let hold := wfld par 11 0
  let r := (d.members r).filter (fun m => srcs.contains m.1)
  let r := r.map (fun m => if qual m.1 then (m.1, hold) else (m.1, m.2 - 1))
  let r := r.filter (fun m => m.2 != 0 || qual m.1)
  let cand := orderBy louder ((srcs.filter (fun s => qual s && !r.any (fun m => m.1 == s))).map (fun s => (s, loud s)))
  (cand.map (fun c => c.1)).foldl (offer n (wfld par 19 12) hold loud) r

/-- A ranker runs: its list, its event, and its bus's gates. -/
def Dev.rankStep (d : Dev) (z r : Nat) : Dev :=
  if d.bit (Reg.CAB_RANK_CFG r) 31 = false then d
  else
    let b := d.fld (Reg.CAB_RANK_CFG r) 10 0
    let old := d.members r
    let new := d.rankRow z r
    let d := { d with cab := { d.cab with rank := tset [] d.cab.rank r new } }
    let shown := (orderBy louder (new.map (fun m => (m.1, 1023 - d.fastLevel z m.1)))).map (fun m => m.1 + 2 ^ 15)
    let d := d.forEach (List.range 8) (fun d j =>
      d.setReg (Reg.CAB_RANK_LIST r j) (BitVec.ofNat 32 (shown.getD (2 * j) 0 + 65536 * shown.getD (2 * j + 1) 0)))
    if old.all (fun m => new.any (fun n => n.1 == m.1)) && new.all (fun m => old.any (fun n => n.1 == m.1)) then d
    else
      let d := d.raise Ev.CAB_RANK_CHANGE r (d.busDomain b)
      let gaters := d.gaters b
      if gaters.contains r = false then d
      else d.forEach ((d.goodList b).filter (fun x => x.ranked)) (fun d x =>
        let g := tat {} d.cab.gain (gainKey b x.src)
        let t := d.xpTarget gaters x
        if t = g.tgt then d else { d with cab := { d.cab with gain := tset {} d.cab.gain (gainKey b x.src) (g.retarget t) } })

/-- Step 6: meters, dump, rankers. -/
def Mix.levels (m : Mix) (vads : List Nat) : Dev :=
  let d := m.dev
  let row := (d.row32 + 2 ^ 32 - 1) % 2 ^ 32
  let (z, d) := d.draw
  let ins := (List.range 11264).map (fun s => (s, m.src s, false, vads.contains s))
  let outs := (List.range 9216).map (fun o =>
    match m.final.find? (fun f => f.1 == o) with
    | some f => (outRecord o, f.2.1, f.2.2, false)
    | none => (outRecord o, List.replicate 24 (0 : Int), false, false))
  let meters := (ins ++ outs).foldl (fun t e =>
    tset {} t e.1 (d.meterRow z e.1 e.2.1 e.2.2.1 e.2.2.2 (decide (e.1 < 11264) && d.cab.absent.contains e.1) (tat {} t e.1))) d.cab.meters
  let d := { d with cab := { d.cab with meters := meters } }
  let d := (List.range 1024).foldl (fun d r => d.rankStep z r) d
  let d := d.meterDump z row
  let d := d.setReg Reg.CAB_ROW_LOAD (BitVec.ofNat 32 m.used)
  if (d.reg Reg.CAB_PEAK_LOAD).toNat < m.used then d.setReg Reg.CAB_PEAK_LOAD (BitVec.ofNat 32 m.used) else d

/-- The row's work within `budget` lane-clocks; what it does not reach is left to the tick (R181) (assumption 71). -/
def Dev.mixRow (d : Dev) (budget : Nat) : Dev :=
  let row := (d.row32 + 2 ^ 32 - 1) % 2 ^ 32
  let legs := d.legInputs row
  let x := legs.foldl (fun t e => tset (List.replicate 24 0) t e.1 e.2.1) ([] : Tbl (List Int))
  let x := d.cab.fin.foldl (fun t e => tset (List.replicate 24 0) t (8192 + e.1) e.2) x
  let m : Mix := { dev := d, x := x, budget := budget }
  let m := m.buses.outputs
  let d := m.dev.fieldJoin ((d.row32 + 1) % 2 ^ 32)
  let m := { m with dev := d }
  let d := if m.ok then m.levels ((legs.filter (fun e => e.2.2)).map (fun e => e.1)) else d
  let prev := m.x.foldl (fun t e => tset 0 t e.1 (e.2.getLastD 0)) ([] : Tbl Int)
  let prev := m.pre.foldl (fun t e => tset 0 t (16384 + e.1) e.2) prev
  { d with cab := { d.cab with
    prev := prev, fade := [], oldDepth := [], was := [], due := false
    undone := if m.ok then none else some ⟨m.lostBus, m.lostOut, m.lostStages⟩ } }

/-- CABLE_MIX_START (R181): START_DLY after the tick the row's work is done, as far as its time reaches (assumption 71). -/
def cableMixStartEffect (d : Dev) : Dev :=
  if d.cab.due = false ∨ 2 ≤ d.power then d
  else d.mixRow ((500 - d.fld Reg.CAB_CFG2 7 0) * 40000)

/-- CABLE_MIX_START. -/
def execCableMixStart (s : State) : Host.Outcome State Fault Refusal := s.run cableMixStartEffect

end Sys2Proof.Machine
end

