-- ==== Sys2Proof/Machine/Nfc.lean ====
section
/-! DEFINITION. The record store on NAND (chapter 19): geometry (R321), units and the log (R320, R322), durability and checkpoints
(R327), mount (R328), blocks (R329 to R332), space (R333), tracks (R324 to R326) and the command window (R334, R335). -/

namespace Sys2Proof.Machine

/-! ### Geometry (R321) -/

/-- Units of a page. -/
def Dev.pageUnits (d : Dev) : Nat := 2 ^ d.fld Reg.NFC_CFG 29 28
/-- Planes of a die. -/
def Dev.planes (d : Dev) : Nat := 2 ^ d.fld Reg.NFC_CFG 27 26
/-- TLC cells. -/
def Dev.tlc (d : Dev) : Bool := d.fld Reg.NFC_CFG 31 30 == 1
/-- Populated dies, 4c + e. -/
def Dev.dies (d : Dev) : List Nat := (List.range 16).filter (fun i => d.bit Reg.NFC_GEOM (16 + i))
/-- Pages of a block. -/
def Dev.nandPages (d : Dev) : Nat := d.fld Reg.NFC_GEOM 11 0
/-- Superblocks. -/
def Dev.superblocks (d : Dev) : Nat := d.fld Reg.NFC_BLOCKS 16 0

/-- A superblock. -/
def Dev.sblk (d : Dev) (s : Nat) : SuperBlk := tat {} d.nand.blocks s
/-- A superblock replaced. -/
def Dev.setSblk (d : Dev) (s : Nat) (x : SuperBlk) : Dev := { d with nand := { d.nand with blocks := tset {} d.nand.blocks s x } }

/-- Member blocks of a superblock in die and plane order: blocks 0 and 1 of the lowest die hold the ROOT (R327), RETIRED blocks
are excluded. -/
def Dev.blockMembers (d : Dev) (s : Nat) : List Nat :=
  let low := d.dies.headD 0
  (d.dies.flatMap (fun i => (List.range d.planes).map (fun p => 4 * i + p))).filter (fun m =>
    !(d.sblk s).retired.contains m && !(decide (s < 2) && m == 4 * low))

/-- A superblock that can be written. -/
def Dev.sblkGood (d : Dev) (s : Nat) : Bool := !(d.blockMembers s).isEmpty

/-- FREE superblocks, by number. -/
def Dev.freeBlocks (d : Dev) : List Nat := (List.range d.superblocks).filter (fun s => (d.sblk s).st == 0 && d.sblkGood s)

/-- STATE of the store: 0 UNMOUNTED, 1 MOUNTING, 2 READY, 3 FORMATTING, 4 NO_STORE, 5 EPOCH_OLD, 6 FAILED. -/
def Dev.storeState (d : Dev) : Nat := d.fld Reg.NFC_STAT 2 0
/-- STATE set. -/
def Dev.setStore (d : Dev) (v : Nat) : Dev := d.setFld Reg.NFC_STAT 2 0 v
/-- Record key epoch. -/
def Dev.recEpoch (d : Dev) : Nat := d.fld Reg.SEC_LC_STAT 7 4
/-- The next LSN. -/
def Dev.headLsn (d : Dev) : Nat := d.reg64 Reg.NFC_HEAD_LSN_LO Reg.NFC_HEAD_LSN_HI
/-- The release LSN. -/
def Dev.releaseLsn (d : Dev) : Nat := d.reg64 Reg.NFC_RELEASE_LSN_LO Reg.NFC_RELEASE_LSN_HI
/-- FREE is at or below RESERVE (R333). -/
def Dev.storeFull (d : Dev) : Bool := d.bit Reg.NFC_STAT 9

/-! ### What follows a change of blocks or units -/

/-- FREE, LOW and FULL, with their events (R333); erase counts and retired blocks as shown. -/
def Dev.spaceCheck (d : Dev) : Dev :=
  let n := d.freeBlocks.length
  let ecs := ((List.range d.superblocks).filter d.sblkGood).map (fun s => (d.sblk s).ec)
  let low := decide (n ≤ d.fld Reg.NFC_SPACE 31 16)
  let full := decide (n ≤ d.fld Reg.NFC_SPACE 15 0)
  let wasLow := d.bit Reg.NFC_STAT 8
  let wasFull := d.bit Reg.NFC_STAT 9
  let d := ((d.setReg Reg.NFC_FREE (w32 n)).setBit Reg.NFC_STAT 8 low).setBit Reg.NFC_STAT 9 full
  let d := (d.setReg Reg.NFC_EC_MAX (w32 (ecs.foldl max 0))).setReg Reg.NFC_EC_MIN (w32 (ecs.foldl min (ecs.headD 0)))
  let d := if low && !wasLow then d.raise Ev.NFC_LOW 0 else d
  if full && !wasFull then d.raise Ev.NFC_FULL 0 else d

/-- A page is whole on the medium: for TLC, with its word line (R327). -/
def Dev.pageDurable (d : Dev) (x : SuperBlk) (p : NandPage) : Bool :=
  !d.tlc || (List.range 3).all (fun i => x.pages.any (fun q => q.member == p.member && q.page == p.page / 3 * 3 + i))

/-- NFC_DURABLE_LSN (R327): below every unit assigned that is not durable (assumption 101). -/
def Dev.durableCheck (d : Dev) : Dev :=
  let open_ := match d.nfc.head with
    | some s => ((d.sblk s).pages.filter (fun p => !d.pageDurable (d.sblk s) p)).flatMap (fun p => p.units)
    | none => []
  let waiting := (open_ ++ d.nfc.queue).map (fun u => u.lsn)
  d.setReg64 Reg.NFC_DURABLE_LSN_LO Reg.NFC_DURABLE_LSN_HI (waiting.foldl (fun m l => min m (l - 1)) d.nfc.top)

/-! ### The head -/

/-- The head takes the FREE superblock with the lowest erase count, the lower number at a tie (R331) (assumption 101). -/
def Dev.openHead (d : Dev) : Dev :=
  match d.freeBlocks.foldl (fun (b : Option Nat) s => match b with
      | some t => if (d.sblk s).ec < (d.sblk t).ec then some s else b
      | none => some s) none with
  | none => { d with nfc := { d.nfc with head := none } }
  | some s =>
    let d := d.setSblk s { d.sblk s with st := 1, pages := [] }
    ({ d with nfc := { d.nfc with head := some s, page := 0, member := (d.blockMembers s).headD 0 } } : Dev).spaceCheck

/-- A unit is queued for the head; its LSN is the next one (assumption 101). -/
def Dev.appendUnit (d : Dev) (bytes : Nat → List Byte) (seg : Option (Nat × Nat)) : Nat × Dev :=
  let l := d.headLsn
  let d := { d with nfc := { d.nfc with queue := d.nfc.queue ++ [NandUnit.mk l (bytes l) seg false], top := l } }
  (l, (d.setReg64 Reg.NFC_HEAD_LSN_LO Reg.NFC_HEAD_LSN_HI (l + 1)).durableCheck)

/-- Bytes of a unit (Table 19-1). -/
def Dev.unitBytes (d : Dev) (type rows track first id dom missing prev : Nat) (payload : List Byte) (lsn : Nat) : List Byte :=
  let n := d.tim.row - sub32 d.row32 first
  let head := leBytes 8 lsn ++ [b8 type, b8 rows] ++ leBytes 2 track ++ leBytes 4 first ++ leBytes 8 (d.boundary false n / 2 ^ 40) ++
    leBytes 4 id ++ [b8 dom, b8 d.recEpoch] ++ leBytes 7 missing ++ [0, 0, 0] ++ leBytes 8 prev
  head ++ (payload ++ List.replicate (4032 - payload.length) 0).take 4032 ++ List.replicate 16 0

/-- A unit that belongs to no track. -/
def Dev.appendPlain (d : Dev) (type : Nat) (payload : List Byte) : Dev :=
  (d.appendUnit (d.unitBytes type 0 0xFFFF d.row32 0 0 0 0 payload) none).2

/-! ### Blocks (Table 19-4) -/

/-- A block is retired (R330). -/
def Dev.retireBlock (d : Dev) (s m : Nat) : Dev :=
  let x := d.sblk s
  if m ∈ x.retired then d
  else ((d.setSblk s { x with retired := x.retired ++ [m] }).count Reg.NFC_BAD_CNT).raise Ev.NFC_BAD_BLOCK 0 0 ([b8 (m / 4)] ++ leBytes 4 s)

/-- A checkpoint: CHECKPOINT units, then a ROOT (R327) (assumption 103). -/
def Dev.checkpoint (d : Dev) : Dev :=
  let (z, d) := d.draw
  let d := d.forEach (List.range (Config.checkpointUnits z)) (fun d i =>
    d.appendPlain 6 ((List.range 4032).map (fun j => Config.checkpointByte z (4032 * i + j))))
  let l := d.headLsn
  let d := { d with nand := { d.nand with root := some (l, d.recEpoch) }, nfc := { d.nfc with top := l } }
  (d.setReg64 Reg.NFC_HEAD_LSN_LO Reg.NFC_HEAD_LSN_HI (l + 1)).durableCheck

/-- Superblocks whose units all lie below RELEASE_LSN go to ERASING (R333). -/
def Dev.eraseReleased (d : Dev) : Dev :=
  d.forEach (List.range d.superblocks) (fun d s =>
    let x := d.sblk s
    if x.st = 2 ∧ x.pages.all (fun p => p.units.all (fun u => decide (u.lsn < d.releaseLsn))) then d.setSblk s { x with st := 4 } else d)

/-- A FULL superblock is marked for refresh: its valid units are copied to the head, bit-identical (R330). -/
def Dev.markRefresh (d : Dev) (s : Nat) : Dev :=
  let x := d.sblk s
  if x.st ≠ 2 then d
  else
    let live := (x.pages.flatMap (fun p => p.units)).filter (fun u => decide (d.releaseLsn ≤ u.lsn))
    let d := d.setSblk s { x with st := 3 }
    ({ d with nfc := { d.nfc with queue := d.nfc.queue ++ live.map (fun u => { u with copy := true, seg := none }) } } : Dev).durableCheck

/-- The head moves past the page it has written; after the last page the superblock is FULL and a checkpoint is due
(assumption 101) (assumption 101). -/
def Dev.headAdvance (d : Dev) (s : Nat) : Dev :=
  let ms := d.blockMembers s
  match ms.find? (fun m => decide (d.nfc.member < m)) with
  | some m => { d with nfc := { d.nfc with member := m } }
  | none =>
    if d.nfc.page + 1 < d.nandPages ∧ ms ≠ [] then { d with nfc := { d.nfc with page := d.nfc.page + 1, member := ms.headD 0 } }
    else (((d.setSblk s { d.sblk s with st := 2 }).openHead).eraseReleased).checkpoint

/-- PAGE_PROGRAM_DONE (R327, R330): the page at the head ends with its status. -/
def pageProgramDoneEffect (ok : Bool) (d : Dev) : Dev :=
  let n := d.pageUnits
  let d := if d.nfc.head = none then d.openHead else d
  match d.nfc.head with
  | none => d
  | some s =>
    if d.nfc.queue.length < n ∨ (d.storeState ≠ 2 ∧ d.storeState ≠ 3) then d
    else
      let m := d.nfc.member
      let units := d.nfc.queue.take n
      if ok then
        let x := d.sblk s
        let d := d.setSblk s { x with pages := x.pages ++ [(NandPage.mk d.nfc.page m units)] }
        let d := { d with nfc := { d.nfc with queue := d.nfc.queue.drop n } }
        let d := d.setReg64 Reg.NFC_UNITS_LO Reg.NFC_UNITS_HI (d.reg64 Reg.NFC_UNITS_LO Reg.NFC_UNITS_HI + n)
        (d.headAdvance s).durableCheck
      else ((d.retireBlock s m).headAdvance s).spaceCheck

/-- PAGE_PROGRAM_DONE. -/
def execPageProgramDone (ok : Bool) (s : State) : Host.Outcome State Fault Refusal := s.run (pageProgramDoneEffect ok)

/-- WEAR_GAP (R331): the FULL superblock with the lowest erase count is marked when counts differ too much. -/
def Dev.wearCheck (d : Dev) : Dev :=
  let gap := d.fld Reg.NFC_PATROL 19 8
  if gap = 0 ∨ (d.reg Reg.NFC_EC_MAX).toNat ≤ (d.reg Reg.NFC_EC_MIN).toNat + gap then d
  else match ((List.range d.superblocks).filter (fun s => (d.sblk s).st == 2)).foldl (fun (b : Option Nat) s => match b with
      | some t => if (d.sblk s).ec < (d.sblk t).ec then some s else b
      | none => some s) none with
    | some s => d.markRefresh s
    | none => d

/-- A superblock's erase ends; blocks whose erase failed are retired. -/
def Dev.erased (d : Dev) (s : Nat) (failed : List Nat) : Dev :=
  let ms := d.blockMembers s
  let d := d.setSblk s { d.sblk s with st := 0, ec := (d.sblk s).ec + 1, pages := [] }
  d.forEach (failed.filter (fun m => ms.contains m)) (fun d m => d.retireBlock s m)

/-- ERASE_DONE (R330). -/
def eraseDoneEffect (s : Nat) (failed : List Nat) (d : Dev) : Dev :=
  if (d.sblk s).st = 4 ∧ d.storeState = 2 then ((d.erased s failed).spaceCheck).wearCheck else d

/-- ERASE_DONE: a member is 4 × die + plane. -/
def execEraseDone (block : BitVec 16) (failed : List (Fin 64)) (s : State) : Host.Outcome State Fault Refusal :=
  s.run (eraseDoneEffect block.toNat (failed.map (fun m => m.val)))

/-- REFRESH_DONE (R330): the copies of a superblock's units have been written. -/
def refreshDoneEffect (s : Nat) (d : Dev) : Dev :=
  let x := d.sblk s
  if x.st ≠ 3 ∨ x.pages.any (fun p => p.units.any (fun u => d.nfc.queue.any (fun q => q.copy && q.lsn == u.lsn))) then d
  else (((d.setSblk s { x with st := 4 }).checkpoint).count Reg.NFC_REFRESHED).raise Ev.NFC_REFRESH 0

/-- REFRESH_DONE. -/
def execRefreshDone (block : BitVec 16) (s : State) : Host.Outcome State Fault Refusal := s.run (refreshDoneEffect block.toNat)

/-- PAD_FILL (R327): DURABLE has lagged HEAD; the open word lines are filled with PAD units (assumption 101). -/
def padFillEffect (d : Dev) : Dev :=
  match d.nfc.head with
  | none => d
  | some s =>
    if d.storeState ≠ 2 ∨ d.reg64 Reg.NFC_DURABLE_LSN_LO Reg.NFC_DURABLE_LSN_HI = d.nfc.top then d
    else
      let row := (d.blockMembers s).length * d.pageUnits
      let unit := if d.tlc then 3 * row else d.pageUnits
      let at_ := (if d.tlc then row * (d.nfc.page % 3) + ((d.blockMembers s).filter (fun m => decide (m < d.nfc.member))).length * d.pageUnits else 0) +
        d.nfc.queue.length
      d.forEach (List.range ((unit - at_ % unit) % unit)) (fun d _ => d.appendPlain 5 [])

/-- PAD_FILL. -/
def execPadFill (s : State) : Host.Outcome State Fault Refusal := s.run padFillEffect

/-- CHECKPOINT (R327): CKPT_MS has passed. -/
def checkpointEffect (d : Dev) : Dev := if d.storeState = 2 then d.checkpoint else d

/-- CHECKPOINT. -/
def execCheckpoint (s : State) : Host.Outcome State Fault Refusal := s.run checkpointEffect

/-- A unit is read with retries (R329): status 0 OK, 1 tag failure, 2 uncorrectable; the retry steps and corrected bits
(assumption 100) (assumption 100). -/
def Dev.readUnit (d : Dev) (lsn : Nat) : (Nat × Nat × Nat) × Dev :=
  let (z, d) := d.draw
  let r := Config.nandRead z
  let steps := min r.steps (d.fld Reg.NFC_RR_CFG 4 0 - 1)
  let d := d.count Reg.NFC_RETRY steps
  if r.lost then ((2, steps, r.bits), (d.count Reg.NFC_UNCORR_CNT).raise Ev.NFC_UNCORR 0 0 (leBytes 8 lsn))
  else if r.tag then ((1, steps, r.bits), (d.count Reg.NFC_TAG_FAIL).raise Ev.NFC_TAG_FAIL 0 0 (leBytes 8 lsn))
  else ((0, steps, r.bits), d)

/-- A unit that is lost leaves the medium. -/
def Dev.dropUnit (d : Dev) (s lsn : Nat) : Dev :=
  let x := d.sblk s
  d.setSblk s { x with pages := x.pages.map (fun p => { p with units := p.units.filter (fun u => u.lsn != lsn) }) }

/-- PATROL (R332): a FULL superblock is read; weak units mark it for refresh. -/
def patrolEffect (s : Nat) (d : Dev) : Dev :=
  let x := d.sblk s
  if x.st ≠ 2 ∨ d.storeState ≠ 2 ∨ d.fld Reg.NFC_PATROL 31 24 = 0 then d
  else
    let r := (x.pages.flatMap (fun p => p.units)).foldl (fun (a : Dev × Bool) u =>
      let q := a.1.readUnit u.lsn
      let weak := decide (d.fld Reg.NFC_PATROL 23 20 ≤ q.1.2.1 ∨ d.fld Reg.NFC_PATROL 7 0 < q.1.2.2)
      (if q.1.1 = 0 then q.2 else q.2.dropUnit s u.lsn, a.2 || weak)) (d, false)
    if r.2 then r.1.markRefresh s else r.1

/-- PATROL. -/
def execPatrol (block : BitVec 16) (s : State) : Host.Outcome State Fault Refusal := s.run (patrolEffect block.toNat)

/-! ### Mount and format (R328, R338) -/

/-- A mount that found its ROOT: what was OPEN is FULL and to be refreshed, a new superblock opens, HEAD leaves a gap. -/
def Dev.mountLog (d : Dev) : Dev :=
  let open_ := (List.range d.superblocks).filter (fun s => (d.sblk s).st == 1)
  let all := (List.range d.superblocks).flatMap (fun s => (d.sblk s).pages.flatMap (fun p => p.units.map (fun u => u.lsn)))
  let top := all.foldl max 0
  let d := d.forEach open_ (fun d s => d.setSblk s { d.sblk s with st := 2 })
  let d := { d with nfc := { d.nfc with top := top, queue := [], head := none } }
  let d := d.setReg64 Reg.NFC_HEAD_LSN_LO Reg.NFC_HEAD_LSN_HI (top + 65536)
  let d := ((d.setStore 2).openHead).forEach open_ Dev.markRefresh
  d.durableCheck.raise Ev.NFC_MOUNTED 0 0 (leBytes 8 (top + 65536))

/-- NFC_CTL.MOUNT: SD0 only, once DRAM has trained, from a state in which the store is not in use (assumption 100). -/
def Dev.mount (d : Dev) : Dev :=
  let st := d.storeState
  if d.dramUp = false ∨ st = 1 ∨ st = 2 ∨ st = 3 ∨ d.retired then d
  else
    let low := d.dies.headD 0
    let (z, d) := d.draw
    match (if d.dies = [] ∨ d.bit Reg.NFC_CTL (low / 4) = false then none else d.nand.root) with
    | none => (d.setStore 4).raise Ev.NFC_MOUNT_FAIL 0
    | some (_, epoch) =>
      if Config.rootReadable z = false then (d.setStore 6).raise Ev.NFC_MOUNT_FAIL 0
      else if epoch ≠ d.recEpoch then (d.setStore 5).raise Ev.NFC_EPOCH 0
      else d.mountLog

/-- NFC_MOUNT (R328). -/
def nfcMountEffect (q : Requester) (d : Dev) : Dev := d.sd0 q 56 Dev.mount

/-- NFC_MOUNT. -/
def execNfcMount (q : Requester) (s : State) : Host.Outcome State Fault Refusal := s.run (nfcMountEffect q)

/-- A reset or power loss (R324, R328): what was queued is lost but for a page that was being programmed and can still be
read; slots are IDLE; the store is UNMOUNTED. -/
def Dev.storeLost (d : Dev) : Dev :=
  let (z, d) := d.draw
  let n := d.pageUnits
  let d := match d.nfc.head with
    | some s =>
      if n ≤ d.nfc.queue.length ∧ Config.pageKept z then
        d.setSblk s { d.sblk s with pages := (d.sblk s).pages ++ [NandPage.mk d.nfc.page d.nfc.member (d.nfc.queue.take n)] }
      else d
    | none => d
  { d with nfc := {} }.setStore 0

/-- A command of window `w` (R334): the answer of `f` is the result. -/
def Dev.nfcWindow (d : Dev) (q : Requester) (w : Nat) (f : Dev → Dev × Nat) : Dev :=
  d.window q 56 w none (fun _ d => let p := f d; p.1.setReg (Reg.NFC_CMD_STAT w) (w32 p.2))

/-- A command that only SD0 may give: DOMAIN (1) in another window. -/
def Dev.nfcSd0 (d : Dev) (q : Requester) (w : Nat) (f : Dev → Dev × Nat) : Dev :=
  d.nfcWindow q w (fun d => if w ≠ 0 then (d, 1) else f d)

/-- NFC_FORMAT (R338): BUSY (3) while a track is not IDLE; factory-marked blocks are retired, every good block is erased. -/
def nfcFormatEffect (q : Requester) (w : Nat) (d : Dev) : Dev :=
  d.nfcSd0 q w (fun d =>
    if d.nfc.tracks.any (fun t => t.2.st != 0) then (d, 3)
    else if d.storeState = 1 ∨ d.storeState = 3 ∨ d.retired then (d, 5)
    else
      let d := d.forEach (List.range d.superblocks) (fun d s =>
        let d := d.forEach ((d.blockMembers s).filter (fun m => Config.factoryMark m s)) (fun d m => d.retireBlock s m)
        if d.sblkGood s then d.setSblk s { d.sblk s with st := 4 } else d)
      (({ d with nfc := { d.nfc with queue := [], head := none } } : Dev).setStore 3, 0))

/-- NFC_FORMAT. -/
def execNfcFormat (q : Requester) (w : Fin 16) (s : State) : Host.Outcome State Fault Refusal := s.run (nfcFormatEffect q w)

/-- NFC_FORMAT_DONE: every good block is erased, those that failed are retired; the store is READY and empty. -/
def nfcFormatDoneEffect (failed : List (Nat × Nat)) (d : Dev) : Dev :=
  if d.storeState ≠ 3 then d
  else
    let top := max d.nfc.top ((List.range d.superblocks).flatMap (fun s => (d.sblk s).pages.flatMap (fun p => p.units.map (fun u => u.lsn)))
      |>.foldl max 0)
    let d := d.forEach ((List.range d.superblocks).filter (fun s => (d.sblk s).st == 4)) (fun d s =>
      d.erased s ((failed.filter (fun f => f.1 == s)).map (fun f => f.2)))
    let d := { d with nfc := { d.nfc with top := top } }
    let d := if d.headLsn ≤ top then d.setReg64 Reg.NFC_HEAD_LSN_LO Reg.NFC_HEAD_LSN_HI (top + 1) else d
    (((d.setStore 2).openHead).checkpoint).raise Ev.NFC_FORMAT_DONE 0

/-- NFC_FORMAT_DONE. -/
def execNfcFormatDone (failed : List (BitVec 16 × Fin 64)) (s : State) : Host.Outcome State Fault Refusal :=
  s.run (nfcFormatDoneEffect (failed.map (fun f => (f.1.toNat, f.2.val))))

/-! ### Tracks (R324 to R326) -/

/-- A track slot. -/
def Dev.track (d : Dev) (t : Nat) : Track := tat {} d.nfc.tracks t
/-- A track slot replaced. -/
def Dev.setTrack (d : Dev) (t : Nat) (x : Track) : Dev := { d with nfc := { d.nfc with tracks := tset {} d.nfc.tracks t x } }

/-- Domain of a track's source: a field channel's clock group, or a stage's leg. -/
def Dev.trackDomain (d : Dev) (kind source : Nat) : Nat := if kind = 1 then d.chanDomain false source else d.legDomain source

/-- The source is enabled (R324). -/
def Dev.sourceOn (d : Dev) (kind source : Nat) : Bool :=
  if kind = 1 then decide (source < 1024) && d.bit (Reg.FLD_IN_SLOT source) 30 else d.bit (Reg.CAB_STAGE_A source) 31

/-- A row given to OPEN or CLOSE is late (R324). -/
def Dev.rowLate (d : Dev) (row : Nat) : Bool :=
  !after row ((d.row32 + 2) % 2 ^ 32) || decide (65536 < sub32 row d.row32)

/-- A track record as Table 19-2 gives it. -/
def trackNat (x : Track) : Nat :=
  x.kind + 256 * x.st + 2 ^ 16 * x.source + 2 ^ 32 * x.id + 2 ^ 64 * x.first + 2 ^ 96 * x.stop + 2 ^ 128 * x.last +
    2 ^ 192 * (x.segs % 2 ^ 32) + 2 ^ 224 * (x.gaps % 2 ^ 32)

/-- OPEN of a slot from a staged record: 3 BUSY, 2 BAD, 1 DOMAIN, 4 LATE, 5 STATE (assumption 102). -/
def Dev.openTrack (d : Dev) (w t r : Nat) : Dev × Nat :=
  let kind := rbits r 0 1 0
  let source := if kind = 1 then rbits r 2 9 0 else rbits r 2 12 0
  let reserved := rbits r 0 7 2 != 0 || (if kind = 1 then rbits r 2 15 10 != 0 else rbits r 2 15 13 != 0)
  let dom := d.trackDomain kind source
  if (d.track t).st ≠ 0 then (d, 3)
  else if kind = 0 ∨ kind = 3 then (d, 2)
  else if w ≠ 0 ∧ dom ≠ w then (d, 1)
  else if d.sourceOn kind source = false ∨ reserved then (d, 2)
  else if d.rowLate (rf r 8 4) then (d, 4)
  else if d.storeState ≠ 2 ∨ d.storeFull then (d, 5)
  else
    let x : Track := { st := 1, kind := kind, source := source, id := rf r 4 4, first := rf r 8 4, stop := rf r 12 4, dom := dom, next := rf r 8 4 }
    let (l, d) := d.appendUnit (d.unitBytes 2 0 t x.first x.id dom 0 0 (leBytes 32 (trackNat x))) none
    ((d.setTrack t { x with last := l }).raise Ev.NFC_TRACK t dom [2], 0)

/-- NFC_OPEN. -/
def nfcOpenEffect (q : Requester) (w : Nat) (v : Word) (d : Dev) : Dev :=
  d.nfcWindow q w (fun d => d.openTrack w (wfld v 9 0) (d.regsNat (Reg.NFC_REC w 0) 4))

/-- NFC_OPEN (R324). -/
def execNfcOpen (q : Requester) (d : Fin 16) (v : Word) (s : State) : Host.Outcome State Fault Refusal := s.run (nfcOpenEffect q d v)

/-- NFC_CLOSE: END_ROW of a slot that is not IDLE (assumption 102). -/
def nfcCloseEffect (q : Requester) (w : Nat) (v : Word) (d : Dev) : Dev :=
  d.nfcWindow q w (fun d =>
    let t := wfld v 9 0
    let x := d.track t
    let row := (d.reg (Reg.NFC_REC w 3)).toNat
    if x.st = 0 then (d, 5)
    else if w ≠ 0 ∧ x.dom ≠ w then (d, 1)
    else if d.rowLate row then (d, 4)
    else (d.setTrack t { x with stop := row }, 0))

/-- NFC_CLOSE (R324). -/
def execNfcClose (q : Requester) (d : Fin 16) (v : Word) (s : State) : Host.Outcome State Fault Refusal := s.run (nfcCloseEffect q d v)

/-- READ_TRACK (R335). -/
def readTrackEffect (q : Requester) (w : Nat) (v : Word) (d : Dev) : Dev :=
  d.nfcWindow q w (fun d =>
    let x := d.track (wfld v 9 0)
    if w ≠ 0 ∧ x.st ≠ 0 ∧ x.dom ≠ w then (d, 1)
    else (d.setRegsNat (Reg.NFC_REC w 0) (if w ≠ 0 ∧ x.st = 0 then 0 else trackNat x) 8, 0))

/-- READ_TRACK. -/
def execReadTrack (q : Requester) (d : Fin 16) (v : Word) (s : State) : Host.Outcome State Fault Refusal := s.run (readTrackEffect q d v)

/-- The staged segment of a track is queued, or its rows are missing when it may not be written (R325, R333). -/
def Dev.segmentEnd (d : Dev) (t : Nat) : Dev :=
  let x := d.track t
  let n := x.rows.length
  let reset (x : Track) : Track := { x with seg := x.seg + 1, rows := [], missing := 0 }
  if n = 0 then d
  else if d.storeState ≠ 2 ∨ d.storeFull then
    let lost := ((List.range n).filter (fun i => !x.missing.testBit i)).length
    (d.count Reg.NFC_GAP_ROWS lost).setTrack t (reset { x with gaps := x.gaps + lost })
  else
    let first := (x.first + 56 * x.seg) % 2 ^ 32
    let (l, d) := d.appendUnit (d.unitBytes 1 n t first x.id x.dom x.missing x.last (x.rows.flatMap (fun r => r))) (some (t, x.seg))
    d.setTrack t (reset { x with last := l, segs := x.segs + 1 })

/-- A track ends: its last segment, TRACK_CLOSE, IDLE (R324). -/
def Dev.trackEnd (d : Dev) (t : Nat) : Dev :=
  let d := d.segmentEnd t
  let x := d.track t
  let (l, d) := if d.storeState = 2 ∧ d.storeFull = false then
      d.appendUnit (d.unitBytes 3 0 t x.stop x.id x.dom 0 x.last (leBytes 4 x.segs ++ leBytes 4 x.stop)) none
    else (x.last, d)
  (d.setTrack t { x with last := l, st := 0 }).raise Ev.NFC_TRACK t x.dom [3]

/-- The 72 bytes of a source row, none when its source is disabled (R325, R326). -/
def Dev.sourceRow (d : Dev) (x : Track) (r : Nat) : Option (List Byte) × Dev :=
  if d.sourceOn x.kind x.source = false then (none, d)
  else if x.kind = 1 then
    let a := d.fld Reg.FLD_TAP_ADDR_LO 31 6 * 64 + 2 ^ 32 * d.fld Reg.FLD_TAP_ADDR_HI 3 0 + 73728 * (r % 64) + 72 * x.source
    let (b, d) := d.dramGet 13 0 a 72
    (some b, d)
  else
    let c := d.fld (Reg.CAB_STAGE_D x.source) 24 0
    (some ((List.range 72).map (fun i => (d.chainData c).getD (72 * (r % 128) + i) 0)), d)

/-- One source row of a track: copied if this is its row and its staging slot is free, else missing (R325, R326)
(assumption 102) (assumption 102). -/
def Dev.trackRow (d : Dev) (t : Nat) (onTime : Bool) : Dev :=
  let x := d.track t
  let held := d.nfc.queue.any (fun u => match u.seg with
    | some (s, n) => s == t && decide (n + 2 ≤ x.seg)
    | none => false)
  let (b, d) := if onTime && !held && d.storeState == 2 && !d.storeFull then d.sourceRow x x.next else (none, d)
  let i := x.rows.length
  let d := match b with
    | some bytes => d.setTrack t { x with rows := x.rows ++ [bytes] }
    | none => (d.count Reg.NFC_GAP_ROWS).setTrack t
        { x with rows := x.rows ++ [List.replicate 72 0], missing := x.missing + 2 ^ i, gaps := x.gaps + 1 }
  let y := d.track t
  let d := d.setTrack t { y with next := (y.next + 1) % 2 ^ 32 }
  if x.next = x.stop then d.trackEnd t else if i + 1 = 56 then d.segmentEnd t else d

/-- The rows of a track up to row N - 2, at the tick of row N; NFC_GAP once (assumption 102). -/
def Dev.trackTick (d : Dev) (t : Nat) : Dev :=
  let x := d.track t
  let due := (d.row32 + 2 ^ 32 - 2) % 2 ^ 32
  if x.st = 0 ∨ after x.next due then d
  else
    let n := sub32 due x.next + 1
    let d := d.setTrack t { x with st := if x.st = 1 then 2 else x.st }
    let d := d.forEach (List.range n) (fun d i => if (d.track t).st = 0 then d else d.trackRow t (i + 1 == n))
    let y := d.track t
    if y.gaps = x.gaps then d else d.raise Ev.NFC_GAP t x.dom

/-- NFC at a row tick. -/
def Dev.nfcTick (d : Dev) : Dev :=
  if d.regionOff 56 then d
  else d.forEach (d.nfc.tracks.map (fun e => e.1)) (fun d t =>
    let x := d.track t
    let d := d.trackTick t
    if x.st = 2 ∧ (d.track t).st = 2 ∧ after d.row32 x.stop ∧ !after x.first x.stop then d.setTrack t { d.track t with st := 3 } else d)

/-! ### Reading and house records (R334) -/

/-- The newest copy of a unit: on the medium, or still to be programmed. -/
def Dev.findUnit (d : Dev) (lsn : Nat) : Option NandUnit :=
  (d.nfc.queue.find? (fun u => u.lsn == lsn)).orElse (fun _ =>
    (d.nand.blocks.flatMap (fun e => e.2.pages.flatMap (fun p => p.units))).find? (fun u => u.lsn == lsn))

/-- The 4,096 bytes READ_UNIT writes: status 0 gives the unit with its payload, any other zeros in the payload's place. -/
def unitShown (u : NandUnit) (status : Nat) : List Byte :=
  (if status ≤ 1 then u.bytes.take 48 else List.replicate 48 0) ++
    (if status = 0 then (u.bytes.drop 48).take 4032 else List.replicate 4032 0) ++ leBytes 4 status ++ List.replicate 12 0

/-- READ_UNIT: 5 STATE unless the store is READY (assumption 102). -/
def readUnitEffect (q : Requester) (w : Nat) (d : Dev) : Dev :=
  d.nfcWindow q w (fun d =>
    let lsn := d.regsNat (Reg.NFC_REC w 0) 2
    let a := d.regsNat (Reg.NFC_REC w 2) 2
    if d.storeState ≠ 2 then (d, 5)
    else match (if lsn < d.releaseLsn then none else d.findUnit lsn) with
      | none => (d.dramPut 13 w a (unitShown ⟨0, [], none, false⟩ 3), 0)
      | some u =>
        if w ≠ 0 ∧ (byteAt u.bytes 28) % 16 ≠ w then (d.dramPut 13 w a (unitShown u 4), 0)
        else
          let r := d.readUnit lsn
          (r.2.dramPut 13 w a (unitShown u r.1.1), 0))

/-- READ_UNIT (R334). -/
def execReadUnit (q : Requester) (w : Fin 16) (s : State) : Host.Outcome State Fault Refusal := s.run (readUnitEffect q w)

/-- APPEND_HOUSE: BAD (2) above 4,032 bytes, STATE (5) unless the store is READY with space. -/
def appendHouseEffect (q : Requester) (w : Nat) (d : Dev) : Dev :=
  d.nfcSd0 q w (fun d =>
    let n := (d.reg (Reg.NFC_REC w 4)).toNat
    if 4032 < n then (d, 2)
    else if d.storeState ≠ 2 ∨ d.storeFull then (d, 5)
    else
      let (b, d) := d.dramGet 13 0 (d.regsNat (Reg.NFC_REC w 2) 2) n
      (d.appendPlain 4 b, 0))

/-- APPEND_HOUSE (R334). -/
def execAppendHouse (q : Requester) (w : Fin 16) (s : State) : Host.Outcome State Fault Refusal := s.run (appendHouseEffect q w)

/-- NFC_RELEASE (R333): ignored unless it raises the value. -/
def nfcReleaseEffect (q : Requester) (w : Nat) (d : Dev) : Dev :=
  d.nfcSd0 q w (fun d =>
    let v := d.regsNat (Reg.NFC_REC w 0) 2
    if d.storeState ≠ 2 then (d, 5)
    else if v ≤ d.releaseLsn then (d, 0)
    else (((d.setReg64 Reg.NFC_RELEASE_LSN_LO Reg.NFC_RELEASE_LSN_HI v).eraseReleased).checkpoint, 0))

/-- NFC_RELEASE. -/
def execNfcRelease (q : Requester) (w : Fin 16) (s : State) : Host.Outcome State Fault Refusal := s.run (nfcReleaseEffect q w)

end Sys2Proof.Machine
end

