-- ==== Sys2Proof/Machine/Security.lean ====
section
/-! DEFINITION. SEC (chapter 21): OTP fields, floors and revocation, the debug levels and their unlock, the bind-off of key
pages and domains, and random bytes. Resets and life-cycle changes stand with the resets. -/

namespace Sys2Proof.Machine

/-! ### Commands of SD0 -/

/-- SEC_CMD_STAT.RESULT: 0 is done, anything else a refusal with SEC_REFUSED (R360). -/
def Dev.secResult (d : Dev) (r : Nat) : Dev :=
  let d := d.setFld Reg.SEC_CMD_STAT 3 0 r
  if r = 0 then d else d.raise Ev.SEC_REFUSED 0 0 [b8 r]

/-- A SEC command of SD0: ignored while another runs (SEC_CMD_STAT.BUSY). -/
def Dev.secCmd (d : Dev) (q : Requester) (f : Dev → Dev × Nat) : Dev :=
  d.sd0 q 1 (fun d => if d.bit Reg.SEC_CMD_STAT 31 then d else (f d).1.secResult (f d).2)

/-- OTP replaced (assumption 108). -/
def Dev.setOtp (d : Dev) (f : Otp → Otp) : Dev := { d with sec := { d.sec with otp := f d.sec.otp } }

/-- Registers that show OTP: UID, floors and REVOKE. -/
def Dev.showOtp (d : Dev) : Dev :=
  let o := d.sec.otp
  let d := d.setReg64 Reg.SEC_UID_LO Reg.SEC_UID_HI o.uid
  ((d.setFld Reg.SEC_FLOORS 6 0 o.fwFloor).setFld Reg.SEC_FLOORS 14 7 o.patFloor).setFld Reg.SEC_FLOORS 31 24 o.revoke

/-- A field of Table 21-1 by SEC_OTP_CMD.FIELD: its value. Hashes are fields 2 to 10: four firmware, four pattern, one
debug. -/
def otpField (o : Otp) (f : Nat) : Nat := if f = 0 then o.uid else if f = 1 then o.bootCfg else tat 0 o.keyHash (f - 2)

/-- A field has been programmed. -/
def otpDone (o : Otp) (f : Nat) : Bool := if f = 0 then o.uidSet else if f = 1 then o.bootSet else decide (f - 2 ∈ o.hashSet)

/-- A field programmed with a value. -/
def otpSet (f v : Nat) (o : Otp) : Otp :=
  if f = 0 then { o with uid := v % 2 ^ 64, uidSet := true }
  else if f = 1 then { o with bootCfg := v % 4, bootSet := true }
  else { o with keyHash := tset 0 o.keyHash (f - 2) (v % 2 ^ 384), hashSet := addMark o.hashSet (f - 2) }

/-- OTP_READ (R359): the field's bytes fill SEC_OTP_DATA, zero past its end (assumption 108). -/
def otpReadEffect (q : Requester) (v : Word) (d : Dev) : Dev :=
  if wfld v 31 30 ≠ 1 then d
  else d.secCmd q (fun d =>
    let f := wfld v 3 0
    if 10 < f then (d, 1) else (d.setRegsNat (Reg.SEC_OTP_DATA 0) (otpField d.sec.otp f) 12, 0))

/-- OTP_READ. -/
def execOtpRead (q : Requester) (v : Word) (s : State) : Host.Outcome State Fault Refusal := s.run (otpReadEffect q v)

/-- OTP_PROGRAM (R359, Table 21-1): DONE for a field already programmed, STATE outside BLANK (UID) or BLANK and
PROVISION (assumption 108). -/
def otpProgramEffect (q : Requester) (v : Word) (d : Dev) : Dev :=
  if wfld v 31 30 ≠ 2 then d
  else d.secCmd q (fun d =>
    let f := wfld v 3 0
    if 10 < f then (d, 1)
    else if otpDone d.sec.otp f then (d, 5)
    else if (if f = 0 then 0 else 1) < d.sec.otp.lc then (d, 7)
    else ((d.setOtp (otpSet f (d.regsNat (Reg.SEC_OTP_DATA 0) 12))).showOtp, 0))

/-- OTP_PROGRAM. -/
def execOtpProgram (q : Requester) (v : Word) (s : State) : Host.Outcome State Fault Refusal := s.run (otpProgramEffect q v)

/-- FLOOR_CMD (R366): VALUE must rise above the floor, and not past 64 or the version that runs. -/
def floorCmdEffect (q : Requester) (v : Word) (d : Dev) : Dev :=
  if wbit v 31 = false then d
  else d.secCmd q (fun d =>
    let pat := wbit v 7
    let n := wfld v 6 0
    let floor := if pat then d.sec.otp.patFloor else d.sec.otp.fwFloor
    let top := (d.reg (if pat then Reg.PAT_SEC_VERSION else Reg.SEC_FW_VERSION)).toNat
    if n ≤ floor ∨ 64 < n ∨ top < n then (d, 1)
    else ((d.setOtp (fun o => if pat then { o with patFloor := n } else { o with fwFloor := n })).showOtp, 0))

/-- FLOOR_CMD. -/
def execFloorCmd (q : Requester) (v : Word) (s : State) : Host.Outcome State Fault Refusal := s.run (floorCmdEffect q v)

/-- Key `i` may not be revoked (R366): it signed what runs, or it is the last unrevoked of its set (assumption 108). -/
def Dev.keyInUse (d : Dev) (i : Nat) : Bool :=
  let set := i / 4 * 4
  decide ((if set = 0 then d.sec.fwKey else d.sec.patKey) = some (i % 4)) ||
    (!d.sec.otp.revoke.testBit i &&
      (List.range 4).all (fun k => decide (set + k = i) || d.sec.otp.revoke.testBit (set + k)))

/-- REVOKE (R366, Table 21-1): refused in RETIRED with STATE. A revoked entry is no longer accepted (R364). -/
def revokeEffect (q : Requester) (v : Word) (d : Dev) : Dev :=
  if wbit v 31 = false then d
  else d.secCmd q (fun d =>
    let i := wfld v 2 0
    if d.retired then (d, 7)
    else if d.keyInUse i then (d, 4)
    else (((d.setOtp (fun o => { o with revoke := o.revoke ||| 2 ^ i })).setFld Reg.SEC_FLOORS (16 + i) (16 + i) 0).showOtp, 0))

/-- REVOKE. -/
def execRevoke (q : Requester) (v : Word) (s : State) : Host.Outcome State Fault Refusal := s.run (revokeEffect q v)

/-! ### Debug levels -/

/-- The debug registers are reachable from SD0 and from the debug port at every level (R369), but not in P3
(Table 23-8). -/
def Dev.secDebug (d : Dev) (q : Requester) (f : Dev → Dev) : Dev :=
  if d.power = 3 then d
  else match q with
    | .debug => f d
    | _ => d.sd0 q 1 f

/-- SEC_DBG_STAT.RESULT. -/
def Dev.dbgResult (d : Dev) (r : Nat) : Dev := d.setFld Reg.SEC_DBG_STAT 3 0 r

/-- `n` random bytes (R376) (assumption 110). -/
def Dev.random (d : Dev) : Nat → List Byte × Dev
  | 0 => ([], d)
  | n + 1 => let (l, d') := d.draw.2.random n; (Config.randomByte d.draw.1 :: l, d')

/-- 48 fresh random bytes make a valid challenge (R367) (assumption 109). -/
def Dev.challenge (d : Dev) : Dev :=
  let (l, d) := d.random 48
  let d := (d.setRegsNat (Reg.SEC_DBG_CHAL 0) (leNat l) 12).setBit Reg.SEC_DBG_STAT 30 true
  { d with sec := { d.sec with chalWait := false } }

/-- Failures since reset. -/
def Dev.dbgFails (d : Dev) : Nat := d.fld Reg.SEC_DBG_STAT 7 4

/-- The challenge is used or invalid. -/
def Dev.chalOff (d : Dev) : Dev :=
  { d.setBit Reg.SEC_DBG_STAT 30 false with sec := { d.sec with chalWait := false } }

/-- DBG_CHALLENGE (R367, R368): refused LOCKED after eight failures; it waits for VALID (R376) (assumption 109). -/
def dbgChallengeEffect (q : Requester) (v : Word) (d : Dev) : Dev :=
  if wfld v 31 28 ≠ 1 then d
  else d.secDebug q (fun d =>
    if 8 ≤ d.dbgFails then d.dbgResult 2
    else
      let d := d.chalOff.dbgResult 0
      if d.bit Reg.SEC_RNG_STAT 0 then d.challenge else { d with sec := { d.sec with chalWait := true } })

/-- DBG_CHALLENGE. -/
def execDbgChallenge (q : Requester) (v : Word) (s : State) : Host.Outcome State Fault Refusal :=
  s.run (dbgChallengeEffect q v)

/-- CHALLENGE_EXPIRY (R367). -/
def challengeExpiryEffect (d : Dev) : Dev := d.chalOff

/-- CHALLENGE_EXPIRY. -/
def execChallengeExpiry (s : State) : Host.Outcome State Fault Refusal := s.run challengeExpiryEffect

/-- The 58-byte message of R367. -/
def Dev.unlockMsg (d : Dev) (purpose target : Nat) : List Byte :=
  d.regBytes (Reg.SEC_DBG_CHAL 0) 12 ++ leBytes 8 d.sec.otp.uid ++ [b8 purpose, b8 target]

/-- An unlock failure (R368): counted and reported, the eighth with SEC_DBG_LOCKED (assumption 109). -/
def Dev.unlockFailed (d : Dev) : Dev :=
  let n := d.dbgFails
  let d := (d.setFld Reg.SEC_DBG_STAT 7 4 (min 8 (n + 1))).raise Ev.SEC_UNLOCK_FAIL 0
  if n = 7 then d.raise Ev.SEC_DBG_LOCKED 0 else d

/-- One verification of the response under key entry 8 (R367): the challenge is used, and a failure is an unlock failure. -/
def Dev.verifyResponse (d : Dev) (purpose target : Nat) : Bool × Dev :=
  let ok := d.key 8 != [] && ecdsaVerify (d.key 8) (sha384 (d.unlockMsg purpose target)) (d.regBytes (Reg.SEC_DBG_RESP 0) 24)
  let d := d.chalOff
  (ok, if ok then d else d.unlockFailed)

/-- Every slot of the pages of domains `p` is zero (R371, R375) (assumption 111). -/
def Dev.bindKeys (d : Dev) (p : Nat → Bool) : Dev :=
  { d with cip := { d.cip with slots := d.cip.slots.filter (fun e => !p (d.slotDom e.1)) } }

/-- The level as it stands in SEC_LC_STAT. -/
def Dev.setLevel (d : Dev) (l : Nat) : Dev := d.setFld Reg.SEC_LC_STAT 9 8 l

/-- The level moves (R370, R371): a rise to HALT or FULL in DEPLOYED or RETURNED binds off all key pages first. -/
def Dev.moveLevel (d : Dev) (l : Nat) : Dev :=
  let old := d.level
  if l = old then d
  else
    let d := if old < l ∧ 2 ≤ l ∧ (d.lcState = 2 ∨ d.lcState = 3) then (d.bindKeys (fun _ => true)).raise Ev.SEC_KEYS_BOUND 0 else d
    let d := d.setLevel l
    let d := if l < 2 ∧ 2 ≤ old then d.debugFall else d
    d.raise Ev.SEC_DBG_LEVEL 0 0 [b8 old, b8 l]

/-- DBG_UNLOCK (R367): only in DEPLOYED and RETURNED (Table 21-4); NO_CHALLENGE without a valid one (assumption 109). -/
def dbgUnlockEffect (q : Requester) (v : Word) (d : Dev) : Dev :=
  if wfld v 31 28 ≠ 2 then d
  else d.secDebug q (fun d =>
    if d.bit Reg.SEC_DBG_STAT 30 = false then d.dbgResult 3
    else if d.lcState ≠ 2 ∧ d.lcState ≠ 3 then d.dbgResult 5
    else
      let (ok, d) := d.verifyResponse 0 (wfld v 1 0)
      if ok then (d.dbgResult 0).moveLevel (wfld v 1 0) else d.dbgResult 1)

/-- DBG_UNLOCK. -/
def execDbgUnlock (q : Requester) (v : Word) (s : State) : Host.Outcome State Fault Refusal := s.run (dbgUnlockEffect q v)

/-- Highest level by SET (Table 21-4). -/
def Dev.setLimit (d : Dev) : Nat := if d.lcState = 2 ∨ d.lcState = 3 then 1 else 3

/-- Level after reset and after wake (Table 21-4). -/
def Dev.freshLevel (d : Dev) : Nat := [3, 1, 0, 1].getD d.lcState 3

/-- DBG_SET (R370): downward at any time, upward to the limit of Table 21-4. -/
def dbgSetEffect (q : Requester) (v : Word) (d : Dev) : Dev :=
  if wfld v 31 28 ≠ 3 then d
  else d.secDebug q (fun d =>
    let l := wfld v 1 0
    if d.level < l ∧ d.setLimit < l then d.dbgResult 5 else (d.dbgResult 0).moveLevel l)

/-- DBG_SET. -/
def execDbgSet (q : Requester) (v : Word) (s : State) : Host.Outcome State Fault Refusal := s.run (dbgSetEffect q v)

/-! ### Bind-off of a domain -/

/-- A leg of a domain is not OFF. -/
def Dev.legsUp (d : Dev) (x : Nat) : Bool := (List.range 8192).any (fun l => d.legDomain l == x && d.legState l != 0)

/-- A ring of a domain is enabled. -/
def Dev.ringsUp (d : Dev) (x : Nat) : Bool := (List.range 16).any (fun r => d.bit (Reg.HST_RING_CFG x r) 31)

/-- BIND_CMD (R375): the domain's key pages are wiped and its DRAM is refused until SEC_DOM_BOUND (assumption 111). -/
def bindCmdEffect (q : Requester) (v : Word) (d : Dev) : Dev :=
  if wbit v 31 = false then d
  else d.secCmd q (fun d =>
    let x := wfld v 3 0
    if x = 0 then (d, 1)
    else if d.legsUp x || d.ringsUp x then (d, 6)
    else ({ (d.bindKeys (fun y => y == x)).setBit Reg.SEC_CMD_STAT 31 true with sec := { d.sec with binding := some x } }, 0))

/-- BIND_CMD. -/
def execBindCmd (q : Requester) (v : Word) (s : State) : Host.Outcome State Fault Refusal := s.run (bindCmdEffect q v)

/-- The carve-outs of a domain are zero (assumption 111). -/
def Dev.wipeCarves (d : Dev) (x : Nat) : Dev :=
  d.forEach (List.range 32) (fun d i =>
    let ca := d.reg (Reg.DMC_CO_A i)
    if wbit ca 31 ∧ wfld ca 27 24 = x then
      { d with dram := memZero d.dram (wfld ca 14 0 * 2 ^ 21) (d.fld (Reg.DMC_CO_B i) 15 0 * 2 ^ 21) }
    else d)

/-- SEC_DOM_BOUND (R375): the wipe of the domain's carve-outs ends (assumption 111). -/
def secDomBoundEffect (d : Dev) : Dev :=
  match d.sec.binding with
  | none => d
  | some x =>
    let d := (d.wipeCarves x).setBit Reg.SEC_CMD_STAT 31 false
    { d with sec := { d.sec with binding := none } }.raise Ev.SEC_DOM_BOUND x

/-- SEC_DOM_BOUND. -/
def execSecDomBound (s : State) : Host.Outcome State Fault Refusal := s.run secDomBoundEffect

/-! ### Random bytes -/

/-- RNG_READ (R376): 32 fresh random bits, zero while VALID is clear (assumption 110). -/
def rngReadEffect (q : Requester) (d : Dev) : Dev :=
  d.sd0 q 1 (fun d =>
    if d.bit Reg.SEC_RNG_STAT 0 then let (l, d) := d.random 4; d.setReg Reg.SEC_RNG (w32 (leNat l))
    else d.setReg Reg.SEC_RNG 0)

/-- RNG_READ. -/
def execRngRead (q : Requester) (s : State) : Host.Outcome State Fault Refusal := s.run (rngReadEffect q)

/-- SEC_RNG_FAIL (R376). -/
def secRngFailEffect (d : Dev) : Dev :=
  ((d.setBit Reg.SEC_RNG_STAT 0 false).setReg Reg.SEC_RNG 0).raise Ev.SEC_RNG_FAIL 0

/-- SEC_RNG_FAIL. -/
def execSecRngFail (s : State) : Host.Outcome State Fault Refusal := s.run secRngFailEffect

/-- RNG_VALID_RESTORED (R376): a CHALLENGE that waited is filled. -/
def rngValidRestoredEffect (d : Dev) : Dev :=
  let d := d.setBit Reg.SEC_RNG_STAT 0 true
  if d.sec.chalWait then d.challenge else d

/-- RNG_VALID_RESTORED. -/
def execRngValidRestored (s : State) : Host.Outcome State Fault Refusal := s.run rngValidRestoredEffect

end Sys2Proof.Machine
end

