-- ==== Sys2Proof/Machine/Venc.lean ====
section
/-! DEFINITION. Encode contexts (chapter 13): records (R231), frame starts (R232), the rate code (R233), key frames (R234), output
(R235), the video swap (R222) and the command window (R236). -/

namespace Sys2Proof.Machine

/-- Configuration bytes of a context record (Table 13-5). -/
def venCfg : RecMask := ⟨bytesAt 0 48, bitsAt 0 3 0 + bitsAt 1 5 0 + bitsAt 2 5 0 + bytesAt 3 2 + bitsAt 5 5 0 + bytesAt 6 4 +
  bitsAt 10 12 0 + bitsAt 12 4 0 + bytesAt 14 8 + bytesAt 24 12⟩
/-- LV bytes of a context record. -/
def venLive : RecMask := ⟨bytesAt 48 32, bytesAt 48 26 + bitsAt 74 2 0 + bitsAt 75 2 0⟩

/-- Context record. -/
def Dev.nrec (d : Dev) (k : Nat) : Nat := tat 0 d.ven.recs k
/-- Context record replaced. -/
def Dev.setNrec (d : Dev) (k r : Nat) : Dev := { d with ven := { d.ven with recs := tset 0 d.ven.recs k r } }
/-- The rest of a context. -/
def Dev.nctx (d : Dev) (k : Nat) : VenCtx := tat {} d.ven.ctxs k
/-- The rest of a context replaced. -/
def Dev.setNctx (d : Dev) (k : Nat) (x : VenCtx) : Dev := { d with ven := { d.ven with ctxs := tset {} d.ven.ctxs k x } }

/-- CODEC. -/
def nCodec (r : Nat) : Nat := rbits r 0 1 0
/-- PROFILE. -/
def nProfile (r : Nat) : Nat := rbits r 0 3 2
/-- S: spatial layers or encodings. -/
def nS (r : Nat) : Nat := rbits r 1 1 0
/-- T: temporal layers. -/
def nT (r : Nat) : Nat := rbits r 1 3 2
/-- SIMULCAST. -/
def nSim (r : Nat) : Bool := rbits r 1 4 4 == 1
/-- TILE_MC. -/
def nTile (r : Nat) : Bool := rbits r 1 5 5 == 1
/-- First encode core. -/
def nCore (r : Nat) : Nat := rbits r 2 3 0
/-- Bands. -/
def nSpan (r : Nat) : Nat := 2 ^ rbits r 2 5 4
/-- FPS_DIV. -/
def nDiv (r : Nat) : Nat := max 1 (rbits r 3 7 0)
/-- SRC. -/
def nSrc (r : Nat) : Nat := rbits r 5 5 0
/-- STATE is RUN. -/
def nRun (r : Nat) : Bool := rbits r 80 0 0 == 1
/-- MAX_FRAME of an encoding, bytes. -/
def nMaxFrame (r e : Nat) : Nat := rf r (52 + 8 * e) 2 * 64
/-- Encodings or layers produced. -/
def nActive (r : Nat) : Nat := rbits r 74 2 0 % 2 ^ nS r

/-- A counter of a record and the one over all contexts. -/
def Dev.nCount (d : Dev) (k off reg : Nat) : Dev := (d.setNrec k (rcount (d.nrec k) off)).count reg

/-! ### Frame starts -/

/-- SKIP_LATE, with VEN_LATE once per round (R232). -/
def Dev.nLate (d : Dev) (k : Nat) : Dev :=
  let d := d.nCount k 92 Reg.VEN_SKIP_LATE
  if d.ven.lateMark then d else { d with ven := { d.ven with lateMark := true } }.raise Ev.VEN_LATE k (d.venDomain k)

/-- Bytes that drain from a rate buffer in a frame interval (R233). -/
def Dev.nDrain (d : Dev) (r e : Nat) : Nat :=
  let p := d.roundRate
  rf r (48 + 8 * e) 4 * 125 * nDiv r * p.2 / p.1

/-- BUF_LVL of an encoding. -/
def nLevel (r e : Nat) : Nat := rf r (100 + 4 * e) 4

/-- The rate code of R233 for encoding `e`: whether it is encoded. -/
def Dev.nRate (d : Dev) (k e : Nat) (key : Bool) : Bool × Dev :=
  let r := d.nrec k
  let lvl := nLevel r e - d.nDrain r e
  let d := d.setNrec k (rset r (100 + 4 * e) 4 lvl)
  if !key && decide (rf r (48 + 8 * e) 4 * 125 * rf r 72 2 / 1000 ≤ lvl) then (false, d.nCount k 88 Reg.VEN_SKIP_RATE) else (true, d)

/-- Temporal layer of frame `n` after a key frame (Table 13-6). -/
def temporalOf (t n : Nat) : Nat := if n % 2 ^ (t - 1) = 0 then 0 else if t = 3 ∧ n % 4 = 2 then 1 else t - 1

/-- Frames of an encoding since its key frame. -/
def VenCtx.since! (x : VenCtx) (e : Nat) : Nat := tat 0 x.since e

/-- Encodings whose next frame is a key frame, as R234 adds to those already due. -/
def nKeys (r : Nat) (x : VenCtx) : Nat :=
  let each := nCodec r == 1 && nSim r
  let req := rbits r 75 2 0
  let int := (List.range 3).filter (fun e => rf r 16 2 != 0 && decide (rf r 16 2 ≤ x.since! e))
  let add := req ||| (int.map (fun e => 2 ^ e)).sum
  let all := nActive r != x.active || (add != 0 && !each)
  if all then 7 else x.due ||| add

/-- The compositor's surface a frame of the present round reads, none while its own frame has yet to start (R244). -/
def Dev.nSurf (d : Dev) (i : Nat) : Option Nat :=
  let c := d.ci i
  match c.frame with
  | some f => if f.round = d.tim.round then (if f.running then some f.surf else none) else if c.complete then some (d.ciNewest i) else none
  | none => if c.complete then some (d.ciNewest i) else none

/-- A frame of a context starts (R232 to R234). -/
def Dev.nStart (d : Dev) (k : Nat) : Dev :=
  let r := d.nrec k
  let x := d.nctx k
  let due := nKeys r x
  let d := (d.setNrec k (rsetBits r 75 2 0 0)).setNctx k { x with due := due, active := nActive r }
  let go := ((List.range 3).filter (fun e => (nActive r).testBit e)).foldl (fun (a : Dev × List (Nat × Bool × Nat)) e =>
    let key := due.testBit e
    let q := a.1.nRate k e key
    (q.2, if q.1 then a.2 ++ [(e, key, if key then 0 else temporalOf (nT r) (x.since! e))] else a.2)) (d, [])
  if go.2 = [] then go.1
  else go.1.setNctx k { go.1.nctx k with frame := some { round := d.tim.round, surf := d.nSurf (nSrc r), encs := go.2 } }

/-- A frame falls due in a context: one that runs is let finish, one not started is skipped (R232). -/
def Dev.nDue (d : Dev) (k : Nat) : Dev :=
  match (d.nctx k).frame with
  | none => d.nStart k
  | some f =>
    let d := d.nLate k
    if f.bands ≠ [] then d else (d.setNctx k { d.nctx k with frame := none }).nStart k

/-- VEN at a round tick. -/
def Dev.venRound (d : Dev) : Dev :=
  let d := { d with ven := { d.ven with lateMark := false } }
  let d := d.forEach ((d.ven.recs.filter (fun e => nRun e.2 && onCadence d.tim.round (nDiv e.2) (rbits e.2 4 7 0))).map (fun e => e.1)) Dev.nDue
  d.forEach (List.range 16) (fun d c => d.busyTick (Reg.VEN_CORE_BUSY c))

/-! ### Bands and output (R221, R235, R246) -/

/-- Cores at work on bands. -/
def Dev.encCores (d : Dev) : List Nat :=
  d.ven.ctxs.flatMap (fun e => ((e.2.frame.map (fun f => f.bands)).getD []).map (fun b => nCore (d.nrec e.1) + b))

/-- The rows a band reads have been published: the compositor's frame of that round runs or is complete (R246). -/
def Dev.bandReady (d : Dev) (k : Nat) (f : EncFrame) : Bool :=
  match (d.ci (nSrc (d.nrec k))).frame with
  | some c => if c.round = f.round then c.running else f.surf.isSome
  | none => f.surf.isSome

/-- ENC_BAND_START (R246): the rows of a band have been published and its core takes it. -/
def encBandStartEffect (k b : Nat) (d : Dev) : Dev :=
  let r := d.nrec k
  match (d.nctx k).frame with
  | none => d
  | some f =>
    if nSpan r ≤ b ∨ b ∈ f.bands ∨ nCore r + b ∈ d.encCores ∨ d.bandReady k f = false then d
    else
      let i := nSrc r
      let h := d.ciH i
      let top := b * h / nSpan r
      let rows := (b + 1) * h / nSpan r
      let own := (d.ci i).frame.any (fun c => c.running && c.round == f.round)
      let done := min h ((rows + 15) / 16 * 16)
      let d := if own ∧ d.fld (Reg.CMP_CI_STAT i) 11 0 < done then d.setFld (Reg.CMP_CI_STAT i) 11 0 done else d
      let a := d.ciSurf i (f.surf.getD 0)
      let d := d.forEach (List.range (rows - top)) (fun d y => (d.dramGet 3 (d.venDomain k) (a + (top + y) * d.ciStride i) (d.ciStride i)).2)
      let d := d.forEach (List.range (rows / 2 - top / 2)) (fun d y =>
        (d.dramGet 3 (d.venDomain k) (a + (h + top / 2 + y) * d.ciStride i) (d.ciStride i)).2)
      (d.setNctx k { d.nctx k with frame := some { f with bands := f.bands ++ [b] } }).work (Reg.VEN_CORE_BUSY (nCore r + b))

/-- ENC_BAND_START. -/
def execEncBandStart (ctx : Fin 512) (band : Fin 4) (s : State) : Host.Outcome State Fault Refusal := s.run (encBandStartEffect ctx band)

/-- One encoding of a frame: its rate buffer takes the bytes produced, its key frame is served (assumption 82). -/
def Dev.encDone (d : Dev) (k : Nat) (e : Nat × Bool × Nat) (size : Nat) : Dev :=
  let r := d.nrec k
  let d := d.setNrec k (rset r (100 + 4 * e.1) 4 (min (2 ^ 31 - 1) (nLevel r e.1 + size)))
  let d := if nMaxFrame r e.1 < size then d.nCount k 112 Reg.VEN_OVERSIZE else d
  let x := d.nctx k
  d.setNctx k { x with since := tset 0 x.since e.1 (if e.2.1 then 1 else x.since! e.1 + 1), due := if e.2.1 then x.due &&& (7 - 2 ^ e.1) else x.due }

/-- Packets of a frame by outbound stream: simulcast encodings on streams of their own, layers on one. -/
def Dev.encMedia (d : Dev) (k : Nat) (f : EncFrame) : List (Nat × List Media) × Dev :=
  let r := d.nrec k
  let ts := d.houseIndex 90000 (d.boundary true f.round / 2 ^ 40)
  let n := f.encs.length
  let go := f.encs.zipIdx.foldl (fun (a : List (Nat × List Media) × Dev) e =>
    let q := a.2.draw
    let layered := nCodec r == 3
    let ms := codedMedia q.1 (rf r 14 2) (nCodec r) ts (if layered then e.1.1 else 0) e.1.2.2 e.1.2.1 (!layered || e.2 + 1 == n)
    (a.1 ++ [(if layered then 0 else e.1.1, ms)], q.2)) ([], d)
  go

/-- ENCODE_DONE (R235): every band of a context's frame has run. -/
def encodeDoneEffect (k : Nat) (d : Dev) : Dev :=
  let r := d.nrec k
  match (d.nctx k).frame with
  | none => d
  | some f =>
    if f.bands.length < nSpan r then d
    else
      let dom := d.venDomain k
      let d := d.forEach f.bands (fun d b => d.rest (Reg.VEN_CORE_BUSY (nCore r + b)))
      let d := d.setNctx k { d.nctx k with frame := none }
      let (out, d) := d.encMedia k f
      let (z, d) := d.draw
      let d := d.dramPut 3 dom (rf r 24 8) (videoBytes z (rf r 32 4))
      let all := out.flatMap (fun e => e.2)
      let keys := (f.encs.map (fun e => 2 ^ e.1)).sum
      match d.frameChains 40 (d.fld Reg.VEN_TX_POOL 2 0) dom all [] with
      | (none, d) => (d.setNctx k { d.nctx k with due := (d.nctx k).due ||| (if nCodec r = 1 ∧ nSim r then keys else 7) }).raise Ev.VEN_NONE k dom
      | (some cs, d) =>
        let d := d.forEach (f.encs.zip out) (fun d e => d.encDone k e.1 ((e.2.2.map (fun m => m.payload.length)).sum))
        let d := d.nCount k 84 Reg.VEN_FRAMES
        let d := if f.encs.any (fun e => e.2.1) then d.nCount k 96 Reg.VEN_KEYS else d
        let x := d.nctx k
        let d := d.setNctx k { x with made := (x.made + all.length) % 2 ^ 16 }
        let d := d.sqsFromVen k x.made ((all.map (fun m => m.ts)).headD 0) ((out.headD (0, [])).2.map (fun m => m.payload))
        d.forEach ((out.flatMap (fun e => e.2.map (fun m => (e.1, m)))).zip cs) (fun d e =>
          (d.produce (rbits r 10 12 0) ((rbits r 12 4 0 + e.1.1) % 32) e.1.2 e.2).giveBack 40 e.2)

/-- ENCODE_DONE. -/
def execEncodeDone (ctx : Fin 512) (s : State) : Host.Outcome State Fault Refusal := s.run (encodeDoneEffect ctx)

/-! ### The video swap (R222, R231) -/

/-- Size of spatial layer 0: halved for each layer above it, rounded up to even numbers (Table 13-6). -/
def baseSize (s n : Nat) : Nat := let k := 2 ^ (s - 1); (n + 2 * k - 1) / (2 * k) * 2

/-- A layer structure of Table 13-6. -/
def nShapeOk (r : Nat) : Bool :=
  let s := nS r
  let tiles := decide (rf r 18 2 ≠ 0 ∧ rf r 18 2 % 64 = 0 ∧ rf r 20 2 ≠ 0 ∧ rf r 20 2 % 64 = 0)
  let w := if nCodec r = 3 then baseSize s (rf r 6 2) else rf r 6 2
  let h := if nCodec r = 3 then baseSize s (rf r 8 2) else rf r 8 2
  decide (1 ≤ nT r ∧ 1 ≤ s) &&
    (match nCodec r with
      | 1 => (nSim r == (s != 1)) && !nTile r
      | 2 => !nSim r && s == 1
      | _ => !nSim r) &&
    (!nTile r || (tiles && w % rf r 18 2 == 0 && h % rf r 20 2 == 0))

/-- The conditions of R219, R221 and R231 on a context. -/
def Dev.nOk (d : Dev) (k : Nat) : Bool :=
  let r := d.nrec k
  let dom := d.venDomain k
  nShapeOk r && nCore r % nSpan r == 0 && d.legDomain (rbits r 10 12 0) == dom && d.inCarves dom (rf r 24 8) (rf r 32 4)

/-- A context turns OFF; `core` is the first of the cores its bands ran on. -/
def Dev.nOff (d : Dev) (k core : Nat) : Dev :=
  let x := d.nctx k
  let d := d.forEach ((x.frame.map (fun f => f.bands)).getD []) (fun d b => d.rest (Reg.VEN_CORE_BUSY (core + b)))
  (d.setNctx k { made := x.made }).setNrec k (rsetBits (d.nrec k) 80 0 0 0)

/-- A context with CODEC set enters RUN, its first frame a key frame, or stays OFF with VEN_CFG_ERR. -/
def Dev.nTry (d : Dev) (k : Nat) : Dev :=
  if d.nOk k then (d.setNrec k (rsetBits (d.nrec k) 80 0 0 1)).setNctx k { d.nctx k with due := 7 } else d.raise Ev.VEN_CFG_ERR k (d.venDomain k)

/-- What of a record a change of applies as OFF and RUN again: CODEC, LAYERS, CORE, size, tiles and reference area. -/
def nFixed (r : Nat) : List Nat := [rf r 0 3, rf r 6 4, rf r 18 4, rf r 24 12]

/-- A context at a video swap; `old` is its record of before. -/
def Dev.nSwap (d : Dev) (k old : Nat) : Dev :=
  let r := d.nrec k
  let d := if nRun old ∧ (nCodec r = 0 ∨ nFixed r ≠ nFixed old ∨ d.nOk k = false) then d.nOff k (nCore old) else d
  if nCodec r ≠ 0 ∧ nRun (d.nrec k) = false then d.nTry k else d

/-- Declared load of an encode core in luma samples per second, times 16 (R222). -/
def Dev.nLoad (d : Dev) (c : Nat) : Nat :=
  let p := d.roundRate
  ((d.ven.recs.filter (fun e => nRun e.2 && decide (nCore e.2 ≤ c ∧ c < nCore e.2 + nSpan e.2))).map (fun e =>
    rf e.2 6 2 * rf e.2 8 2 * p.1 * loadFactor (nS e.2) / (p.2 * nDiv e.2 * nSpan e.2))).sum

/-- VEN at a video swap. -/
def Dev.venSwap (d : Dev) : Dev :=
  let old := d.ven.recs
  let d := { d with ven := { d.ven with recs := tableSwap 0 venCfg old d.ven.recSh } }
  let d := d.forEach (d.ven.recs.map (fun e => e.1)) (fun d k => d.nSwap k (tat 0 old k))
  d.forEach (List.range 16) (fun d c =>
    let n := d.nLoad c
    let d := d.setFld (Reg.VEN_CORE_DECL c) 15 0 (min 65535 (n / 16000000))
    if 256 * 16000000 < n then d.raise Ev.VEN_OVERCOMMIT c else d)

/-! ### Commands (R236) -/

/-- A VEN command of window `w`: DOMAIN (1) outside its contexts; the answer of `f` is the result. -/
def Dev.venWindow (d : Dev) (q : Requester) (w : Nat) (v : Word) (f : Nat → Dev → Dev × Nat) : Dev :=
  d.window q 41 w none (fun _ d =>
    let i := wfld v 8 0
    let p := if w ≠ 0 ∧ d.venDomain i ≠ w then (d, 1) else f i d
    p.1.setReg (Reg.VEN_CMD_STAT w) (w32 p.2))

/-- VEN_READ_ACTIVE. -/
def venReadActiveEffect (q : Requester) (w : Nat) (v : Word) (d : Dev) : Dev :=
  d.venWindow q w v (fun i d => (d.setRegsNat (Reg.VEN_REC w 0) (d.nrec i) 32, 0))

/-- VEN_READ_ACTIVE (R236). -/
def execVenReadActive (q : Requester) (w : Fin 16) (v : Word) (s : State) : Host.Outcome State Fault Refusal :=
  s.run (venReadActiveEffect q w v)

/-- VEN_READ_SHADOW. -/
def venReadShadowEffect (q : Requester) (w : Nat) (v : Word) (d : Dev) : Dev :=
  d.venWindow q w v (fun i d => (d.setRegsNat (Reg.VEN_REC w 0) (venCfg.view (d.nrec i) (tat 0 d.ven.recSh i)) 32, 0))

/-- VEN_READ_SHADOW (R236). -/
def execVenReadShadow (q : Requester) (w : Fin 16) (v : Word) (s : State) : Host.Outcome State Fault Refusal :=
  s.run (venReadShadowEffect q w v)

/-- The ranges of Table 13-5 for a context that is not off. -/
def venRange (r : Nat) : Bool :=
  nCodec r == 0 || decide (nProfile r ≤ 1 ∧ rbits r 2 5 4 ≤ 2 ∧ 1 ≤ rbits r 3 7 0 ∧ rbits r 3 7 0 ≤ 6 ∧ rbits r 4 7 0 < rbits r 3 7 0 ∧
    rf r 6 2 % 2 = 0 ∧ rf r 8 2 % 2 = 0 ∧ 64 ≤ rf r 6 2 ∧ rf r 6 2 ≤ 4096 ∧ 64 ≤ rf r 8 2 ∧ rf r 8 2 ≤ 2304 ∧ 256 ≤ rf r 14 2 ∧
    rf r 14 2 ≤ 8960 ∧ rf r 24 8 % 4096 = 0)

/-- WRITE_CFG: BAD (2) for a reserved bit or a value out of range, SEALED (3) under a seal. -/
def Dev.venWriteCfg (d : Dev) (w i : Nat) : Dev × Nat :=
  let r := d.regsNat (Reg.VEN_REC w 0) 32
  if venCfg.bad r || !venRange r then (d, 2)
  else if d.sealed 41 then (d.sealDrop 41 (blockOffset (Reg.VEN_CMD w)), 3)
  else ({ d with ven := { d.ven with recSh := tset 0 d.ven.recSh i (venCfg.take (tat 0 d.ven.recSh i) r) } }, 0)

/-- VEN_WRITE_CFG. -/
def venWriteCfgEffect (q : Requester) (w : Nat) (v : Word) (d : Dev) : Dev := d.venWindow q w v (fun i d => d.venWriteCfg w i)

/-- VEN_WRITE_CFG (R236). -/
def execVenWriteCfg (q : Requester) (w : Fin 16) (v : Word) (s : State) : Host.Outcome State Fault Refusal :=
  s.run (venWriteCfgEffect q w v)

/-- ACTIVE as Table 13-6 allows it for a codec: a run of low bits for AV1, else any mask that is not zero. -/
def activeOk (codec a : Nat) : Bool := if codec = 3 then a == 1 || a == 3 || a == 7 else a != 0

/-- WRITE_LIVE: BAD for a reserved bit, ACTIVE or BUF_MS out of its range; a KEY_REQ bit of 0 leaves a pending request. -/
def Dev.venWriteLive (d : Dev) (w i : Nat) : Dev × Nat :=
  let n := d.regsNat (Reg.VEN_REC w 0) 32
  let r := d.nrec i
  let codec := if nCodec r = 0 then nCodec (tat 0 d.ven.recSh i) else nCodec r
  if venLive.bad n || !activeOk codec (rbits n 74 2 0) || decide (rf n 72 2 < 10 ∨ 2000 < rf n 72 2) then (d, 2)
  else (d.setNrec i (rsetBits (venLive.take r n) 75 2 0 (rbits r 75 2 0 ||| rbits n 75 2 0)), 0)

/-- VEN_WRITE_LIVE. -/
def venWriteLiveEffect (q : Requester) (w : Nat) (v : Word) (d : Dev) : Dev := d.venWindow q w v (fun i d => d.venWriteLive w i)

/-- VEN_WRITE_LIVE (R236). -/
def execVenWriteLive (q : Requester) (w : Fin 16) (v : Word) (s : State) : Host.Outcome State Fault Refusal :=
  s.run (venWriteLiveEffect q w v)

/-- VEN_RESET: BUF_LVL clears and a key frame is forced. -/
def venResetEffect (q : Requester) (w : Nat) (v : Word) (d : Dev) : Dev :=
  d.venWindow q w v (fun i d =>
    ((d.setNrec i (rset (d.nrec i) 100 12 0)).setNctx i { d.nctx i with due := 7 }, 0))

/-- VEN_RESET (R236). -/
def execVenReset (q : Requester) (w : Fin 16) (v : Word) (s : State) : Host.Outcome State Fault Refusal :=
  s.run (venResetEffect q w v)

end Sys2Proof.Machine
end

