-- ==== Sys2Proof/Machine/Power.lean ====
section
/-! DEFINITION. Power states (R400 to R402): what a powered-down block loses, how it returns, and SYS's reports of references and
temperature (R391, Table 23-10). -/

namespace Sys2Proof.Machine

/-! ### Free lists -/

/-- Every free list as cast-on builds it (R107), nothing held. -/
def Dev.poolsBuild (d : Dev) : Dev :=
  let d := { d with bpm := {} }
  let d := d.forEach (List.range 16) (fun d x => d.forEach (List.range 8) (fun d p => d.setFld (Reg.BPM_HELD x p) 22 0 0))
  d.forEach ((List.range 8).filter d.populated) (fun d p =>
    let n := if p = 0 then 24576 else d.fld (Reg.BPM_POOL_COUNT p) 22 0
    let d := d.setPool p { free := [(0, n)], cached := min 256 n }
    (((d.setFld (Reg.BPM_FREE p) 22 0 n).setFld (Reg.BPM_MIN_FREE p) 22 0 n).setFld (Reg.BPM_LEVEL p) 1 0 0).relevel p)

/-! ### Blocks that power down (Table 23-8) -/

/-- The video blocks stop: their memories are lost (R401), their enables act as written 0, the registers that hold the enables
keep their values. -/
def Dev.videoDown (d : Dev) : Dev :=
  let cis := d.cmp.cis.map (fun e => (e.1, ({ commitAt := e.2.commitAt } : Ci)))
  let d := d.forEach [0, 1] (fun d o => (d.dpEnter o 0).setPanic (6 + o) false)
  let d := d.setPanic 5 false
  { d with vde := {}, ven := {}, sqs := {}, busy := [], dpo := [], cmp := { cis := cis.filter (fun e => e.2 != {}) } }

/-- The video blocks return: enables act as written again. -/
def Dev.videoUp (d : Dev) : Dev := d.cmpSwap.forEach [0, 1] (fun d o => if d.bit (Reg.DPO_CTL o) 0 then d.dpOn o else d)

/-- A core halted with an empty memory (R161, R401). -/
def Dev.coreCold (d : Dev) (n : Nat) : Dev := (d.setCore n {}).setFld (Reg.DSP_CORE_STAT (n / 16) (n % 16)) 26 24 6

/-- The blocks of the second row of Table 23-8 stop (R401) (assumption 18). -/
def Dev.mediaDown (d : Dev) : Dev :=
  let d := d.forEach (List.range 8) (fun d p =>
    let en := d.bit (Reg.NET_PORT_CTL p) 0
    (if en then d.portOff p else d).setBit (Reg.NET_PORT_CTL p) 0 en)
  let d := d.storeLost
  let d := d.forEach (List.range 16) (fun d x => d.cqSet x [])
  let held := d.hst.held.map (fun e => (e.1, e.2.map (fun h => { h with share := false })))
  let d := { d with
    cls := { key := d.cls.key }, ing := {}, cip := { stage := d.cip.stage, serial := d.cip.serial }, fwd := {}, leg := {}
    egs := {}, hok := {}, dsp := {}, cab := {}, jbf := {}, bpm := {}, hst := { d.hst with held := held } }
  d.forEach (List.range 96) Dev.coreCold

/-- They return: free lists are built, ports retrain (R401) (assumption 18). -/
def Dev.mediaUp (d : Dev) : Dev :=
  d.poolsBuild.forEach (List.range 8) (fun d p =>
    if d.bit (Reg.NET_PORT_CTL p) 0 then (d.setBit (Reg.NET_PORT_CTL p) 0 false).portOn p else d)

/-- What P3 stops beyond P2: every clock group OFF with its registers kept, the copies a swatch made, the timestamp FIFOs; the
level is NONE and the challenge invalid (Table 21-5) (assumption 18). -/
def Dev.restDown (d : Dev) : Dev :=
  let d := d.forEach ((List.range 32).filter (fun k => d.grpState k != 0)) Dev.grpOff
  let d := d.forEach (List.range 8) (fun d p => d.setStamps p [])
  let d := { d with swt := { d.swt with copy := [], cntCopy := [], timCopy := {}, egsCopy := {}, taken := false } }
  d.chalOff.moveLevel 0

/-- The return from P3: groups reacquire, the level is the one after reset (assumption 18). -/
def Dev.restUp (d : Dev) : Dev :=
  let d := d.forEach ((List.range 32).filter (fun k => d.bit (Reg.FLD_CG_CTL k) 0)) Dev.grpOn
  d.moveLevel d.freshLevel

/-- A power state shown. -/
def Dev.showPower (d : Dev) (st : Nat) : Dev := (d.setFld Reg.SYS_PWR_STAT 1 0 st).setFld Reg.SEC_LC_STAT 13 12 st

/-- Blocks stop on the way from the present state down to `st`. -/
def Dev.powerDown (d : Dev) (st : Nat) : Dev :=
  let old := d.power
  let d := if old < 1 ∧ 1 ≤ st then d.videoDown else d
  let d := if old < 2 ∧ 2 ≤ st then d.mediaDown else d
  (if old < 3 ∧ 3 ≤ st then d.restDown else d).showPower st

/-- Blocks return on the way from the present state up to `st`. -/
def Dev.powerUp (d : Dev) (st : Nat) : Dev :=
  let old := d.power
  let d := d.showPower st
  let d := if old = 3 then d.restUp else d
  let d := if 2 ≤ old ∧ st < 2 then d.mediaUp else d
  if 1 ≤ old ∧ st < 1 then d.videoUp else d

/-! ### Commands (Table 23-7) -/

/-- A transition runs. -/
def Dev.powerBusy (d : Dev) : Bool := d.bit Reg.SYS_PWR_STAT 31

/-- A transition starts: blocks that stop do so now, blocks that return do so at its end (assumption 17). -/
def Dev.powerStart (d : Dev) (st : Nat) : Dev :=
  let old := d.power
  let d := { d with sys := { d.sys with pwrOld := old, pwrTo := st } }
  ((if old < st then d.powerDown st else d).setBit Reg.SYS_PWR_STAT 31 true).setFld Reg.SYS_PWR_STAT 6 4 0

/-- A swap is pending or settling. -/
def Dev.anySwap (d : Dev) : Bool := (List.range 3).any (fun i => d.scopeState i != 0)

/-- RESULT of a request: 0 allowed, 1 ORDER, 2 SWAP (assumption 17). -/
def Dev.powerCheck (d : Dev) (st : Nat) : Nat :=
  let old := d.power
  if old = st ∨ old = 3 then 1
  else if st = 0 then 0
  else if st = 1 then
    if old = 2 then 0
    else if d.scopeState 2 != 0 || (List.range 64).any (fun i => d.bit (Reg.CMP_COMMIT_STAT i) 31) then 2 else 0
  else if d.anySwap then 2 else 0

/-- A write of SYS_PWR_CMD with TARGET `st`: ignored while a transition runs (R402). -/
def Dev.powerCmd (d : Dev) (q : Requester) (st : Nat) : Dev :=
  d.sd0 q 0 (fun d =>
    if d.powerBusy then d
    else
      let r := d.powerCheck st
      if r ≠ 0 then (d.setFld Reg.SYS_PWR_STAT 6 4 r).raise Ev.SYS_PWR_REFUSED 0 0 [b8 r]
      else if st = 3 then
        { (d.setBit Reg.SYS_PWR_STAT 31 true).setFld Reg.SYS_PWR_STAT 6 4 0 with sys := { d.sys with d3wait := true } }
      else d.powerStart st)

/-- PWR_CMD_P0. -/
def pwrCmdP0Effect (q : Requester) (d : Dev) : Dev := d.powerCmd q 0

/-- PWR_CMD_P0 (R400). -/
def execPwrCmdP0 (q : Requester) (s : State) : Host.Outcome State Fault Refusal := s.run (pwrCmdP0Effect q)

/-- PWR_CMD_P1. -/
def pwrCmdP1Effect (q : Requester) (d : Dev) : Dev := d.powerCmd q 1

/-- PWR_CMD_P1 (R400). -/
def execPwrCmdP1 (q : Requester) (s : State) : Host.Outcome State Fault Refusal := s.run (pwrCmdP1Effect q)

/-- PWR_CMD_P2. -/
def pwrCmdP2Effect (q : Requester) (d : Dev) : Dev := d.powerCmd q 2

/-- PWR_CMD_P2 (R400). -/
def execPwrCmdP2 (q : Requester) (s : State) : Host.Outcome State Fault Refusal := s.run (pwrCmdP2Effect q)

/-- PWR_CMD_P3: the entry waits for D3hot (assumption 17). -/
def pwrCmdP3Effect (q : Requester) (d : Dev) : Dev := d.powerCmd q 3

/-- PWR_CMD_P3 (R400). -/
def execPwrCmdP3 (q : Requester) (s : State) : Host.Outcome State Fault Refusal := s.run (pwrCmdP3Effect q)

/-- PF_D3HOT: the entry to P3 that waits goes on. -/
def pfD3hotEffect (d : Dev) : Dev := if d.sys.d3wait then { d with sys := { d.sys with d3wait := false } }.powerStart 3 else d

/-- PF_D3HOT (R400). -/
def execPfD3hot (s : State) : Host.Outcome State Fault Refusal := s.run pfD3hotEffect

/-- WAKE: from P3 to WAKE_TO, when its source is enabled; the reserved code acts as P0. -/
def wakeEffect (pcie : Bool) (d : Dev) : Dev :=
  if d.power = 3 ∧ d.powerBusy = false ∧ d.bit Reg.SYS_PWR_CFG (if pcie then 0 else 1) = true then
    d.powerStart (d.fld Reg.SYS_PWR_CFG 5 4 % 3)
  else d

/-- WAKE (R400). -/
def execWake (pcie : Bool) (s : State) : Host.Outcome State Fault Refusal := s.run (wakeEffect pcie)

/-- SYS_PWR_DONE: blocks that return have returned, BUSY clears (R402) (assumption 17). -/
def sysPwrDoneEffect (d : Dev) : Dev :=
  if d.powerBusy = false ∨ d.sys.d3wait = true then d
  else
    let d := if d.sys.pwrTo < d.power then d.powerUp d.sys.pwrTo else d
    (d.setBit Reg.SYS_PWR_STAT 31 false).raise Ev.SYS_PWR_DONE 0 0 [b8 d.sys.pwrOld, b8 d.sys.pwrTo]

/-- SYS_PWR_DONE (R402). -/
def execSysPwrDone (s : State) : Host.Outcome State Fault Refusal := s.run sysPwrDoneEffect

/-! ### References and temperature -/

/-- Ports whose lanes take their reference from SDSREF0 or SDSREF1 (R68) (assumption 115). -/
def Dev.refPorts (d : Dev) (ref : Nat) : List Nat :=
  let half := if d.fld Reg.NET_LANE_MODE 1 0 = 0 then 2 else 4
  (List.range half).map (fun i => if ref = 1 then i else half + i)

/-- SYS_REF_LOST: 1 and 2 are SDSREF0 and SDSREF1, 3 is PCIE_REFCLK; a stop of SYSREF is the monitor's (R377) (assumption 115). -/
def sysRefLostEffect (ref : Nat) (d : Dev) : Dev :=
  if ref = 0 ∨ d.bit Reg.SYS_CLK_STAT (8 + ref) = false then d
  else
    let d := (d.setBit Reg.SYS_CLK_STAT (8 + ref) false).raise Ev.SYS_REF_LOST 0 0 [b8 (8 + ref)]
    if ref = 3 then hstLinkEffect 0 d
    else d.forEach (d.refPorts ref) (fun d p => linkDownEffect p 0 (d.bit (Reg.NET_PORT_STAT p) 6) true d)

/-- SYS_REF_LOST (R391). -/
def execSysRefLost (ref : Fin 4) (s : State) : Host.Outcome State Fault Refusal := s.run (sysRefLostEffect ref)

/-- SYS_TEMP_WARN: the hottest sensor reads `tj`; the event is raised when it rises through TEMP_WARN (assumption 115). -/
def sysTempWarnEffect (tj : BitVec 16) (d : Dev) : Dev :=
  let limit := sInt 16 (d.fld Reg.SYS_TEMP_WARN 15 0)
  let old := sInt 16 (d.fld Reg.SYS_TEMP 15 0)
  let d := d.setFld Reg.SYS_TEMP 15 0 tj.toNat
  if old < limit ∧ limit ≤ tj.toInt then d.raise Ev.SYS_TEMP_WARN 0 else d

/-- SYS_TEMP_WARN. -/
def execSysTempWarn (tj : BitVec 16) (s : State) : Host.Outcome State Fault Refusal := s.run (sysTempWarnEffect tj)

end Sys2Proof.Machine
end

