-- ==== Sys2Proof/Machine/Reset.lean ====
section
/-! DEFINITION. Resets (R393 to R395), cast-on (R396 to R399), secure boot (R364, R365), life-cycle changes (R360 to R362) and the
security monitor (R377). -/

namespace Sys2Proof.Machine

/-! ### What a reset leaves -/

/-- What no reset of the device touches: OTP, NAND, device DRAM, and what stands outside it (host memory, messages and frames
already sent) with the model's own records (assumption 9). -/
def Dev.lasting (d : Dev) : Dev :=
  { dram := d.dram, nand := d.nand
    sec := { otp := d.sec.otp, lcDone := d.sec.lcDone, monTrip := d.sec.monTrip }
    sys := { pinLow := d.sys.pinLow, thermal := d.sys.thermal, scope := d.sys.scope, wipe := d.sys.wipe }
    tim := { free := d.tim.free, reported := d.tim.reported }
    hst := { hostMem := d.hst.hostMem, msgs := d.hst.msgs }
    net := { sent := d.net.sent, pfcSent := d.net.pfcSent } }

/-- A reset of scope `scope` (2 Warm, 3 Cold, 4 Power-on) whose cause is bit `bit` of SYS_RST_STAT (Tables 23-4, 23-5); the wider
scope of two resets applies (R395). A power-on resets the always-on domain too, and DRAM has lost its contents
(assumptions 1, 9) (assumptions 1, 9). -/
def Dev.resetTo (d : Dev) (scope bit : Nat) : Dev :=
  let d := d.storeLost
  let x := d.lasting
  let x := { x with sys := { x.sys with scope := max scope d.sys.scope } }
  if scope = 4 then { x with dram := [], sec := { x.sec with monTrip := false } }
  else ((x.setReg Reg.SYS_RST_STAT (d.reg Reg.SYS_RST_STAT)).setReg Reg.SEC_MON_STAT (d.reg Reg.SEC_MON_STAT)).setBit
    Reg.SYS_RST_STAT bit true

/-! ### Step 1: OTP and life cycle -/

/-- A seed row with every bit programmed. -/
def seedGone : Nat := 2 ^ 256 - 1

/-- LC bits programmed. -/
def Dev.setLc (d : Dev) (n : Nat) : Dev := d.setOtp (fun o => { o with lc := n })

/-- A change that power cut between its steps 2 and 3 goes on (R361). -/
def Dev.lcResume (d : Dev) : Dev :=
  let lc := d.sec.otp.lc
  if lc < 4 ∧ tat 0 d.sec.otp.seeds lc = seedGone then
    { (d.setLc (lc + 1)) with sys := { d.sys with wipe := true }, sec := { (d.setLc (lc + 1)).sec with lcDone := some (lc, lc + 1) } }
  else d

/-- The seed row of the state is programmed at its first cast-on, and the record key derived (R362). -/
def Dev.recordKeyLoad (d : Dev) : Dev :=
  let e := d.sec.otp.lc
  if 4 ≤ e then d
  else
    let d := if tat 0 d.sec.otp.seeds e = 0 then
        let (l, d) := d.random 32
        d.setOtp (fun o => { o with seeds := tset 0 o.seeds e (leNat l) })
      else d
    let m := leBytes 32 (tat 0 d.sec.otp.seeds e) ++ [0x4D, 0x56, 0x39, 0x36, 0x52, 0x45, 0x43, b8 e]
    { d with sec := { d.sec with recordKey := leNat ((sha384 m).take 32) } }

/-- STATE, EPOCH and LEVEL as a cast-on finds them. -/
def Dev.lcShow (d : Dev) : Dev :=
  let e := min 4 d.sec.otp.lc
  let d := (d.setFld Reg.SEC_LC_STAT 2 0 e).setFld Reg.SEC_LC_STAT 7 4 (if e = 4 then 15 else e)
  (d.setLevel d.freshLevel).showOtp

/-- A step of cast-on has ended (SYS_CASTON.STEP, SYS_STEP_Tk). -/
def Dev.stepEnd (d : Dev) (env : BootEnv) (k : Nat) : Dev :=
  (d.setFld Reg.SYS_CASTON 11 8 (min 11 (k + 1))).setReg (Reg.SYS_STEP_T (k - 1)) (w32 (env.steps.getD (k - 1) 0))

/-- Cast-on waits or stops at a step, with a cause (assumption 13). -/
def Dev.castStop (d : Dev) (step cause : Nat) : Dev :=
  ((d.setFld Reg.SYS_CASTON 11 8 step).setFld Reg.SYS_CASTON 7 0 cause).setBit Reg.SYS_CASTON 30 (cause != 1)

/-! ### Step 4: checks -/

/-- The firmware image in the staging area, by IMAGE_LEN (R397). -/
def Dev.stagedFw (d : Dev) : List Byte := memRead d.sram 0x1000 (min (leNat (memRead d.sram 0x1008 4)) (2 ^ 23 - 4096))

/-- The pattern in the staging area. -/
def Dev.stagedPat (d : Dev) : List Byte := memRead d.sram 0x800000 (min (leNat (memRead d.sram 0x800008 4)) (2 ^ 24))

/-- Entry `k` of the manifest. -/
def Dev.manifest (d : Dev) (k : Nat) : List Byte := memRead d.sram (96 * k) 96

/-- The manifest holds no key. -/
def Dev.noManifest (d : Dev) : Bool := (List.range 9).all (fun k => (d.manifest k).all (fun b => b == 0))

/-- Entries whose digest OTP holds and whose REVOKE bit is clear are accepted (R364). -/
def Dev.acceptKeys (d : Dev) : Dev :=
  d.forEach (List.range 9) (fun d k =>
    let m := d.manifest k
    let ok := m.any (fun b => b != 0) && decide (k ∈ d.sec.otp.hashSet) && leNat (sha384 m) == tat 0 d.sec.otp.keyHash k &&
      (k == 8 || !d.sec.otp.revoke.testBit k)
    let d := if k = 8 then d.setBit Reg.SEC_FLOORS 15 ok else d.setBit Reg.SEC_FLOORS (16 + k) ok
    if ok then { d with sec := { d.sec with keys := tset [] d.sec.keys k m } } else d)

/-- The header of a firmware image (R398). -/
def fwHeaderOk (f : List Byte) : Bool :=
  leAt f 0 4 == 0x5746564D && leAt f 4 2 == 1 && leAt f 6 2 == 0x80 && leAt f 8 4 == f.length && decide (224 ≤ f.length) &&
  leAt f 12 2 == 0 && leAt f 14 2 == 0 && leAt f 16 2 == 0x9600 && decide (leAt f 18 2 ≤ 0x00A1) &&
  (f.drop 48).take 48 == List.replicate 48 0

/-- SEC_BOOT_STAT.CAUSE of the checks of step 4: 0 OK, 1 firmware signature, 2 firmware rollback, 3 pattern, 4 manifest missing,
5 no image (assumption 13). -/
def Dev.bootCause (d : Dev) : Nat :=
  let f := d.stagedFw
  let p := d.stagedPat
  if (d.strict 0 || d.strict 4) && d.noManifest then 4
  else if fwHeaderOk f = false then 5
  else if d.strict 0 ∧ imageVersion f < d.sec.otp.fwFloor then 2
  else if d.strict 0 ∧ d.signatureOk 0 (leAt f 24 2) f = false then 1
  else if imageKind p ≠ 0 ∨ d.imageCheck p ≠ 0x0A then 3
  else 0

/-- The checks of step 4; `push` says that the host pushed the images (assumption 13). -/
def Dev.bootCheck (d : Dev) (push : Bool) : Nat × Dev :=
  let d := { d with sec := { d.sec with keys := [] } }.acceptKeys
  let c := d.bootCause
  let f := d.stagedFw
  let p := d.stagedPat
  let w := c + 64 * push.toNat + 256 * (leAt f 24 2 % 4) + 1024 * (leAt p 24 2 % 4)
  let d := d.setReg Reg.SEC_BOOT_STAT (w32 w)
  (c, { d with sec := { d.sec with
    fwKey := if d.strict 0 then some (leAt f 24 2) else none, patKey := if d.strict 4 then some (leAt p 24 2) else none } })

/-! ### Steps 5 to 10 -/

/-- Bind-off (R373): memories and both sets of every block are zero; SYS, SEC and the PCIe core stay as they are. -/
def Dev.bindOff (d : Dev) : Dev :=
  { d.lasting with
    regs := d.regs.filter (fun e => decide (regionOf e.1 ≤ 1) || e.1 == Reg.HST_LINK_STAT)
    sram := d.sram, sec := d.sec, sys := { d.sys with structOpen := true }, hst := d.hst, swt := { early := d.swt.early } }

/-- Step 6: the isolation link trains, unless the board has no field audio (assumption 12). -/
def Dev.linkTrain (d : Dev) (env : BootEnv) (absent : Bool) : Dev :=
  if absent then { d with sys := { d.sys with linkLate := false } }
  else if env.fldUp then { d.setFld Reg.FLD_LINK_STAT 8 0 0x1FF with sys := { d.sys with linkLate := false } }
  else { d with sys := { d.sys with linkLate := true } }

/-- Step 7: every controller that the fixed sections populate trains (R307). -/
def Dev.dramTrain (d : Dev) (env : BootEnv) (populated : List Nat) : Dev :=
  d.forEach populated (fun d k =>
    if k ∈ env.trainFail.map (fun x => x.val) then
      let (z, d) := d.draw
      ((d.setFld (Reg.DMC_STAT k) 1 0 3).setFld (Reg.DMC_STAT k) 31 24 (Config.failLanes z).toNat).raise Ev.DMC_TRAIN_FAIL k
    else d.setFld (Reg.DMC_STAT k) 1 0 2)

/-- DRAM after training: wiped when due, otherwise kept but for the training area (Table 23-5) (assumption 9). -/
def Dev.dramAfter (d : Dev) : Dev :=
  if d.sys.wipe ∨ (3 ≤ d.sys.scope ∧ d.sec.otp.bootCfg.testBit 1) then { d with dram := [] }
  else { d with dram := memZero d.dram 0 0x100000 }

/-- A write of an image to block 61 is dropped on a board without field audio, and dropped and counted while the link is down
(R215, R390). -/
def Dev.imageWrite (absent : Bool) (put : Dev → Nat → Word → Dev) (d : Dev) (p : Nat × Word) : Dev :=
  if regionOf p.1 ≠ 61 then put d p.1 p.2
  else if absent then d
  else if d.linkUp then put d p.1 p.2
  else d.count Reg.FLD_LINK_LOST_WR

/-- Step 8: the fixed sections are applied, and structural registers become read-only (R26). -/
def Dev.fixedApply (d : Dev) (absent : Bool) (img : List Byte) : Dev :=
  let w := runWrites ((classRuns img 0).getD []).flatten
  let d := d.forEach w (Dev.imageWrite absent (fun d a v => d.setReg a (w32 (v.toNat &&& (regRow a).elim 0 RegRow.mask))))
  let d := d.setRegsNat (Reg.PAT_FIXED_DIGEST 0) (leNat (fixedDigest img)) 12
  { d with sys := { d.sys with structOpen := false } }

/-- Every SH register. -/
def isSh (a : Nat) : Bool := (regRow a).any (fun r => r.ty == .SH)

/-- Step 9: the live sections fill the shadow sets, every shadow becomes active, generations are 1 (R29). -/
def Dev.liveApply (d : Dev) (absent : Bool) (img : List Byte) : Dev :=
  let d := d.forEach (runWrites ((classRuns img 1).getD []).flatten) (Dev.imageWrite absent Dev.livePut)
  let old := d
  let d := { d with regs := swapCopy d.regs d.shadow isSh }
  let d := (((d.setFld Reg.PAT_GEN_AUD 15 0 1).setFld Reg.PAT_GEN_NET 15 0 1).setFld Reg.PAT_GEN_VID 15 0 1).setFld Reg.PAT_GEN_FLD 15 0 1
  let d := if absent then d else d.setFld Reg.FLD_SEL_GEN 15 0 1
  let d := (d.setRegsNat (Reg.PAT_PATTERN_DIGEST 0) (leNat (sha384 (imageBody img))) 12).setReg Reg.PAT_SEC_VERSION (w32 (imageVersion img))
  (Dev.cabSwap old d).cmpSwap.slipCheck old.regs

/-- LOAD_ADDR and ENTRY of a firmware image, and the length of its body (R398). -/
def fwPlace (f : List Byte) : Nat × Nat × Nat := (leAt f 96 8, leAt f 104 8, f.length - 224)

/-- The whole copy lies in one general carve-out of SD0, and ENTRY within the copy (R398). -/
def Dev.fwFits (d : Dev) (f : List Byte) : Bool :=
  let p := fwPlace f
  decide (p.1 < 2 ^ 36 ∧ p.1 % 4096 = 0 ∧ p.2.1 % 4 = 0 ∧ p.1 ≤ p.2.1 ∧ p.2.1 < p.1 + p.2.2) && d.inGeneral 0 p.1 p.2.2

/-- The firmware is copied to where its header says; control core 0 starts at its entry (R398). -/
def Dev.fwCopy (d : Dev) (f : List Byte) : Dev :=
  let p := fwPlace f
  let d := (d.dramPut 14 0 p.1 ((f.drop 128).take p.2.2)).setReg Reg.SEC_FW_VERSION (w32 (imageVersion f))
  { d with sys := { d.sys with fwLoad := p.1, fwEntry := p.2.1 } }

/-- Step 10: Vadjaryn loads the P memories and writes RELEASE (R161). -/
def Dev.dspLoad (d : Dev) (env : BootEnv) : Dev :=
  let d := d.forEach (List.range 96) Dev.coreCold
  let d := d.forEach env.pmem (fun d e => d.setCore e.1 { d.core e.1 with p := memWrite [] 0 e.2 })
  d.forEach (List.range 96) Dev.releaseCore

/-! ### Step 11 -/

/-- The ESN base and its reservation (R66). -/
def Dev.esnStart (d : Dev) (base : Nat) : Dev :=
  let d := (d.setReg64 Reg.TIM_ESN_BASE_LO Reg.TIM_ESN_BASE_HI base).setReg64 Reg.TIM_ESN_RESV_LO Reg.TIM_ESN_RESV_HI (base + 2 ^ 44)
  { d with tim := { d.tim with esn := base, limit := base + 2 ^ 44, low := true, pastLimit := true } }

/-- Records of the early buffer take their ESNs in the order they were raised (R399) (assumption 5). -/
def Dev.earlyIssue (d : Dev) : Dev :=
  let l := d.swt.early ++ d.tim.queue
  ({ d with tim := { d.tim with queue := l.take 64 }, swt := { d.swt with early := [] } } : Dev).issue 64

/-- Fingerprint secrets of the domains (R96): 16 random bytes each (assumption 110). -/
def Dev.secretsDraw (d : Dev) : Dev :=
  d.forEach (List.range 16) (fun d x =>
    let (l, d) := d.random 16
    { d with cip := { d.cip with secrets := tset 0 d.cip.secrets x (leNat l) } })

/-- What is reported at READY: SYS_READY, the end of a life-cycle change (R361), a monitor reset (R377), a link that did not come
up (R399). -/
def Dev.readyReports (d : Dev) : Dev :=
  let d := d.raise Ev.SYS_READY 0 0 (leBytes 2 (d.reg Reg.SYS_RST_STAT).toNat)
  let d := match d.sec.lcDone with
    | some (a, b) => d.raise Ev.SEC_LC_DONE 0 0 [b8 a, b8 b]
    | none => d
  let d := if d.sec.monTrip then d.raise Ev.SEC_MON_TRIP 0 else d
  let d := if d.sys.linkLate then d.raise Ev.FLD_LINK_DOWN 0 else d
  { d with sec := { d.sec with lcDone := none, monTrip := false }, sys := { d.sys with linkLate := false, scope := 0, wipe := false } }

/-- Step 11 (Table 23-6). -/
def Dev.makeReady (d : Dev) (env : BootEnv) : Dev :=
  let d := d.esnStart env.esnBase.toNat
  let d := ({ d with cls := { d.cls with key := env.hashKey.toNat }, sram := [] } : Dev).secretsDraw.poolsBuild
  let d := d.earlyIssue
  (((d.stepEnd env 11).setBit Reg.SYS_CASTON 31 true).readyReports)

/-! ### Cast-on -/

/-- Steps 5 to 11, on images that step 4 has accepted (assumptions 12, 14). -/
def Dev.castBuild (d : Dev) (env : BootEnv) : Dev :=
  let f := d.stagedFw
  let img := d.stagedPat
  let m := imageWrites [] (runWrites ((classRuns img 0).getD []).flatten)
  let absent := iFld m Reg.SYS_CFG 0 0 == 1
  let populated := (List.range 8).filter (fun k => iFld m (Reg.DMC_CFG k) 31 31 == 1)
  let d := d.bindOff.stepEnd env 5
  let d := (d.linkTrain env absent).stepEnd env 6
  let d := d.dramTrain env populated
  if populated.any (fun k => k ∈ env.trainFail.map (fun x => x.val)) then d.castStop 7 3
  else
    let d := (d.dramAfter.stepEnd env 7).fixedApply absent img
    let d := (d.stepEnd env 8).liveApply absent img
    if d.fwFits f then ((((d.fwCopy f).stepEnd env 9).dspLoad env).stepEnd env 10).makeReady env
    else { (d.castStop 9 4) with sram := [] }

/-- Step 4 and what follows it (assumption 14). -/
def Dev.castCheck (d : Dev) (env : BootEnv) (push : Bool) : Dev :=
  let (c, d) := d.bootCheck push
  if c = 0 then (d.stepEnd env 4).castBuild env else { (d.castStop 4 2) with sram := [] }

/-- The items the NOR holds, in the staging area. -/
def Dev.stage (d : Dev) (items : List Byte × List Byte × List Byte) : Dev :=
  let m := memWrite (memWrite [] 0 (items.1.take 4096)) 0x1000 (items.2.1.take (2 ^ 23 - 4096))
  { d with sram := memWrite m 0x800000 (items.2.2.take (2 ^ 24)) }

/-- The NOR holds a firmware image. -/
def norItems (env : BootEnv) : Option (List Byte × List Byte × List Byte) :=
  env.nor.filter (fun x => leAt x.2.1 0 4 == 0x5746564D)

/-- Cast-on from step 1 (Table 23-6): it reaches READY, or waits (SYS_CASTON) (assumptions 11, 12). -/
def Dev.castOn (d : Dev) (env : BootEnv) : Dev :=
  let d := (d.setReg Reg.SYS_CLK_STAT 0xFFF).setBit Reg.SEC_RNG_STAT 0 true
  let d := d.setReg Reg.HST_LINK_STAT (if env.hostLink then 0x8511 else 0)
  let d := d.lcResume.recordKeyLoad.lcShow.stepEnd env 1
  let d := { d with sram := [] }.stepEnd env 2
  match (if d.sec.otp.bootCfg.testBit 0 && env.hostLink then none else norItems env) with
  | some x => ((d.stage x).stepEnd env 3).castCheck env false
  | none => d.castStop 3 1

/-- Cast-on starts unless RESET_N is low or Tj is too high (Table 23-4) (assumption 11). -/
def Dev.castMay (d : Dev) (env : BootEnv) : Dev := if d.sys.pinLow ∨ d.sys.thermal then d else d.castOn env

/-! ### Reset sources (Table 23-4) -/

/-- POWER_ON_RESET (assumption 1). -/
def powerOnResetEffect (env : BootEnv) (d : Dev) : Dev :=
  let d := d.resetTo 4 0
  ({ d with sys := { d.sys with pinLow := false, thermal := false } } : Dev).castOn env

/-- POWER_ON_RESET (R393): VDD_AON rises and cast-on runs. -/
def execPowerOnReset (boot : BootEnv) (s : State) : Host.Outcome State Fault Refusal := s.run (powerOnResetEffect boot)

/-- RESET_PIN: the device is held in a cold reset. -/
def resetPinEffect (d : Dev) : Dev :=
  let d := d.resetTo 3 1
  { d with sys := { d.sys with pinLow := true } }

/-- RESET_PIN (R393). -/
def execResetPin (s : State) : Host.Outcome State Fault Refusal := s.run resetPinEffect

/-- RESET_N_RELEASE: the hold of the pin ends; a device whose cast-on has not started starts it (assumption 11). -/
def resetNReleaseEffect (env : BootEnv) (d : Dev) : Dev :=
  if d.sys.pinLow ∨ d.fld Reg.SYS_CASTON 11 8 = 0 then { d with sys := { d.sys with pinLow := false } }.castMay env else d

/-- RESET_N_RELEASE (R396). -/
def execResetNRelease (boot : BootEnv) (s : State) : Host.Outcome State Fault Refusal := s.run (resetNReleaseEffect boot)

/-- THERMAL_TRIP: the device is held in a cold reset, SYS_THERMTRIP_N low. -/
def thermalTripEffect (d : Dev) : Dev :=
  let d := d.resetTo 3 9
  { d with sys := { d.sys with thermal := true } }

/-- THERMAL_TRIP (R393). -/
def execThermalTrip (s : State) : Host.Outcome State Fault Refusal := s.run thermalTripEffect

/-- THERMAL_TRIP_END: the thermal hold ends and SYS_THERMTRIP_N is released. -/
def thermalTripEndEffect (env : BootEnv) (d : Dev) : Dev :=
  if d.sys.thermal then { d with sys := { d.sys with thermal := false } }.castMay env else d

/-- THERMAL_TRIP_END (R393). -/
def execThermalTripEnd (boot : BootEnv) (s : State) : Host.Outcome State Fault Refusal := s.run (thermalTripEndEffect boot)

/-- A write of SYS_RST_CMD by SD0: ignored without the key; COLD wins over WARM. -/
def Dev.rstCmd (d : Dev) (q : Requester) (v : Word) (env : BootEnv) : Dev :=
  d.sd0 q 0 (fun d =>
    if wfld v 31 16 ≠ 0xA5C3 then d
    else if wbit v 0 then (d.resetTo 3 3).castMay env
    else if wbit v 1 then (d.resetTo 2 4).castMay env
    else d)

/-- RST_CMD_COLD. -/
def rstCmdColdEffect (q : Requester) (v : Word) (env : BootEnv) (d : Dev) : Dev := d.rstCmd q v env

/-- RST_CMD_COLD (R393). -/
def execRstCmdCold (q : Requester) (v : Word) (boot : BootEnv) (s : State) : Host.Outcome State Fault Refusal :=
  s.run (rstCmdColdEffect q v boot)

/-- RST_CMD_WARM. -/
def rstCmdWarmEffect (q : Requester) (v : Word) (env : BootEnv) (d : Dev) : Dev := d.rstCmd q v env

/-- RST_CMD_WARM (R393). -/
def execRstCmdWarm (q : Requester) (v : Word) (boot : BootEnv) (s : State) : Host.Outcome State Fault Refusal :=
  s.run (rstCmdWarmEffect q v boot)

/-- The PCIe scope (Table 23-5): every ring of every domain as EN 0, MSI-X tables cleared; media keeps running (assumption 15). -/
def Dev.pcieReset (d : Dev) (env : BootEnv) : Dev :=
  let d := d.forEach (List.range 256) Dev.ringOff
  let d := d.forEach (List.range 16) Dev.clearMsix
  if env.hostLink then d else hstLinkEffect 0 d

/-- A PCIe reset source of configured scope: `code` 0 PCIe, 1 Warm, 2 Cold (3 acts as PCIe). During a cast-on that has not
reached READY it starts cast-on again (R395) (assumption 15). -/
def Dev.pcieSource (d : Dev) (code bit : Nat) (env : BootEnv) : Dev :=
  if code = 1 then (d.resetTo 2 bit).castMay env
  else if code = 2 then (d.resetTo 3 bit).castMay env
  else if d.ready then (d.setBit Reg.SYS_RST_STAT bit true).pcieReset env
  else (d.resetTo 1 bit).castMay env

/-- PCIE_PERST: before READY it holds only the PCIe core in reset. -/
def pciePerstEffect (env : BootEnv) (d : Dev) : Dev :=
  if d.ready then d.pcieSource (d.fld Reg.SYS_RST_CFG 1 0) 5 env else d.pcieReset env

/-- PCIE_PERST (R393). -/
def execPciePerst (boot : BootEnv) (s : State) : Host.Outcome State Fault Refusal := s.run (pciePerstEffect boot)

/-- PCIE_HOT_RESET. -/
def pcieHotResetEffect (env : BootEnv) (d : Dev) : Dev := d.pcieSource (d.fld Reg.SYS_RST_CFG 3 2) 6 env

/-- PCIE_HOT_RESET (R393). -/
def execPcieHotReset (boot : BootEnv) (s : State) : Host.Outcome State Fault Refusal := s.run (pcieHotResetEffect boot)

/-- PF_FLR. -/
def pfFlrEffect (env : BootEnv) (d : Dev) : Dev := d.pcieSource (d.fld Reg.SYS_RST_CFG 5 4) 7 env

/-- PF_FLR (R393). -/
def execPfFlr (boot : BootEnv) (s : State) : Host.Outcome State Fault Refusal := s.run (pfFlrEffect boot)

/-- SYS_PUSH: cast-on that waits for a push goes on at step 4 (R397, R399) (assumption 14). -/
def sysPushEffect (q : Requester) (v : Word) (env : BootEnv) (d : Dev) : Dev :=
  d.sd0 q 0 (fun d =>
    if wbit v 0 = false ∨ d.stagingOpen = false then d
    else ((d.setFld Reg.SYS_CASTON 7 0 0).setBit Reg.SYS_CASTON 30 false).castCheck env true)

/-- SYS_PUSH (R399). -/
def execSysPush (q : Requester) (v : Word) (boot : BootEnv) (s : State) : Host.Outcome State Fault Refusal :=
  s.run (sysPushEffect q v boot)

/-- SEC_MON_TRIP: the monitor resets the device (R377): 0 VDD_CORE, 1 VDD_AON, 2 SYSREF. -/
def secMonTripEffect (cause : Nat) (env : BootEnv) (d : Dev) : Dev :=
  let d := d.resetTo 3 2
  let d := (d.setBit Reg.SEC_MON_STAT cause true).setFld Reg.SEC_MON_STAT 31 24 (min 255 (d.fld Reg.SEC_MON_STAT 31 24 + 1))
  ({ d with sec := { d.sec with monTrip := true } } : Dev).castMay env

/-- SEC_MON_TRIP (R377). -/
def execSecMonTrip (cause : Fin 3) (boot : BootEnv) (s : State) : Host.Outcome State Fault Refusal :=
  s.run (secMonTripEffect cause boot)

/-! ### Life-cycle changes (R360, R361) -/

/-- What Table 21-2 asks of a change from `e` to `t`: 0 nothing more, 1 refused with ORDER, 2 with OTP, 3 a response
(assumption 112) (assumption 112). -/
def Dev.lcAsk (d : Dev) (e t : Nat) : Nat :=
  let has (l : List Nat) : Bool := l.any (fun k => decide (k ∈ d.sec.otp.hashSet))
  if e = 0 ∧ t = 1 then 0
  else if e = 1 ∧ t = 2 then (if has [8] && has [0, 1, 2, 3] && has [4, 5, 6, 7] then 0 else 2)
  else if e ≤ 1 ∧ t = 4 then 0
  else if (e = 2 ∧ t = 3) ∨ ((e = 2 ∨ e = 3) ∧ t = 4) then 3
  else 1

/-- The change sequence: seed rows and LC bits, then a cold reset that wipes DRAM (R361) (assumption 112). -/
def Dev.lcChange (d : Dev) (e t : Nat) (env : BootEnv) : Dev :=
  let rows := (List.range 4).filter (fun k => decide (e ≤ k ∧ k < t))
  let d := d.setOtp (fun o => { o with lc := t, seeds := rows.foldl (fun m k => tset 0 m k seedGone) o.seeds })
  let d := { d with sec := { d.sec with lcDone := some (e, t) }, sys := { d.sys with wipe := true } }
  (d.resetTo 3 8).castMay env

/-- The response that a change needs is verified (R367); one that is missing counts as a failure (R360) (assumption 112). -/
def Dev.lcVerify (d : Dev) (t : Nat) : Bool × Dev :=
  if d.bit Reg.SEC_DBG_STAT 30 then d.verifyResponse 1 t else (false, d.unlockFailed)

/-- A write of SEC_LC_CMD by SD0. -/
def lcCmdEffect (q : Requester) (v : Word) (env : BootEnv) (d : Dev) : Dev :=
  d.sd0 q 1 (fun d =>
    if wbit v 31 = false ∨ d.bit Reg.SEC_CMD_STAT 31 = true then d
    else
      let e := d.lcState
      let t := wfld v 2 0
      match d.lcAsk e t with
      | 0 => d.lcChange e t env
      | 3 =>
        let (ok, d) := d.lcVerify t
        if ok then d.lcChange e t env else d.secResult 3
      | r => d.secResult r)

/-- LC_CMD (R361). -/
def execLcCmd (q : Requester) (v : Word) (boot : BootEnv) (s : State) : Host.Outcome State Fault Refusal :=
  s.run (lcCmdEffect q v boot)

end Sys2Proof.Machine
end

