-- ==== Sys2Proof/Machine/Ticks.lean ====
section
/-! DEFINITION. The three ticks (R54, R59 to R63) and what each block does at them, and TIM_TICK_CTL. -/

namespace Sys2Proof.Machine

/-! ### Update ticks -/

/-- UPDATE_TICK (R54, R297): 1 µs passes, then each time base runs its limiter and every shaper gains its rate
(assumptions 2, 28) (assumptions 2, 28). -/
def updateTickEffect (d : Dev) : Dev :=
  if d.power = 3 then d
  else
    let d := (d.advance 1500).lvCommit 0x302000 0x303000
    let d := d.forEach (List.range 8) Dev.tbUpdate
    if d.power = 2 then d else d.shaperTick

/-- UPDATE_TICK. -/
def execUpdateTick (s : State) : Host.Outcome State Fault Refusal := s.run updateTickEffect

/-! ### TIM_TICK_CTL (R37, R63) -/

/-- ROW_EN and ROUND_EN take a value: a swap whose ticks stop is aborted, and an enable that is set starts afresh
(assumption 29) (assumption 29). -/
def Dev.tickCtl (d : Dev) (v : Word) : Dev :=
  let row := d.bit Reg.TIM_TICK_CTL 0
  let round := d.bit Reg.TIM_TICK_CTL 1
  let d := d.setReg Reg.TIM_TICK_CTL (w32 (wfld v 1 0))
  let d := { d with tim := { d.tim with
    rowFresh := d.tim.rowFresh || (wbit v 0 && !row)
    roundFresh := d.tim.roundFresh || (wbit v 1 && !round) } }
  let d := if row && !wbit v 0 then d.swapAbort 3 else d
  if round && !wbit v 1 then d.swapAbort 4 else d

/-- TICK_CTL_WRITE (R63), SD0 only. -/
def tickCtlWriteEffect (q : Requester) (v : Word) (d : Dev) : Dev := d.sd0 q 3 (fun d => d.tickCtl v)

/-- TICK_CTL_WRITE. -/
def execTickCtlWrite (q : Requester) (v : Word) (s : State) : Host.Outcome State Fault Refusal := s.run (tickCtlWriteEffect q v)

/-! ### The boundary -/

/-- A boundary whose tick has not run was reached less than 1 µs ago: a tick that comes now is its tick (R61) (assumption 27). -/
def Dev.justReached (d : Dev) (round : Bool) : Bool :=
  d.periods round != d.tickNow round &&
  decide ((d.tb (d.tickTb round)).time < d.boundary round (d.periods round) + 1000 * 2 ^ 40)

/-- Number of the tick that falls due (R59, R63): the one after the last, or, after a restart, that of the boundary just reached,
or else the next boundary's (assumption 27). -/
def Dev.nextTick (d : Dev) (round : Bool) : Nat :=
  if (if round then d.tim.roundFresh else d.tim.rowFresh) then
    (if d.justReached round then d.periods round else d.periods round + 1)
  else d.tickNow round + 1

/-- Time passes until the boundary that starts row or round `n` (R61) (assumption 27). -/
def Dev.toBoundary (d : Dev) (round : Bool) (n : Nat) : Dev :=
  d.advance (d.clocksTo (d.tickTb round) (d.boundary round n))

/-- What is reported at most once per row may be reported again. -/
def Dev.rowMarks (d : Dev) : Dev :=
  { d with
    bpm := { d.bpm with pools := d.bpm.pools.map (fun e => (e.1, { e.2 with noneMark := false })) }
    net := { d.net with fecMark := [] }
    cip := { d.cip with failRow := [], mismatchMark := [], noKeyMark := [], lateMark := [] }
    fwd := { d.fwd with noLayerMark := [], subBadMark := [], histMark := [] }
    egs := { d.egs with tailMark := [], gateMark := [] }
    hst := { d.hst with fullMark := [] }
    dmc := { d.dmc with denyMark := [], forcedMark := [], corrMark := [] }
    swt := { d.swt with trigMark := false }
    dsp := { d.dsp with errMark := [] } }

/-- A scope's swap reaches its boundary (assumption 29). -/
def Dev.swapDue (d : Dev) (i : Nat) : Bool := d.scopeState i == 1 && (d.reg (atReg i)).toNat == d.tick32 (i == 2)

/-- The audio swap at the tick of row T (R31, R39): the core die's blocks take the new set, or the swap aborts (assumption 29). -/
def Dev.audioBoundary (d : Dev) : Dev :=
  if d.swapDue 0 = false then d
  else if d.fldAbsent = false ∧ d.pat.acked = false then d.audioAbort
  else
    let old := d
    let d := ((d.setScope 0 2).copyRegions (coreRegion 0)).jbfSwap
    Dev.cabSwap old d

/-- The network swap at the tick of row T (R31): legs, shapers and pool levels follow the new set. -/
def Dev.networkBoundary (d : Dev) : Dev :=
  if d.swapDue 1 = false then d
  else
    let d := (((d.setScope 1 2).copyRegions (coreRegion 1)).legTables).shaperSwap
    d.forEach (List.range 8) Dev.relevel

/-! ### Row ticks -/

/-- The tick that ends a row abandons what of Cable's work is left (R181). -/
def Dev.cabEnd (d : Dev) : Dev := if d.cab.due ∧ d.power < 2 then d.mixRow 0 else d

/-- A restart that skips rows (R63, R442): the rows skipped are one overrun of Cable, reported once, and it starts clean. -/
def Dev.cabJump (d : Dev) (skipped : Nat) : Dev :=
  let m := d.mixRow 0
  let n := m.cab.undone.elim (0, 0) (fun u => (u.buses, u.outputs))
  let d := ((d.setBit Reg.CAB_STAT 0 true).count Reg.CAB_OVR_ROWS skipped).raise Ev.CAB_OVERRUN 0 0
    (leBytes 2 n.1 ++ leBytes 2 n.2)
  d.cabResume

/-- Cable at a row tick; `jump` says that it does not follow the last one. -/
def Dev.cabTick (d : Dev) (jump : Bool) (skipped : Nat) : Dev :=
  if jump then d.cabJump skipped
  else
    let row := (d.row32 + 2 ^ 32 - 1) % 2 ^ 32
    ((d.cabOverrun).cabInputs row).recordTap row

/-- The blocks at a row tick, with the rows a restart skipped. -/
def Dev.rowWork (d : Dev) (jump : Bool) (skipped : Nat) : Dev :=
  if 2 ≤ d.power then d
  else
    let d := (d.audioBoundary).networkBoundary
    let d := (d.swapCross).cabTick jump skipped
    let d := if d.fldAbsent then d.setFld Reg.PAT_GEN_FLD 15 0 d.expectedGen else d
    ((((d.fieldTick).jbfTick).nfcTick).injectTick).hookTick jump

/-- ROW_TICK (R59, R61, R63) (assumptions 2, 27). -/
def rowTickEffect (d : Dev) : Dev :=
  if d.bit Reg.TIM_TICK_CTL 0 = false ∨ d.power = 3 then d
  else
    let n := d.nextTick false
    let jump := d.tim.rowRan && n != d.tim.row + 1
    let skipped := n - d.tim.row - 1
    let d := (d.toBoundary false n).cabEnd
    let d := { d with tim := { d.tim with row := n, rowRan := true, rowFresh := false } }
    d.rowMarks.rowWork jump skipped

/-- ROW_TICK. -/
def execRowTick (s : State) : Host.Outcome State Fault Refusal := s.run rowTickEffect

/-! ### Round ticks -/

/-- The video swap at the tick of round T (R31). -/
def Dev.videoBoundary (d : Dev) : Dev :=
  if d.swapDue 2 = false then d
  else
    (((((d.setScope 2 2).copyRegions (coreRegion 2)).vdeSwap).venSwap).cmpSwap).sqsSwap.dpoSwap

/-- The video blocks at a round tick. -/
def Dev.roundWork (d : Dev) : Dev :=
  if 1 ≤ d.power then d
  else
    let d := ((d.videoBoundary.vdeRound).cmpRound).venRound.sqsRound
    d.forEach [0, 1] Dev.pullCheck

/-- ROUND_TICK (R59) (assumption 2). -/
def roundTickEffect (d : Dev) : Dev :=
  if d.bit Reg.TIM_TICK_CTL 1 = false ∨ d.power = 3 then d
  else
    let n := d.nextTick true
    let d := d.toBoundary true n
    let d := { d with
      tim := { d.tim with round := n, roundFresh := false }
      fwd := { d.fwd with keyMark := [] } }
    d.roundWork

/-- ROUND_TICK. -/
def execRoundTick (s : State) : Host.Outcome State Fault Refusal := s.run roundTickEffect

end Sys2Proof.Machine
end

