-- ==== Sys2Proof/Machine/Owners.lean ====
section
/-! DEFINITION. Whose a register is (R374, R441, R443, Table 21-7), what an access by another domain raises, and which unit's
register set holds it (R8, Table 02-5). -/

namespace Sys2Proof.Machine

/-- Whose a register is: every accessor's, SD0's to write and everyone's to read, one domain's to read and SD0's to
write, one domain's, or packed from fields of `width` bits with a domain each, lowest field first (R441). -/
inductive Holder where
  | all
  | shared
  | readBy (w : Nat)
  | of (w : Nat)
  | packed (width : Nat) (doms : List Nat)
  deriving DecidableEq, Repr

/-- Command windows: BAR0 address of domain 0's, and the stride to the next. -/
def windowBases : List (Nat × Nat) :=
  [(0xA01000, 64), (0xF01000, 64), (0xC01000, 128), (0xE03000, 128), (0x140C000, 128), (0x2201000, 128), (0x2301000, 128),
   (0x2401000, 128), (0x2801000, 256), (0x2901000, 256), (0x2C01000, 256), (0x3801000, 128)]

/-- The command window that holds an address: its domain, and the offset within it. -/
def windowOf (a : Nat) : Option (Nat × Nat) :=
  (windowBases.find? (fun w => decide (w.1 ≤ a ∧ a < w.1 + 16 * w.2))).map (fun w => ((a - w.1) / w.2, (a - w.1) % w.2))

/-- Element of an array of `n` elements that holds an address. -/
def elem (a base stride n : Nat) : Option Nat := if base ≤ a ∧ a < base + stride * n then some ((a - base) / stride) else none

/-- A register of eight fields of four bits, each the domain of its unit. -/
def Dev.domFields (d : Dev) (a : Nat) : Holder := .packed 4 ((List.range 8).map (fun i => wfld (d.reg a) (4 * i + 3) (4 * i)))

/-- Registers of HST (chapter 20). -/
def Dev.hstHolder (d : Dev) (a : Nat) : Holder :=
  if a = Reg.HST_LINK_STAT ∨ a = Reg.HST_BAR2_SIZE then .shared
  else match elem a (Reg.HST_RING_BASE_LO 0 0) 1024 16, elem a (Reg.HST_EXC_MAP 0) 4 16, elem a (Reg.HST_MIR_IN 0) 4 512 with
    | some x, _, _ => .of x
    | _, some x, _ => .of x
    | _, _, some k => .packed 1 ((List.range 32).map (fun i => d.legDomain (32 * (k % 256) + i)))
    | none, none, none => .of 0

/-- Registers of BPM (R443). -/
def bpmHolder (a : Nat) : Holder :=
  if a < Reg.BPM_QUOTA 0 0 then .shared
  else match elem a (Reg.BPM_QUOTA 0 0) 64 16 with
    | some x => .readBy x
    | none => .of 0

/-- Registers of EGS (chapter 17): leg sets, group sets, and the rest. -/
def Dev.egsHolder (d : Dev) (a : Nat) : Holder :=
  match elem a (Reg.EGS_LG_CFG 0) 64 1024, elem a (Reg.EGS_LEG_CFG 0) 64 8192, elem a (Reg.EGS_Q_STAT 0) 4 16384 with
  | some g, _, _ => .of (d.fld (Reg.EGS_LG_MAP g) 31 28)
  | _, some l, _ => .of (d.legDomain l)
  | _, _, some q => .of (d.legDomain (q / 2))
  | none, none, none => .of 0

/-- Registers of Hook (chapter 07). -/
def Dev.hokHolder (d : Dev) (a : Nat) : Holder :=
  match elem a (Reg.HOK_GRP_DOM 0) 4 512, elem a (Reg.HOK_GRP 0) 4 4096, elem a (Reg.HOK_GRP_DEPTH 0) 4 4096 with
  | some _, _, _ => d.domFields a
  | _, some g, _ => .of (d.groupDomain g)
  | _, _, some g => .of (d.groupDomain g)
  | none, none, none => .of 0

/-- Bus, ranker, source or output that a register of Cable is indexed by, as its event names it, with its domain (R196). -/
def Dev.cabUnit (d : Dev) (a : Nat) : Option (Nat × Nat) :=
  let bus (b : Nat) : Option (Nat × Nat) := some (b, d.busDomain b)
  let leg (l : Nat) : Option (Nat × Nat) := some (l, d.legDomain l)
  let rank (r : Nat) : Option (Nat × Nat) := some (r, d.busDomain (d.fld (Reg.CAB_RANK_CFG r) 10 0))
  match elem a (Reg.CAB_BUS_CFG 0) 8 2048, elem a (Reg.CAB_BUS_SATCNT 0) 4 2048, elem a (Reg.CAB_RANK_CFG 0) 8 1024,
    elem a (Reg.CAB_RANK_LIST 0 0) 32 1024, elem a (Reg.CAB_FOUT_A 0) 8 1024, elem a (Reg.CAB_LEG_IN_A 0) 8 8192,
    elem a (Reg.CAB_STAGE_A 0) 16 8192 with
  | some b, _, _, _, _, _, _ => bus b
  | _, some b, _, _, _, _, _ => bus b
  | _, _, some r, _, _, _, _ => rank r
  | _, _, _, some r, _, _, _ => rank r
  | _, _, _, _, some c, _, _ => some (8192 + c, d.chanDomain true c)
  | _, _, _, _, _, some l, _ => leg l
  | _, _, _, _, _, _, some l => leg l
  | none, none, none, none, none, none, none => none

/-- Registers of Cable (R196, R441). -/
def Dev.cabHolder (d : Dev) (a : Nat) : Holder :=
  match d.cabUnit a, elem a (Reg.CAB_BUS_DOM 0) 4 256, elem a (Reg.CAB_BUS_SAT 0) 4 64, elem a (Reg.CAB_XP_PAGE 0) 4 16 with
  | some u, _, _, _ => .of u.2
  | _, some _, _, _ => d.domFields a
  | _, _, some k, _ => .packed 1 ((List.range 32).map (fun i => d.busDomain (32 * k + i)))
  | _, _, _, some x => .of x
  | none, none, none, none => if Reg.CAB_CFG ≤ a ∧ a ≤ Reg.CAB_METER_ADDR_HI then .shared else .of 0

/-- Group, channel or slip channel that a register of the field blocks is indexed by, as its event names it, with its domain
(R200). -/
def Dev.fldUnit (d : Dev) (a : Nat) : Option (Nat × Nat) :=
  let grp (k : Nat) : Option (Nat × Nat) := some (k, d.grpDomain k)
  match elem a (Reg.FLD_RING_IN_A 0) 16 32, elem a (Reg.FLD_GAUGE_MIRROR 0) 4 32, elem a (Reg.FLD_IN_SLOT 0) 8 1024,
    elem a (Reg.FLD_OUT_SLOT 0) 4 1024, elem a (Reg.FLD_CG_CFG_A 0) 64 32, elem a (Reg.FLD_PORT_MAP 0) 16 256,
    elem a (Reg.FLD_SLIP_A 0) 8 64 with
  | some k, _, _, _, _, _, _ => grp k
  | _, some k, _, _, _, _, _ => grp k
  | _, _, some c, _, _, _, _ => some ((d.portOf false c).elim 0 (fun x => x.1 / 8), d.chanDomain false c)
  | _, _, _, some c, _, _, _ => some ((d.portOf true c).elim 0 (fun x => x.1 / 8), d.chanDomain true c)
  | _, _, _, _, some k, _, _ => grp k
  | _, _, _, _, _, some p, _ => grp (p / 8)
  | _, _, _, _, _, _, some j => some (j, d.chanDomain true (d.fld (Reg.FLD_SLIP_A j) 25 16))
  | none, none, none, none, none, none, none => none

/-- Registers of blocks 60 and 61 (R200, R441). -/
def Dev.fldHolder (d : Dev) (a : Nat) : Holder :=
  match d.fldUnit a, elem a (Reg.FLD_STATE_MIRROR 0) 4 4 with
  | some u, _ => .of u.2
  | _, some j => .packed 4 ((List.range 8).map (fun i => d.grpDomain (8 * j + i)))
  | none, none => .of 0

/-- Compositor of a register of CMP. -/
def ciOf (a : Nat) : Option Nat :=
  match layerOf a with
  | some x => some x.1
  | none => elem a (Reg.CMP_CI_CFG 0) 256 64

/-- Whose the register at an active address is. A register that names no unit of a domain is SD0's (R374) (assumption 20). -/
def Dev.holder (d : Dev) (a : Nat) : Holder :=
  match windowOf a with
  | some w => .of w.1
  | none =>
    match blockOf (regionOf a) with
    | 4 => if a = Reg.SWT_VIEW then .all else (elem a (Reg.SWT_LOG_BASE_LO 0) 64 16).elim (.of 0) Holder.of
    | 5 => d.hstHolder a
    | 14 => bpmHolder a
    | 16 => d.egsHolder a
    | 20 => d.hokHolder a
    | 24 => .of (d.fld (Reg.DSP_SK_CFG (regionOf a - 24)) 3 0)
    | 32 => d.cabHolder a
    | 34 => if (elem a (Reg.JBF_ENC_DOM 0) 4 256).isSome then d.domFields a else .of 0
    | 40 => if (elem a (Reg.VDE_CTX_DOM 0) 4 128).isSome then d.domFields a else .of 0
    | 41 => if (elem a (Reg.VEN_CTX_DOM 0) 4 64).isSome then d.domFields a else .of 0
    | 42 => (ciOf a).elim (.of 0) (fun i => .of (d.ciDomain i))
    | 44 => if (elem a (Reg.SQS_GAL_DOM 0) 4 8).isSome then d.domFields a else .of 0
    | 45 => (elem a (Reg.DPO_CFG 0) 256 2).elim (.of 0) (fun o => .of (d.dpDomain o))
    | 60 => d.fldHolder a
    | _ => .of 0

/-- Bits that the fields of domain `x` take in a packed register. -/
def ownBits (width : Nat) (doms : List Nat) (x : Nat) : Nat :=
  ((List.range doms.length).map (fun i => if doms.getD i 0 = x then (2 ^ width - 1) * 2 ^ (width * i) else 0)).sum

/-- Bits of a register that domain `x` may read (R374, R441, R443). -/
def Holder.readMask (h : Holder) (x : Nat) : Nat :=
  if x = 0 then 0xFFFFFFFF
  else match h with
    | .all | .shared => 0xFFFFFFFF
    | .readBy w | .of w => if w = x then 0xFFFFFFFF else 0
    | .packed n doms => ownBits n doms x

/-- Bits of a register that domain `x` may write. -/
def Holder.writeMask (h : Holder) (x : Nat) : Nat :=
  if x = 0 then 0xFFFFFFFF
  else match h with
    | .all => 0xFFFFFFFF
    | .shared | .readBy _ => 0
    | .of w => if w = x then 0xFFFFFFFF else 0
    | .packed n doms => ownBits n doms x

/-- Another domain's access to a register raises its block's own domain event, where the block has one (R374) (assumption 20). -/
def Dev.denied (d : Dev) (x a : Nat) : Dev :=
  let off := leBytes 4 (blockOffset a)
  let win := ((windowOf a).map (fun w => w.1)).getD x
  match blockOf (regionOf a) with
  | 4 => (elem a (Reg.SWT_LOG_BASE_LO 0) 64 16).elim d (fun w => d.raise Ev.SWT_DOMAIN w x)
  | 5 => if a < 0x501000 then d
    else d.raise Ev.HST_DOMAIN ((elem a (Reg.HST_RING_BASE_LO 0 0) 64 256).getD (16 * x)) x
  | 10 => d.raise Ev.FLOW_DOMAIN win x
  | 12 => d.raise Ev.KEY_DOMAIN win x
  | 14 => d.raise Ev.BPM_DOMAIN x x off
  | 15 => if (windowOf a).isSome then d.raise Ev.POL_RANGE win x else d
  | 16 => d.raise Ev.EGS_DOMAIN x x off
  | 20 => d.raise Ev.SUBMIT_DOMAIN x x
  | 32 => d.raise Ev.CAB_DOMAIN ((d.cabUnit a).elim (((elem a (Reg.CAB_BUS_SAT 0) 4 64).getD 0) * 32) (fun u => u.1)) x
  | 42 => d.raise Ev.CMP_DOMAIN ((ciOf a).getD 0) x
  | 44 => d.raise Ev.SQS_DOMAIN win x
  | 45 => d.raise Ev.CMP_DOMAIN ((elem a (Reg.DPO_CFG 0) 256 2).getD 0) x
  | 60 => d.raise Ev.FLD_DOMAIN ((d.fldUnit a).elim (((elem a (Reg.FLD_STATE_MIRROR 0) 4 4).getD 0) * 8) (fun u => u.1)) x
  | _ => d

/-! ### Units that run (R8, R42, Table 02-5) -/

/-- Some unit of an array has bit `b` of its register set. -/
def Dev.anyOn (d : Dev) (n b : Nat) (r : Nat → Nat) : Bool := (List.range n).any (fun i => d.bit (r i) b)

/-- The unit whose register set holds an address: its number, and whether it runs; the whole block where the register is
of no one unit (assumption 19). -/
def Dev.unitAt (d : Dev) (a : Nat) : Nat × Bool :=
  match blockOf (regionOf a) with
  | 2 => (0, d.bit Reg.PAT_LOAD_STAT 31)
  | 4 => (elem a (Reg.SWT_LOG_BASE_LO 0) 64 16).elim (0, false) (fun w => (w, d.bit (Reg.SWT_LOG_CFG w) 31))
  | 5 => (elem a (Reg.HST_RING_BASE_LO 0 0) 64 256).elim (0, true) (fun k => (k, d.bit (rCfg k) 31))
  | 8 => (elem a (Reg.NET_PORT_CFG 0) 256 8).elim (0, d.anyOn 8 0 Reg.NET_PORT_CTL) (fun p => (p, d.bit (Reg.NET_PORT_CTL p) 0))
  | 16 => match d.shaperPort a, elem a (Reg.EGS_PORT_CFG 0) 256 8 with
    | some p, _ => (0, d.bit (Reg.NET_PORT_CTL p) 0)
    | _, some p => (p, d.bit (Reg.NET_PORT_CTL p) 0)
    | none, none => (0, d.anyOn 8 0 Reg.NET_PORT_CTL)
  | 24 =>
    let k := regionOf a - 24
    (elem (a % 2 ^ 20) 0x1000 256 16).elim (0, (List.range 16).any (fun i => (d.core (16 * k + i)).state != 2))
      (fun i => (16 * k + i, (d.core (16 * k + i)).state != 2))
  | 42 => (ciOf a).elim (0, d.anyOn 64 31 Reg.CMP_CI_CTL) (fun i => (i, d.bit (Reg.CMP_CI_CTL i) 31))
  | 45 => (elem a (Reg.DPO_CFG 0) 256 2).elim (0, d.anyOn 2 0 Reg.DPO_CTL) (fun o => (o, d.bit (Reg.DPO_CTL o) 0))
  | 48 => (regionOf a - 48, d.trained (regionOf a - 48))
  | 56 => (0, d.fld Reg.NFC_CTL 3 0 != 0)
  | 60 => match elem a (Reg.FLD_CG_CFG_A 0) 64 32, elem a (Reg.FLD_PORT_MAP 0) 16 256 with
    | some k, _ => (k, d.bit (Reg.FLD_CG_CTL k) 0)
    | _, some p => (p / 8, d.bit (Reg.FLD_CG_CTL (p / 8)) 0)
    | none, none => (0, d.anyOn 32 0 Reg.FLD_CG_CTL)
  | _ => (0, d.ready)

/-- A write to an HL register while its unit runs is ignored; it raises WHILE_RUN when it would change an HL field (R8, R42)
(assumption 21) (assumption 21). -/
def Dev.whileRun (d : Dev) (a hl : Nat) (v : Word) : Dev :=
  if (d.reg a).toNat &&& hl = v.toNat &&& hl then d
  else
    let w := match d.holder a with
      | .of w => w
      | _ => 0
    d.raise (blockOf (regionOf a) * 256) (d.unitAt a).1 w (leBytes 4 (blockOffset a))

end Sys2Proof.Machine
end

