-- ==== Sys2Proof/Machine/Access.lean ====
section
/-! DEFINITION. A BAR0 access (R5, R342, R374, R419 to R421): what a write of any address does and what a read returns.
Writes that have a row of their own go to that row's meaning. -/

namespace Sys2Proof.Machine

/-! ### Command registers -/

/-- A write of the command register of a window: the command its word names, none for a word that names none. -/
def windowCommand (q : Requester) (a w o : Nat) (v : Word) (d : Dev) : Option Dev :=
  let op := wfld v 31 28
  match blockOf (regionOf a), o with
  | 10, 0x20 => some (match wfld v 2 0 with
    | 1 => clsInsertEffect q w d
    | 2 => clsDeleteEffect q w d
    | 3 => clsReplaceEffect q w d
    | 4 => clsLookupEffect q w d
    | _ => d)
  | 12, 0x34 => some (match op with
    | 1 => keyInstallEffect q w v d
    | 2 => keyEraseEffect q w v d
    | 3 => keyReadStatEffect q w v d
    | 4 => keyReleaseEffect q w v d
    | 5 => indexReadEffect q w v d
    | 6 => indexSetEffect q w v d
    | _ => d)
  | 14, 0xC => some (match op with
    | 1 => bpmCmdAllocEffect q w v d
    | 2 => bpmCmdShareEffect q w v d
    | 3 => bpmCmdDropEffect q w d
    | 4 => bpmCmdFreeEffect q w d
    | 5 => bpmCmdReadEffect q w d
    | _ => d)
  | 15, 0x20 => some (match wfld v 31 30 with
    | 0 => polReadEffect q w v d
    | 1 => polWriteCfgEffect q w v d
    | 2 => polWriteAllEffect q w v d
    | _ => d)
  | 20, 0x40 => some (subCmdGoEffect q w v d)
  | 20, 0x60 => some (cqPopEffect q w v d)
  | 34, 0x60 => some (match op with
    | 1 => jbfReadActiveEffect q w v d
    | 2 => jbfReadShadowEffect q w v d
    | 3 => jbfWriteCfgEffect q w v d
    | 4 => jbfWriteLiveEffect q w v d
    | 5 => jbfResetEffect q w v d
    | _ => d)
  | 35, 0x40 => some (match op with
    | 1 => legReadActiveEffect q w v d
    | 2 => legReadShadowEffect q w v d
    | 3 => legWriteCfgEffect q w v d
    | 4 => legWriteLiveEffect q w v d
    | 5 => legSuspendEffect q w v d
    | 6 => legResumeEffect q w v d
    | _ => d)
  | 36, 0x40 => some (match op with
    | 1 => subReadEffect q w v d
    | 2 => subWriteEffect q w v d
    | 3 => subWantEffect q w v d
    | 4 => subDisableEffect q w v d
    | 5 => srcReadEffect q w v d
    | 6 => srcWriteEffect q w v d
    | _ => d)
  | 40, 0x80 => some (match op with
    | 1 => vdeReadActiveEffect q w v d
    | 2 => vdeReadShadowEffect q w v d
    | 3 => vdeWriteCfgEffect q w v d
    | 4 => vdeWriteLiveEffect q w v d
    | 5 => vdeResetEffect q w v d
    | _ => d)
  | 41, 0x80 => some (match op with
    | 1 => venReadActiveEffect q w v d
    | 2 => venReadShadowEffect q w v d
    | 3 => venWriteCfgEffect q w v d
    | 4 => venWriteLiveEffect q w v d
    | 5 => venResetEffect q w v d
    | _ => d)
  | 44, 0x80 => some (match op with
    | 1 => sqsReadActiveEffect q w v d
    | 2 => sqsReadShadowEffect q w v d
    | 3 => sqsWriteCfgEffect q w v d
    | 4 => sqsWriteLiveEffect q w v d
    | 5 => sqsResetEffect q w v d
    | _ => d)
  | 56, 0x40 => some (match op with
    | 1 => nfcOpenEffect q w v d
    | 2 => nfcCloseEffect q w v d
    | 3 => readTrackEffect q w v d
    | 4 => readUnitEffect q w d
    | 5 => appendHouseEffect q w d
    | 6 => nfcReleaseEffect q w d
    | 7 => nfcFormatEffect q w d
    | _ => d)
  | _, _ => none

/-- Enable bit `on` of a unit that is `was`, and the bit beside it. -/
def enableWrite (v : Word) (was : Bool) (on off also : Dev → Dev) (d : Dev) : Dev :=
  let d := if wbit v 0 then (if was then d else on d) else if was then off d else d
  if wbit v 1 then also d else d

/-- A write of NET_PORT_CTL. -/
def portCtlWrite (q : Requester) (p : Nat) (v : Word) (d : Dev) : Dev :=
  d.portBy q p (fun d => enableWrite v (d.bit (Reg.NET_PORT_CTL p) 0) (fun d => d.portOn p) (fun d => d.portOff p)
    (fun d => d.portRetrain p) d)

/-- A write of DPO_CTL. -/
def dpoCtlWrite (q : Requester) (o : Nat) (v : Word) (d : Dev) : Dev :=
  d.dpWindow q o (fun d => enableWrite v (d.bit (Reg.DPO_CTL o) 0) (fun d => d.dpOn o)
    (fun d => if d.retired then d else d.dpOff o) (fun d => d.dpRetrain o) d)

/-- A write of FLD_CG_CTL: one posted write across the link. -/
def cgCtlWrite (q : Requester) (k : Nat) (v : Word) (d : Dev) : Dev :=
  d.grpWindow q k (fun d => enableWrite v (d.bit (Reg.FLD_CG_CTL k) 0) (cgEnableEffect q k) (cgDisableEffect q k) (cgAckEffect q k) d)

/-- A write of DSP_CORE_CTL: each bit acts. -/
def coreCtlWrite (q : Requester) (n : Nat) (v : Word) (d : Dev) : Dev :=
  coreReleaseEffect q n v (coreStepEffect q n v (coreResumeEffect q n v (coreHaltEffect q n v d)))

/-- A write of NFC_CTL: the channels' EN, and MOUNT. -/
def nfcCtlWrite (q : Requester) (v : Word) (d : Dev) : Dev :=
  d.sd0 q 56 (fun d =>
    let d := d.setFld Reg.NFC_CTL 3 0 (wfld v 3 0)
    if wbit v 4 then d.mount else d)

/-- A write of SEC_OTP_CMD. -/
def otpCmdWrite (q : Requester) (v : Word) (d : Dev) : Dev :=
  match wfld v 31 30 with
  | 1 => otpReadEffect q v d
  | 2 => otpProgramEffect q v d
  | _ => d

/-- A write of SEC_DBG_CTL. -/
def dbgCtlWrite (q : Requester) (v : Word) (d : Dev) : Dev :=
  match wfld v 31 28 with
  | 1 => dbgChallengeEffect q v d
  | 2 => dbgUnlockEffect q v d
  | 3 => dbgSetEffect q v d
  | _ => d

/-- A write of DPO_AUX_CMD. -/
def auxCmdWrite (q : Requester) (o : Nat) (v : Word) (d : Dev) : Dev :=
  match wfld v 31 28 with
  | 1 => auxNativeReadEffect q o v d
  | 2 => auxNativeWriteEffect q o v d
  | 3 => auxI2cReadEffect q o v d
  | 4 => auxI2cWriteEffect q o v d
  | _ => d

/-- Command registers of SYS, SEC, PAT and TIM. -/
def systemCommand (q : Requester) (boot : BootEnv) (a : Nat) (v : Word) (d : Dev) : Option Dev :=
  if a = Reg.SYS_RST_CMD then some (d.rstCmd q v boot)
  else if a = Reg.SYS_PUSH then some (sysPushEffect q v boot d)
  else if a = Reg.SYS_PWR_CMD then some (if wbit v 31 then d.powerCmd q (wfld v 1 0) else d)
  else if a = Reg.SEC_LC_CMD then some (lcCmdEffect q v boot d)
  else if a = Reg.SEC_FLOOR_CMD then some (floorCmdEffect q v d)
  else if a = Reg.SEC_REVOKE then some (revokeEffect q v d)
  else if a = Reg.SEC_OTP_CMD then some (otpCmdWrite q v d)
  else if a = Reg.SEC_DBG_CTL then some (dbgCtlWrite q v d)
  else if a = Reg.SEC_BIND_CMD then some (bindCmdEffect q v d)
  else if a = Reg.PAT_SWAP_REQ then some (swapReqEffect q v d)
  else if a = Reg.PAT_SWAP_CANCEL then some (swapCancelEffect q v d)
  else if a = Reg.PAT_LOAD_CTL then some (loadStartEffect q v d)
  else if a = Reg.TIM_TICK_CTL then some (tickCtlWriteEffect q v d)
  else if a = Reg.TIM_ESN_RESV_HI then some (esnResvWriteEffect q v d)
  else match elem a (Reg.TIM_TB_CFG 0) 256 8 with
    | none => none
    | some k =>
      if a = Reg.TIM_TB_STEP k then some (tbStepEffect q k v d)
      else if a = Reg.TIM_TB_PHASE_HI k then some (tbPhaseWriteEffect q k v d)
      else if a = Reg.TIM_TB_CTL k then some (lockIndWriteEffect q k v d)
      else none

/-- Command registers of the other blocks outside their windows. -/
def blockCommand (q : Requester) (a : Nat) (v : Word) (d : Dev) : Option Dev :=
  let n := regionOf a
  if n = 4 then
    if a = Reg.SWT_TRIG then some (swtTrigEffect q v d)
    else match elem a (Reg.SWT_LOG_BASE_LO 0) 64 16 with
      | some w => if a = Reg.SWT_LOG_CFG w then some (logEnWriteEffect q w v d)
        else if a = Reg.SWT_LOG_RD w then some (logRdWriteEffect q w v d) else none
      | none => none
  else if n = 5 then
    match elem a (Reg.HST_RING_BASE_LO 0 0) 64 256 with
    | some k => if a = rCfg k then some (ringEnWriteEffect q (k / 16) (k % 16) v d) else none
    | none => none
  else if n = 8 then
    match elem a (Reg.NET_PORT_CFG 0) 256 8 with
    | some p => if a = Reg.NET_PORT_CTL p then some (portCtlWrite q p v d) else none
    | none => none
  else if n = 10 then (elem a (Reg.CLS_HASH_KEY 0) 4 4).map (fun i => hashKeyWriteEffect q i v d)
  else if n = 16 then
    match elem a (Reg.EGS_PORT_CFG 0) 256 8 with
    | some p => if a = Reg.EGS_GATE_CTL p then some (gateChangeEffect q p v d) else none
    | none => none
  else if 24 ≤ n ∧ n ≤ 29 then
    match elem (a % 2 ^ 20) 0x1000 256 16 with
    | some i =>
      let k := 16 * (n - 24) + i
      if a = Reg.DSP_CORE_CTL (n - 24) i then some (coreCtlWrite q k v d)
      else if a = Reg.DSP_CORE_REGDATA (n - 24) i then some (regdataAccessEffect q k (some v) d)
      else if a = Reg.DSP_CORE_MEM_DATA (n - 24) i then some (memDataAccessEffect q k (some v) d)
      else none
    | none => none
  else if n = 42 then
    match elem a (Reg.CMP_CI_CFG 0) 256 64 with
    | some i => if a = Reg.CMP_COMMIT i then some (cmpCommitEffect q i v d)
      else if a = Reg.CMP_CACHE_CTL i then some (cacheRebuildEffect q i v d) else none
    | none => none
  else if n = 45 then
    match elem a (Reg.DPO_CFG 0) 256 2 with
    | some o => if a = Reg.DPO_CTL o then some (dpoCtlWrite q o v d)
      else if a = Reg.DPO_AUX_CMD o then some (auxCmdWrite q o v d) else none
    | none => none
  else if a = Reg.NFC_CTL then some (nfcCtlWrite q v d)
  else if n = 61 then
    match elem a (Reg.FLD_CG_CFG_A 0) 64 32 with
    | some k => if a = Reg.FLD_CG_CTL k then some (cgCtlWrite q k v d) else none
    | none => none
  else none

/-- A write of a command register: what it does, none for every other address. -/
def commandWrite (q : Requester) (boot : BootEnv) (a : Nat) (v : Word) (d : Dev) : Option Dev :=
  match windowOf a with
  | some w => windowCommand q a w.1 w.2 v d
  | none => if regionOf a < 4 then systemCommand q boot a v d else blockCommand q a v d

/-! ### Who is let through -/

/-- Registers a swatch captures (R382): RO registers outside the command windows. -/
def swatchTakes (a : Nat) : Bool := (windowOf a).isNone && (regRow a).any (fun r => r.ty == .RO)

/-- What the debug port may reach at its level (R369, Table 21-3) (assumption 23). -/
def Dev.debugOpens (d : Dev) (a : Nat) (write : Bool) : Bool :=
  d.debugAny || decide (Reg.SEC_DBG_CTL ≤ a ∧ a < Reg.SEC_BIND_CMD) ||
  (decide (2 ≤ d.level) && decide (24 ≤ regionOf a ∧ regionOf a ≤ 29) && (elem (a % 2 ^ 20) 0x1000 256 16).isSome) ||
  (decide (1 ≤ d.level) && !write && (regionOf a == 4 || swatchTakes a))

/-- The access of a requester to an address, none where it is not let through (R340, R369) (assumption 23). -/
def Dev.accessAt (d : Dev) (q : Requester) (a : Nat) (write : Bool) : Option Access :=
  match q with
  | .debug => if d.debugOpens a write then some ⟨0, 42, 20, true⟩ else none
  | _ => d.access q

/-- The active address of an offset in a shadow half (R420). -/
def activeOf (a : Nat) : Nat := if 0x80000 ≤ a % 2 ^ 20 then a - 0x80000 else a

/-- Whether an address lies in a shadow half. -/
def inShadow (a : Nat) : Bool := decide (0x80000 ≤ a % 2 ^ 20)

/-- A register of a unit the structural registers leave out: it reads as zero and ignores writes (R68, R237). -/
def Dev.noUnit (d : Dev) (a : Nat) : Bool :=
  (elem a (Reg.NET_PORT_CFG 0) 256 8).any d.portAbsent ||
  (layerOf a).any (fun x => decide (d.ciLayers x.1 ≤ x.2))

/-! ### Writes by type (Table 00-2) -/

/-- Whether the admin gate registers of a port hold an address (R301). -/
def gateAdmin (a : Nat) : Option Nat :=
  match elem a (Reg.EGS_PORT_CFG 0) 256 8, elem a (Reg.EGS_GCL_ADMIN_T 0 0) 2048 8 with
  | some p, _ => if Reg.EGS_GATE_ADMIN_CFG p ≤ a ∧ a < Reg.EGS_GATE_CTL p then some p else none
  | _, some p => some p
  | none, none => none

/-- SKEINS bits of skeins that belong to domain `x` (R156). -/
def Dev.skeinBits (d : Dev) (x : Nat) : Nat :=
  ((List.range 6).map (fun k => if d.fld (Reg.DSP_SK_CFG k) 3 0 = x then 2 ^ k else 0)).sum

/-- A write of an SH register: the shadow copy takes it (R5, R7). Groups written by a domain lose the skeins of others
(R156); a slip channel moves only to a channel of the writer's domain (R200). -/
def Dev.writeSh (d : Dev) (x a : Nat) (v : Word) : Dev :=
  if x = 0 then d.shWrite a v
  else if (elem a (Reg.HOK_GRP 0) 4 4096).isSome then d.shWrite a (wset v 21 16 (wfld v 21 16 &&& d.skeinBits x))
  else if (elem a (Reg.FLD_SLIP_A 0) 8 64).isSome && a % 8 == 0 && d.chanDomain true (wfld v 25 16) != x then d.denied x a
  else d.shWrite a v

/-- Whether an LV write waits for the unit of work (R42): while the unit runs. System control, and the store, take it at once
(assumption 19) (assumption 19). -/
def Dev.lvWaits (d : Dev) (a : Nat) : Bool :=
  decide (regionOf a ≠ 0 ∧ regionOf a ≠ 56) && (d.unitAt a).2

/-- A write of the fields `m` of a LV register. -/
def Dev.writeLv (d : Dev) (a m : Nat) (v : Word) : Dev :=
  let w := w32 (mix m ((d.lvAt a).getD (d.reg a)).toNat v.toNat)
  if (elem a (Reg.TIM_TB_CFG 0) 256 8).any (fun k => a == Reg.TIM_TB_PHASE_LO k) then d.lvWrite a w
  else if d.lvWaits a then d.lvWrite a w else (d.lvDrop a).lvApply a w

/-- A write of an HL register: structural registers are read-only once the fixed sections are applied (R26) (assumption 21). -/
def Dev.writeHl (d : Dev) (r : RegRow) (a : Nat) (v : Word) : Dev :=
  if r.structural && !d.sys.structOpen then d
  else if (d.unitAt a).2 then d.whileRun a r.own v
  else d.setReg a (w32 (mix r.own (d.reg a).toNat v.toNat))

/-- A write of an RW register: the admin gate registers are closed while a change is pending (R301). -/
def Dev.writeRw (d : Dev) (r : RegRow) (a m : Nat) (v : Word) : Dev :=
  match gateAdmin a with
  | some p => if d.gatePending p then d.raise Ev.GATE_PENDING p else d.setReg a (w32 (mix r.own (d.reg a).toNat v.toNat))
  | none => d.setReg a (w32 (mix (r.own &&& m) (d.reg a).toNat v.toNat))

/-- A write of a WO register that is no command: staged key material, a staged descriptor, signature bytes. -/
def Dev.writeWo (d : Dev) (a : Nat) (v : Word) : Dev :=
  match blockOf (regionOf a), windowOf a with
  | 12, some w => d.stageWrite w.1 (w.2 / 4) v
  | _, _ => d.setReg a v

/-- Ones clear the W1C fields among the bits `m` (R5, R6). -/
def Dev.clearOnes (d : Dev) (r : RegRow) (a m : Nat) (v : Word) : Dev :=
  let c := r.w1c &&& m &&& v.toNat
  if c = 0 then d else d.setReg a (w32 ((d.reg a).toNat &&& (c ^^^ 0xFFFFFFFF)))

/-- A write of the bits `m` of a register by domain `x`, each field by its type. -/
def Dev.writeTyped (d : Dev) (r : RegRow) (x a m : Nat) (v : Word) : Dev :=
  let d := d.clearOnes r a m v
  match r.ty with
  | .SH => d.writeSh x a v
  | .LV => d.writeLv a (r.own &&& m) v
  | .HL => d.writeHl r a v
  | .RO => d
  | .WO => d.writeWo a v
  | .RW => d.writeRw r a m v

/-- A write that has reached its register's die, the bits `m` of it allowed to domain `x` (R374, R441). -/
def Dev.writeMasked (d : Dev) (r : RegRow) (x a m : Nat) (v : Word) : Dev :=
  if m = 0 then d.denied x a
  else
    let d := if v.toNat &&& (m ^^^ 0xFFFFFFFF) = 0 then d else d.denied x a
    d.writeTyped r x a m v

/-- A write through the crosspoint window: the entry must lie in the domain's range (R182, R196) (assumption 25). -/
def Dev.writeXp (d : Dev) (x a : Nat) (v : Word) : Dev :=
  if x = 0 ∨ d.xpIn x (d.xpEntry x a) = true then d.xpWrite x a v else d.raise Ev.CAB_DOMAIN 0 x

/-- A write to the selvedge die crosses the link (R215); a board without field audio has none (R390) (assumption 26). -/
def Dev.acrossLink (d : Dev) (a : Nat) (f : Dev → Dev) : Dev :=
  if regionOf a ≠ 61 then f d else if d.fldAbsent then d else if d.linkUp then f d else d.count Reg.FLD_LINK_LOST_WR

/-- A write of a register that is no command register. -/
def Dev.plainWrite (d : Dev) (q : Requester) (a : Nat) (v : Word) : Dev :=
  match d.accessAt q a true with
  | none => d
  | some x =>
    let b := activeOf a
    if d.regionOff (regionOf a) then d
    else if a = Reg.SWT_VIEW then { d with swt := { d.swt with view := tset 0 d.swt.view x.bank (wfld v 0 0) } }
    else if inXp b then d.writeXp x.dom b v
    else match regRow b with
      | none => d
      | some r =>
        if inShadow a && r.ty != .SH then d
        else if d.noUnit b then d
        else
          let m := (d.holder b).writeMask x.dom
          if m = 0 then d.denied x.dom b else d.acrossLink a (fun d => d.writeMasked r x.dom b m v)

/-! ### The MSI-X table (R421) -/

/-- The MSI-X table of a function and its pending bits. -/
def inMsix (a : Nat) : Bool := decide (0x540000 ≤ a ∧ a < 0x550000)

/-- The function through which a requester sees the MSI-X table. -/
def Dev.tableFn (d : Dev) : Requester → Nat
  | .fn n => n
  | .ring x => d.serving x
  | _ => 0

/-- A word of a table entry is written; an entry that is unmasked while pending sends its message (R354) (assumption 16). -/
def Dev.msixWrite (d : Dev) (fn a : Nat) (v : Word) : Dev :=
  let o := a - 0x540000
  if 16 * vectors fn ≤ o then d
  else
    let k := 512 * fn + o / 16
    let e := d.msix k
    let e' : Msix := match o % 16 / 4 with
      | 0 => { e with addr := rset e.addr 0 4 (wset v 1 0 0).toNat }
      | 1 => { e with addr := rset e.addr 4 4 v.toNat }
      | 2 => { e with data := v.toNat }
      | _ => { e with mask := wbit v 0 }
    let d := { d with hst := { d.hst with msix := tset {} d.hst.msix k e' } }
    if e.mask && !e'.mask && d.hst.pba.contains k then
      { d with hst := { d.hst with pba := d.hst.pba.filter (fun i => i != k) } }.message fn (o / 16)
    else d

/-- A word of the table or of the pending bits. -/
def Dev.msixRead (d : Dev) (fn a : Nat) : Word :=
  let o := a - 0x540000
  if o < 16 * vectors fn then
    let e := d.msix (512 * fn + o / 16)
    match o % 16 / 4 with
    | 0 => w32 e.addr
    | 1 => w32 (e.addr / 2 ^ 32)
    | 2 => w32 e.data
    | _ => w32 e.mask.toNat
  else if 0x8000 ≤ o ∧ o < 0x8000 + (if fn = 0 then 64 else 16) then
    w32 (((List.range 32).map (fun i => if d.hst.pba.contains (512 * fn + 8 * (o - 0x8000) + i) then 2 ^ i else 0)).sum)
  else 0

/-- What a write of the word at a BAR0 address does. -/
def writeAny (q : Requester) (boot : BootEnv) (a : Nat) (v : Word) (d : Dev) : Dev :=
  if inMsix a then d.by q (fun _ d => if d.regionOff 5 then d else d.msixWrite (d.tableFn q) a v)
  else match commandWrite q boot a v d with
    | some d => d
    | none => d.plainWrite q a v

/-! ### Reads -/

/-- LO halves of 64-bit quantities whose read latches the HI half, at the address after them (R384). -/
def isLo64 (a : Nat) : Bool :=
  let n := regionOf a
  let o := a % 2 ^ 20
  if n = 3 then o == 0x20
  else if n = 4 then o == 0x10 || o == 0x18
  else if n = 8 then decide (0x1000 ≤ o ∧ o < 0x1800) && [0x40, 0x48, 0x50, 0x58].contains (o % 256)
  else if n = 12 then o == 0x200 || o == 0x208
  else if n = 15 then [0x310, 0x318, 0x320, 0x328].contains o
  else if 16 ≤ n ∧ n ≤ 17 then isShaper (a - 0xC)
  else if 24 ≤ n ∧ n ≤ 29 then decide (0x1000 ≤ o ∧ o < 0x2000) && o % 256 == 0x54
  else if n = 36 then o == 0x400 || o == 0x408
  else if 48 ≤ n ∧ n ≤ 55 then o == 0x20 || o == 0x28
  else if n = 56 then [0x110, 0x118, 0x120, 0x128].contains o
  else false

/-- The HI half that a read of a LO half latches (assumption 24). -/
def hiOf (a : Nat) : Option Nat :=
  if a = Reg.TIM_ROW_NOW then some Reg.TIM_ROW_NOW_HI
  else if a = Reg.TIM_ROUND_NOW then some Reg.TIM_ROUND_NOW_HI
  else if isLo64 a then some (a + 4) else none

/-- The LO half of a HI half. -/
def loOf (a : Nat) : Option Nat :=
  if a = Reg.TIM_ROW_NOW_HI then some Reg.TIM_ROW_NOW
  else if a = Reg.TIM_ROUND_NOW_HI then some Reg.TIM_ROUND_NOW
  else if 4 ≤ a ∧ isLo64 (a - 4) = true then some (a - 4) else none

/-- The whole quantity whose LO half is at `a` (assumption 24). -/
def Dev.full64 (d : Dev) (a : Nat) : Nat :=
  if a = Reg.TIM_ROW_NOW then d.tim.row
  else if a = Reg.TIM_ROUND_NOW then d.tim.round
  else if a = Reg.TIM_ESN_LO then d.tim.esn
  else if regionOf a = 16 ∨ regionOf a = 17 then d.creditNat (a - 0xC)
  else if regionOf a = 56 then d.reg64 a (a + 4)
  else tat 0 d.cnt a

/-- Registers of a time base and of a port's timestamp FIFO that show what TIM holds. The copy of a swatch shows the time at
which it was taken. -/
def Dev.timShown (d : Dev) (copy : Bool) (a : Nat) : Option Word :=
  match elem a (Reg.TIM_TB_CFG 0) 256 8, elem a (Reg.TIM_PORT_CFG 0) 64 8 with
  | some k, _ =>
    let t := if copy then (d.tb k).time else (d.tb k).latch
    match a % 256 with
    | 0x04 => some (wset (d.reg a) 4 4 (d.inUse k).toNat)
    | 0x0C => some (w32 (t / 2 ^ 24 % 2 ^ 16))
    | 0x10 => some (w32 (t / 2 ^ 40 % 10 ^ 9))
    | 0x14 => some (w32 (t / 2 ^ 40 / 10 ^ 9))
    | 0x18 => some (w32 (t / 2 ^ 40 / 10 ^ 9 / 2 ^ 32 % 2 ^ 16))
    | 0x34 => some (d.phaseWord k false)
    | 0x38 => some (d.phaseWord k true)
    | _ => none
  | _, some p => if 0x10 ≤ a % 64 ∧ a % 64 ≤ 0x20 then some (d.stampWord p ((a % 64 - 0x10) / 4)) else none
  | none, none => none

/-- What the register at an active address shows, `copy` for a swatch's copy. -/
def Dev.shown (d : Dev) (copy : Bool) (r : RegRow) (a : Nat) : Word :=
  let raw : Word := match hiOf a, loOf a with
    | some _, _ => w32 (d.full64 a)
    | _, some lo => if copy then w32 (d.full64 lo / 2 ^ 32) else tat 0 d.hiLatch a
    | none, none =>
      if regionOf a = 3 then (d.timShown copy a).getD (d.reg a)
      else match elem a (Reg.EGS_PORT_CFG 0) 256 8 with
        | some p => if a = Reg.EGS_PORT_STAT p then d.portStatWord p else if a = Reg.EGS_GATE_STAT p then d.gateStatWord p else d.reg a
        | none => d.reg a
  if r.ty == .WO then 0 else w32 (raw.toNat &&& r.mask &&& (r.wo ^^^ 0xFFFFFFFF))

/-- The device as its last swatch captured it (R382) (assumption 22). -/
def Dev.swatchCopy (d : Dev) : Dev :=
  { d with regs := d.swt.copy, cnt := d.swt.cntCopy, tim := d.swt.timCopy, egs := d.swt.egsCopy }

/-- What a register shows to an access of a view: the swatch copy of the captured bits when VIEW is 1, else what it holds
(R383). The selvedge die's copies are zero when the swatch did not reach it (R448) (assumption 22). -/
def Dev.viewed (d : Dev) (view : Bool) (r : RegRow) (a : Nat) : Word :=
  let live := d.shown false r a
  if view = false ∨ (windowOf a).isSome = true then live
  else
    let m := if r.ty == .RO then 0xFFFFFFFF else r.ro
    let copy : Word := if regionOf a = 61 ∧ d.swt.noSel = true then 0 else d.swatchCopy.shown true r a
    w32 (mix m live.toNat copy.toNat)

/-- What a read does before it returns: latches (R47, R384), fresh random bits (R376), the register or word of a halted core
(assumption 24) (assumption 24). -/
def readFirst (q : Requester) (a : Nat) (d : Dev) : Dev :=
  let n := regionOf a
  if a = Reg.SEC_RNG then rngReadEffect q d
  else if n = 3 ∧ (elem a (Reg.TIM_TB_CFG 0) 256 8).any (fun k => a == Reg.TIM_TB_FRAC k) = true then
    d.tbLatch ((a - Reg.TIM_TB_CFG 0) / 256)
  else if 24 ≤ n ∧ n ≤ 29 then
    match elem (a % 2 ^ 20) 0x1000 256 16 with
    | some i =>
      if a = Reg.DSP_CORE_REGDATA (n - 24) i then regdataAccessEffect q (16 * (n - 24) + i) none d
      else if a = Reg.DSP_CORE_MEM_DATA (n - 24) i then memDataAccessEffect q (16 * (n - 24) + i) none d
      else (hiOf a).elim d (fun h => { d with hiLatch := tset 0 d.hiLatch h (w32 (d.full64 a / 2 ^ 32)) })
    | none => d
  else (hiOf a).elim d (fun h => { d with hiLatch := tset 0 d.hiLatch h (w32 (d.full64 a / 2 ^ 32)) })

/-- What a read does after it has returned: the oldest timestamp leaves its FIFO (R51). -/
def readLast (a : Nat) (d : Dev) : Dev :=
  match elem a (Reg.TIM_PORT_CFG 0) 64 8 with
  | some p => if a = Reg.TIM_PORT_TXTS_SEC_HI p then d.stampPop p else d
  | none => d

/-- REGDATA and MEM_DATA need the debug level: a refused read returns zero. -/
def Dev.readRefused (d : Dev) (a : Nat) : Bool :=
  decide (24 ≤ regionOf a ∧ regionOf a ≤ 29) && !d.haltLevel &&
    (elem (a % 2 ^ 20) 0x1000 256 16).any (fun i => a == Reg.DSP_CORE_REGDATA (regionOf a - 24) i || a == Reg.DSP_CORE_MEM_DATA (regionOf a - 24) i)

/-- A read of an active register by a domain that may read the bits `m` (assumption 22). -/
def Dev.readActive (d : Dev) (q : Requester) (x : Access) (r : RegRow) (a m : Nat) : Word × Dev :=
  let view := tat 0 d.swt.view x.bank == 1
  if view && swatchTakes a then (w32 ((d.viewed true r a).toNat &&& m), d)
  else
    let e := readFirst q a d
    (if d.readRefused a then 0 else w32 ((e.viewed view r a).toNat &&& m), readLast a e)

/-- A word of the crosspoint window: the active bank at the offset, the shadow bank above it (R182) (assumption 25). -/
def Dev.readXp (d : Dev) (x a : Nat) : Word × Dev :=
  let b := activeOf a
  let i := d.xpEntry x b
  if x = 0 ∨ d.xpIn x i = true then
    (w32 (rf (tat 0 (if inShadow a then d.cab.xpSh else d.cab.xp) i) ((b - xpWindow) % 8) 4), d)
  else (0, d.raise Ev.CAB_DOMAIN 0 x)

/-- A read of a register or window by an access that is let through (assumption 26). -/
def Dev.readReg (d : Dev) (q : Requester) (x : Access) (a : Nat) : Word × Dev :=
  let b := activeOf a
  if a = Reg.SWT_VIEW then (w32 (tat 0 d.swt.view x.bank), d)
  else if inXp b then d.readXp x.dom a
  else match regRow b with
    | none => (0, d)
    | some r =>
      if (inShadow a && r.ty != .SH) || d.noUnit b then (0, d)
      else
        let m := (d.holder b).readMask x.dom
        if m = 0 then (0, d.denied x.dom b)
        else if regionOf a = 61 ∧ (d.fldAbsent ∨ d.linkUp = false) then (0, d)
        else if inShadow a then (w32 ((d.sh b).toNat &&& r.mask &&& m), d)
        else d.readActive q x r b m

/-- What a read of the word at a BAR0 address returns, and what it does. -/
def readAny (q : Requester) (a : Nat) (d : Dev) : Word × Dev :=
  if inMsix a then
    match d.access q with
    | some _ => if d.regionOff 5 then (0, d) else (d.msixRead (d.tableFn q) a, d)
    | none => (0, d)
  else match d.accessAt q a false with
    | none => (0, d)
    | some x => if d.regionOff (regionOf a) then (0, d) else d.readReg q x a

/-! ### The rows -/

/-- An access that R342 does not allow completes as Unsupported Request and is counted (assumption 24). -/
def Dev.unsupported (d : Dev) : Requester → Dev
  | .fn _ => d.count Reg.HST_BAR0_UR
  | _ => d

/-- REGISTER_WRITE (R5, R342): a write of `width` bytes; 8 only in the MSI-X areas (R421). -/
def registerWriteEffect (q : Requester) (a width : Nat) (v : BitVec 64) (boot : BootEnv) (d : Dev) : Dev :=
  let lo : Word := v.setWidth 32
  if width = 4 ∧ a % 4 = 0 then writeAny q boot a lo d
  else if width = 8 ∧ a % 8 = 0 ∧ inMsix a = true then
    writeAny q boot (a + 4) ((v >>> 32).setWidth 32) (writeAny q boot a lo d)
  else d.unsupported q

/-- REGISTER_WRITE. -/
def execRegisterWrite (q : Requester) (addr width : Nat) (v : BitVec 64) (boot : BootEnv) (s : State) :
    Host.Outcome State Fault Refusal := s.run (registerWriteEffect q addr width v boot)

/-- LO_LATCH_READ (R60, R384): the read and what it latches. -/
def loLatchReadEffect (q : Requester) (a : Nat) (d : Dev) : Dev :=
  if a % 4 = 0 then (readAny q a d).2 else d.unsupported q

/-- LO_LATCH_READ. -/
def execLoLatchRead (q : Requester) (addr : Nat) (s : State) : Host.Outcome State Fault Refusal :=
  s.run (loLatchReadEffect q addr)

end Sys2Proof.Machine
end

