-- ==== Sys2Proof/Machine/Commands.lean ====
section
/-! DEFINITION. Command rings (R349): WRITE, READ, WAIT, DMA_WRITE and NOP. -/

namespace Sys2Proof.Machine

/-- Key of a command ring of a domain. -/
abbrev cmdKey (dom r : Nat) : Nat := ringKey dom r

/-- Words that a descriptor moves: COUNT of a WRITE, and of a DMA_WRITE with 0 meaning 65,536 (Table 20-3). -/
def cmdCount (x : CmdDesc) : Nat := if x.op.toNat = 4 ∧ x.count.toNat = 0 then 65536 else x.count.toNat

/-- A descriptor that R349 allows: its operation, OFFSET a multiple of 4, COUNT in range. -/
def cmdGood (x : CmdDesc) (op : Nat) : Bool :=
  x.op.toNat == op && x.offset.toNat % 4 == 0 &&
    (match op with
      | 1 => decide (1 ≤ x.count.toNat ∧ x.count.toNat ≤ 12)
      | 4 => true
      | _ => x.count.toNat == 0)

/-- The next descriptor of a command ring runs when it is one the ring may run now (R346, R349): none while a WAIT of
the ring polls; a bad one stops the ring (R358) (assumption 104). -/
def Dev.cmdRun (d : Dev) (dom r op : Nat) (x : CmdDesc) (f : Dev → Dev) : Dev :=
  let k := cmdKey dom r
  if (tat none d.hst.waits k).isSome then d
  else match d.takeDesc k with
    | none => d
    | some e => if cmdGood x op then f e else d.badDesc k

/-- The descriptor ends with a status, unless its own effect has turned the ring off. -/
def Dev.cmdEnd (d : Dev) (k : Nat) (x : CmdDesc) (status value : Nat) : Dev :=
  if d.bit (rCfg k) 31 then d.complete k x.tag.toNat status value noTs x.notify else d

/-- Words written to OFFSET, OFFSET + 4 and so on while the ring stays on (assumption 104). -/
def Dev.cmdWords (d : Dev) (dom k : Nat) (x : CmdDesc) : Dev :=
  d.forEach ((List.range (cmdCount x)).zip x.data) (fun d p =>
    if d.bit (rCfg k) 31 then writeAny (.ring (Fin.ofNat 16 dom)) x.boot (x.offset.toNat + 4 * p.1) p.2 d else d)

/-- CMD_WRITE and CMD_DMA_WRITE: the words, in order, then the record. -/
def Dev.cmdWriteRun (d : Dev) (dom r op : Nat) (x : CmdDesc) : Dev :=
  d.cmdRun dom r op x (fun d => (d.cmdWords dom (cmdKey dom r) x).cmdEnd (cmdKey dom r) x 0 0)

/-- CMD_WRITE (R349). -/
def cmdWriteEffect (dom r : Nat) (x : CmdDesc) (d : Dev) : Dev := d.cmdWriteRun dom r 1 x

/-- CMD_WRITE. -/
def execCmdWrite (d : Fin 16) (r : Fin 2) (desc : CmdDesc) (s : State) : Host.Outcome State Fault Refusal :=
  s.run (cmdWriteEffect d r desc)

/-- CMD_READ (R349): the word at OFFSET in the record's VALUE. -/
def cmdReadEffect (dom r : Nat) (x : CmdDesc) (d : Dev) : Dev :=
  d.cmdRun dom r 2 x (fun d =>
    let p := readAny (.ring (Fin.ofNat 16 dom)) x.offset.toNat d
    p.2.cmdEnd (cmdKey dom r) x 0 p.1.toNat)

/-- CMD_READ. -/
def execCmdRead (d : Fin 16) (r : Fin 2) (desc : CmdDesc) (s : State) : Host.Outcome State Fault Refusal :=
  s.run (cmdReadEffect d r desc)

/-- A poll of a ring's WAIT (R349): OK on a match, TIMEOUT once TIMEOUT µs have passed (assumption 104). -/
def Dev.waitPoll (d : Dev) (dom r : Nat) (w : Waiting) : Dev :=
  let k := cmdKey dom r
  let p := readAny (.ring (Fin.ofNat 16 dom)) w.addr d
  let stop (status : Nat) : Dev :=
    { p.2 with hst := { p.2.hst with waits := tset none p.2.hst.waits k none } }.complete k w.tag status 0 noTs w.notify
  if p.1.toNat &&& w.mask = w.value then stop 0
  else if w.left = 0 then stop 2
  else { p.2 with hst := { p.2.hst with waits := tset none p.2.hst.waits k (some { w with left := w.left - 1 }) } }

/-- CMD_WAIT (R349): the first poll is at once; MATCH and TIMEOUT are the words of DATA. -/
def cmdWaitEffect (dom r : Nat) (x : CmdDesc) (d : Dev) : Dev :=
  d.cmdRun dom r 3 x (fun d => d.waitPoll dom r
    ⟨x.offset.toNat, x.mask.toNat, (x.data.getD 0 0).toNat, (x.data.getD 1 0).toNat, x.tag.toNat, x.notify⟩)

/-- CMD_WAIT. -/
def execCmdWait (d : Fin 16) (r : Fin 2) (desc : CmdDesc) (s : State) : Host.Outcome State Fault Refusal :=
  s.run (cmdWaitEffect d r desc)

/-- WAIT_POLL (R349): 1 µs later, while the ring runs. -/
def waitPollEffect (dom r : Nat) (d : Dev) : Dev :=
  match tat none d.hst.waits (cmdKey dom r) with
  | some w => if d.ringOn (cmdKey dom r) then d.waitPoll dom r w else d
  | none => d

/-- WAIT_POLL. -/
def execWaitPoll (d : Fin 16) (r : Fin 2) (s : State) : Host.Outcome State Fault Refusal := s.run (waitPollEffect d r)

/-- CMD_DMA_WRITE (R349): the words come from host memory; `data` is what the fetch returned. -/
def cmdDmaWriteEffect (dom r : Nat) (x : CmdDesc) (d : Dev) : Dev := d.cmdWriteRun dom r 4 x

/-- CMD_DMA_WRITE. -/
def execCmdDmaWrite (d : Fin 16) (r : Fin 2) (desc : CmdDesc) (s : State) : Host.Outcome State Fault Refusal :=
  s.run (cmdDmaWriteEffect d r desc)

/-- CMD_NOP (R349). -/
def cmdNopEffect (dom r : Nat) (x : CmdDesc) (d : Dev) : Dev :=
  d.cmdRun dom r 5 x (fun d => d.cmdEnd (cmdKey dom r) x 0 0)

/-- CMD_NOP. -/
def execCmdNop (d : Fin 16) (r : Fin 2) (desc : CmdDesc) (s : State) : Host.Outcome State Fault Refusal :=
  s.run (cmdNopEffect d r desc)

end Sys2Proof.Machine
end

