-- ==== Sys2Proof/Machine/Dispatch.lean ====
section
/-! DEFINITION. The meaning of each command: one arm per constructor of `Instr`. -/

namespace Sys2Proof.Machine

def exec (i : Instr) (s : State) : Host.Outcome State Fault Refusal :=
  match i with
  | .registerWrite q addr width v boot => Sys2Proof.Machine.execRegisterWrite q addr width v boot s
  | .loLatchRead q addr => Sys2Proof.Machine.execLoLatchRead q addr s
  | .esnQueuedIssue => Sys2Proof.Machine.execEsnQueuedIssue s
  | .rowTick => Sys2Proof.Machine.execRowTick s
  | .roundTick => Sys2Proof.Machine.execRoundTick s
  | .updateTick => Sys2Proof.Machine.execUpdateTick s
  | .tbLatchRead q k => Sys2Proof.Machine.execTbLatchRead q k s
  | .tbStep q k v => Sys2Proof.Machine.execTbStep q k v s
  | .tbPhaseWrite q k v => Sys2Proof.Machine.execTbPhaseWrite q k v s
  | .lockIndWrite q k v => Sys2Proof.Machine.execLockIndWrite q k v s
  | .tbMasterLost k => Sys2Proof.Machine.execTbMasterLost k s
  | .tickCtlWrite q v => Sys2Proof.Machine.execTickCtlWrite q v s
  | .esnResvWrite q v => Sys2Proof.Machine.execEsnResvWrite q v s
  | .txtsPop q p => Sys2Proof.Machine.execTxtsPop q p s
  | .portEnable q p => Sys2Proof.Machine.execPortEnable q p s
  | .portDisable q p => Sys2Proof.Machine.execPortDisable q p s
  | .retrain q p => Sys2Proof.Machine.execRetrain q p s
  | .trainingComplete p => Sys2Proof.Machine.execTrainingComplete p s
  | .trainFail p => Sys2Proof.Machine.execTrainFail p s
  | .linkUp p => Sys2Proof.Machine.execLinkUp p s
  | .noLockTimeout p => Sys2Proof.Machine.execNoLockTimeout p s
  | .linkDown p locks localFault receiving => Sys2Proof.Machine.execLinkDown p locks localFault receiving s
  | .remoteFault p => Sys2Proof.Machine.execRemoteFault p s
  | .remoteFaultClear p => Sys2Proof.Machine.execRemoteFaultClear p s
  | .frameReceived p f => Sys2Proof.Machine.execFrameReceived p f s
  | .pauseExpiry p c => Sys2Proof.Machine.execPauseExpiry p c s
  | .pfcFrameSend p => Sys2Proof.Machine.execPfcFrameSend p s
  | .pfcRepeat p => Sys2Proof.Machine.execPfcRepeat p s
  | .clsInsert q d => Sys2Proof.Machine.execClsInsert q d s
  | .clsDelete q d => Sys2Proof.Machine.execClsDelete q d s
  | .clsReplace q d => Sys2Proof.Machine.execClsReplace q d s
  | .clsLookup q d => Sys2Proof.Machine.execClsLookup q d s
  | .hashKeyWrite q n v => Sys2Proof.Machine.execHashKeyWrite q n v s
  | .polRead q d v => Sys2Proof.Machine.execPolRead q d v s
  | .polWriteCfg q d v => Sys2Proof.Machine.execPolWriteCfg q d v s
  | .polWriteAll q d v => Sys2Proof.Machine.execPolWriteAll q d v s
  | .keyInstall q d v => Sys2Proof.Machine.execKeyInstall q d v s
  | .keyErase q d v => Sys2Proof.Machine.execKeyErase q d v s
  | .keyReadStat q d v => Sys2Proof.Machine.execKeyReadStat q d v s
  | .keyRelease q d v => Sys2Proof.Machine.execKeyRelease q d v s
  | .indexRead q d v => Sys2Proof.Machine.execIndexRead q d v s
  | .indexSet q d v => Sys2Proof.Machine.execIndexSet q d v s
  | .derivationDone slot => Sys2Proof.Machine.execDerivationDone slot s
  | .tagVerdict chain ok => Sys2Proof.Machine.execTagVerdict chain ok s
  | .lateVerdict p => Sys2Proof.Machine.execLateVerdict p s
  | .fwdWalkResume chain => Sys2Proof.Machine.execFwdWalkResume chain s
  | .allocRequest p reqs => Sys2Proof.Machine.execAllocRequest p reqs s
  | .cacheRefill p => Sys2Proof.Machine.execCacheRefill p s
  | .chainShare agent id mask last => Sys2Proof.Machine.execChainShare agent id mask last s
  | .chainDrop agent id => Sys2Proof.Machine.execChainDrop agent id s
  | .chainFree agent id => Sys2Proof.Machine.execChainFree agent id s
  | .bpmCmdAlloc q d v => Sys2Proof.Machine.execBpmCmdAlloc q d v s
  | .bpmCmdShare q d v => Sys2Proof.Machine.execBpmCmdShare q d v s
  | .bpmCmdDrop q d v => Sys2Proof.Machine.execBpmCmdDrop q d v s
  | .bpmCmdFree q d v => Sys2Proof.Machine.execBpmCmdFree q d v s
  | .bpmCmdRead q d v => Sys2Proof.Machine.execBpmCmdRead q d v s
  | .taskSubmit agent dom desc => Sys2Proof.Machine.execTaskSubmit agent dom desc s
  | .subCmdGo q d v => Sys2Proof.Machine.execSubCmdGo q d v s
  | .take n => Sys2Proof.Machine.execTake n s
  | .give n atTick => Sys2Proof.Machine.execGive n atTick s
  | .giveY n => Sys2Proof.Machine.execGiveY n s
  | .sweepEnd => Sys2Proof.Machine.execSweepEnd s
  | .cqPop q d v => Sys2Proof.Machine.execCqPop q d v s
  | .mpy n form acc x y rest => Sys2Proof.Machine.execMpy n form acc x y rest s
  | .mac n form acc x y rest => Sys2Proof.Machine.execMac n form acc x y rest s
  | .msu n form acc x y rest => Sys2Proof.Machine.execMsu n form acc x y rest s
  | .clr n acc rest => Sys2Proof.Machine.execClr n acc rest s
  | .accShift n acc amount rest => Sys2Proof.Machine.execAccShift n acc amount rest s
  | .accAdd n dst src rest => Sys2Proof.Machine.execAccAdd n dst src rest s
  | .aluAdd n d x y rest => Sys2Proof.Machine.execAluAdd n d x y rest s
  | .aluSub n d x y rest => Sys2Proof.Machine.execAluSub n d x y rest s
  | .aluCompare n x y rest => Sys2Proof.Machine.execAluCompare n x y rest s
  | .aluMin n d x y rest => Sys2Proof.Machine.execAluMin n d x y rest s
  | .aluMax n d x y rest => Sys2Proof.Machine.execAluMax n d x y rest s
  | .aluAbs n d x rest => Sys2Proof.Machine.execAluAbs n d x rest s
  | .aluAnd n d x y rest => Sys2Proof.Machine.execAluAnd n d x y rest s
  | .aluOr n d x y rest => Sys2Proof.Machine.execAluOr n d x y rest s
  | .aluXor n d x y rest => Sys2Proof.Machine.execAluXor n d x y rest s
  | .aluMov n d x rest => Sys2Proof.Machine.execAluMov n d x rest s
  | .aluAdd2 n d x y rest => Sys2Proof.Machine.execAluAdd2 n d x y rest s
  | .aluSub2 n d x y rest => Sys2Proof.Machine.execAluSub2 n d x y rest s
  | .barrelShift n d x amount arith rest => Sys2Proof.Machine.execBarrelShift n d x amount arith rest s
  | .ext n d acc sh rest => Sys2Proof.Machine.execExt n d acc sh rest s
  | .ext2 n d j sh rest => Sys2Proof.Machine.execExt2 n d j sh rest s
  | .exp n d ofAcc x rest => Sys2Proof.Machine.execExp n d ofAcc x rest s
  | .extN n d e acc rest => Sys2Proof.Machine.execExtN n d e acc rest s
  | .dspLoad n y size r an step rest => Sys2Proof.Machine.execDspLoad n y size r an step rest s
  | .dspStore n y size r an step rest => Sys2Proof.Machine.execDspStore n y size r an step rest s
  | .ldi n r v rest => Sys2Proof.Machine.execLdi n r v rest s
  | .ldih n r v rest => Sys2Proof.Machine.execLdih n r v rest s
  | .regMove n toB2 dst fromB2 src rest => Sys2Proof.Machine.execRegMove n toB2 dst fromB2 src rest s
  | .pmov n r an step rest => Sys2Proof.Machine.execPmov n r an step rest s
  | .xadd n d sl an step rest => Sys2Proof.Machine.execXadd n d sl an step rest s
  | .jmp n target => Sys2Proof.Machine.execJmp n target s
  | .call n target => Sys2Proof.Machine.execCall n target s
  | .ret n => Sys2Proof.Machine.execRet n s
  | .br n cond target => Sys2Proof.Machine.execBr n cond target s
  | .loop n count last => Sys2Proof.Machine.execLoop n count last s
  | .lpop n => Sys2Proof.Machine.execLpop n s
  | .rti n => Sys2Proof.Machine.execRti n s
  | .post n desc => Sys2Proof.Machine.execPost n desc s
  | .fence n => Sys2Proof.Machine.execFence n s
  | .cinv n => Sys2Proof.Machine.execCinv n s
  | .nop n => Sys2Proof.Machine.execNop n s
  | .cycMatch n => Sys2Proof.Machine.execCycMatch n s
  | .interruptEntry n => Sys2Proof.Machine.execInterruptEntry n s
  | .mdct n c => Sys2Proof.Machine.execMdct n c s
  | .imdct n c => Sys2Proof.Machine.execImdct n c s
  | .rcDecode n c => Sys2Proof.Machine.execRcDecode n c s
  | .rcEncode n c => Sys2Proof.Machine.execRcEncode n c s
  | .pvqDecode n c => Sys2Proof.Machine.execPvqDecode n c s
  | .pvqSearch n c => Sys2Proof.Machine.execPvqSearch n c s
  | .convert n c => Sys2Proof.Machine.execConvert n c s
  | .setRatio n c => Sys2Proof.Machine.execSetRatio n c s
  | .asrcReset n c => Sys2Proof.Machine.execAsrcReset n c s
  | .toBuf n c => Sys2Proof.Machine.execToBuf n c s
  | .fromBuf n c => Sys2Proof.Machine.execFromBuf n c s
  | .copyAlloc n c => Sys2Proof.Machine.execCopyAlloc n c s
  | .copyFree n c => Sys2Proof.Machine.execCopyFree n c s
  | .copyDrop n c => Sys2Proof.Machine.execCopyDrop n c s
  | .unitDone sk unit => Sys2Proof.Machine.execUnitDone sk unit s
  | .coreHalt q n v => Sys2Proof.Machine.execCoreHalt q n v s
  | .coreResume q n v => Sys2Proof.Machine.execCoreResume q n v s
  | .coreStep q n v => Sys2Proof.Machine.execCoreStep q n v s
  | .coreRelease q n v => Sys2Proof.Machine.execCoreRelease q n v s
  | .regdataAccess q n w => Sys2Proof.Machine.execRegdataAccess q n w s
  | .memDataAccess q n w => Sys2Proof.Machine.execMemDataAccess q n w s
  | .dspBreak n => Sys2Proof.Machine.execDspBreak n s
  | .jbfReadActive q d v => Sys2Proof.Machine.execJbfReadActive q d v s
  | .jbfReadShadow q d v => Sys2Proof.Machine.execJbfReadShadow q d v s
  | .jbfWriteCfg q d v => Sys2Proof.Machine.execJbfWriteCfg q d v s
  | .jbfWriteLive q d v => Sys2Proof.Machine.execJbfWriteLive q d v s
  | .jbfReset q d v => Sys2Proof.Machine.execJbfReset q d v s
  | .cableMixStart => Sys2Proof.Machine.execCableMixStart s
  | .swapReq q v => Sys2Proof.Machine.execSwapReq q v s
  | .swapAccept => Sys2Proof.Machine.execSwapAccept s
  | .swapCancel q v => Sys2Proof.Machine.execSwapCancel q v s
  | .swapAck => Sys2Proof.Machine.execSwapAck s
  | .swapAckTimeout => Sys2Proof.Machine.execSwapAckTimeout s
  | .swapDone scope => Sys2Proof.Machine.execSwapDone scope s
  | .genReport => Sys2Proof.Machine.execGenReport s
  | .splitMute => Sys2Proof.Machine.execSplitMute s
  | .loadStart q v => Sys2Proof.Machine.execLoadStart q v s
  | .loadResume => Sys2Proof.Machine.execLoadResume s
  | .loadDone => Sys2Proof.Machine.execLoadDone s
  | .cmpCommit q inst v => Sys2Proof.Machine.execCmpCommit q inst v s
  | .cgEnable q k => Sys2Proof.Machine.execCgEnable q k s
  | .cgDisable q k => Sys2Proof.Machine.execCgDisable q k s
  | .cgAck q k => Sys2Proof.Machine.execCgAck q k s
  | .cgLost k => Sys2Proof.Machine.execCgLost k s
  | .cgEdgesResume k => Sys2Proof.Machine.execCgEdgesResume k s
  | .cgRateChange k => Sys2Proof.Machine.execCgRateChange k s
  | .cgStable k rate => Sys2Proof.Machine.execCgStable k rate s
  | .cgGlitch k n => Sys2Proof.Machine.execCgGlitch k n s
  | .loopHold k => Sys2Proof.Machine.execLoopHold k s
  | .loopLock k => Sys2Proof.Machine.execLoopLock k s
  | .gaugeWindow k n span => Sys2Proof.Machine.execGaugeWindow k n span s
  | .tickCopy => Sys2Proof.Machine.execTickCopy s
  | .linkCrc words => Sys2Proof.Machine.execLinkCrc words s
  | .fldLinkDown locks => Sys2Proof.Machine.execFldLinkDown locks s
  | .fldLinkUp => Sys2Proof.Machine.execFldLinkUp s
  | .decodeStart core => Sys2Proof.Machine.execDecodeStart core s
  | .decodeEnd core => Sys2Proof.Machine.execDecodeEnd core s
  | .vdePicLost ctx => Sys2Proof.Machine.execVdePicLost ctx s
  | .vdeReadActive q d v => Sys2Proof.Machine.execVdeReadActive q d v s
  | .vdeReadShadow q d v => Sys2Proof.Machine.execVdeReadShadow q d v s
  | .vdeWriteCfg q d v => Sys2Proof.Machine.execVdeWriteCfg q d v s
  | .vdeWriteLive q d v => Sys2Proof.Machine.execVdeWriteLive q d v s
  | .vdeReset q d v => Sys2Proof.Machine.execVdeReset q d v s
  | .encBandStart ctx band => Sys2Proof.Machine.execEncBandStart ctx band s
  | .encodeDone ctx => Sys2Proof.Machine.execEncodeDone ctx s
  | .venReadActive q d v => Sys2Proof.Machine.execVenReadActive q d v s
  | .venReadShadow q d v => Sys2Proof.Machine.execVenReadShadow q d v s
  | .venWriteCfg q d v => Sys2Proof.Machine.execVenWriteCfg q d v s
  | .venWriteLive q d v => Sys2Proof.Machine.execVenWriteLive q d v s
  | .venReset q d v => Sys2Proof.Machine.execVenReset q d v s
  | .cacheRebuild q inst v => Sys2Proof.Machine.execCacheRebuild q inst v s
  | .cmpFrameDone inst => Sys2Proof.Machine.execCmpFrameDone inst s
  | .dpoEnable q o => Sys2Proof.Machine.execDpoEnable q o s
  | .dpoDisable q o => Sys2Proof.Machine.execDpoDisable q o s
  | .dpoRetrain q o => Sys2Proof.Machine.execDpoRetrain q o s
  | .dpoHpd o => Sys2Proof.Machine.execDpoHpd o s
  | .hpdLow o => Sys2Proof.Machine.execHpdLow o s
  | .dpoLinkUp o levels => Sys2Proof.Machine.execDpoLinkUp o levels s
  | .dpoTrainFail o cause => Sys2Proof.Machine.execDpoTrainFail o cause s
  | .trainRetry o => Sys2Proof.Machine.execTrainRetry o s
  | .hpdIrq o => Sys2Proof.Machine.execHpdIrq o s
  | .vblank o => Sys2Proof.Machine.execVblank o s
  | .dpoUnderflow o => Sys2Proof.Machine.execDpoUnderflow o s
  | .auxNativeRead q o v => Sys2Proof.Machine.execAuxNativeRead q o v s
  | .auxNativeWrite q o v => Sys2Proof.Machine.execAuxNativeWrite q o v s
  | .auxI2cRead q o v => Sys2Proof.Machine.execAuxI2cRead q o v s
  | .auxI2cWrite q o v => Sys2Proof.Machine.execAuxI2cWrite q o v s
  | .auxReply o reply bytes => Sys2Proof.Machine.execAuxReply o reply bytes s
  | .auxDeferRetry o => Sys2Proof.Machine.execAuxDeferRetry o s
  | .auxTimeout o => Sys2Proof.Machine.execAuxTimeout o s
  | .tilePictureLost tile => Sys2Proof.Machine.execTilePictureLost tile s
  | .sqsFrameDone gallery => Sys2Proof.Machine.execSqsFrameDone gallery s
  | .sqsReadActive q d v => Sys2Proof.Machine.execSqsReadActive q d v s
  | .sqsReadShadow q d v => Sys2Proof.Machine.execSqsReadShadow q d v s
  | .sqsWriteCfg q d v => Sys2Proof.Machine.execSqsWriteCfg q d v s
  | .sqsWriteLive q d v => Sys2Proof.Machine.execSqsWriteLive q d v s
  | .sqsReset q d v => Sys2Proof.Machine.execSqsReset q d v s
  | .subRead q d v => Sys2Proof.Machine.execSubRead q d v s
  | .subWrite q d v => Sys2Proof.Machine.execSubWrite q d v s
  | .subWant q d v => Sys2Proof.Machine.execSubWant q d v s
  | .subDisable q d v => Sys2Proof.Machine.execSubDisable q d v s
  | .srcRead q d v => Sys2Proof.Machine.execSrcRead q d v s
  | .srcWrite q d v => Sys2Proof.Machine.execSrcWrite q d v s
  | .legReadActive q d v => Sys2Proof.Machine.execLegReadActive q d v s
  | .legReadShadow q d v => Sys2Proof.Machine.execLegReadShadow q d v s
  | .legWriteCfg q d v => Sys2Proof.Machine.execLegWriteCfg q d v s
  | .legWriteLive q d v => Sys2Proof.Machine.execLegWriteLive q d v s
  | .legSuspend q d v => Sys2Proof.Machine.execLegSuspend q d v s
  | .legResume q d v => Sys2Proof.Machine.execLegResume q d v s
  | .dequeueDecision p lead => Sys2Proof.Machine.execDequeueDecision p lead s
  | .frameTxEnd p => Sys2Proof.Machine.execFrameTxEnd p s
  | .gateChange q p v => Sys2Proof.Machine.execGateChange q p v s
  | .gateChanged p => Sys2Proof.Machine.execGateChanged p s
  | .egsFlush p => Sys2Proof.Machine.execEgsFlush p s
  | .dramRequest port dom addr data => Sys2Proof.Machine.execDramRequest port dom addr data s
  | .refreshDue k => Sys2Proof.Machine.execRefreshDue k s
  | .mr4Poll k mr4 rate above wrErr => Sys2Proof.Machine.execMr4Poll k mr4 rate above wrErr s
  | .delayUpdate k => Sys2Proof.Machine.execDelayUpdate k s
  | .dmcPanicLong k port => Sys2Proof.Machine.execDmcPanicLong k port s
  | .nfcMount q => Sys2Proof.Machine.execNfcMount q s
  | .nfcOpen q d v => Sys2Proof.Machine.execNfcOpen q d v s
  | .nfcClose q d v => Sys2Proof.Machine.execNfcClose q d v s
  | .readTrack q d v => Sys2Proof.Machine.execReadTrack q d v s
  | .readUnit q w => Sys2Proof.Machine.execReadUnit q w s
  | .appendHouse q w => Sys2Proof.Machine.execAppendHouse q w s
  | .nfcRelease q w => Sys2Proof.Machine.execNfcRelease q w s
  | .nfcFormat q w => Sys2Proof.Machine.execNfcFormat q w s
  | .nfcFormatDone failed => Sys2Proof.Machine.execNfcFormatDone failed s
  | .pageProgramDone ok => Sys2Proof.Machine.execPageProgramDone ok s
  | .eraseDone block failed => Sys2Proof.Machine.execEraseDone block failed s
  | .padFill => Sys2Proof.Machine.execPadFill s
  | .checkpoint => Sys2Proof.Machine.execCheckpoint s
  | .patrol block => Sys2Proof.Machine.execPatrol block s
  | .refreshDone block => Sys2Proof.Machine.execRefreshDone block s
  | .doorbellPi fn d r v => Sys2Proof.Machine.execDoorbellPi fn d r v s
  | .doorbellLimit fn d r v entries => Sys2Proof.Machine.execDoorbellLimit fn d r v entries s
  | .cmdWrite d r desc => Sys2Proof.Machine.execCmdWrite d r desc s
  | .cmdRead d r desc => Sys2Proof.Machine.execCmdRead d r desc s
  | .cmdWait d r desc => Sys2Proof.Machine.execCmdWait d r desc s
  | .waitPoll d r => Sys2Proof.Machine.execWaitPoll d r s
  | .cmdDmaWrite d r desc => Sys2Proof.Machine.execCmdDmaWrite d r desc s
  | .cmdNop d r desc => Sys2Proof.Machine.execCmdNop d r desc s
  | .injectRaw d r desc => Sys2Proof.Machine.execInjectRaw d r desc s
  | .injectSrtcp d r desc => Sys2Proof.Machine.execInjectSrtcp d r desc s
  | .injectRtp d r desc => Sys2Proof.Machine.execInjectRtp d r desc s
  | .msixCoalTimeout d src => Sys2Proof.Machine.execMsixCoalTimeout d src s
  | .dmaErr d r => Sys2Proof.Machine.execDmaErr d r s
  | .ringEnWrite q d r v => Sys2Proof.Machine.execRingEnWrite q d r v s
  | .hstFlr fn => Sys2Proof.Machine.execHstFlr fn s
  | .hstLink v => Sys2Proof.Machine.execHstLink v s
  | .bar2Access fn op => Sys2Proof.Machine.execBar2Access fn op s
  | .lcCmd q v boot => Sys2Proof.Machine.execLcCmd q v boot s
  | .otpRead q v => Sys2Proof.Machine.execOtpRead q v s
  | .otpProgram q v => Sys2Proof.Machine.execOtpProgram q v s
  | .floorCmd q v => Sys2Proof.Machine.execFloorCmd q v s
  | .revoke q v => Sys2Proof.Machine.execRevoke q v s
  | .dbgChallenge q v => Sys2Proof.Machine.execDbgChallenge q v s
  | .challengeExpiry => Sys2Proof.Machine.execChallengeExpiry s
  | .dbgUnlock q v => Sys2Proof.Machine.execDbgUnlock q v s
  | .dbgSet q v => Sys2Proof.Machine.execDbgSet q v s
  | .bindCmd q v => Sys2Proof.Machine.execBindCmd q v s
  | .secDomBound => Sys2Proof.Machine.execSecDomBound s
  | .rngRead q => Sys2Proof.Machine.execRngRead q s
  | .secRngFail => Sys2Proof.Machine.execSecRngFail s
  | .secMonTrip cause boot => Sys2Proof.Machine.execSecMonTrip cause boot s
  | .swtTrig q v => Sys2Proof.Machine.execSwtTrig q v s
  | .swatchInEdge falling => Sys2Proof.Machine.execSwatchInEdge falling s
  | .timeMatch => Sys2Proof.Machine.execTimeMatch s
  | .debugTrigger => Sys2Proof.Machine.execDebugTrigger s
  | .swtSwatch => Sys2Proof.Machine.execSwtSwatch s
  | .logRdWrite q d v => Sys2Proof.Machine.execLogRdWrite q d v s
  | .logEnWrite q d v => Sys2Proof.Machine.execLogEnWrite q d v s
  | .powerOnReset boot => Sys2Proof.Machine.execPowerOnReset boot s
  | .resetPin => Sys2Proof.Machine.execResetPin s
  | .thermalTrip => Sys2Proof.Machine.execThermalTrip s
  | .rstCmdCold q v boot => Sys2Proof.Machine.execRstCmdCold q v boot s
  | .rstCmdWarm q v boot => Sys2Proof.Machine.execRstCmdWarm q v boot s
  | .pciePerst boot => Sys2Proof.Machine.execPciePerst boot s
  | .pcieHotReset boot => Sys2Proof.Machine.execPcieHotReset boot s
  | .pfFlr boot => Sys2Proof.Machine.execPfFlr boot s
  | .sysPush q v boot => Sys2Proof.Machine.execSysPush q v boot s
  | .pwrCmdP0 q => Sys2Proof.Machine.execPwrCmdP0 q s
  | .pwrCmdP1 q => Sys2Proof.Machine.execPwrCmdP1 q s
  | .pwrCmdP2 q => Sys2Proof.Machine.execPwrCmdP2 q s
  | .pwrCmdP3 q => Sys2Proof.Machine.execPwrCmdP3 q s
  | .pfD3hot => Sys2Proof.Machine.execPfD3hot s
  | .wake pcie => Sys2Proof.Machine.execWake pcie s
  | .sysPwrDone => Sys2Proof.Machine.execSysPwrDone s
  | .sysRefLost ref => Sys2Proof.Machine.execSysRefLost ref s
  | .sysTempWarn tj => Sys2Proof.Machine.execSysTempWarn tj s
  | .cgFrameStart k house clk slots => Sys2Proof.Machine.execCgFrameStart k house clk slots s
  | .dramCommandSlot k link => Sys2Proof.Machine.execDramCommandSlot k link s
  | .rngValidRestored => Sys2Proof.Machine.execRngValidRestored s
  | .resetNRelease boot => Sys2Proof.Machine.execResetNRelease boot s
  | .thermalTripEnd boot => Sys2Proof.Machine.execThermalTripEnd boot s
  | .busMasterEnable fn on => Sys2Proof.Machine.execBusMasterEnable fn on s

end Sys2Proof.Machine
end

