-- ==== Sys2Proof/Safety.lean ====
section
/-! DEFINITION. What a claim says of a run: how a command answers, which access opens a register, what must hold before READY. -/

namespace Sys2Proof.Machine

/-- The command answers a next state: its own effect makes the device `e`, and at the end of its clock what was reported is
issued (R64). The waiting commands stay as they are. -/
def Answers (c : Instr) (s : State) (e : Dev) : Prop :=
  exec c s = .next { s with dev := e.settle s.dev.tim.queue.length }

/-- Requester `q` makes the access `a`, whose domain may act in domain `w`'s window (R340, R374), and region `n`'s block has
power (R401). -/
abbrev Opens (d : Dev) (q : Requester) (n w : Nat) (a : Access) : Prop :=
  d.access q = some a ∧ a.mayUse w = true ∧ d.regionOff n = false

/-- Requester `q` makes the access `a`, which may not act in domain `w`'s window, and region `n`'s block has power. -/
abbrev Shuts (d : Dev) (q : Requester) (n w : Nat) (a : Access) : Prop :=
  d.access q = some a ∧ a.mayUse w = false ∧ d.regionOff n = false

/-- Core `n` issues the word of operations `ops` (R130, R144): its skein has power, it runs and is not at a task's end, no breakpoint
stands at the word, and the word is aligned, legal, without an address fault and without a LOOP on a full stack. -/
abbrev Issues (d : Dev) (n : Nat) (ops : List SlotOp) : Prop :=
  d.regionOff (24 + n / 16) = false ∧ (d.core n).state = 1 ∧ (d.core n).ending = 0 ∧
  ((d.core n).skip = true ∨ d.breakHere n = false) ∧ (d.core n).pc % 4 = 0 ∧ (d.core n).illegal ops = false ∧
  ops.findSome? (d.accessFault n (d.core n)) = none ∧ (hasLoop ops = false ∨ (d.core n).b2 3 < 4)

/-- Before READY no arrival waits for an ESN, and the early buffer holds at most 64 records (R399). -/
abbrev EarlyOk (d : Dev) : Prop := d.ready = false → d.tim.queue = [] ∧ d.swt.early.length ≤ 64

/-- A run of the block is safe when no step stops it: every step answers a next state. -/
def SafeRun (s : State) : Nat → Prop
  | 0 => True
  | n + 1 => ∃ t, step s = .next t ∧ SafeRun t n

/-- The window a command acts in: who sends it, the region of its block and the domain of its window, 0 for a resource of SD0
(R340, R374). Commands whose domain a record of their own names are not listed. -/
def commandWindow : Instr → Option (Requester × Nat × Nat)
  | .tbLatchRead q _ => some (q, 3, 0)
  | .tbStep q _ _ => some (q, 3, 0)
  | .tbPhaseWrite q _ _ => some (q, 3, 0)
  | .lockIndWrite q _ _ => some (q, 3, 0)
  | .tickCtlWrite q _ => some (q, 3, 0)
  | .esnResvWrite q _ => some (q, 3, 0)
  | .txtsPop q _ => some (q, 3, 0)
  | .clsInsert q d => some (q, 10, d)
  | .clsDelete q d => some (q, 10, d)
  | .clsReplace q d => some (q, 10, d)
  | .clsLookup q d => some (q, 10, d)
  | .hashKeyWrite q _ _ => some (q, 10, 0)
  | .polRead q d _ => some (q, 15, d)
  | .polWriteCfg q d _ => some (q, 15, d)
  | .polWriteAll q d _ => some (q, 15, d)
  | .keyInstall q d _ => some (q, 12, d)
  | .keyErase q d _ => some (q, 12, d)
  | .keyReadStat q d _ => some (q, 12, d)
  | .keyRelease q d _ => some (q, 12, d)
  | .indexRead q d _ => some (q, 12, d)
  | .indexSet q d _ => some (q, 12, d)
  | .bpmCmdAlloc q d _ => some (q, 14, d)
  | .bpmCmdShare q d _ => some (q, 14, d)
  | .bpmCmdDrop q d _ => some (q, 14, d)
  | .bpmCmdFree q d _ => some (q, 14, d)
  | .bpmCmdRead q d _ => some (q, 14, d)
  | .subCmdGo q d _ => some (q, 20, d)
  | .cqPop q d _ => some (q, 20, d)
  | .jbfReadActive q d _ => some (q, 34, d)
  | .jbfReadShadow q d _ => some (q, 34, d)
  | .jbfWriteCfg q d _ => some (q, 34, d)
  | .jbfWriteLive q d _ => some (q, 34, d)
  | .jbfReset q d _ => some (q, 34, d)
  | .loadStart q _ => some (q, 2, 0)
  | .vdeReadActive q d _ => some (q, 40, d)
  | .vdeReadShadow q d _ => some (q, 40, d)
  | .vdeWriteCfg q d _ => some (q, 40, d)
  | .vdeWriteLive q d _ => some (q, 40, d)
  | .vdeReset q d _ => some (q, 40, d)
  | .venReadActive q d _ => some (q, 41, d)
  | .venReadShadow q d _ => some (q, 41, d)
  | .venWriteCfg q d _ => some (q, 41, d)
  | .venWriteLive q d _ => some (q, 41, d)
  | .venReset q d _ => some (q, 41, d)
  | .sqsReadActive q d _ => some (q, 44, d)
  | .sqsReadShadow q d _ => some (q, 44, d)
  | .sqsWriteCfg q d _ => some (q, 44, d)
  | .sqsWriteLive q d _ => some (q, 44, d)
  | .sqsReset q d _ => some (q, 44, d)
  | .subRead q d _ => some (q, 36, d)
  | .subWrite q d _ => some (q, 36, d)
  | .subWant q d _ => some (q, 36, d)
  | .subDisable q d _ => some (q, 36, d)
  | .srcRead q d _ => some (q, 36, d)
  | .srcWrite q d _ => some (q, 36, d)
  | .legReadActive q d _ => some (q, 35, d)
  | .legReadShadow q d _ => some (q, 35, d)
  | .legWriteCfg q d _ => some (q, 35, d)
  | .legWriteLive q d _ => some (q, 35, d)
  | .legSuspend q d _ => some (q, 35, d)
  | .legResume q d _ => some (q, 35, d)
  | .gateChange q _ _ => some (q, 16, 0)
  | .nfcMount q => some (q, 56, 0)
  | .nfcOpen q d _ => some (q, 56, d)
  | .nfcClose q d _ => some (q, 56, d)
  | .readTrack q d _ => some (q, 56, d)
  | .readUnit q w => some (q, 56, w)
  | .appendHouse q w => some (q, 56, w)
  | .nfcRelease q w => some (q, 56, w)
  | .nfcFormat q w => some (q, 56, w)
  | .ringEnWrite q d _ _ => some (q, 5, d)
  | .lcCmd q _ _ => some (q, 1, 0)
  | .otpRead q _ => some (q, 1, 0)
  | .otpProgram q _ => some (q, 1, 0)
  | .floorCmd q _ => some (q, 1, 0)
  | .revoke q _ => some (q, 1, 0)
  | .dbgChallenge q _ => some (q, 1, 0)
  | .dbgUnlock q _ => some (q, 1, 0)
  | .dbgSet q _ => some (q, 1, 0)
  | .bindCmd q _ => some (q, 1, 0)
  | .rngRead q => some (q, 1, 0)
  | .swtTrig q _ => some (q, 4, 0)
  | .logRdWrite q d _ => some (q, 4, d)
  | .logEnWrite q d _ => some (q, 4, d)
  | .rstCmdCold q _ _ => some (q, 0, 0)
  | .rstCmdWarm q _ _ => some (q, 0, 0)
  | .sysPush q _ _ => some (q, 0, 0)
  | .pwrCmdP0 q => some (q, 0, 0)
  | .pwrCmdP1 q => some (q, 0, 0)
  | .pwrCmdP2 q => some (q, 0, 0)
  | .pwrCmdP3 q => some (q, 0, 0)
  | .portEnable q _ => some (q, 8, 0)
  | .portDisable q _ => some (q, 8, 0)
  | .retrain q _ => some (q, 8, 0)
  | _ => none

/-- `e` differs from `d` in nothing that a report does not touch: the records of every block, the shadow copies and the waiting
LV writes are those of `d` (used where a command may only read). -/
def SameRecords (d e : Dev) : Prop :=
  e.cls = d.cls ∧ e.ing = d.ing ∧ e.cip = d.cip ∧ e.bpm = d.bpm ∧ e.fwd = d.fwd ∧ e.leg = d.leg ∧ e.egs = d.egs ∧ e.jbf = d.jbf ∧
  e.vde = d.vde ∧ e.ven = d.ven ∧ e.sqs = d.sqs ∧ e.nfc = d.nfc ∧ e.nand = d.nand ∧ e.hok = d.hok ∧ e.dsp = d.dsp ∧ e.net = d.net ∧
  e.dram = d.dram ∧ e.shadow = d.shadow ∧ e.lv = d.lv ∧ e.cnt = d.cnt

end Sys2Proof.Machine
end

