-- ==== Sys2Proof/Certificates/Slice0/Obligations.lean ====
section
/-! DEFINITION. What is claimed of the block: one statement per family of commands that says where each of its commands completes
and with which effect, the rules that hold over whole families, and the invariant that every step keeps. `Answers c s e` says that
command `c` answers a next state whose device is `e` once what it reported has been issued: `e` names everything the command
changes, so it is the command's frame as well. -/

open Sys2Proof Sys2Proof.Machine

/-! ### The queue of commands, reset and the issue of ESNs -/

/-- One step takes the command at the front and runs it on the rest; with none waiting the block idles (assumption 2). -/
def Obligations.StepTakesTheFront : Prop :=
  (∀ (s : State) (c : Instr) (rest : List Instr), s.pending = c :: rest → step s = exec c { s with pending := rest }) ∧
  (∀ s : State, s.pending = [] → step s = .next s)

/-- Every command answers a next state in every state, and touches no waiting command. -/
def Obligations.EveryCommandAnswers : Prop :=
  ∀ (c : Instr) (s : State), ∃ e : Dev, Answers c s e

/-- R399: a step keeps "before READY nothing waits for an ESN and the early buffer holds at most 64 records".
The model's choices behind it: assumption 5. -/
def Obligations.EarlyBufferKept : Prop :=
  ∀ s t : State, EarlyOk s.dev → step s = .next t → EarlyOk t.dev

/-- The invariant of the early buffer holds at reset, which is before READY. -/
def Obligations.EarlyBufferAtReset : Prop :=
  EarlyOk State.reset.dev ∧ State.reset.dev.ready = false ∧ State.reset.pending = []

/-- What reset leaves: registers at the reset values of their description lines (a selection, one of each kind of block), every
port, core and time base in its first state, every memory and table empty.
The model's choices behind it: assumptions 1, 8, 10. -/
def Obligations.ResetValues : Prop :=
  State.reset.dev.reg Reg.PAT_ID = 0x960000A1 ∧ State.reset.dev.reg Reg.SYS_PWR_CFG = 3 ∧ State.reset.dev.reg Reg.SWT_CTL = 0x80 ∧
  State.reset.dev.power = 0 ∧ State.reset.dev.level = 0 ∧
  (∀ p : Fin 8, State.reset.dev.portState p = 0) ∧ (∀ k : Fin 8, State.reset.dev.tbState k = 0) ∧
  (∀ k : Fin 32, State.reset.dev.fld (Reg.FLD_CG_STAT k) 2 0 = 0) ∧
  (∀ k : Fin 8, State.reset.dev.slot k = 0) ∧ State.reset.dev.flowOcc = 0 ∧ State.reset.dev.storeState = 0 ∧
  State.reset.dev.dram = [] ∧ State.reset.dev.tim.queue = [] ∧ State.reset.dev.tim.reported = []

/-! ### Time bases, ticks and ESNs (03) -/

/-- R64: with the time base at READY, one clock issues at most four ESNs, in order, and nothing is issued twice: the next ESN rises
by the number issued, and that many records at most are issued.
The model's choices behind it: assumption 4. -/
def Obligations.AtMostFourEsns : Prop :=
  ∀ s : State, s.dev.ready = true → ∃ (e : Dev) (n : Nat),
    exec .esnQueuedIssue s = .next { s with dev := e } ∧ n ≤ 4 ∧ e.tim.esn = (s.dev.tim.esn + n) % 2 ^ 64 ∧
    e.tim.reported.length ≤ s.dev.tim.reported.length + 4 ∧
    (s.dev.tim.queue = [] → e = s.dev)

/-- R65: the event that has waited longest takes the next ESN and the time of the row time base when it is issued, and its record
stays among the records issued. -/
def Obligations.OldestEventTakesNextEsn : Prop :=
  ∀ (s : State) (code inst dom sev : Nat) (args : List Byte) (rest : List Arrival), s.dev.ready = true →
    s.dev.tim.queue = .event code inst dom sev args :: rest →
    ∃ e : Dev, exec .esnQueuedIssue s = .next { s with dev := e } ∧
      (⟨s.dev.tim.esn, s.dev.rowNs, code, inst, dom, sev, args⟩ : EventRec) ∈ e.tim.reported

/-- R64: the arrivals of one clock are put in ascending block number, then ascending instance; none is lost, and those of one block
and instance keep their order.
The model's choices behind it: assumption 4. -/
def Obligations.ArrivalsInBlockOrder : Prop :=
  ∀ l : List Arrival, (sortArrivals l).Pairwise (fun x y => arrivalRank x ≤ arrivalRank y) ∧ (sortArrivals l).Perm l ∧
    ∀ k : Nat, (sortArrivals l).filter (fun x => arrivalRank x == k) = l.filter (fun x => arrivalRank x == k)

/-- R53: a write of GO sets a time base that is not in use to the set seconds and nanoseconds, fraction zero, and clears the
remainder; one in use keeps its time and raises TB_STEP_REFUSED. The FAR bit follows the remainder (R55).
The model's choices behind it: assumption 30. -/
def Obligations.TimeBaseStep : Prop :=
  (∀ (s : State) (q : Requester) (a : Access) (k : Fin 8) (v : Word), Opens s.dev q 3 0 a → wbit v 0 = true → s.dev.inUse k = false →
    ∃ e : Dev, Answers (.tbStep q k v) s e ∧
      (e.tb k).time = (((s.dev.reg (Reg.TIM_TB_SET_SEC_LO k)).toNat + 2 ^ 32 * s.dev.fld (Reg.TIM_TB_SET_SEC_HI k) 15 0) * 10 ^ 9 +
        s.dev.fld (Reg.TIM_TB_SET_NS k) 29 0) * 2 ^ 40 ∧
      (e.tb k).rem = 0 ∧ (∀ j : Nat, j ≠ k → e.tb j = s.dev.tb j) ∧ e.bit (Reg.TIM_TB_STAT k) 6 = (s.dev.bit (Reg.TIM_TB_STAT k) 6 &&
        s.dev.reg (Reg.TIM_TB_FAR_LIMIT k) == 0) ∧ e.dram = s.dev.dram) ∧
  (∀ (s : State) (q : Requester) (a : Access) (k : Fin 8) (v : Word), Opens s.dev q 3 0 a → wbit v 0 = true → s.dev.inUse k = true →
    Answers (.tbStep q k v) s (s.dev.raise Ev.TB_STEP_REFUSED k))

/-- R47: a read of TIM_TB_FRAC shows the fraction and latches the whole time base; the reads of NS, SEC_LO and SEC_HI that follow,
in whatever state holds that latch, show the time that the first read met. -/
def Obligations.LatchedTime : Prop :=
  ∀ (s : State) (q : Requester) (x : Access) (k : Fin 8) (t : Nat), q ≠ .debug → s.dev.access q = some x → x.dom = 0 →
    s.dev.regionOff 3 = false → tat 0 s.dev.swt.view x.bank = 0 → t = (s.dev.tb k).time →
    (readAny q (Reg.TIM_TB_FRAC k) s.dev).1 = w32 (t / 2 ^ 24 % 2 ^ 16) ∧
    ∃ e : Dev, Answers (.tbLatchRead q k) s e ∧ e = (readAny q (Reg.TIM_TB_FRAC k) s.dev).2 ∧ (e.tb k).latch = t ∧
      (∀ d : Dev, (d.tb k).latch = t → d.access q = some x → d.regionOff 3 = false → tat 0 d.swt.view x.bank = 0 →
        (readAny q (Reg.TIM_TB_NS k) d).1 = w32 (t / 2 ^ 40 % 10 ^ 9) ∧
        (readAny q (Reg.TIM_TB_SEC_LO k) d).1 = w32 (t / 2 ^ 40 / 10 ^ 9) ∧
        (readAny q (Reg.TIM_TB_SEC_HI k) d).1 = w32 (t / 2 ^ 40 / 10 ^ 9 / 2 ^ 32 % 2 ^ 16))

/-- The other commands of TIM complete: a latch copies the time (R47), a PHASE or LOCK_IND write waits for the update tick (R42,
R43), the reservation limit rises and re-arms both events or, without an increase, is ignored (R66), a timestamp is taken from the
FIFO (R51), and a lost master moves a LOCKED time base to PARTNER or HOLDOVER and one in ACQUIRE to FREE (Table 03-2). -/
def Obligations.TimeCommandsComplete : Prop :=
  (∀ (s : State) (q : Requester) (a : Access) (k : Fin 8), Opens s.dev q 3 0 a →
    Answers (.tbLatchRead q k) s (s.dev.setTb k { s.dev.tb k with latch := (s.dev.tb k).time })) ∧
  (∀ (s : State) (q : Requester) (a : Access) (k : Fin 8) (v : Word), Opens s.dev q 3 0 a → s.dev.ready = true →
    Answers (.tbPhaseWrite q k v) s (s.dev.lvWrite (Reg.TIM_TB_PHASE_HI k) v) ∧
    Answers (.lockIndWrite q k v) s (s.dev.lvWrite (Reg.TIM_TB_CTL k) v)) ∧
  (∀ (s : State) (q : Requester) (a : Access) (v : Word), Opens s.dev q 3 0 a →
    Answers (.esnResvWrite q v) s
      (if s.dev.tim.limit < (s.dev.reg Reg.TIM_ESN_RESV_LO).toNat + 2 ^ 32 * v.toNat then
        { s.dev.setReg Reg.TIM_ESN_RESV_HI v with
          tim := { s.dev.tim with limit := (s.dev.reg Reg.TIM_ESN_RESV_LO).toNat + 2 ^ 32 * v.toNat, low := true, pastLimit := true } }.esnWatch
      else s.dev.setReg64 Reg.TIM_ESN_RESV_LO Reg.TIM_ESN_RESV_HI s.dev.tim.limit)) ∧
  (∀ (s : State) (q : Requester) (a : Access) (p : Fin 8), Opens s.dev q 3 0 a →
    Answers (.txtsPop q p) s (s.dev.setStamps p (s.dev.stamps p).tail)) ∧
  (∀ (s : State) (k : Fin 8), s.dev.fld (Reg.TIM_TB_LOSS k) 15 0 ≠ 0 → s.dev.tbState k = 1 →
    Answers (.tbMasterLost k) s
      (((s.dev.setTb k { s.dev.tb k with ownSync := false }).setTbState k 0).raise Ev.TB_MASTER_LOST k)) ∧
  (∀ (s : State) (k : Fin 8), s.dev.fld (Reg.TIM_TB_LOSS k) 15 0 ≠ 0 → s.dev.tbState k = 2 → s.dev.tbPaired k = false →
    Answers (.tbMasterLost k) s
      ((((((s.dev.setTb k { s.dev.tb k with ownSync := false }).raise Ev.TB_MASTER_LOST k).setTbState k 4).raise Ev.TB_HOLDOVER k)).leftLocked k)) ∧
  (∀ (s : State) (k : Fin 8), s.dev.fld (Reg.TIM_TB_LOSS k) 15 0 ≠ 0 → s.dev.tbState k = 2 → s.dev.tbPaired k = true →
    s.dev.tbState (k.val + 1) = 2 →
    Answers (.tbMasterLost k) s
      (((s.dev.setTb k { s.dev.tb k with ownSync := false }).raise Ev.TB_MASTER_LOST k).toPartner k))

/-- The ticks and TIM_TICK_CTL complete. An update tick passes 1,500 fabric clocks, then runs each time base's limiter and, with
media powered, the shapers (R54, R297). A row or round tick moves time to its boundary, takes its number and runs the blocks (R59,
R61). A write of TIM_TICK_CTL takes both enables; a swap whose ticks stop is aborted (R37, R63).
The model's choices behind it: assumptions 27, 28, 29. -/
def Obligations.TicksComplete : Prop :=
  (∀ s : State, s.dev.power < 2 →
    Answers .updateTick s
      (((((s.dev.advance 1500).lvCommit 0x302000 0x303000).forEach (List.range 8) Dev.tbUpdate)).shaperTick)) ∧
  (∀ s : State, s.dev.power = 2 →
    Answers .updateTick s (((s.dev.advance 1500).lvCommit 0x302000 0x303000).forEach (List.range 8) Dev.tbUpdate)) ∧
  (∀ s : State, s.dev.bit Reg.TIM_TICK_CTL 0 = true → s.dev.power < 3 →
    ∃ d : Dev, d = (s.dev.toBoundary false (s.dev.nextTick false)).cabEnd ∧
      Answers .rowTick s
        ((({ d with tim := { d.tim with row := s.dev.nextTick false, rowRan := true, rowFresh := false } } : Dev).rowMarks).rowWork
          (s.dev.tim.rowRan && s.dev.nextTick false != s.dev.tim.row + 1) (s.dev.nextTick false - s.dev.tim.row - 1))) ∧
  (∀ s : State, s.dev.bit Reg.TIM_TICK_CTL 1 = true → s.dev.power < 3 →
    ∃ d : Dev, d = s.dev.toBoundary true (s.dev.nextTick true) ∧
      Answers .roundTick s
        ({ d with tim := { d.tim with round := s.dev.nextTick true, roundFresh := false }, fwd := { d.fwd with keyMark := [] } } : Dev).roundWork) ∧
  (∀ (s : State) (q : Requester) (a : Access) (v : Word), Opens s.dev q 3 0 a →
    (s.dev.bit Reg.TIM_TICK_CTL 0 = true → wbit v 0 = true) → (s.dev.bit Reg.TIM_TICK_CTL 1 = true → wbit v 1 = true) →
    Answers (.tickCtlWrite q v) s
      { s.dev.setReg Reg.TIM_TICK_CTL (w32 (wfld v 1 0)) with
        tim := { s.dev.tim with
          rowFresh := s.dev.tim.rowFresh || (wbit v 0 && !s.dev.bit Reg.TIM_TICK_CTL 0)
          roundFresh := s.dev.tim.roundFresh || (wbit v 1 && !s.dev.bit Reg.TIM_TICK_CTL 1) } })

/-- R46, R54: an update tick with media powered down passes exactly 1,500 fabric clocks, keeps the row and round numbers, and moves
every time base by its effective rate.
The model's choices behind it: assumption 28. -/
def Obligations.UpdateTickPassesTime : Prop :=
  ∀ s : State, s.dev.power = 2 →
    ∃ e : Dev, Answers .updateTick s e ∧ e.tim.clocks = s.dev.tim.clocks + 1500 ∧ e.tim.row = s.dev.tim.row ∧
      e.tim.round = s.dev.tim.round ∧ e.dram = s.dev.dram ∧ e.dsp = s.dev.dsp ∧
      ∀ k : Fin 8, (e.tb k).time = (tbAdvance (s.dev.tb k) (s.dev.rateEff k) 1500).time

/-! ### Ports and the MAC (04) -/

/-- Table 04-2: the port commands complete, each in the states its row names, with the state, the status bits, the counters and the
event of that row.
The model's choices behind it: assumptions 37, 38. -/
def Obligations.PortCommandsComplete : Prop :=
  (∀ (s : State) (q : Requester) (a : Access) (p : Fin 8), Opens s.dev q 8 0 a → s.dev.portAbsent p = false → s.dev.retired = false →
    s.dev.bit (Reg.NET_PORT_CTL p) 0 = false →
    Answers (.portEnable q p) s ((s.dev.setBit (Reg.NET_PORT_CTL p) 0 true).setPort p (if s.dev.trains p then 1 else 2))) ∧
  (∀ (s : State) (q : Requester) (a : Access) (p : Fin 8), Opens s.dev q 8 0 a → s.dev.portAbsent p = false → s.dev.portState p < 3 →
    Answers (.portDisable q p) s ((s.dev.setBit (Reg.NET_PORT_CTL p) 0 false).setPort p 0)) ∧
  (∀ (s : State) (q : Requester) (a : Access) (p : Fin 8), Opens s.dev q 8 0 a → s.dev.portAbsent p = false → s.dev.portState p = 4 →
    Answers (.portDisable q p) s
      ((((s.dev.setBit (Reg.NET_PORT_CTL p) 0 false).setPort p 0).setBit (Reg.NET_PORT_STAT p) 7 false).raise Ev.LINK_DOWN p)) ∧
  (∀ (s : State) (q : Requester) (a : Access) (p : Fin 8), Opens s.dev q 8 0 a → s.dev.portAbsent p = false → s.dev.portState p = 3 →
    tat none s.dev.egs.tx p = none →
    Answers (.portDisable q p) s
      ((((s.dev.setBit (Reg.NET_PORT_CTL p) 0 false).setPort p 0).setBit (Reg.NET_PORT_STAT p) 7 false).raise Ev.LINK_DOWN p)) ∧
  (∀ (s : State) (q : Requester) (a : Access) (p : Fin 8), Opens s.dev q 8 0 a → s.dev.portAbsent p = false →
    Answers (.retrain q p) s (if s.dev.portState p = 2 ∧ s.dev.trains p = true then s.dev.setPort p 1 else s.dev)) ∧
  (∀ (s : State) (p : Fin 8), s.dev.portState p = 1 →
    Answers (.trainingComplete p) s (s.dev.setPort p 2) ∧
    Answers (.trainFail p) s ((s.dev.setBit (Reg.NET_PORT_STAT p) 8 true).raise Ev.TRAIN_FAIL p)) ∧
  (∀ (s : State) (p : Fin 8), s.dev.portState p = 2 →
    Answers (.linkUp p) s (((s.dev.setFld (Reg.NET_PORT_STAT p) 6 3 7).portReady p).raise Ev.LINK_UP p)) ∧
  (∀ (s : State) (p : Fin 8), s.dev.portState p = 2 → s.dev.trains p = true →
    Answers (.noLockTimeout p) s (s.dev.setPort p 1)) ∧
  (∀ (s : State) (p : Fin 8), s.dev.portState p = 3 →
    Answers (.remoteFault p) s (((s.dev.setPort p 4).setBit (Reg.NET_PORT_STAT p) 7 true).raise Ev.REMOTE_FAULT p)) ∧
  (∀ (s : State) (p : Fin 8), s.dev.portState p = 4 →
    Answers (.remoteFaultClear p) s ((s.dev.portReady p).setBit (Reg.NET_PORT_STAT p) 7 false))

/-- Table 04-2: lock lost, or a local fault, takes a port in UP to DOWN with LINK_DOWN. The lock and fault bits follow, lost lock
is counted, a frame being received is counted in NET_RX_FCS_ERR, and a frame being sent is ended as bad; nothing else of the egress
side changes, and no memory. -/
def Obligations.LinkDown : Prop :=
  ∀ (s : State) (p : Fin 8) (locks : BitVec 3) (fault receiving : Bool), s.dev.portState p = 3 → (locks ≠ 7 ∨ fault = true) →
    ∃ e : Dev, Answers (.linkDown p locks fault receiving) s (e.raise Ev.LINK_DOWN p) ∧
      e.portState p = 2 ∧ e.fld (Reg.NET_PORT_STAT p) 6 3 = locks.toNat + 8 * fault.toNat ∧ e.bit (Reg.NET_PORT_STAT p) 7 = false ∧
      e.reg (Reg.NET_LOCK_LOSS p) = satAdd (s.dev.reg (Reg.NET_LOCK_LOSS p)) (if locks = 7 then 0 else 1) ∧
      e.reg (Reg.NET_RX_FCS_ERR p) = satAdd (s.dev.reg (Reg.NET_RX_FCS_ERR p)) (if receiving then 1 else 0) ∧
      tat none e.egs.tx p = (tat none s.dev.egs.tx p).map (fun t => { t with bad := true }) ∧
      (∀ r : Fin 8, r ≠ p → tat none e.egs.tx r = tat none s.dev.egs.tx r ∧ e.portState r = s.dev.portState r) ∧
      e.dram = s.dev.dram ∧ e.bpm = s.dev.bpm ∧ e.cnt = s.dev.cnt

/-- R72, R73: a node whose quanta run out resumes, and only it. On assertion the MAC sends the quanta of every asserted priority,
on deassertion quanta 0 for what deasserted, and while a priority stays asserted the frame is repeated. R71, R112: a frame that
arrives on an UP port, passes the MAC's checks, is for the port and is no MAC control frame is counted; the receive agent's request
is answered; with a chain the frame is stored and timestamped in it and goes to classification, without one it is dropped.
The model's choices behind it: assumptions 38 to 40. -/
def Obligations.ReceiveCommandsComplete : Prop :=
  (∀ (s : State) (p c : Fin 8),
    Answers (.pauseExpiry p c) s
      (({ s.dev with net := { s.dev.net with quanta := tset 0 s.dev.net.quanta (8 * p.val + c.val) 0 } } : Dev).setBit
        (Reg.NET_PFC_STAT p) (8 + c.val) false)) ∧
  (∀ (s : State) (p : Fin 8), s.dev.portUp p = true → s.dev.fld (Reg.NET_PFC_STAT p) 7 0 = 0 → s.dev.xoffNow p ≠ 0 →
    Answers (.pfcFrameSend p) s
      ((s.dev.setFld (Reg.NET_PFC_STAT p) 7 0 (s.dev.xoffNow p)).pfcEmit p (s.dev.xoffNow p) (s.dev.fld (Reg.NET_PFC_CFG p) 31 16))) ∧
  (∀ (s : State) (p : Fin 8), s.dev.portUp p = true → s.dev.fld (Reg.NET_PFC_STAT p) 7 0 ≠ 0 → s.dev.xoffNow p = 0 →
    Answers (.pfcFrameSend p) s
      ((s.dev.setFld (Reg.NET_PFC_STAT p) 7 0 0).pfcEmit p (s.dev.fld (Reg.NET_PFC_STAT p) 7 0) 0)) ∧
  (∀ (s : State) (p : Fin 8), s.dev.portUp p = true → s.dev.fld (Reg.NET_PFC_STAT p) 7 0 ≠ 0 →
    Answers (.pfcRepeat p) s (s.dev.pfcEmit p (s.dev.fld (Reg.NET_PFC_STAT p) 7 0) (s.dev.fld (Reg.NET_PFC_CFG p) 31 16))) ∧
  (∀ (s : State) (p : Fin 8) (f : RxFrame), s.dev.portUp p = true → s.dev.regionOff 8 = false → s.dev.fecOn = false →
    (s.dev.packetUnit p).macFault p f.bytes f.fcsOk 0 = none → (s.dev.packetUnit p).macHit p f.bytes = true →
    beAt f.bytes 12 2 ≠ 0x8808 →
    ∃ d : Dev, d = (((s.dev.packetUnit p).fecCounts p 0 0).count64 (Reg.NET_RX_FRAMES_LO p)).count64 (Reg.NET_RX_BYTES_LO p) (f.bytes.length + 4) ∧
      Answers (.frameReceived p f) s
        (match d.alloc f.pool p (min 5 (buffersFor (d.fld (Reg.BPM_POOL_CFG f.pool) 7 0) f.bytes.length)) 0 with
        | (none, e) => e.post (.packet p none)
        | (some id, e) =>
          let g := (e.storeFrame id f.bytes).post (.packet p (some id))
          (g.setDesc id { g.desc id with ts := d.ingressTime p }).classify ⟨p, d.ingressTime p, id, f.bytes, false⟩))

/-! ### The flow store and the policers (04) -/

/-- The commands of the flow store complete (R80, R81): INSERT of an admitted new record places it along the path found or in the
lowest free CAM entry with result 0; DELETE empties the place of the record named and refills a freed slot; REPLACE writes the
place; LOOKUP copies the record into the window.
The model's choices behind it: assumption 43. -/
def Obligations.FlowCommandsComplete : Prop :=
  (∀ (s : State) (q : Requester) (a : Access) (w : Fin 16) (path : List Nat), Opens s.dev q 10 w a →
    recOk (s.dev.staged w) true = true → s.dev.recAllowed w (s.dev.staged w) = true →
    s.dev.flowFind (recKey (s.dev.staged w)) = none → s.dev.flowOcc ≠ 1048576 + 4096 →
    s.dev.flowSearch 256 ((s.dev.slots (recKey (s.dev.staged w))).map (fun x => [x])) (s.dev.slots (recKey (s.dev.staged w))) = some path →
    Answers (.clsInsert q w) s
      (((s.dev.flowShift (s.dev.staged w) path).flowCount w).flowResult w 0 (some (.way (path.getLastD 0))))) ∧
  (∀ (s : State) (q : Requester) (a : Access) (w : Fin 16), Opens s.dev q 10 w a →
    recOk (s.dev.staged w) true = true → s.dev.recAllowed w (s.dev.staged w) = true →
    s.dev.flowFind (recKey (s.dev.staged w)) = none → s.dev.flowOcc ≠ 1048576 + 4096 →
    s.dev.flowSearch 256 ((s.dev.slots (recKey (s.dev.staged w))).map (fun x => [x])) (s.dev.slots (recKey (s.dev.staged w))) = none →
    s.dev.camFree < 4096 →
    Answers (.clsInsert q w) s
      (((s.dev.flowPut (.cam s.dev.camFree) (s.dev.staged w)).flowCount w).flowResult w 0 (some (.cam s.dev.camFree)))) ∧
  (∀ (s : State) (q : Requester) (a : Access) (w : Fin 16) (x : FlowAt), Opens s.dev q 10 w a →
    recOk (s.dev.staged w) false = true → s.dev.flowFind (recKey (s.dev.staged w)) = some x →
    s.dev.recAllowed w (s.dev.flowRec x) = true →
    Answers (.clsDelete q w) s
      (((match x with
        | .way i => (s.dev.flowPut x 0).flowRefill i
        | .cam _ => s.dev.flowPut x 0).flowCount w).flowResult w 0)) ∧
  (∀ (s : State) (q : Requester) (a : Access) (w : Fin 16) (x : FlowAt), Opens s.dev q 10 w a →
    recOk (s.dev.staged w) true = true → s.dev.recAllowed w (s.dev.staged w) = true →
    s.dev.flowFind (recKey (s.dev.staged w)) = some x → s.dev.recAllowed w (s.dev.flowRec x) = true →
    Answers (.clsReplace q w) s ((s.dev.flowPut x (s.dev.staged w)).flowResult w 0 (some x))) ∧
  (∀ (s : State) (q : Requester) (a : Access) (w : Fin 16) (x : FlowAt), Opens s.dev q 10 w a →
    recOk (s.dev.staged w) false = true → s.dev.flowFind (recKey (s.dev.staged w)) = some x →
    (w.val = 0 ∨ recDom (s.dev.flowRec x) = w.val) → s.dev.recAllowed w (s.dev.flowRec x) = true →
    Answers (.clsLookup q w) s
      ((s.dev.setRegsNat (Reg.CLS_CMD_REC w 0) (s.dev.flowRec x) 8).flowResult w 0 (some x)))

/-- R81: an accepted INSERT into the first slot it tries leaves the record where LOOKUP of its key finds it, and changes no other
slot and no CAM entry. -/
def Obligations.InsertedRecordIsFound : Prop :=
  ∀ (s : State) (q : Requester) (a : Access) (w : Fin 16), Opens s.dev q 10 w a →
    recOk (s.dev.staged w) true = true → s.dev.recAllowed w (s.dev.staged w) = true →
    s.dev.flowFind (recKey (s.dev.staged w)) = none → s.dev.flowOcc ≠ 1048576 + 4096 →
    s.dev.wayRec ((s.dev.slots (recKey (s.dev.staged w))).headD 0) = 0 →
    ∃ e : Dev, Answers (.clsInsert q w) s e ∧ e.flowLookup (recKey (s.dev.staged w)) = some (s.dev.staged w) ∧
      e.wayRec ((s.dev.slots (recKey (s.dev.staged w))).headD 0) = s.dev.staged w ∧
      (∀ i : Nat, i ≠ (s.dev.slots (recKey (s.dev.staged w))).headD 0 → e.wayRec i = s.dev.wayRec i) ∧
      e.cls.cam = s.dev.cls.cam ∧ e.cls.key = s.dev.cls.key

/-- R83: cast-on ends with the hash key that Vadjaryn has drawn from the random number source; a write of the hash key is accepted
only while CLS_OCC is 0; any other write is ignored and raises CLS_WHILE_RUN. -/
def Obligations.HashKeyOnlyWhileEmpty : Prop :=
  (∀ (s : State) (q : Requester) (a : Access) (i : Fin 4) (v : Word), Opens s.dev q 10 0 a → s.dev.flowOcc = 0 →
    Answers (.hashKeyWrite q i v) s
      { s.dev with cls := { s.dev.cls with key := rset s.dev.cls.key (4 * i.val) 4 v.toNat } }) ∧
  (∀ (s : State) (q : Requester) (a : Access) (i : Fin 4) (v : Word), Opens s.dev q 10 0 a → s.dev.flowOcc ≠ 0 →
    ∃ args : List Byte, Answers (.hashKeyWrite q i v) s (s.dev.raise Ev.CLS_WHILE_RUN 0 0 args)) ∧
  (∀ (d : Dev) (boot : BootEnv), (d.makeReady boot).cls.key = boot.hashKey.toNat)

/-- R89: a policer command in window w on a policer of w takes effect and answers 0. READ copies the record; WRITE_CFG writes bytes
0-7 and 20-29 and keeps the tokens; WRITE_ALL writes every byte but LAST, the current tick, and RED_CNT, 0. One on another domain's
policer is refused with POL_RANGE. -/
def Obligations.PolicerCommandsComplete : Prop :=
  (∀ (s : State) (q : Requester) (a : Access) (w : Fin 16) (v : Word), Opens s.dev q 15 w a → s.dev.polAllowed w (wfld v 15 0) = true →
    Answers (.polRead q w v) s
      ((s.dev.setRegsNat (Reg.ING_POL_REC w 0) (s.dev.policer (wfld v 15 0)) 8).setReg (Reg.ING_POL_STAT w) 0) ∧
    Answers (.polWriteCfg q w v) s
      ((s.dev.setPolicer (wfld v 15 0)
        (rset (rset (s.dev.policer (wfld v 15 0)) 0 8 (rf (s.dev.polStaged w) 0 8)) 20 10 (rf (s.dev.polStaged w) 20 10))).setReg
          (Reg.ING_POL_STAT w) 0) ∧
    Answers (.polWriteAll q w v) s
      ((s.dev.setPolicer (wfld v 15 0) (rset (rset (s.dev.polStaged w) 16 4 s.dev.usec) 30 2 0)).setReg (Reg.ING_POL_STAT w) 0)) ∧
  (∀ (s : State) (q : Requester) (a : Access) (w : Fin 16) (v : Word), Opens s.dev q 15 w a → s.dev.polAllowed w (wfld v 15 0) = false →
    ∀ c ∈ [Instr.polRead q w v, .polWriteCfg q w v, .polWriteAll q w v],
      Answers c s ((s.dev.raise Ev.POL_RANGE w w).setReg (Reg.ING_POL_STAT w) 1))

/-- R85: no packet takes more than a policer's buckets hold: after a packet, neither bucket exceeds its burst size, a packet that
finds both buckets short is red and takes nothing, and a green or yellow one pays its cost. -/
def Obligations.PolicerBuckets : Prop :=
  ∀ (alg : Nat) (blind : Bool) (col tc tp b : Nat), alg ≠ 2 →
    (polColour alg blind col tc tp b).2.1 ≤ tc ∧ (polColour alg blind col tc tp b).2.2 ≤ tp ∧
    (tc < b → tp < b → polColour alg blind col tc tp b = (2, tc, tp)) ∧
    ((polColour alg blind col tc tp b).1 ≠ 2 →
      (polColour alg blind col tc tp b).2.1 + (polColour alg blind col tc tp b).2.2 + b = tc + tp) ∧
    ((polColour alg blind col tc tp b).1 = 2 → (polColour alg blind col tc tp b).2 = (tc, tp))

/-! ### Key slots, index records and verdicts (05) -/

/-- The key and index commands complete with result 0 (R95 to R97, R102, R103), each on a slot whose page is the window's. INSTALL
of an admitted key into an EMPTY slot writes it with the next SERIAL; ERASE zeroes the slot; READ_STAT shows it; RELEASE of a
QUARANTINED slot returns it to LIVE; INDEX_READ and INDEX_SET reach the index record of a leg of the window.
The model's choices behind it: assumptions 46 to 49. -/
def Obligations.KeyCommandsComplete : Prop :=
  (∀ (s : State) (q : Requester) (a : Access) (w : Fin 16) (v : Word), Opens s.dev q 12 w a → s.dev.slotDom (wfld v 14 0) = w.val →
    s.dev.retired = false → 1 ≤ s.dev.fld (Reg.CIP_KEY_CFG w) 2 0 → s.dev.fld (Reg.CIP_KEY_CFG w) 2 0 ≤ 6 →
    rf (tat 0 s.dev.cip.stage w) (keyBytes (s.dev.fld (Reg.CIP_KEY_CFG w) 2 0)) (32 - keyBytes (s.dev.fld (Reg.CIP_KEY_CFG w) 2 0)) = 0 →
    rf (tat 0 s.dev.cip.stage w) (32 + saltBytes (s.dev.fld (Reg.CIP_KEY_CFG w) 2 0))
      (14 - saltBytes (s.dev.fld (Reg.CIP_KEY_CFG w) 2 0)) = 0 →
    s.dev.mayLeg w (s.dev.cfgLeg w) = true → slotState (s.dev.slot (wfld v 14 0)) = 0 →
    (s.dev.fld (Reg.CIP_KEY_CFG w) 8 8 = 1 →
      s.dev.freshPair w (s.dev.fingerprint w (s.dev.fld (Reg.CIP_KEY_CFG w) 2 0) (tat 0 s.dev.cip.stage w)) = true) →
    Answers (.keyInstall q w v) s
      ((({ s.dev with cip := { s.dev.cip with serial := (s.dev.cip.serial + 1) % 2 ^ 32 } } : Dev).setSlot (wfld v 14 0)
        (installed (s.dev.fld (Reg.CIP_KEY_CFG w) 2 0) (s.dev.fld (Reg.CIP_KEY_CFG w) 8 8) (s.dev.cfgLeg w) (tat 0 s.dev.cip.stage w)
          (s.dev.fingerprint w (s.dev.fld (Reg.CIP_KEY_CFG w) 2 0) (tat 0 s.dev.cip.stage w))
          ((s.dev.cip.serial + 1) % 2 ^ 32))).cipResult w 0)) ∧
  (∀ (s : State) (q : Requester) (a : Access) (w : Fin 16) (v : Word), Opens s.dev q 12 w a → s.dev.slotDom (wfld v 14 0) = w.val →
    Answers (.keyErase q w v) s ((s.dev.setSlot (wfld v 14 0) 0).cipResult w 0) ∧
    Answers (.keyReadStat q w v) s ((s.dev.showSlot w (wfld v 14 0)).cipResult w 0) ∧
    (slotState (s.dev.slot (wfld v 14 0)) = 3 →
      Answers (.keyRelease q w v) s
        (((s.dev.setSlot (wfld v 14 0) (rset (rset (s.dev.slot (wfld v 14 0)) 212 1 2) 214 2 0)).legRelease
          (slotLeg (s.dev.slot (wfld v 14 0)))).cipResult w 0))) ∧
  (∀ (s : State) (q : Requester) (a : Access) (w : Fin 16) (v : Word), Opens s.dev q 12 w a →
    s.dev.mayLeg w (s.dev.cfgLeg w) = true → wfld v 22 16 ≤ 39 →
    Answers (.indexRead q w v) s
      ((s.dev.setRegsNat (Reg.CIP_IDX_REC w 0) (s.dev.index (40 * s.dev.cfgLeg w + wfld v 22 16)) 8).cipResult w 0)) ∧
  (∀ (s : State) (q : Requester) (a : Access) (w : Fin 16) (v : Word), Opens s.dev q 12 w a → s.dev.slotDom (wfld v 14 0) = w.val →
    s.dev.mayLeg w (s.dev.cfgLeg w) = true → wfld v 22 16 ≤ 39 → slotState (s.dev.slot (wfld v 14 0)) ≠ 0 →
    (rbits (s.dev.index (40 * s.dev.cfgLeg w + wfld v 22 16)) 6 1 0 ≠ 2 ∧ rbits (s.dev.index (40 * s.dev.cfgLeg w + wfld v 22 16)) 6 3 2 ≠ 2 ∨
      slotState (s.dev.slot (wfld v 14 0)) = 2 ∧ slotLeg (s.dev.slot (wfld v 14 0)) = s.dev.cfgLeg w ∧
      slotSerial (s.dev.slot (wfld v 14 0)) ≠ rf (s.dev.index (40 * s.dev.cfgLeg w + wfld v 22 16)) 24 4) →
    Answers (.indexSet q w v) s
      ((s.dev.setIndex (40 * s.dev.cfgLeg w + wfld v 22 16)
        (indexNew (s.dev.index (40 * s.dev.cfgLeg w + wfld v 22 16)) (s.dev.regsNat (Reg.CIP_IDX_REC w 0) 8))).cipResult w 0)) ∧
  (∀ (s : State) (k : Fin 32768), slotState (s.dev.slot k) = 1 →
    Answers (.derivationDone k) s
      (s.dev.setSlot k (rset (rset (rset (sessionKeys (s.dev.slot k)) 212 1 2) 214 2 0) 216 4 0)))

/-- Table 05-4: ERASE leaves a slot EMPTY with all bytes zero; derivation makes a DERIVING slot LIVE with both failure counts zero
and its TRANSFORM, DIR, LEG and SERIAL kept; RELEASE makes a QUARANTINED slot LIVE with FAIL_RUN zero and FAIL_TOTAL kept. Every
other slot, every index record and DRAM keep their values. -/
def Obligations.KeySlotStates : Prop :=
  (∀ (s : State) (q : Requester) (a : Access) (w : Fin 16) (v : Word), Opens s.dev q 12 w a → s.dev.slotDom (wfld v 14 0) = w.val →
    ∃ e : Dev, Answers (.keyErase q w v) s e ∧ e.slot (wfld v 14 0) = 0 ∧ slotState (e.slot (wfld v 14 0)) = 0 ∧
      (∀ j : Nat, j ≠ wfld v 14 0 → e.slot j = s.dev.slot j) ∧ e.cip.index = s.dev.cip.index ∧ e.dram = s.dev.dram) ∧
  (∀ (s : State) (k : Fin 32768), slotState (s.dev.slot k) = 1 →
    ∃ e : Dev, Answers (.derivationDone k) s e ∧ slotState (e.slot k) = 2 ∧ rf (e.slot k) 214 2 = 0 ∧ rf (e.slot k) 216 4 = 0 ∧
      slotTransform (e.slot k) = slotTransform (s.dev.slot k) ∧ slotDir (e.slot k) = slotDir (s.dev.slot k) ∧
      slotLeg (e.slot k) = slotLeg (s.dev.slot k) ∧ slotSerial (e.slot k) = slotSerial (s.dev.slot k) ∧
      (∀ j : Nat, j ≠ k.val → e.slot j = s.dev.slot j) ∧ e.cip.index = s.dev.cip.index ∧ e.dram = s.dev.dram) ∧
  (∀ (s : State) (q : Requester) (a : Access) (w : Fin 16) (v : Word), Opens s.dev q 12 w a → s.dev.slotDom (wfld v 14 0) = w.val →
    slotState (s.dev.slot (wfld v 14 0)) = 3 →
    ∃ e : Dev, Answers (.keyRelease q w v) s e ∧ slotState (e.slot (wfld v 14 0)) = 2 ∧ rf (e.slot (wfld v 14 0)) 214 2 = 0 ∧
      rf (e.slot (wfld v 14 0)) 216 4 = rf (s.dev.slot (wfld v 14 0)) 216 4 ∧
      (∀ j : Nat, j ≠ wfld v 14 0 → e.slot j = s.dev.slot j) ∧ e.cip.index = s.dev.cip.index ∧ e.dram = s.dev.dram)

/-- The verdict commands complete. A verdict takes the packet out of flight and every consumer commits, or undoes when the tag or
the MAC failed (R99); a replica on the wire whose FCS falls due with its packet in flight is ended, counted, and reported once per
row per port (R100); a walk that waited proceeds (R275).
The model's choices behind it: assumptions 45, 50. -/
def Obligations.VerdictCommandsComplete : Prop :=
  (∀ (s : State) (chain : BitVec 25) (ok : Bool) (x : Packet), (s.dev.lvCommit 0xC00000 0xE00000).packetAt chain.toNat = some x →
    ∃ d : Dev, d = s.dev.lvCommit 0xC00000 0xE00000 ∧
      Answers (.tagVerdict chain ok) s
        (if ok && !x.macBad then
          ({ d with fwd := { d.fwd with flight := d.fwd.flight.filter (fun y => y.chain != chain.toNat) } } : Dev).verdictPass x
        else
          ({ d with fwd := { d.fwd with flight := d.fwd.flight.filter (fun y => y.chain != chain.toNat) } } : Dev).verdictFail x)) ∧
  (∀ (s : State) (p : Fin 8) (t : TxFrame), tat none s.dev.egs.tx p = some t → t.bad = false → t.frame.cutOf.any s.dev.inFlight = true →
    ∃ d : Dev, d = (s.dev.stitch p (t.frame.len - 4) t).count (Reg.CIP_LATE_STITCH p) ∧
      Answers (.lateVerdict p) s
        (if p.val ∈ d.cip.lateMark then d
        else ({ d with cip := { d.cip with lateMark := addMark d.cip.lateMark p } } : Dev).raise Ev.LATE_VERDICT p)) ∧
  (∀ (s : State) (chain : BitVec 25) (x : Packet), s.dev.packetAt chain.toNat = some x → x.fwd = true → x.rtcp = false →
    x.walked = false → s.dev.walkBlocked x = false →
    Answers (.fwdWalkResume chain) s
      (((s.dev.walkPacket x).1.cutAhead (s.dev.walkPacket x).2).1.setPacket ((s.dev.walkPacket x).1.cutAhead (s.dev.walkPacket x).2).2))

/-! ### Buffer pools (06) -/

/-- R112: an agent's request that stands alone at its pool, is not refused and finds enough cached IDs is granted in its clock. The
reply names the head of the free list, FREE falls by NBUF and the domain's holding rises by it, the rotation steps on; the head
descriptor is HELD with the requester as only owner and last owner (R106), and no other pool's count changes.
The model's choices behind it: assumptions 52, 53. -/
def Obligations.AllocationGranted : Prop :=
  ∀ (s : State) (p : Fin 8) (r : AllocReq) (i : Nat) (rest : List Nat), (s.dev.pool p).waiting = [] → reservedAgent r.agent = false →
    1 ≤ r.nbuf.val → r.nbuf.val ≤ 5 → s.dev.mustRefuse p 0 r.agent r.nbuf r.dom r.de = false →
    (p.val = 0 ∨ r.nbuf.val ≤ (s.dev.pool p).cached) → (takeFree r.nbuf (s.dev.pool p).free).1 = i :: rest →
    (∀ j ∈ rest, j ≠ i) →
    ∃ e : Dev, Answers (.allocRequest p [r]) s e ∧
      tat none e.bpm.replies r.agent = some (some (p.val * 2 ^ 22 + i)) ∧
      e.free p = s.dev.free p - r.nbuf.val ∧
      e.fld (Reg.BPM_HELD r.dom p) 22 0 = s.dev.fld (Reg.BPM_HELD r.dom p) 22 0 + r.nbuf.val ∧
      (e.pool p).rr = ((s.dev.pool p).rr + 1) % 64 ∧ (e.pool p).waiting = [] ∧
      (e.desc (p.val * 2 ^ 22 + i)).state = 1 ∧ (e.desc (p.val * 2 ^ 22 + i)).owners = 2 ^ r.agent.val ∧
      (e.desc (p.val * 2 ^ 22 + i)).last = r.agent.val ∧ (e.desc (p.val * 2 ^ 22 + i)).shares = 1 ∧
      (e.desc (p.val * 2 ^ 22 + i)).dom = r.dom.val ∧ (e.desc (p.val * 2 ^ 22 + i)).head = true ∧
      (∀ x : Fin 8, x ≠ p → e.free x = s.dev.free x)

/-- R108, R112: a request that must be refused gets NONE in its clock, counted, and takes nothing; a refill fills the ID cache up
to 256 of the free buffers, and with nothing waiting does no more. R115: the command window of domain w completes with result 0 as
the agent of whoever writes it. ALLOC charges w and shows the chain's ID; SHARE, DROP and FREE act on a chain of w, any chain for
SD0's window; READ copies its descriptor. -/
def Obligations.BufferCommandsComplete : Prop :=
  (∀ (s : State) (p : Fin 8) (r : AllocReq), (s.dev.pool p).waiting = [] → reservedAgent r.agent = false →
    1 ≤ r.nbuf.val → r.nbuf.val ≤ 5 → s.dev.mustRefuse p 0 r.agent r.nbuf r.dom r.de = true →
    ∃ e : Dev, Answers (.allocRequest p [r]) s e ∧ tat none e.bpm.replies r.agent = some none ∧ e.free p = s.dev.free p ∧
      e.reg (Reg.BPM_NONE_CNT p) = satAdd (s.dev.reg (Reg.BPM_NONE_CNT p)) 1 ∧ (e.pool p).free = (s.dev.pool p).free ∧
      e.bpm.descs = s.dev.bpm.descs) ∧
  (∀ (s : State) (p : Fin 8), (s.dev.pool p).waiting = [] →
    Answers (.cacheRefill p) s (s.dev.setPool p { s.dev.pool p with cached := min 256 (s.dev.free p) })) ∧
  (∀ (s : State) (p : Fin 8),
    Answers (.cacheRefill p) s ((s.dev.setPool p { s.dev.pool p with cached := min 256 (s.dev.free p) }).allocClock p [])) ∧
  (∀ (s : State) (q : Requester) (a : Access) (w : Fin 16) (v : Word) (id : Nat) (e : Dev), Opens s.dev q 14 w a →
    1 ≤ wfld v 24 22 → wfld v 24 22 ≤ 5 → s.dev.alloc (wfld v 27 25) a.agent (wfld v 24 22) w = (some id, e) →
    Answers (.bpmCmdAlloc q w v) s ((e.setReg (Reg.BPM_CMD_ID w) (w32 id)).bpmResult w 0)) ∧
  (∀ (s : State) (q : Requester) (a : Access) (w : Fin 16) (v : Word) (id : Nat), Opens s.dev q 14 w a →
    id = s.dev.fld (Reg.BPM_CMD_ID w) 24 0 → (w.val = 0 ∨ (s.dev.desc id).dom = w.val) →
    ((s.dev.share a.agent id (s.dev.reg64 (Reg.BPM_CMD_MASK_LO w) (Reg.BPM_CMD_MASK_HI w)) (wfld v 21 16) w).2 = 0 →
      Answers (.bpmCmdShare q w v) s
        ((s.dev.share a.agent id (s.dev.reg64 (Reg.BPM_CMD_MASK_LO w) (Reg.BPM_CMD_MASK_HI w)) (wfld v 21 16) w).1.bpmResult w 0)) ∧
    ((s.dev.release a.agent 3 id w).2 = 0 →
      Answers (.bpmCmdDrop q w v) s ((s.dev.release a.agent 3 id w).1.bpmResult w 0)) ∧
    ((s.dev.release a.agent 4 id w).2 = 0 →
      Answers (.bpmCmdFree q w v) s ((s.dev.release a.agent 4 id w).1.bpmResult w 0)) ∧
    ((s.dev.desc id).head = true →
      Answers (.bpmCmdRead q w v) s ((s.dev.setRegsNat (Reg.BPM_DESC w 0) (descNat (s.dev.desc id)) 16).bpmResult w 0))) ∧
  (∀ (s : State) (q : Requester) (a : Access) (w : Fin 16) (v : Word), Opens s.dev q 14 w a → w.val ≠ 0 →
    (s.dev.desc (s.dev.fld (Reg.BPM_CMD_ID w) 24 0)).dom ≠ w.val →
    ∀ c ∈ [Instr.bpmCmdShare q w v, .bpmCmdDrop q w v, .bpmCmdFree q w v, .bpmCmdRead q w v], Answers c s (s.dev.bpmResult w 6))

/-- R113: a SHARE of a HELD chain's head by its last owner, with a mask that holds the new last owner and no reserved agent, sets
OWNERS, LAST_OWNER and SHARES, and hands a mask of one agent the chain HELD; any other SHARE of a head is refused with
SHARE_REFUSED and changes nothing. R114, Table 06-4: a DROP by a listed owner that is not the last owner takes its bit and its
share, a FREE by the last owner that has not freed it yet sets LAST_DONE and takes its share; with a share left the chain is
PENDING after the FREE, HELD with one left and SHARED with more; with none left it returns to its free list. A release of a free
chain, a second FREE, or a release by another agent raises its event and changes nothing else. -/
def Obligations.ChainOwnerCommandsComplete : Prop :=
  (∀ (s : State) (agent last : Fin 64) (id : BitVec 25) (mask : BitVec 64), (s.dev.desc id.toNat).head = true →
    (s.dev.desc id.toNat).state = 1 → agent.val = (s.dev.desc id.toNat).last → mask.toNat.testBit last = true →
    (maskAgents mask.toNat).all (fun a => !reservedAgent a) = true →
    Answers (.chainShare agent id mask last) s
      (s.dev.setDesc id.toNat { s.dev.desc id.toNat with
        owners := mask.toNat, last := last, shares := (maskAgents mask.toNat).length
        state := if (maskAgents mask.toNat).length = 1 then 1 else 2 })) ∧
  (∀ (s : State) (agent last : Fin 64) (id : BitVec 25) (mask : BitVec 64), (s.dev.desc id.toNat).head = true →
    ((s.dev.desc id.toNat).state ≠ 1 ∨ agent.val ≠ (s.dev.desc id.toNat).last ∨ mask.toNat.testBit last = false ∨
      (maskAgents mask.toNat).any reservedAgent = true) →
    ∃ args : List Byte, Answers (.chainShare agent id mask last) s
      (s.dev.raise Ev.SHARE_REFUSED (id.toNat / 2 ^ 22) (s.dev.desc id.toNat).dom args)) ∧
  (∀ (s : State) (agent : Fin 64) (id : BitVec 25) (h : Desc), h = s.dev.desc id.toNat → h.head = true → h.state ≠ 0 →
    agent.val ≠ h.last → h.owners.testBit agent = true →
    Answers (.chainDrop agent id) s
      (if h.shares - 1 = 0 then
        (s.dev.setDesc id.toNat { h with owners := h.owners - 2 ^ agent.val, shares := h.shares - 1 }).returnChain id.toNat
      else s.dev.setDesc id.toNat { h with
        owners := h.owners - 2 ^ agent.val, shares := h.shares - 1
        state := if h.lastDone then 3 else if h.shares - 1 = 1 then 1 else 2 })) ∧
  (∀ (s : State) (agent : Fin 64) (id : BitVec 25) (h : Desc), h = s.dev.desc id.toNat → h.head = true → h.state ≠ 0 →
    agent.val = h.last → h.lastDone = false →
    Answers (.chainFree agent id) s
      (if h.shares - 1 = 0 then (s.dev.setDesc id.toNat { h with lastDone := true, shares := h.shares - 1 }).returnChain id.toNat
      else s.dev.setDesc id.toNat { h with lastDone := true, shares := h.shares - 1, state := 3 })) ∧
  (∀ (s : State) (agent : Fin 64) (id : BitVec 25) (h : Desc), h = s.dev.desc id.toNat →
    (h.state = 0 → ∃ args, Answers (.chainDrop agent id) s (s.dev.raise Ev.DOUBLE_FREE (id.toNat / 2 ^ 22) h.dom args) ∧
      ∃ args, Answers (.chainFree agent id) s (s.dev.raise Ev.DOUBLE_FREE (id.toNat / 2 ^ 22) h.dom args)) ∧
    (agent.val = h.last → h.lastDone = true →
      ∃ args, Answers (.chainFree agent id) s (s.dev.raise Ev.DOUBLE_FREE (id.toNat / 2 ^ 22) h.dom args)) ∧
    (h.head = true → h.state ≠ 0 → (agent.val = h.last ∨ h.owners.testBit agent = false) →
      ∃ args, Answers (.chainDrop agent id) s (s.dev.raise Ev.WRONG_OWNER (id.toNat / 2 ^ 22) h.dom args)) ∧
    (h.head = true → h.state ≠ 0 → agent.val ≠ h.last →
      ∃ args, Answers (.chainFree agent id) s (s.dev.raise Ev.WRONG_OWNER (id.toNat / 2 ^ 22) h.dom args)))

/-! ### Hook (07) -/

/-- R118, R119: an accepted submission joins its group's tail with SOURCE and DOMAIN written and becomes outstanding, from a
hardware agent and from a window; the window shows result 0. A refused one is counted and queues nothing. R121, R123, R125, R128:
TAKE drains the core's pipeline and puts it to sleep, and Hook selects. GIVE and GIVE.Y of a held task whose units are done end it:
GIVE writes its stamp when it is on time and its record when it asks for one, and frees the descriptor; it is late when the row of
a ROWED task has ended, unless it comes in the clock of the tick that starts the next row (R436, assumption 118). GIVE.Y puts it
back at the head of its group with affinity. A sweep's end handles the groups queued. R124: CQ_POP removes the oldest completion
record of the window's domain: the queue loses its head, HOK_CQ_STAT.LEVEL follows, and no other domain's queue changes.
The model's choices behind it: assumptions 54, 55. -/
def Obligations.HookCommandsComplete : Prop :=
  (∀ (s : State) (agent : Fin 64) (dom : Fin 16) (desc : BitVec 512), hookAgent agent = true → s.dev.regionOff 20 = false →
    s.dev.submitCheck dom desc.toNat = 0 →
    ∃ t : Nat, t = rset (rset desc.toNat 14 1 agent) 15 1 dom ∧
      Answers (.taskSubmit agent dom desc) s
        (((s.dev.setQueue (taskGroup t) (s.dev.queueOf (taskGroup t) ++ [t])).taskIn dom).hookRun)) ∧
  (∀ (s : State) (agent : Fin 64) (dom : Fin 16) (desc : BitVec 512), hookAgent agent = true → s.dev.regionOff 20 = false →
    s.dev.submitCheck dom desc.toNat ≠ 0 →
    ∃ e : Dev, Answers (.taskSubmit agent dom desc) s e ∧ e.hok.groups = s.dev.hok.groups ∧ e.outstanding = s.dev.outstanding ∧
      e.reg Reg.HOK_SUB_REFUSED = satAdd (s.dev.reg Reg.HOK_SUB_REFUSED) 1) ∧
  (∀ (s : State) (q : Requester) (a : Access) (w : Fin 16) (v : Word) (t : Nat), Opens s.dev q 20 w a → wbit v 0 = true →
    s.dev.submitCheck w (s.dev.regsNat (Reg.HOK_SUB w 0) 16) = 0 →
    t = rset (rset (s.dev.regsNat (Reg.HOK_SUB w 0) 16) 14 1 a.agent) 15 1 w →
    Answers (.subCmdGo q w v) s
      ((((s.dev.setQueue (taskGroup t) (s.dev.queueOf (taskGroup t) ++ [t])).taskIn w).hookRun).setFld (Reg.HOK_SUB_STAT w) 2 0 0)) ∧
  (∀ (s : State) (n : Fin 96), Issues s.dev n [.take] → Answers (.take n) s (s.dev.perform n [.take])) ∧
  (∀ (s : State) (n : Fin 96) (atTick : Bool), Issues s.dev n [.give] →
    Answers (.give n atTick) s (((s.dev.giveClock atTick).perform n [.give]).giveClock false)) ∧
  (∀ (d : Dev) (t : Nat), d.giveLate t = true ↔ taskFlag t 0 = true ∧ after d.row32 (taskRow t) = true ∧
    ¬ (d.hok.atTick = true ∧ d.row32 = (taskRow t + 1) % 2 ^ 32)) ∧
  (∀ (d : Dev) (n t : Nat), d.applyGive n t =
    let e := if rbits t 10 15 15 = 1 ∧ d.giveLate t = false then d.setReg (Reg.HOK_STAMP (rbits t 10 14 0)) (w32 (taskRow t)) else d
    (((if taskFlag t 2 = true then e.taskRecord t (d.giveLate t).toNat else e).taskFree t).dropTask n).hookRun) ∧
  (∀ (s : State) (n : Fin 96), Issues s.dev n [.giveY] → Answers (.giveY n) s (s.dev.perform n [.giveY])) ∧
  (∀ (d : Dev) (n : Fin 96), d.flowEffect n .take =
    (d.modCore n (fun c => { c.drain with state := 0, asleep := true, cache := 0 })).hookRun) ∧
  (∀ (d : Dev) (n : Fin 96) (t : Nat), (d.core n).task = some t → d.unitsIdle n = true →
    (d.flowEffect n .give = (d.modCore n (fun c => { (c.drain.setB2 0x11 0).setB2 0x10 0 with ending := 1 })).applyGive n t) ∧
    (d.flowEffect n .giveY = (d.modCore n (fun c => { (c.drain.setB2 0x11 0).setB2 0x10 0 with ending := 2 })).applyGiveY n t)) ∧
  (∀ s : State, s.dev.hok.sweep = none → Answers .sweepEnd s s.dev) ∧
  (∀ (s : State) (r : Sweep), s.dev.hok.sweep = some r → r.running = 0 → s.dev.hok.groups = [] →
    Answers .sweepEnd s ({ s.dev with hok := { s.dev.hok with sweep := none } } : Dev).hookRun) ∧
  (∀ (s : State) (q : Requester) (a : Access) (w : Fin 16) (v : Word), Opens s.dev q 20 w a → wbit v 0 = true →
    ∃ e : Dev, Answers (.cqPop q w v) s e ∧ tat [] e.hok.cq w = (tat [] s.dev.hok.cq w).tail ∧
      (∀ x : Nat, x ≠ w.val → tat [] e.hok.cq x = tat [] s.dev.hok.cq x) ∧
      e.hok.groups = s.dev.hok.groups ∧ e.dsp = s.dev.dsp ∧ e.dram = s.dev.dram)

/-! ### ADSP cores (08, 09) -/

/-- Every word of arithmetic completes when its core issues it (R130, R133 to R136): a MAC, ALU, shift, extraction or exponent
operation, alone or with the others of a 64-bit word, is performed at issue. Every word of moves and every flow word completes when
its core issues it (R131, R145 to R154): loads, stores, immediates, moves between the banks, PMOV and XADD, alone or in a 64-bit
word, and the flow operations, each a word of its own.
The model's choices behind it: assumptions 56 to 65. -/
def Obligations.WordsComplete : Prop :=
  (∀ (s : State) (n : Fin 96) (rest : List SlotOp),
    (∀ (form acc : Fin 4) (x y : Fin 16),
      (Issues s.dev n (.product 0 form acc x y :: rest) → Answers (.mpy n form acc x y rest) s (s.dev.perform n (.product 0 form acc x y :: rest))) ∧
      (Issues s.dev n (.product 1 form acc x y :: rest) → Answers (.mac n form acc x y rest) s (s.dev.perform n (.product 1 form acc x y :: rest))) ∧
      (Issues s.dev n (.product 2 form acc x y :: rest) → Answers (.msu n form acc x y rest) s (s.dev.perform n (.product 2 form acc x y :: rest)))) ∧
    (∀ (acc src : Fin 4) (amount : BitVec 7),
      (Issues s.dev n (.clr acc :: rest) → Answers (.clr n acc rest) s (s.dev.perform n (.clr acc :: rest))) ∧
      (Issues s.dev n (.accShift acc amount :: rest) → Answers (.accShift n acc amount rest) s (s.dev.perform n (.accShift acc amount :: rest))) ∧
      (Issues s.dev n (.accAdd acc src :: rest) → Answers (.accAdd n acc src rest) s (s.dev.perform n (.accAdd acc src :: rest)))) ∧
    (∀ k x y : Fin 16,
      (Issues s.dev n (.alu .add k x y :: rest) → Answers (.aluAdd n k x y rest) s (s.dev.perform n (.alu .add k x y :: rest))) ∧
      (Issues s.dev n (.alu .sub k x y :: rest) → Answers (.aluSub n k x y rest) s (s.dev.perform n (.alu .sub k x y :: rest))) ∧
      (Issues s.dev n (.alu .min k x y :: rest) → Answers (.aluMin n k x y rest) s (s.dev.perform n (.alu .min k x y :: rest))) ∧
      (Issues s.dev n (.alu .max k x y :: rest) → Answers (.aluMax n k x y rest) s (s.dev.perform n (.alu .max k x y :: rest))) ∧
      (Issues s.dev n (.alu .and k x y :: rest) → Answers (.aluAnd n k x y rest) s (s.dev.perform n (.alu .and k x y :: rest))) ∧
      (Issues s.dev n (.alu .or k x y :: rest) → Answers (.aluOr n k x y rest) s (s.dev.perform n (.alu .or k x y :: rest))) ∧
      (Issues s.dev n (.alu .xor k x y :: rest) → Answers (.aluXor n k x y rest) s (s.dev.perform n (.alu .xor k x y :: rest))) ∧
      (Issues s.dev n (.alu .add2 k x y :: rest) → Answers (.aluAdd2 n k x y rest) s (s.dev.perform n (.alu .add2 k x y :: rest))) ∧
      (Issues s.dev n (.alu .sub2 k x y :: rest) → Answers (.aluSub2 n k x y rest) s (s.dev.perform n (.alu .sub2 k x y :: rest))) ∧
      (Issues s.dev n (.alu .compare 0 x y :: rest) → Answers (.aluCompare n x y rest) s (s.dev.perform n (.alu .compare 0 x y :: rest))) ∧
      (Issues s.dev n (.alu .abs k x 0 :: rest) → Answers (.aluAbs n k x rest) s (s.dev.perform n (.alu .abs k x 0 :: rest))) ∧
      (Issues s.dev n (.alu .mov k x 0 :: rest) → Answers (.aluMov n k x rest) s (s.dev.perform n (.alu .mov k x 0 :: rest)))) ∧
    (∀ (k x e : Fin 16) (amount : BitVec 6) (arith : Bool) (acc : Fin 4) (j : Fin 2),
      (Issues s.dev n (.shift k x amount arith :: rest) →
        Answers (.barrelShift n k x amount arith rest) s (s.dev.perform n (.shift k x amount arith :: rest))) ∧
      (Issues s.dev n (.ext k acc amount :: rest) → Answers (.ext n k acc amount rest) s (s.dev.perform n (.ext k acc amount :: rest))) ∧
      (Issues s.dev n (.ext2 k j amount :: rest) → Answers (.ext2 n k j amount rest) s (s.dev.perform n (.ext2 k j amount :: rest))) ∧
      (Issues s.dev n (.expD k x :: rest) → Answers (.exp n k false x rest) s (s.dev.perform n (.expD k x :: rest))) ∧
      (Issues s.dev n (.expAcc k (Fin.ofNat 4 x) :: rest) →
        Answers (.exp n k true x rest) s (s.dev.perform n (.expAcc k (Fin.ofNat 4 x) :: rest))) ∧
      (Issues s.dev n (.extN k e acc :: rest) → Answers (.extN n k e acc rest) s (s.dev.perform n (.extN k e acc :: rest))))) ∧
  (∀ (s : State) (n : Fin 96),
    (∀ (y : Bool) (size : Fin 3) (r src : Fin 64) (an : Fin 8) (st : Step) (v : BitVec 16) (toB2 fromB2 : Bool) (k x : Fin 16)
        (rest : List SlotOp),
      (Issues s.dev n (.load y size r an st :: rest) →
        Answers (.dspLoad n y size r an st rest) s (s.dev.perform n (.load y size r an st :: rest))) ∧
      (Issues s.dev n (.store y size r an st :: rest) →
        Answers (.dspStore n y size r an st rest) s (s.dev.perform n (.store y size r an st :: rest))) ∧
      (Issues s.dev n (.ldi r v :: rest) → Answers (.ldi n r v rest) s (s.dev.perform n (.ldi r v :: rest))) ∧
      (Issues s.dev n (.ldih r v :: rest) → Answers (.ldih n r v rest) s (s.dev.perform n (.ldih r v :: rest))) ∧
      (Issues s.dev n (.move toB2 r fromB2 src :: rest) →
        Answers (.regMove n toB2 r fromB2 src rest) s (s.dev.perform n (.move toB2 r fromB2 src :: rest))) ∧
      (Issues s.dev n (.pmov r an st :: rest) → Answers (.pmov n r an st rest) s (s.dev.perform n (.pmov r an st :: rest))) ∧
      (Issues s.dev n (.xadd k x an st :: rest) → Answers (.xadd n k x an st rest) s (s.dev.perform n (.xadd k x an st :: rest)))) ∧
    (∀ (t : BitVec 16) (cond : Fin 16) (count : LoopCount) (desc : BitVec 512),
      (Issues s.dev n [.jmp t] → Answers (.jmp n t) s (s.dev.perform n [.jmp t])) ∧
      (Issues s.dev n [.call t] → Answers (.call n t) s (s.dev.perform n [.call t])) ∧
      (Issues s.dev n [.ret] → Answers (.ret n) s (s.dev.perform n [.ret])) ∧
      (Issues s.dev n [.br cond t] → Answers (.br n cond t) s (s.dev.perform n [.br cond t])) ∧
      (Issues s.dev n [.loop count t] → Answers (.loop n count t) s (s.dev.perform n [.loop count t])) ∧
      (Issues s.dev n [.lpop] → Answers (.lpop n) s (s.dev.perform n [.lpop])) ∧
      (Issues s.dev n [.rti] → Answers (.rti n) s (s.dev.perform n [.rti])) ∧
      (Issues s.dev n [.post desc] → Answers (.post n desc) s (s.dev.perform n [.post desc])) ∧
      (Issues s.dev n [.fence] → Answers (.fence n) s (s.dev.perform n [.fence])) ∧
      (Issues s.dev n [.cinv] → Answers (.cinv n) s (s.dev.perform n [.cinv])) ∧
      (Issues s.dev n [.nop] → Answers (.nop n) s (s.dev.perform n [.nop]))))

/-- The result of an ALU word and its frame (Table 08-2, R137): with nothing on its way, no branch, loop or step under way, an ALU
operation alone in its word leaves its result in its D register and its flags in FLG, moves the pc by four, and changes no other
register, accumulator, bank-2 register other than the pending bit of source 0, memory, core or byte of DRAM. -/
def Obligations.AluResultAndFrame : Prop :=
  ∀ (s : State) (n : Fin 96) (c : Instr) (op : AluOp) (k x y : Fin 16), Issues s.dev n [.alu op k x y] →
    (s.dev.core n).pipe = [] → (s.dev.core n).branch = none → (s.dev.core n).b2 3 = 0 → (s.dev.core n).step = false →
    (c, op) ∈ [(Instr.aluAdd n k x y [], AluOp.add), (.aluSub n k x y [], .sub), (.aluMin n k x y [], .min), (.aluMax n k x y [], .max),
      (.aluAnd n k x y [], .and), (.aluOr n k x y [], .or), (.aluXor n k x y [], .xor), (.aluAdd2 n k x y [], .add2),
      (.aluSub2 n k x y [], .sub2)] →
    ∃ e : Dev, Answers c s e ∧
      (e.core n).r k = (aluOp op (s.dev.core n).aluSat (s.dev.core n).flg ((s.dev.core n).r x) ((s.dev.core n).r y)).1 % 2 ^ 32 ∧
      (e.core n).flg = (aluOp op (s.dev.core n).aluSat (s.dev.core n).flg ((s.dev.core n).r x) ((s.dev.core n).r y)).2 ∧
      (∀ j : Nat, j ≠ k.val → (e.core n).r j = (s.dev.core n).r j) ∧
      (∀ j : Nat, j ≠ 0x11 → (e.core n).b2 j = (s.dev.core n).b2 j) ∧
      (e.core n).pc = ((s.dev.core n).pc + 4) % 2 ^ 16 ∧ (e.core n).acc = (s.dev.core n).acc ∧ (e.core n).state = 1 ∧
      (e.core n).x = (s.dev.core n).x ∧ (e.core n).y = (s.dev.core n).y ∧ (e.core n).p = (s.dev.core n).p ∧
      (∀ m : Nat, m ≠ n.val → e.core m = s.dev.core m) ∧ e.dsp.shm = s.dev.dsp.shm ∧ e.dram = s.dev.dram

/-- Table 08-3, R133, R134: a MAC word in fractional or integer form leaves in its accumulator the product, or the sum or
difference of the accumulator and the product, wrapped to 72 bits, or saturated under ACCSAT for MAC and MSU; the other
accumulators and every register keep their values. -/
def Obligations.ProductResultAndFrame : Prop :=
  ∀ (s : State) (n : Fin 96) (c : Instr) (op : Fin 3) (form acc : Fin 4) (x y : Fin 16), Issues s.dev n [.product op form acc x y] →
    (s.dev.core n).pipe = [] → (s.dev.core n).branch = none → (s.dev.core n).b2 3 = 0 → (s.dev.core n).step = false → form.val < 2 →
    (c, op) ∈ [(Instr.mpy n form acc x y [], (0 : Fin 3)), (.mac n form acc x y [], 1), (.msu n form acc x y [], 2)] →
    ∃ (e : Dev) (v : Int), Answers c s e ∧
      v = sInt 32 ((s.dev.core n).r x) * sInt 32 ((s.dev.core n).r y) * (if form.val = 0 then 2 else 1) ∧
      tat 0 (e.core n).acc acc =
        (if op.val = 0 then uNat 72 v
        else (accKeep (s.dev.core n).accSat (macValue op (sInt 72 (tat 0 (s.dev.core n).acc acc)) v)).1) ∧
      (∀ j : Nat, j ≠ acc.val → tat 0 (e.core n).acc j = tat 0 (s.dev.core n).acc j) ∧
      (∀ j : Nat, (e.core n).r j = (s.dev.core n).r j) ∧ (e.core n).pc = ((s.dev.core n).pc + 4) % 2 ^ 16 ∧
      (e.core n).x = (s.dev.core n).x ∧ (e.core n).y = (s.dev.core n).y ∧ (∀ m : Nat, m ≠ n.val → e.core m = s.dev.core m) ∧
      e.dram = s.dev.dram

/-- R437: EXT.N of an accumulator that holds zero writes 0 to its data register and a shift of 0 to its second register. -/
def Obligations.ExtNOfZero : Prop :=
  ∀ (s : State) (n : Fin 96) (k m : Fin 16) (acc : Fin 4), Issues s.dev n [.extN k m acc] → k ≠ m →
    (s.dev.core n).pipe = [] → (s.dev.core n).branch = none → (s.dev.core n).b2 3 = 0 → (s.dev.core n).step = false →
    (s.dev.core n).accSeen acc = 0 →
    ∃ e : Dev, Answers (.extN n k m acc []) s e ∧ (e.core n).r k = 0 ∧ (e.core n).r m = 0 ∧
      (∀ j : Nat, j ≠ k.val → j ≠ m.val → (e.core n).r j = (s.dev.core n).r j)

/-- R131, R144: a load or store at an address no memory of its bus holds, or not aligned to its size, stops the core before the
word has any effect: the core halts with CAUSE 4, DSP_ADDR_FAULT names the pc and the address, and its task is discarded. -/
def Obligations.AddressFaultStopsTheCore : Prop :=
  ∀ (s : State) (n : Fin 96) (y : Bool) (size : Fin 3) (r : Fin 64) (an : Fin 8) (st : Step),
    s.dev.regionOff (24 + n.val / 16) = false → (s.dev.core n).state = 1 → (s.dev.core n).ending = 0 → s.dev.breakHere n = false →
    (s.dev.core n).pc % 4 = 0 → (s.dev.core n).illegal [.load y size r an st] = false →
    (dataSpace y ((s.dev.core n).r (0x20 + an.val)) = 0 ∨ (s.dev.core n).r (0x20 + an.val) % accessBytes size ≠ 0) →
    Answers (.dspLoad n y size r an st []) s
      ((((s.dev.haltCore n 4).raise Ev.DSP_ADDR_FAULT n (s.dev.fld (Reg.DSP_SK_CFG (n.val / 16)) 3 0)
        (faultArgs (s.dev.core n).pc ((s.dev.core n).r (0x20 + an.val)) (faultMem y ((s.dev.core n).r (0x20 + an.val))))).discardHeld n).hookRun)

/-- R149: an interrupt is entered at a word boundary when it is enabled and pending: results complete, IRA and IFLG are saved, GIE
clears, the source's pending bit clears, and the pc is the vector's. CYC_MATCH passes the cycles until CYC_LO meets CYCCMP. R158 to
R160: a command of a running core to one of its units fills the writable bytes of the core's slot and, unless one runs, starts it:
BUSY, and the unit's queue takes it last. UNIT_DONE completes the oldest command of the unit: it leaves the queue, its results and
status are published, and a GIVE that waited goes on. R161, R369: with the debug level, SD0 or the skein's domain halts a running
core with its task kept, resumes or steps one that debug has halted, and reads or writes the register or memory word selected of a
halted core; a release returns the core to TAKE at every level; a running core stops at a breakpoint it has not passed.
The model's choices behind it: assumptions 56 to 65. -/
def Obligations.CoreCommandsComplete : Prop :=
  (∀ (s : State) (n : Fin 96) (k : Nat), (s.dev.core n).source = some k → s.dev.regionOff (24 + n.val / 16) = false →
    (s.dev.core n).interruptible = true →
    Answers (.interruptEntry n) s ((s.dev.setCore n ((s.dev.core n).enter k)).spend n 4) ∧
    ((s.dev.core n).enter k).pc = (((s.dev.core n).drain.b2 0x14) + 32 * k) % 2 ^ 16 ∧
    ((s.dev.core n).enter k).inIrq = true ∧ ((s.dev.core n).enter k).b2 0x12 = (s.dev.core n).drain.pc ∧
    ((s.dev.core n).enter k).b2 0x13 = (s.dev.core n).drain.flg) ∧
  (∀ (s : State) (n : Fin 96), s.dev.regionOff (24 + n.val / 16) = false → (s.dev.core n).state = 1 → (s.dev.core n).b2 0x15 ≠ 0 →
    Answers (.cycMatch n) s
      (s.dev.spend n (((s.dev.core n).b2 0x15 + 2 ^ 32 - ((s.dev.core n).cyc + 1) % 2 ^ 32) % 2 ^ 32 + 1))) ∧
  (∀ (s : State) (n : Fin 96) (u : UnitCmd) (c : Instr) (unit op : Nat), s.dev.regionOff (24 + n.val / 16) = false →
    (s.dev.core n).state = 1 → (s.dev.core n).ending = 0 →
    (c, unit, op) ∈ [(Instr.mdct n u, 0, 1), (.imdct n u, 0, 2), (.rcDecode n u, 0, 3), (.rcEncode n u, 0, 4), (.pvqDecode n u, 0, 5),
      (.pvqSearch n u, 0, 6), (.convert n u, 1, 1), (.setRatio n u, 1, 2), (.asrcReset n u, 1, 3), (.toBuf n u, 2, 1),
      (.fromBuf n u, 2, 2), (.copyAlloc n u, 2, 3), (.copyFree n u, 2, 4), (.copyDrop n u, 2, 5)] →
    ∃ d : Dev, d = s.dev.setUnitSlot n unit (mix slotMask (s.dev.unitSlot n unit)
        (op + (if u.irq then 2 ^ 30 else 0) + u.src.toNat * 256 ^ 8 + u.dst.toNat * 256 ^ 12 + u.len.toNat * 256 ^ 16 +
          u.param0.toNat * 256 ^ 20 + u.param1.toNat * 256 ^ 24)) ∧
      Answers c s
        (if d.slotBusy n unit then d
        else (d.setUnitSlot n unit (rset (d.unitSlot n unit) 4 4 (2 ^ 31))).setUnitQueue (n.val / 16) unit
          (d.unitQueue (n.val / 16) unit ++ [(n.val, rset (d.unitSlot n unit) 4 4 (2 ^ 31))]))) ∧
  (∀ (s : State) (sk : Fin 6) (unit : Fin 3) (n slot : Nat) (rest : List (Nat × Nat)), s.dev.unitQueue sk unit = (n, slot) :: rest →
    s.dev.regionOff (24 + sk.val) = false →
    ∃ d : Dev, d = s.dev.setUnitQueue sk unit rest ∧
      Answers (.unitDone sk unit) s
        (d.unitPublish n unit slot (if unit.val = 0 then d.assist n slot else if unit.val = 1 then d.asrcRun n slot else d.copyRun n slot))) ∧
  (∀ (s : State) (q : Requester) (a : Access) (n : Fin 96) (v : Word), q ≠ .debug →
    Opens s.dev q (24 + n.val / 16) (s.dev.coreDomain n) a → s.dev.haltLevel = true →
    (wbit v 1 = true → (s.dev.core n).state ≠ 2 → Answers (.coreHalt q n v) s (s.dev.haltCore n 1)) ∧
    (wbit v 2 = true → s.dev.debugHalted n = true →
      Answers (.coreResume q n v) s
        ((s.dev.setCore n { s.dev.core n with state := if (s.dev.core n).asleep then 0 else 1, skip := true, step := false }).hookRun)) ∧
    (wbit v 3 = true → s.dev.debugHalted n = true → (s.dev.core n).asleep = false →
      Answers (.coreStep q n v) s ((s.dev.setCore n { s.dev.core n with state := 1, skip := true, step := true }).hookRun)) ∧
    ((s.dev.core n).state = 2 →
      Answers (.regdataAccess q n none) s (s.dev.regDataRead n) ∧
      Answers (.regdataAccess q n (some v)) s
        (s.dev.modCore n (fun c => (if (s.dev.regSel n).1 then c.landB2 (s.dev.regSel n).2 v.toNat else c.landReg (s.dev.regSel n).2 v.toNat).drain)) ∧
      Answers (.memDataAccess q n none) s (s.dev.memDataRead n) ∧
      Answers (.memDataAccess q n (some v)) s (s.dev.memDataWrite n v))) ∧
  (∀ (s : State) (q : Requester) (a : Access) (n : Fin 96) (v : Word), q ≠ .debug →
    Opens s.dev q (24 + n.val / 16) (s.dev.coreDomain n) a → wbit v 0 = true →
    Answers (.coreRelease q n v) s (s.dev.releaseCore n)) ∧
  (∀ (s : State) (q : Requester) (a : Access) (n : Fin 96) (v : Word), q ≠ .debug →
    Opens s.dev q (24 + n.val / 16) (s.dev.coreDomain n) a → s.dev.haltLevel = false → wbit v 1 = true →
    Answers (.coreHalt q n v) s (s.dev.raise Ev.DSP_DEBUG_DENIED n (s.dev.coreDomain n))) ∧
  (∀ (s : State) (n : Fin 96), (s.dev.core n).state = 1 → (s.dev.core n).ending = 0 → (s.dev.core n).skip = false →
    s.dev.breakHere n = true → Answers (.dspBreak n) s (s.dev.breakCore n))

/-! ### Swaps, loads and compositor commits (02, 14) -/

/-- R36: a cancel acts on each scope it names. IDLE: nothing and no event. SETTLING: CANCEL_LATE, and the settling goes on.
Pending: for audio accepted before the tick that starts row T − 1, for network and video more than 4 µs before boundary T, it lifts
the seal and raises CANCEL_DONE; otherwise CANCEL_LATE, and the swap proceeds. -/
def Obligations.SwapCancel : Prop :=
  (∀ (s : State) (q : Requester) (a : Access) (v : Word), s.dev.access q = some a → a.dom = 0 →
    Answers (.swapCancel q v) s (s.dev.forEach (scopesOf (wfld v 2 0)) Dev.swapCancel)) ∧
  (∀ v : Word, ∀ i : Nat, i ∈ scopesOf (wfld v 2 0) ↔ i < 3 ∧ wbit v i = true) ∧
  (∀ (d : Dev) (i : Fin 3),
    (d.scopeState i = 0 → d.swapCancel i = d) ∧
    (d.scopeState i = 2 → d.swapCancel i = d.raise Ev.CANCEL_LATE (2 ^ i.val)) ∧
    (∀ left : Nat, left = sub32 (d.reg (atReg i)).toNat (d.tick32 (i.val == 2)) → d.scopeState i = 1 →
      (if i.val = 0 then 2 ≤ left else d.within (i.val == 2) left 4 = false) →
      (d.swapCancel i).scopeState i = 0 ∧ (d.swapCancel i).tim.queue = d.tim.queue ++
        [.event Ev.CANCEL_DONE (2 ^ i.val) 0 (severity Ev.CANCEL_DONE) (args10 [])] ∧
      (∀ j : Fin 3, j ≠ i → (d.swapCancel i).scopeState j = d.scopeState j)) ∧
    (∀ left : Nat, left = sub32 (d.reg (atReg i)).toNat (d.tick32 (i.val == 2)) → d.scopeState i = 1 →
      ¬ (if i.val = 0 then 2 ≤ left else d.within (i.val == 2) left 4 = false) →
      d.swapCancel i = d.raise Ev.CANCEL_LATE (2 ^ i.val)))

/-- The other commands of a swap complete (R31 to R40): a request of SD0 joins the requests; acceptance of one whose blocks have
power, whose ticks run, whose link is up when it needs it and whose scopes are IDLE seals them at the earliest boundary; the
selvedge die's acknowledgement is held with the new generation; without one in 250 µs a pending audio swap aborts, with the network
swap of its request; a settled scope takes its new generation and lifts its seal; a report is compared; a split mutes. R44: START
on an idle loader begins the load of the image at the load address; one that waited for a seal writes its runs once the seal has
lifted; at its end a failed check reports its result with nothing written, and a good image reports OK once its runs are written.
The model's choices behind it: assumptions 32 to 36. -/
def Obligations.SwapAndLoadCommandsComplete : Prop :=
  (∀ (s : State) (q : Requester) (a : Access) (v : Word), s.dev.access q = some a → a.dom = 0 →
    Answers (.swapReq q v) s
      { s.dev with pat := { s.dev.pat with reqs := s.dev.pat.reqs ++ [⟨wfld v 2 0, wbit v 7⟩] } }) ∧
  (∀ (s : State) (r : SwapReq) (t : List SwapReq), s.dev.pat.reqs = r :: t → 1 ≤ r.mask → r.mask ≤ 4 → r.atTarget = false →
    s.dev.swapPowered r.mask = true → s.dev.ticksRun r.mask = true →
    (r.mask.testBit 0 = false ∨ s.dev.fldAbsent = true ∨ s.dev.linkUp = true) →
    (scopesOf r.mask).any (fun i => s.dev.scopeState i != 0) = false →
    Answers .swapAccept s
      (({ s.dev with pat := { s.dev.pat with reqs := t } } : Dev).swapSeal r.mask (s.dev.earliest r.mask))) ∧
  (∀ s : State, s.dev.scopeState 0 = 1 → s.dev.pat.sent = true →
    Answers .swapAck s
      { s.dev with pat := { s.dev.pat with
        acked := true, sel := some ((s.dev.reg (atReg 0)).toNat, (s.dev.gen 0 + 1) % 2 ^ 16) } }) ∧
  (∀ s : State, s.dev.scopeState 0 = 1 → s.dev.pat.sent = true → s.dev.pat.acked = false →
    Answers .swapAckTimeout s (s.dev.swapAbort (if s.dev.pat.joint then 3 else 1))) ∧
  (∀ (s : State) (i : Fin 3), s.dev.scopeState i = 2 →
    ∃ d : Dev, d = ((s.dev.setScope i 0).setLast i 1).setFld (genReg i) 15 0 (s.dev.gen i + 1) ∧
      Answers (.swapDone i) s
        ((if i.val = 0 then { d with pat := { d.pat with split := false, muted := false, sent := false, acked := false } } else d).raise
          Ev.SWAP_DONE (2 ^ i.val))) ∧
  (∀ s : State, s.dev.fldAbsent = false → s.dev.linkUp = true → s.dev.pat.zeroReport = false →
    Answers .genReport s (s.dev.genShow (s.dev.fld Reg.FLD_SEL_GEN 15 0))) ∧
  (∀ s : State, s.dev.pat.split = true → s.dev.linkUp = true →
    Answers .splitMute s { s.dev with pat := { s.dev.pat with muted := true } }) ∧
  (∀ (s : State) (q : Requester) (a : Access) (v : Word), Opens s.dev q 2 0 a → s.dev.bit Reg.PAT_LOAD_STAT 31 = false → wbit v 0 = true →
    Answers (.loadStart q v) s ((s.dev.setFld Reg.PAT_LOAD_CTL 1 0 (wfld v 1 0)).loadBegin)) ∧
  (∀ (s : State) (l : Load), s.dev.pat.load = some l → l.result = 0x0A → l.written = false → s.dev.loadBlocked l = false →
    Answers .loadResume s (s.dev.loadWrite l) ∧
    Answers .loadDone s (((s.dev.loadWrite l).loadFinish l).loadEnd 0x0A)) ∧
  (∀ (s : State) (l : Load), s.dev.pat.load = some l → l.result = 0x0A → l.written = true →
    Answers .loadDone s ((s.dev.loadFinish l).loadEnd 0x0A)) ∧
  (∀ (s : State) (l : Load), s.dev.pat.load = some l → l.result ≠ 0x0A →
    ∃ e : Dev, Answers .loadDone s e ∧ e.shadow = s.dev.shadow ∧ e.pat.load = none ∧ e.bit Reg.PAT_LOAD_STAT 31 = false ∧
      e.dram = s.dev.dram ∧ e.tim.queue = s.dev.tim.queue ++
        [.event (0x0200 + l.result) 0 0 (severity (0x0200 + l.result)) (args10 [])])

/-- R40, R428: the first report after the link has come up shows generation 0 whatever FLD_SEL_GEN holds; a report that differs
from the expected generation raises SWAP_SPLIT once, and one that equals it raises nothing. -/
def Obligations.GenerationReports : Prop :=
  (∀ s : State, s.dev.fldAbsent = false → s.dev.linkUp = true → s.dev.pat.zeroReport = true →
    ∃ e : Dev, Answers .genReport s e ∧ e.fld Reg.PAT_GEN_FLD 15 0 = 0 ∧ e.pat.zeroReport = false ∧
      e.fld Reg.FLD_SEL_GEN 15 0 = s.dev.fld Reg.FLD_SEL_GEN 15 0) ∧
  (∀ s : State, s.dev.fldAbsent = false → s.dev.linkUp = true → s.dev.pat.zeroReport = false →
    ∃ e : Dev, Answers .genReport s e ∧ e.fld Reg.PAT_GEN_FLD 15 0 = s.dev.fld Reg.FLD_SEL_GEN 15 0 ∧
      (s.dev.fld Reg.FLD_SEL_GEN 15 0 = s.dev.expectedGen → e.tim.queue = s.dev.tim.queue ∧ e.pat.split = s.dev.pat.split) ∧
      (s.dev.fld Reg.FLD_SEL_GEN 15 0 ≠ s.dev.expectedGen → e.pat.split = true ∧
        (s.dev.pat.split = true → e.tim.queue = s.dev.tim.queue) ∧
        (s.dev.pat.split = false → e.tim.queue = s.dev.tim.queue ++ [.event Ev.SWAP_SPLIT 1 0 (severity Ev.SWAP_SPLIT) (args10 [])])))

/-- R41, R247: a commit of a composed instance that runs waits for its round boundary, and of one that does not run applies at
once; a rebuild request marks the cache; a frame's end publishes its surface and its round, counts a rebuild and starts the pipe's
next frame.
The model's choices behind it: assumptions 83, 84. -/
def Obligations.CompositorCommandsComplete : Prop :=
  (∀ (s : State) (q : Requester) (a : Access) (i : Fin 64) (v : Word), Opens s.dev q 42 (s.dev.ciDomain i) a → wbit v 0 = true →
    s.dev.power = 0 → s.dev.ciLayers i ≠ 0 → s.dev.bit (Reg.CMP_COMMIT_STAT i) 31 = false →
    (s.dev.ciOn i = false → Answers (.cmpCommit q i v) s (s.dev.commitApply i)) ∧
    (s.dev.ciOn i = true → Answers (.cmpCommit q i v) s
      ((s.dev.setCi i { s.dev.ci i with commitAt := some (s.dev.tim.round + if s.dev.within true 1 4 then 2 else 1) }).setBit
        (Reg.CMP_COMMIT_STAT i) 31 true))) ∧
  (∀ (s : State) (q : Requester) (a : Access) (i : Fin 64) (v : Word), Opens s.dev q 42 (s.dev.ciDomain i) a → wbit v 0 = true →
    Answers (.cacheRebuild q i v) s (s.dev.setCi i { s.dev.ci i with rebuild := true })) ∧
  (∀ (s : State) (i : Fin 64) (f : CmpFrame), (s.dev.ci i).frame = some f → f.running = true →
    ∃ d e : Dev, d = (s.dev.writeFrame i f).dropCount i ∧
      e = (((d.setCi i { d.ci i with frame := none, complete := true }).setFld (Reg.CMP_CI_STAT i) 26 24 f.surf).setFld
        (Reg.CMP_CI_STAT i) 11 0 0).setReg (Reg.CMP_CI_FRAME i) (w32 f.round) ∧
      (f.rebuild = false → Answers (.cmpFrameDone i) s ((e.rest (Reg.CMP_PP_BUSY (e.ciPipe i))).pipeNext (e.ciPipe i) 64)) ∧
      (f.rebuild = true → ∃ g : Dev, g = (e.count Reg.CMP_REBUILDS).raise Ev.CMP_CACHE_REBUILT i (e.ciDomain i) ∧
        Answers (.cmpFrameDone i) s ((g.rest (Reg.CMP_PP_BUSY (g.ciPipe i))).pipeNext (g.ciPipe i) 64)))

/-! ### Audio legs, Cable and field ports (10, 11, 12) -/

/-- The JBF window completes with result 0 on a leg or encode group of its domain (R176): the READs show the active record, or what
the next swap will make of it; WRITE_CFG writes the shadow; WRITE_LIVE clamps a leg's TARGET to its bounds or writes a group's live
bytes; RESET marks a leg that is not OFF. A record outside the domain answers DOMAIN and nothing changes. R181: START_DLY after the
tick the row's mix runs once, within the lane-clocks left of the row, and not again before the next tick.
The model's choices behind it: assumptions 66, 70 to 73. -/
def Obligations.JitterAndMixCommandsComplete : Prop :=
  (∀ (s : State) (q : Requester) (a : Access) (w : Fin 16) (v : Word) (i : Nat), Opens s.dev q 34 w a → i = wfld v 12 0 →
    (if wbit v 27 then i ≤ 2047 ∧ (w.val = 0 ∨ s.dev.encDomain i = w.val) else s.dev.mayLeg w i = true) →
    Answers (.jbfReadActive q w v) s ((s.dev.jbfShow w v (s.dev.jbfActive v i)).setReg (Reg.JBF_CMD_STAT w) 0) ∧
    Answers (.jbfReadShadow q w v) s
      ((s.dev.jbfShow w v ((if wbit v 27 then encCfg else jbfCfg).view (s.dev.jbfActive v i) (s.dev.jbfShadow v i))).setReg
        (Reg.JBF_CMD_STAT w) 0) ∧
    (∀ e : Dev, s.dev.jbfWriteCfg w v i = (e, 0) → Answers (.jbfWriteCfg q w v) s (e.setReg (Reg.JBF_CMD_STAT w) 0)) ∧
    (wbit v 27 = false →
      Answers (.jbfWriteLive q w v) s
        ((s.dev.setJrec i (rset (s.dev.jrec i) 48 2
          (max (rf (s.dev.jrec i) 4 2) (min (rf (s.dev.jbfStaged w v) 48 2) (rf (s.dev.jrec i) 6 2))))).setReg (Reg.JBF_CMD_STAT w) 0)) ∧
    (∀ e : Dev, s.dev.jbfWriteLive w v i = (e, 0) → Answers (.jbfWriteLive q w v) s (e.setReg (Reg.JBF_CMD_STAT w) 0)) ∧
    (wbit v 27 = false → jState (s.dev.jrec i) ≠ 0 →
      Answers (.jbfReset q w v) s ((s.dev.setJleg i { s.dev.jleg i with reset := true }).setReg (Reg.JBF_CMD_STAT w) 0))) ∧
  (∀ (s : State) (q : Requester) (a : Access) (w : Fin 16) (v : Word), Opens s.dev q 34 w a → wbit v 27 = false →
    s.dev.mayLeg w (wfld v 12 0) = false →
    ∀ c ∈ [Instr.jbfReadActive q w v, .jbfReadShadow q w v, .jbfWriteCfg q w v, .jbfWriteLive q w v, .jbfReset q w v],
      Answers c s (s.dev.setReg (Reg.JBF_CMD_STAT w) 1)) ∧
  (∀ s : State, s.dev.cab.due = true → s.dev.power < 2 →
    ∃ e : Dev, Answers .cableMixStart s e ∧ e = s.dev.mixRow ((500 - s.dev.fld Reg.CAB_CFG2 7 0) * 40000) ∧ e.cab.due = false) ∧
  (∀ s : State, s.dev.cab.due = false → Answers .cableMixStart s s.dev)

/-- Table 12-3, R204 to R208: the clock-group commands complete in the states their rows name. EN set takes a group from OFF to
ACQUIRE and cleared takes it OFF; ACK takes a HELD group back to ACQUIRE at its own rate; clock loss, the return of edges, a rate
that moves, sixteen stable frames and glitches act on a slave group, a loop's hold and lock on a master; the gauge shows its
window's rate. R39, R203, R216, R448: the commands of the isolation link complete. The copy of a row's tick applies an acknowledged
swap and serves every group; a bad frame replaces its audio words and is reported once per row; the link's fall aborts an audio
swap not acknowledged; its return reports itself, lets the held events cross and asks for the zero report; a frame start captures
and drives its group.
The model's choices behind it: assumptions 74 to 77. -/
def Obligations.FieldCommandsComplete : Prop :=
  (∀ (s : State) (q : Requester) (a : Access) (k : Fin 32), Opens s.dev q 61 (s.dev.grpDomain k) a → s.dev.fldAbsent = false →
    s.dev.linkUp = true →
    (s.dev.retired = false → Answers (.cgEnable q k) s (s.dev.grpOn k)) ∧
    (s.dev.grpState k ≠ 0 → Answers (.cgDisable q k) s ((s.dev.setBit (Reg.FLD_CG_CTL k) 0 false).grpOff k)) ∧
    (s.dev.grpState k = 5 → Answers (.cgAck q k) s ((s.dev.setGrp k { s.dev.grp k with rate := s.dev.nominal k }).setGrpState k 1))) ∧
  (∀ (s : State) (k : Fin 32), s.dev.grpMaster k = false → (s.dev.grpState k = 2 ∨ s.dev.grpState k = 4) →
    ∃ g : Group, g = (s.dev.count (Reg.FLD_CG_LOSS k)).grp k ∧
      Answers (.cgLost k) s
        ((((s.dev.count (Reg.FLD_CG_LOSS k)).setGrp k { g with
          output := { g.output with on := false, k := 24 }, pins := g.pins.map (fun p => p.map (fun _ => 0)) }).setGrpState k 3).grpRaise
          Ev.CG_LOST k)) ∧
  (∀ (s : State) (k : Fin 32), s.dev.grpState k = 3 → Answers (.cgEdgesResume k) s (s.dev.setGrpState k 4)) ∧
  (∀ (s : State) (k : Fin 32), s.dev.grpMaster k = false → s.dev.grpState k = 2 →
    Answers (.cgRateChange k) s ((s.dev.setGrpState k 4).grpRaise Ev.CG_RATE_CHANGE k (s.dev.gaugeArgs k))) ∧
  (∀ (s : State) (k : Fin 32) (rate : BitVec 32), s.dev.grpMaster k = false → (s.dev.grpState k = 1 ∨ s.dev.grpState k = 4) →
    nearRate rate.toNat (s.dev.grp k).rate = true → Answers (.cgStable k rate) s (s.dev.grpRun k)) ∧
  (∀ (s : State) (k : Fin 32) (n : Nat), s.dev.grpMaster k = false → s.dev.grpState k ≠ 0 → n ≠ 0 →
    ((s.dev.count (Reg.FLD_CG_GLITCH k) n).grp k).glitchMark = true → Answers (.cgGlitch k n) s (s.dev.count (Reg.FLD_CG_GLITCH k) n)) ∧
  (∀ (s : State) (k : Fin 32) (n : Nat) (d : Dev), s.dev.grpMaster k = false → s.dev.grpState k ≠ 0 → n ≠ 0 →
    d = s.dev.count (Reg.FLD_CG_GLITCH k) n → (d.grp k).glitchMark = false →
    Answers (.cgGlitch k n) s ((d.setGrp k { d.grp k with glitchMark := true }).grpRaise Ev.CG_GLITCH k)) ∧
  (∀ (s : State) (k : Fin 32), s.dev.grpMaster k = true → s.dev.grpState k ≠ 0 → s.dev.bit (Reg.FLD_CG_STAT k) 19 = false →
    Answers (.loopHold k) s ((s.dev.setLoop k false true).grpRaise Ev.LOOP_HOLD k)) ∧
  (∀ (s : State) (k : Fin 32), s.dev.grpMaster k = true → 2 ≤ s.dev.grpState k → s.dev.grpRef k ≠ 1 →
    (s.dev.bit (Reg.FLD_CG_STAT k) 19 = false → Answers (.loopLock k) s (s.dev.setLoop k true false)) ∧
    (s.dev.bit (Reg.FLD_CG_STAT k) 19 = true → Answers (.loopLock k) s ((s.dev.setLoop k true false).grpRaise Ev.LOOP_LOCK k))) ∧
  (∀ (s : State) (k : Fin 32) (n span : Nat), s.dev.grpState k ≠ 0 → 2 ≤ n → span ≠ 0 →
    Answers (.gaugeWindow k n span) s
      (s.dev.setReg (Reg.FLD_CG_GAUGE k) (w32 ((2 * 16 * (n - 1) * 196608000 + span) / (2 * span))))) ∧
  (∀ s : State, s.dev.fldAbsent = false → s.dev.linkUp = true → s.dev.power < 3 →
    ∃ d : Dev, d = { s.dev with field := { s.dev.field with
        selRow := s.dev.row32, okRow := some (s.dev.field.okRow.getD s.dev.row32) } } ∧
      Answers .tickCopy s ((d.selSwap s.dev.row32).forEach (List.range 32) (fun d k => d.grpTick k s.dev.row32))) ∧
  (∀ s : State, s.dev.fldAbsent = false → s.dev.linkUp = true →
    (s.dev.field.crcMark = true → Answers (.linkCrc []) s s.dev) ∧
    (s.dev.field.crcMark = false →
      Answers (.linkCrc []) s (({ s.dev with field := { s.dev.field with crcMark := true } } : Dev).raise Ev.LINK_CRC 0)) ∧
    (∀ (out : Bool) (c : Fin 1024) (i : Fin 24), s.dev.field.crcMark = true →
      ∃ d : Dev, d = s.dev.count Reg.FLD_LINK_CRC ∧
        Answers (.linkCrc [(out, c, i)]) s
          (if out then { d with field := { d.field with tx := replaceWord d.field.tx c i } }
          else { d with field := { d.field with rx := replaceWord d.field.rx c i } }))) ∧
  (∀ (s : State) (locks : BitVec 8), s.dev.fldAbsent = false → s.dev.linkUp = true →
    ∃ e : Dev, Answers (.fldLinkDown locks) s e ∧ e = s.dev.linkFall locks.toNat ∧ e.linkUp = false ∧
      e.reg Reg.FLD_LINK_DOWNS = satAdd (s.dev.reg Reg.FLD_LINK_DOWNS) 1 ∧ (s.dev.pat.acked = true → e.pat = s.dev.pat)) ∧
  (∀ s : State, s.dev.fldAbsent = false → s.dev.linkUp = false → s.dev.field.held = [] →
    ∃ d : Dev, d = ((s.dev.setFld Reg.FLD_LINK_STAT 8 0 0x1FF).raise Ev.FLD_LINK_UP 0 0
        (List.replicate 6 0 ++ leBytes 4 s.dev.field.discarded)) ∧
      Answers .fldLinkUp s
        (({ d with pat := { d.pat with zeroReport := true }, field := { d.field with held := [], discarded := 0, okRow := none } } : Dev).forEach
          (List.range 32) Dev.mirrorState)) ∧
  (∀ (s : State) (k : Fin 32) (house : BitVec 32) (clk : BitVec 17) (slots : List Word), s.dev.grpState k ≠ 0 → s.dev.fldAbsent = false →
    ∃ d : Dev, d = s.dev.lvCommit (Reg.FLD_CG_FIFO k) (Reg.FLD_CG_LOOP k + 4) ∧
      Answers (.cgFrameStart k house clk slots) s
        (((d.setGrp k { d.grp k with edge := clk.toNat, idx := (d.grp k).idx + 1 }).capture k house.toNat slots).drive k house.toNat))

/-! ### Video decode, video encode, stitching and display (13, 14, 15) -/

/-- R236, R268: the record windows of VDE, VEN and SQS complete with result 0 on a record of their domain: the READs show the
active record, or what the next swap will make of it; WRITE_CFG writes the shadow's VS bytes; WRITE_LIVE the live bytes, leaving
pending key requests; RESET turns a context, a gallery or a tile OFF, and starts an encode context with a key frame.
The model's choices behind it: assumptions 78, 87. -/
def Obligations.VideoRecordCommandsComplete : Prop :=
  (∀ (s : State) (q : Requester) (a : Access) (w : Fin 16) (v : Word) (i r : Nat), Opens s.dev q 40 w a → i = wfld v 9 0 →
    r = s.dev.regsNat (Reg.VDE_REC w 0) 32 → (w.val = 0 ∨ s.dev.vdeDomain i = w.val) →
    Answers (.vdeReadActive q w v) s ((s.dev.setRegsNat (Reg.VDE_REC w 0) (s.dev.vrec i) 32).setReg (Reg.VDE_CMD_STAT w) 0) ∧
    Answers (.vdeReadShadow q w v) s
      ((s.dev.setRegsNat (Reg.VDE_REC w 0) (vdeCfg.view (s.dev.vrec i) (tat 0 s.dev.vde.recSh i)) 32).setReg (Reg.VDE_CMD_STAT w) 0) ∧
    (vdeCfg.bad r = false → vdeRange r = true → s.dev.sealed 40 = false →
      Answers (.vdeWriteCfg q w v) s
        (({ s.dev with vde := { s.dev.vde with recSh := tset 0 s.dev.vde.recSh i (vdeCfg.take (tat 0 s.dev.vde.recSh i) r) } } : Dev).setReg
          (Reg.VDE_CMD_STAT w) 0)) ∧
    (vdeLive.bad r = false →
      Answers (.vdeWriteLive q w v) s ((s.dev.setVrec i (vdeLive.take (s.dev.vrec i) r)).setReg (Reg.VDE_CMD_STAT w) 0)) ∧
    (∃ d : Dev, d = s.dev.vOff i ∧
      Answers (.vdeReset q w v) s ((d.setVctx i { d.vctx i with reset := true }).setReg (Reg.VDE_CMD_STAT w) 0))) ∧
  (∀ (s : State) (q : Requester) (a : Access) (w : Fin 16) (v : Word) (i r : Nat), Opens s.dev q 41 w a → i = wfld v 8 0 →
    r = s.dev.regsNat (Reg.VEN_REC w 0) 32 → (w.val = 0 ∨ s.dev.venDomain i = w.val) →
    Answers (.venReadActive q w v) s ((s.dev.setRegsNat (Reg.VEN_REC w 0) (s.dev.nrec i) 32).setReg (Reg.VEN_CMD_STAT w) 0) ∧
    Answers (.venReadShadow q w v) s
      ((s.dev.setRegsNat (Reg.VEN_REC w 0) (venCfg.view (s.dev.nrec i) (tat 0 s.dev.ven.recSh i)) 32).setReg (Reg.VEN_CMD_STAT w) 0) ∧
    (venCfg.bad r = false → venRange r = true → s.dev.sealed 41 = false →
      Answers (.venWriteCfg q w v) s
        (({ s.dev with ven := { s.dev.ven with recSh := tset 0 s.dev.ven.recSh i (venCfg.take (tat 0 s.dev.ven.recSh i) r) } } : Dev).setReg
          (Reg.VEN_CMD_STAT w) 0)) ∧
    (nCodec (s.dev.nrec i) ≠ 0 → venLive.bad r = false → activeOk (nCodec (s.dev.nrec i)) (rbits r 74 2 0) = true →
      10 ≤ rf r 72 2 → rf r 72 2 ≤ 2000 →
      Answers (.venWriteLive q w v) s
        ((s.dev.setNrec i (rsetBits (venLive.take (s.dev.nrec i) r) 75 2 0 (rbits (s.dev.nrec i) 75 2 0 ||| rbits r 75 2 0))).setReg
          (Reg.VEN_CMD_STAT w) 0)) ∧
    (∃ d : Dev, d = s.dev.setNrec i (rset (s.dev.nrec i) 100 12 0) ∧
      Answers (.venReset q w v) s ((d.setNctx i { d.nctx i with due := 7 }).setReg (Reg.VEN_CMD_STAT w) 0))) ∧
  (∀ (s : State) (q : Requester) (a : Access) (w : Fin 16) (v : Word) (g r : Nat), Opens s.dev q 44 w a → wbit v 27 = false →
    g = wfld v 13 0 → g < 64 → r = s.dev.regsNat (Reg.SQS_REC w 0) 16 → (w.val = 0 ∨ s.dev.galDomain g = w.val) →
    Answers (.sqsReadActive q w v) s ((s.dev.setRegsNat (Reg.SQS_REC w 0) (s.dev.gal g) 16).setReg (Reg.SQS_CMD_STAT w) 0) ∧
    Answers (.sqsReadShadow q w v) s
      ((s.dev.setRegsNat (Reg.SQS_REC w 0) (galCfg.view (s.dev.gal g) (tat 0 s.dev.sqs.galSh g)) 16).setReg (Reg.SQS_CMD_STAT w) 0) ∧
    (galCfg.bad r = false → galRange r = true → s.dev.sealed 44 = false →
      Answers (.sqsWriteCfg q w v) s
        (({ s.dev with sqs := { s.dev.sqs with galSh := tset 0 s.dev.sqs.galSh g (galCfg.take (tat 0 s.dev.sqs.galSh g) r) } } : Dev).setReg
          (Reg.SQS_CMD_STAT w) 0)) ∧
    (galLive.bad r = false →
      Answers (.sqsWriteLive q w v) s ((s.dev.setGal g (s.dev.gal g ||| (galLive.bits &&& r))).setReg (Reg.SQS_CMD_STAT w) 0)) ∧
    (∃ d : Dev, d = s.dev.gOff g ∧
      Answers (.sqsReset q w v) s ((if gCodec (d.gal g) = 0 then d else d.gTry g).setReg (Reg.SQS_CMD_STAT w) 0))) ∧
  (∀ (s : State) (q : Requester) (a : Access) (w : Fin 16) (v : Word) (t r : Nat), Opens s.dev q 44 w a → wbit v 27 = true →
    t = wfld v 13 0 → r = s.dev.regsNat (Reg.SQS_REC w 0) 4 → (w.val = 0 ∨ s.dev.galDomain (t / 256) = w.val) →
    Answers (.sqsReadActive q w v) s ((s.dev.setRegsNat (Reg.SQS_REC w 0) (s.dev.tile t) 4).setReg (Reg.SQS_CMD_STAT w) 0) ∧
    Answers (.sqsReadShadow q w v) s
      ((s.dev.setRegsNat (Reg.SQS_REC w 0) (tileCfg.view (s.dev.tile t) (tat 0 s.dev.sqs.tileSh t)) 4).setReg (Reg.SQS_CMD_STAT w) 0) ∧
    (tileCfg.bad r = false → tileRange r = true → s.dev.sealed 44 = false →
      Answers (.sqsWriteCfg q w v) s
        (({ s.dev with sqs := { s.dev.sqs with tileSh := tset 0 s.dev.sqs.tileSh t (tileCfg.take (tat 0 s.dev.sqs.tileSh t) r) } } : Dev).setReg
          (Reg.SQS_CMD_STAT w) 0)) ∧
    (∃ d : Dev, d = s.dev.tOff t ∧
      Answers (.sqsReset q w v) s ((if tKind (d.tile t) = 0 then d else d.tTry t).setReg (Reg.SQS_CMD_STAT w) 0)))

/-- R220 to R229, R264: a decode core takes the picture that was ready first; at the picture's end its bitstream either fails, and
the context rolls back with VDE_BITSTREAM, or the picture and the context's state go to DRAM and the picture is shown; a picture,
or a tile's picture, whose hold has passed with packets missing is lost and counted. The headers, whether a bitstream is good and
the bytes written are free values. R246, R266, R267: a band starts on its core once its rows have been published, and writes
nothing to DRAM; a frame whose bands have all been taken ends with its cores at rest: without buffers VEN_NONE is raised and key
frames are due, with them the frame and its bytes are counted and each packet goes to forwarding. A gallery's frame ends likewise.
Coded bytes are free values.
The model's choices behind it: assumptions 78 to 82. -/
def Obligations.VideoWorkCommandsComplete : Prop :=
  (∀ (s : State) (core : Fin 16) (k : Nat) (f : Option Nat) (p : Picture) (h : Config.PicHeader), s.dev.regionOff 40 = false →
    s.dev.coreBusy core = false → s.dev.vNext core = some k → s.dev.vStartable core k = some (f, p) → s.dev.vHeader k f p = some h →
    Answers (.decodeStart core) s (s.dev.vStart core k p h)) ∧
  (∀ (s : State) (core : Fin 16) (k j addr : Nat) (x : VdeCtx) (f : Option Nat) (p : Picture) (h : Config.PicHeader),
    s.dev.vde.ctxs.find? (fun e => e.2.str.pics.any (fun p => p.core == some core.val)) = some (k, x) →
    x.str.expected.find? (fun e => e.2.core == some core.val) = some (f, p) →
    p.slot = some (j, addr) → s.dev.vHeader k f p = some h → p.whole f = true → s.dev.vPoisoned (s.dev.vrec k) = false →
    ∃ (r : Nat) (pay : List (List Byte)) (d e g : Dev), r = s.dev.vrec k ∧
      (pay, d) = s.dev.pictureGet 2 (s.dev.vdeDomain k) (vRing r).1 (vRing r).2 p.pkts ∧
      e = d.draw.2.dramPut 2 (s.dev.vdeDomain k) addr (videoBytes d.draw.1 (min (rf r 32 4) (pictureBytes h.width h.height h.ten))) ∧
      g = e.draw.2.dramPut 2 (s.dev.vdeDomain k) (rf r 52 8 + if x.copy then 0 else 65536) (videoBytes e.draw.1 65536) ∧
      Answers (.decodeEnd core) s
        (if Config.bitstreamOk (vCodec r) p.z pay = false then d.vRollback k f p Ev.VDE_BITSTREAM
        else ((g.setPics k ((g.vctx k).str.pics.map (fun y => if y.ts = p.ts then { y with core := none, ended := true } else y))).rest
          (Reg.VDE_CORE_BUSY core)).vCommit k)) ∧
  (∀ (s : State) (k : Fin 1024) (f : Option Nat) (p : Picture),
    (s.dev.vctx k).str.expected.find? (fun e => e.2.hold && !e.2.dead && !e.2.ended && !e.2.whole e.1) = some (f, p) →
    ∃ d : Dev, d = s.dev.vCount k 96 Reg.VDE_LOST ∧
      (k.val ∈ d.vde.lostMark → Answers (.vdePicLost k) s ((d.vFail k f p).vReady k)) ∧
      (k.val ∉ d.vde.lostMark → Answers (.vdePicLost k) s
        (((({ d with vde := { d.vde with lostMark := addMark d.vde.lostMark k } } : Dev).raise Ev.VDE_PIC_LOST k (d.vdeDomain k)).vFail k f
          p).vReady k))) ∧
  (∀ (s : State) (t : Fin 16384) (f : Option Nat) (p : Picture),
    (s.dev.tst t).str.expected.find? (fun e => e.2.hold && !e.2.dead && !e.2.whole e.1) = some (f, p) →
    Answers (.tilePictureLost t) s ((s.dev.tLost t p.ts 1).tReady t)) ∧
  (∀ (s : State) (k : Fin 512) (b : Fin 4) (f : EncFrame), (s.dev.nctx k).frame = some f → b.val < nSpan (s.dev.nrec k) →
    b.val ∉ f.bands → nCore (s.dev.nrec k) + b.val ∉ s.dev.encCores → s.dev.bandReady k f = true →
    ∃ e : Dev, Answers (.encBandStart k b) s e ∧ (e.nctx k).frame = some { f with bands := f.bands ++ [b.val] } ∧
      (e.busyOf (Reg.VEN_CORE_BUSY (nCore (s.dev.nrec k) + b))).since = some s.dev.tim.clocks ∧
      e.ven.recs = s.dev.ven.recs ∧ e.dram = s.dev.dram ∧ e.bpm = s.dev.bpm ∧ e.fwd = s.dev.fwd) ∧
  (∀ (s : State) (k : Fin 512) (f : EncFrame), (s.dev.nctx k).frame = some f → nSpan (s.dev.nrec k) ≤ f.bands.length →
    ∃ (r keys : Nat) (out : List (Nat × List Media)) (c d e : Dev), r = s.dev.nrec k ∧
      c = (s.dev.forEach f.bands (fun d b => d.rest (Reg.VEN_CORE_BUSY (nCore r + b)))) ∧
      (out, d) = (c.setNctx k { c.nctx k with frame := none }).encMedia k f ∧
      keys = (f.encs.map (fun e => 2 ^ e.1)).sum ∧
      e = d.draw.2.dramPut 3 (s.dev.venDomain k) (rf r 24 8) (videoBytes d.draw.1 (rf r 32 4)) ∧
      match e.frameChains 40 (e.fld Reg.VEN_TX_POOL 2 0) (s.dev.venDomain k) (out.flatMap (fun x => x.2)) [] with
      | (none, g) =>
        Answers (.encodeDone k) s
          ((g.setNctx k { g.nctx k with due := (g.nctx k).due ||| (if nCodec r = 1 ∧ nSim r = true then keys else 7) }).raise Ev.VEN_NONE k
            (s.dev.venDomain k))
      | (some cs, g) =>
        ∃ h i j : Dev,
          h = (g.forEach (f.encs.zip out) (fun d x => d.encDone k x.1 ((x.2.2.map (fun m => m.payload.length)).sum))).nCount k 84 Reg.VEN_FRAMES ∧
          i = (if f.encs.any (fun x => x.2.1) then h.nCount k 96 Reg.VEN_KEYS else h) ∧
          j = i.setNctx k { i.nctx k with made := ((i.nctx k).made + (out.flatMap (fun x => x.2)).length) % 2 ^ 16 } ∧
          Answers (.encodeDone k) s
            ((j.sqsFromVen k (i.nctx k).made (((out.flatMap (fun x => x.2)).map (fun m => m.ts)).headD 0)
              ((out.headD (0, [])).2.map (fun m => m.payload))).forEach ((out.flatMap (fun x => x.2.map (fun m => (x.1, m)))).zip cs)
                (fun d x => (d.produce (rbits r 10 12 0) ((rbits r 12 4 0 + x.1.1) % 32) x.1.2 x.2).giveBack 40 x.2))) ∧
  (∀ (s : State) (g : Fin 64) (f : GalFrame), (s.dev.gst g).frame = some f → f.running = true →
    ∃ (r : Nat) (ok : Bool) (c d e i : Dev), r = s.dev.gal g ∧ c = s.dev.draw.2 ∧
      (ok, d) = c.emitFrame 41 (c.fld Reg.SQS_TX_POOL 2 0) (s.dev.galDomain g) (rbits r 10 12 0) (rbits r 12 4 0)
        (codedMedia s.dev.draw.1 (rf r 14 2) (gCodec r) (c.houseIndex 90000 (c.boundary true f.round / 2 ^ 40)) 0 0 f.key true) ∧
      e = (if f.key then (d.gCount g 36 Reg.SQS_FRAMES 1).setGal g (rcount ((d.gCount g 36 Reg.SQS_FRAMES 1).gal g) 40)
        else d.gCount g 36 Reg.SQS_FRAMES 1) ∧
      i = (if ok then e.setGst g { e.gst g with count := (e.gst g).count + 1 }
        else (d.setGst g { d.gst g with due := true }).raise Ev.SQS_NONE g (s.dev.galDomain g)) ∧
      Answers (.sqsFrameDone g) s
        (((i.setGst g { i.gst g with frame := none }).rest (Reg.SQS_UNIT_BUSY (gUnit r))).unitNext (gUnit r)))

/-- R252 to R255: the commands of a display output complete, each in the states its row names. Enable takes a DISABLED output with
an accepted timing to WAIT_HPD; disable turns it off; a retrain leaves ACTIVE; training ends in ACTIVE with the lanes locked or in
FAILED with its cause; hot-plug takes an output out of WAIT_HPD or back to it, a lane out of lock back to TRAINING; a vertical
blank takes the newest complete frame; a line without data is counted, reported once a frame. R256: the AUX commands complete. A
transaction is asked for while none is pending, with its operation, address and length, and waits while the link trains; an ACK of
a read puts its bytes in DPO_AUX_DATA and ends it with result 0, a NACK with 1; a DEFER waits for its retry up to seven times, the
next ends it with 2; no reply in 500 µs ends it with 3.
The model's choices behind it: assumptions 85, 86. -/
def Obligations.DisplayCommandsComplete : Prop :=
  (∀ (s : State) (q : Requester) (a : Access) (o : Fin 2), Opens s.dev q 45 (s.dev.dpDomain o) a → s.dev.retired = false →
    (s.dev.dpState o = 0 → (s.dev.setBit (Reg.DPO_CTL o) 0 true).dpOk o = true →
      Answers (.dpoEnable q o) s ((s.dev.setBit (Reg.DPO_CTL o) 0 true).dpEnter o 1)) ∧
    Answers (.dpoDisable q o) s ((s.dev.setBit (Reg.DPO_CTL o) 0 false).dpEnter o 0)) ∧
  (∀ (s : State) (q : Requester) (a : Access) (o : Fin 2), Opens s.dev q 45 (s.dev.dpDomain o) a →
    (s.dev.dpState o = 3 → Answers (.dpoRetrain q o) s ((s.dev.dpEnter o 2).count (Reg.DPO_RETRAINS o))) ∧
    (s.dev.dpState o = 4 → s.dev.bit (Reg.DPO_STAT o) 4 = true → Answers (.dpoRetrain q o) s (s.dev.dpEnter o 2))) ∧
  (∀ (s : State) (o : Fin 2), s.dev.dpState o = 1 →
    Answers (.dpoHpd o) s (((s.dev.dpEnter o 2).setBit (Reg.DPO_STAT o) 4 true).raise Ev.DPO_HPD o (s.dev.dpDomain o) [1])) ∧
  (∀ (s : State) (o : Fin 2), s.dev.dpState o ≠ 0 →
    ∃ d e : Dev, d = (s.dev.dpEnter o 1).setBit (Reg.DPO_STAT o) 4 false ∧ e = d.raise Ev.DPO_HPD o (s.dev.dpDomain o) [0] ∧
      Answers (.hpdLow o) s (if s.dev.dpState o = 3 then e.raise Ev.DPO_LINK_LOST o (e.dpDomain o) else e)) ∧
  (∀ (s : State) (o : Fin 2), s.dev.dpState o = 2 →
    (∀ levels : BitVec 16, ∃ (n : Nat) (d : Dev), n = 2 ^ s.dev.fld (Reg.DPO_CFG o) 18 17 ∧
      d = ((s.dev.dpEnter o 3).setFld (Reg.DPO_STAT o) 9 6 (2 ^ n - 1)).setFld (Reg.DPO_TRAIN_STAT o) 15 0 (levels.toNat % 2 ^ (4 * n)) ∧
      Answers (.dpoLinkUp o levels) s ((d.raise Ev.DPO_LINK_UP o (d.dpDomain o)).auxGo o)) ∧
    (∀ cause : Fin 3, Answers (.dpoTrainFail o cause) s
      (((s.dev.dpEnter o 4).raise Ev.DPO_TRAIN_FAIL o (s.dev.dpDomain o) [b8 (cause + 1)]).auxGo o))) ∧
  (∀ (s : State) (o : Fin 2), s.dev.dpState o = 4 → s.dev.bit (Reg.DPO_STAT o) 4 = true → Answers (.trainRetry o) s (s.dev.dpEnter o 2)) ∧
  (∀ (s : State) (o : Fin 2), s.dev.dpState o = 3 →
    ∃ d : Dev, d = (s.dev.dpEnter o 2).count (Reg.DPO_RETRAINS o) ∧
      Answers (.hpdIrq o) s (d.raise Ev.DPO_LINK_LOST o (s.dev.dpDomain o))) ∧
  (∀ (s : State) (o : Fin 2) (i : Nat) (b : Bool) (x : Dpo), s.dev.dpState o = 3 → i = s.dev.dpSrc o → x = s.dev.dp o →
    b = (s.dev.ci i).complete →
    ∃ d : Dev, d = s.dev.setPanic (6 + o) false ∧
      (b = false → Answers (.vblank o) s
        (((d.setDp o { x with scan := none, takes := 0, underMark := false }).pullCheck o).lockCheck o)) ∧
      (b = true → ∃ (z : Nat × Nat) (n : Nat) (c : Dev), z = (d.ciNewest i, (d.reg (Reg.CMP_CI_FRAME i)).toNat) ∧
        n = (if x.scan = some z then x.takes + 1 else 1) ∧
        c = (if n = d.ciDiv i + 1 then d.count (Reg.DPO_REPEAT o) else d) ∧
        ∃ e : Dev, e = (c.setDp o { x with scan := some z, takes := n, underMark := false }).count (Reg.DPO_FRAMES o) ∧
          Answers (.vblank o) s
            (((e.dramGet (6 + o) (e.dpDomain o) (e.ciSurf i z.1) (e.ciStride i * e.ciH i * 3 / 2)).2.pullCheck o).lockCheck o))) ∧
  (∀ (s : State) (o : Fin 2), s.dev.dpState o = 3 → (s.dev.dp o).scan ≠ none →
    ∃ d e : Dev, d = s.dev.count (Reg.DPO_UNDERFLOW_LINES o) ∧
      e = (if 0 < d.fld (Reg.DPO_PANIC o) 4 0 then d.setPanic (6 + o) true else d) ∧
      Answers (.dpoUnderflow o) s
        (if (e.dp o).underMark = true then e
        else (e.setDp o { e.dp o with underMark := true }).raise Ev.DPO_UNDERFLOW o (e.dpDomain o))) ∧
  (∀ (s : State) (q : Requester) (a : Access) (o : Fin 2) (v : Word), Opens s.dev q 45 (s.dev.dpDomain o) a →
    s.dev.bit (Reg.DPO_AUX_STAT o) 31 = false →
    ∀ c ∈ [(Instr.auxNativeRead q o v, 1), (.auxNativeWrite q o v, 2), (.auxI2cRead q o v, 3), (.auxI2cWrite q o v, 4)],
      Answers c.1 s ((s.dev.setReg (Reg.DPO_AUX_STAT o) (w32 (2 ^ 31))).setDp o
        { s.dev.dp o with aux := some { op := c.2, addr := wfld v 19 0, len := wfld v 27 24 + 1,
                                        bytes := leBytes (wfld v 27 24 + 1) (s.dev.regsNat (Reg.DPO_AUX_DATA o 0) 4),
                                        waiting := s.dev.dpState o == 2 } })) ∧
  (∀ (s : State) (o : Fin 2) (x : Aux) (bytes : List Byte), (s.dev.dp o).aux = some x → x.waiting = false →
    (x.op % 2 = 1 → Answers (.auxReply o 0 bytes) s
      ((s.dev.setRegsNat (Reg.DPO_AUX_DATA o 0)
        (leNat (patch (leBytes 16 (s.dev.regsNat (Reg.DPO_AUX_DATA o 0) 4)) 0 (bytes.take x.len))) 4).auxEnd o 0)) ∧
    (x.op % 2 = 0 → Answers (.auxReply o 0 bytes) s (s.dev.auxEnd o 0)) ∧
    Answers (.auxReply o 1 bytes) s (s.dev.auxEnd o 1) ∧
    (x.defers < 7 → Answers (.auxReply o 2 bytes) s (s.dev.setDp o { s.dev.dp o with aux := some { x with defers := x.defers + 1, waiting := true } })) ∧
    (7 ≤ x.defers → Answers (.auxReply o 2 bytes) s (s.dev.auxEnd o 2)) ∧
    Answers (.auxTimeout o) s (s.dev.auxEnd o 3)) ∧
  (∀ (s : State) (o : Fin 2) (x : Aux), (s.dev.dp o).aux = some x → s.dev.dpState o ≠ 2 →
    Answers (.auxDeferRetry o) s (s.dev.setDp o { s.dev.dp o with aux := some { x with waiting := false } }))

/-! ### Forwarding, legs and egress (16, 17) -/

/-- R273, R269, R287, R289: the windows of FWD and LEG complete with result 0 on an entry, a source or a record of their domain.
READs show it; SUB_WRITE gives a disabled entry its staged bytes with CUR 0 and SYNC set; SUB_WANT writes WANT only; SUB_DISABLE
clears EN; SRC_WRITE writes byte 0 only; WRITE_CFG the shadow; WRITE_LIVE the live bytes; SUSPEND and RESUME move a leg between its
states.
The model's choices behind it: assumptions 88 to 92. -/
def Obligations.ForwardingRecordCommandsComplete : Prop :=
  (∀ (s : State) (q : Requester) (a : Access) (w : Fin 16) (v : Word) (i n : Nat), Opens s.dev q 36 w a → i = wfld v 19 0 →
    n = s.dev.regsNat (Reg.FWD_REC w 0) 2 → (w.val = 0 ∨ s.dev.subIn w i = true) →
    Answers (.subRead q w v) s ((s.dev.setRegsNat (Reg.FWD_REC w 0) (s.dev.sub i) 2).setReg (Reg.FWD_CMD_STAT w) 0) ∧
    (n &&& subReserved = 0 → subEn (s.dev.sub i) = false →
      Answers (.subWrite q w v) s
        ((s.dev.setSub i (rsetBits (rset (s.dev.sub i) 0 4 (rf n 0 4)) 4 4 0 16)).setReg (Reg.FWD_CMD_STAT w) 0)) ∧
    (n &&& bitsAt 3 7 4 = 0 →
      Answers (.subWant q w v) s ((s.dev.setSub i (rset (s.dev.sub i) 3 1 (rf n 3 1))).setReg (Reg.FWD_CMD_STAT w) 0)) ∧
    (∃ d : Dev, d = s.dev.setSub i (rsetBits (s.dev.sub i) 0 13 13 0) ∧
      Answers (.subDisable q w v) s
        ((if outOwned (d.outRec (subOut (s.dev.sub i))) = true ∧ rbits (d.outRec (subOut (s.dev.sub i))) 16 19 0 = i then
            d.disown (subOut (s.dev.sub i)) else d).setReg (Reg.FWD_CMD_STAT w) 0))) ∧
  (∀ (s : State) (q : Requester) (a : Access) (w : Fin 16) (v : Word), Opens s.dev q 36 w a → s.dev.mayLeg w (wfld v 15 0 / 8) = true →
    Answers (.srcRead q w v) s ((s.dev.setRegsNat (Reg.FWD_REC w 0) (s.dev.src (wfld v 15 0)) 16).setReg (Reg.FWD_CMD_STAT w) 0) ∧
    (s.dev.fld (Reg.FWD_REC w 0) 7 0 < 16 →
      Answers (.srcWrite q w v) s
        ((s.dev.setSrc (wfld v 15 0) (rset (s.dev.src (wfld v 15 0)) 0 1 (s.dev.fld (Reg.FWD_REC w 0) 7 0))).setReg (Reg.FWD_CMD_STAT w) 0))) ∧
  (∀ (s : State) (q : Requester) (a : Access) (w : Fin 16) (v : Word), Opens s.dev q 35 w a → s.dev.mayLeg w (cmdLeg v) = true →
    Answers (.legReadActive q w v) s ((s.dev.legShow w v (s.dev.legActive v)).setReg (Reg.LEG_CMD_STAT w) 0) ∧
    Answers (.legReadShadow q w v) s
      ((s.dev.legShow w v ((if wbit v 27 then outCfg else hdrCfg).view (s.dev.legActive v) (s.dev.legShadow v))).setReg (Reg.LEG_CMD_STAT w) 0) ∧
    (∀ n : Nat, n = hdrCfg.take (s.dev.legShadow v) (s.dev.legStaged w v) → wbit v 27 = false →
      hdrCfg.bad (s.dev.legStaged w v) = false → s.dev.sealed 35 = false →
      Answers (.legWriteCfg q w v) s
        (({ s.dev with leg := { s.dev.leg with hdrSh := tset hdrReset s.dev.leg.hdrSh (cmdLeg v) n } } : Dev).setReg
          (Reg.LEG_CMD_STAT w) 0)) ∧
    (∀ n : Nat, n = outCfg.take (s.dev.legShadow v) (s.dev.legStaged w v) → wbit v 27 = true →
      outCfg.bad (s.dev.legStaged w v) = false → s.dev.sealed 35 = false →
      Answers (.legWriteCfg q w v) s
        (({ s.dev with leg := { s.dev.leg with outSh := tset 0 s.dev.leg.outSh (cmdOut v) n } } : Dev).setReg
          (Reg.LEG_CMD_STAT w) 0)) ∧
    (wbit v 27 = false → hdrLive.bad (s.dev.legStaged w v) = false →
      Answers (.legWriteLive q w v) s
        (((s.dev.setHdr (cmdLeg v) (hdrLive.take (s.dev.hdr (cmdLeg v)) (s.dev.legStaged w v))).lvWrite (Reg.EGS_LEG_RATE (cmdLeg v))
          (w32 (legRate (rf (s.dev.legStaged w v) 8 4)))).setReg (Reg.LEG_CMD_STAT w) 0)) ∧
    (wbit v 27 = true → outLive.bad (s.dev.legStaged w v) = false → outOwned (s.dev.outRec (cmdOut v)) = false →
      Answers (.legWriteLive q w v) s
        ((s.dev.setOut (cmdOut v) (outLive.take (s.dev.outRec (cmdOut v)) (s.dev.legStaged w v))).setReg (Reg.LEG_CMD_STAT w) 0)) ∧
    (s.dev.legReceives (cmdLeg v) = true →
      Answers (.legSuspend q w v) s (((s.dev.setLegState (cmdLeg v) 3).flushLeg (cmdLeg v)).setReg (Reg.LEG_CMD_STAT w) 0)) ∧
    (s.dev.legState (cmdLeg v) = 3 →
      Answers (.legResume q w v) s ((s.dev.setLegState (cmdLeg v) 1).setReg (Reg.LEG_CMD_STAT w) 0)))

/-- R292, R294, R295, R301: egress completes. A decision at an UP port whose transmitter is free starts the frame the rules choose;
the frame's end frees the transmitter, counts it and its bytes, and puts it on the wire; a gate change is scheduled at the first
cycle that lies far enough ahead and takes effect there; a port out of UP for DOWN_FLUSH_MS is flushed once.
The model's choices behind it: assumptions 93 to 96. -/
def Obligations.EgressCommandsComplete : Prop :=
  (∀ (s : State) (p : Fin 8) (lead : Fin 16), s.dev.portUp p = true → tat none s.dev.egs.tx p = none →
    ∃ d : Dev, d = s.dev.lvTake (fun a => s.dev.shaperPort a == some p.val) ∧
      ∀ (f : QFrame) (e : Dev), d.choose p (gateUnits ((d.tb (d.fld (Reg.TIM_PORT_CFG p) 10 8)).time + lead * 2 ^ 40)) = (some f, e) →
        Answers (.dequeueDecision p lead) s (e.txStart p lead f)) ∧
  (∀ (s : State) (p : Fin 8) (t : TxFrame), tat none s.dev.egs.tx p = some t → (t.bad = true ∨ t.frame.cutOf.any s.dev.inFlight = false) →
    Answers (.frameTxEnd p) s (s.dev.txEnd p t)) ∧
  (∀ (s : State) (q : Requester) (a : Access) (p : Fin 8) (v : Word), s.dev.access q = some a → a.dom = 0 → s.dev.regionOff 16 = false →
    wbit v 0 = true → s.dev.gatePending p = false →
    ∃ e : Dev, Answers (.gateChange q p v) s e ∧ e.gatePending p = true ∧
      tat 0 e.egs.change p = firstCycle (s.dev.adminBase p) (s.dev.fld (Reg.EGS_GATE_ADMIN_CYCLE p) 29 0)
        (((s.dev.tb (s.dev.fld (Reg.TIM_PORT_CFG p) 10 8)).time + 2 ^ 40 - 1) / 2 ^ 40 + 2000) ∧
      (∀ r : Fin 8, r ≠ p → e.gatePending r = s.dev.gatePending r ∧ tat 0 e.egs.change r = tat 0 s.dev.egs.change r) ∧
      e.egs.tx = s.dev.egs.tx ∧ e.egs.leaves = s.dev.egs.leaves ∧ e.dram = s.dev.dram) ∧
  (∀ (s : State) (p : Fin 8), s.dev.gatePending p = true →
    Answers (.gateChanged p) s
      ((s.dev.advance (s.dev.clocksTo (s.dev.fld (Reg.TIM_PORT_CFG p) 10 8) (tat 0 s.dev.egs.change p * 2 ^ 40))).gateChanged p)) ∧
  (∀ (s : State) (p : Fin 8), s.dev.portUp p = false → p.val ∉ s.dev.egs.flushed → s.dev.fld (Reg.EGS_PORT_CFG p) 27 16 ≠ 0 →
    ∃ d : Dev, d = s.dev.flushPort p ∧
      Answers (.egsFlush p) s (({ d with egs := { d.egs with flushed := addMark d.egs.flushed p } } : Dev).raise Ev.EGS_FLUSH p))

/-! ### Device DRAM (18) -/

/-- R308 to R316: the commands of a trained controller complete. A permitted request enters its queue, or stalls where 64 wait; a
refresh falls due and is forced at once when it must be; an MR4 poll takes the code and reports a hot device; a delay update closes
every bank; a long panic is reported once; a command slot runs the timers, issues what it chooses, and takes the link's result.
The model's choices behind it: assumptions 97 to 99. -/
def Obligations.DramCommandsComplete : Prop :=
  (∀ (s : State) (port dom : Fin 16) (addr : BitVec 36) (data : Option (BitVec 512)) (k : Nat) (r : DramReq), k = s.dev.dmcOf addr.toNat →
    s.dev.trained k = true → s.dev.dramDeny dom (64 * (addr.toNat / 64)) 64 = 0 →
    r = ⟨port, portClass port, addr.toNat / 64, data.map (·.toNat), s.dev.tim.clocks, s.dev.inPanic k port⟩ →
    ((s.dev.dmcUnit k).held data.isSome < 64 → Answers (.dramRequest port dom addr data) s (s.dev.enterQueue k r)) ∧
    (64 ≤ (s.dev.dmcUnit k).held data.isSome → Answers (.dramRequest port dom addr data) s
      (s.dev.setDmc k { s.dev.dmcUnit k with stalled := (s.dev.dmcUnit k).stalled ++ [r] }))) ∧
  (∀ (s : State) (port dom : Fin 16) (addr : BitVec 36) (data : Option (BitVec 512)) (n : Nat), s.dev.trained (s.dev.dmcOf addr.toNat) = true →
    n = s.dev.dramDeny dom (64 * (addr.toNat / 64)) 64 → (n = 1 ∨ n = 2) →
    Answers (.dramRequest port dom addr data) s (s.dev.dramReport n port dom (64 * (addr.toNat / 64)))) ∧
  (∀ (s : State) (k : Fin 8), s.dev.trained k = true →
    (∃ d : Dev, d = s.dev.setOwed k (min 127 (s.dev.owed k + s.dev.refreshUnit k)) ∧
      Answers (.refreshDue k) s (if d.forced k then d.issueRefresh k true else d)) ∧
    Answers (.delayUpdate k) s ((s.dev.lvRegion (48 + k)).delayUpdate k) ∧
    (∀ port : Fin 16, s.dev.inPanic k port = true → s.dev.fld (Reg.DMC_QOS k) 31 16 ≠ 0 → 16 * k.val + port.val ∉ s.dev.dmc.longMark →
      Answers (.dmcPanicLong k port) s
        (({ s.dev with dmc := { s.dev.dmc with longMark := addMark s.dev.dmc.longMark (16 * k + port) } } : Dev).raise Ev.DMC_PANIC_LONG k 0
          [b8 port])) ∧
    (∀ (mr4 : BitVec 8) (rate : Fin 5) (above : Bool) (wrErr : Nat), ∃ (d e : Dev) (u : DmcUnit),
      d = (s.dev.lvRegion (48 + k)).setFld (Reg.DMC_STAT k) 20 16 mr4.toNat ∧
      e = (if d.bit (Reg.DMC_CFG k) 8 then d.count (Reg.DMC_LECC_WR k) wrErr else d) ∧
      u = { e.dmcUnit k with
        hot := rate.val == 4 || above,
        updateDue := (e.dmcUnit k).updateDue ||
          (decide (0 < e.fld (Reg.DMC_RETRAIN k) 19 16) && decide (e.fld (Reg.DMC_RETRAIN k) 19 16 ≤ gap (mr4.toNat % 32) (e.dmcUnit k).updateTemp)) } ∧
      Answers (.mr4Poll k mr4 rate above wrErr) s
        (if (rate.val == 4 || above) && !(e.dmcUnit k).hot then (e.setDmc k u).raise Ev.DMC_HOT k 0 [b8 mr4.toNat] else e.setDmc k u)) ∧
    (∀ link : Fin 4,
      (∀ d : Dev, (s.dev.bankTimers k).slotStep k = (d, none) → Answers (.dramCommandSlot k link) s d) ∧
      (∀ (d e : Dev) (r : DramReq), (s.dev.bankTimers k).slotStep k = (d, some r) → d.linkResult k r link = (e, none) →
        Answers (.dramCommandSlot k link) s e) ∧
      (∀ (d e : Dev) (r : DramReq) (x : Nat × Nat), (s.dev.bankTimers k).slotStep k = (d, some r) → d.linkResult k r link = (e, some x) →
        Answers (.dramCommandSlot k link) s (e.poisoned x.1 x.2))))

/-- R318, R343: what a domain may write, it reads back, and nothing else changes. A write through BAR2 inside the function's
window, where DRAM permits it, puts its bytes at the window's address and leaves every other byte; one that DRAM does not permit
changes no byte and no table: it is reported once per row per port; one of an unbound function does nothing (R340). -/
def Obligations.WindowWritesDram : Prop :=
  (∀ (s : State) (fn : Fin 16) (off a : Nat) (b : List Byte), s.dev.fnBound fn = true → s.dev.regionOff 5 = false →
    (fn = 0 → s.dev.stagingOpen = false) → b ≠ [] → off + b.length ≤ (s.dev.bar2Window fn).2 → a = (s.dev.bar2Window fn).1 + off →
    s.dev.dramDeny (s.dev.fnDomain fn) a b.length = 0 → Memory.wf s.dev.dram = true →
    ∃ e : Dev, Answers (.bar2Access fn (.write off b)) s e ∧ e.dramRead a b.length = b ∧ Memory.wf e.dram = true ∧
      (∀ x : Nat, x < a ∨ a + b.length ≤ x → e.dramRead x 1 = s.dev.dramRead x 1) ∧ e.tim = s.dev.tim ∧ e.bpm = s.dev.bpm) ∧
  (∀ (s : State) (fn : Fin 16) (off a k : Nat) (b : List Byte), s.dev.fnBound fn = true → s.dev.regionOff 5 = false →
    (fn = 0 → s.dev.stagingOpen = false) → b ≠ [] → off + b.length ≤ (s.dev.bar2Window fn).2 → a = (s.dev.bar2Window fn).1 + off →
    k = s.dev.dramDeny (s.dev.fnDomain fn) a b.length → k ≠ 0 →
    ∃ e : Dev, Answers (.bar2Access fn (.write off b)) s e ∧ SameRecords s.dev e ∧ e = s.dev.dramReport k 0 (s.dev.fnDomain fn) a) ∧
  (∀ (s : State) (fn : Fin 16) (off n a : Nat), s.dev.fnBound fn = true → s.dev.regionOff 5 = false → (fn = 0 → s.dev.stagingOpen = false) →
    n ≠ 0 → off + n ≤ (s.dev.bar2Window fn).2 → a = (s.dev.bar2Window fn).1 + off → s.dev.dramDeny (s.dev.fnDomain fn) a n = 0 →
    ∃ e : Dev, Answers (.bar2Access fn (.read off n)) s e ∧ e.dram = s.dev.dram ∧ e = (s.dev.dramGet 0 (s.dev.fnDomain fn) a n).2 ∧
      (s.dev.dmc.poison = [] → (s.dev.dramGet 0 (s.dev.fnDomain fn) a n).1 = s.dev.dramRead a n)) ∧
  (∀ (s : State) (fn : Fin 16) (op : Bar2Op), s.dev.fnBound fn = false → Answers (.bar2Access fn op) s s.dev)

/-! ### The store (19) -/

/-- R324, R328, R333 to R335, R338: the commands of NFC's windows complete with result 0. MOUNT of a store whose root is of its
epoch makes it READY; OPEN takes a slot, CLOSE its last row; READ_TRACK shows a slot, READ_UNIT writes a unit or why it has none to
DRAM; APPEND_HOUSE queues a house record; RELEASE raises the released LSN; FORMAT empties the store.
The model's choices behind it: assumptions 100 to 103. -/
def Obligations.StoreCommandsComplete : Prop :=
  (∀ (s : State) (q : Requester) (a : Access), Opens s.dev q 56 0 a → s.dev.dramUp = true → s.dev.retired = false →
    (s.dev.storeState = 0 ∨ 4 ≤ s.dev.storeState) → s.dev.dies ≠ [] → s.dev.bit Reg.NFC_CTL (s.dev.dies.headD 0 / 4) = true →
    ∀ (l e : Nat), s.dev.nand.root = some (l, e) →
      Answers (.nfcMount q) s
        (if Config.rootReadable s.dev.tim.free = false then (s.dev.draw.2.setStore 6).raise Ev.NFC_MOUNT_FAIL 0
        else if e = s.dev.recEpoch then s.dev.draw.2.mountLog
        else (s.dev.draw.2.setStore 5).raise Ev.NFC_EPOCH 0)) ∧
  (∀ (s : State) (q : Requester) (a : Access) (w : Fin 16) (v : Word), Opens s.dev q 56 w a →
    (∀ e : Dev, s.dev.openTrack w (wfld v 9 0) (s.dev.regsNat (Reg.NFC_REC w 0) 4) = (e, 0) →
      Answers (.nfcOpen q w v) s (e.setReg (Reg.NFC_CMD_STAT w) 0)) ∧
    ((s.dev.track (wfld v 9 0)).st ≠ 0 → (w.val = 0 ∨ (s.dev.track (wfld v 9 0)).dom = w.val) →
      s.dev.rowLate (s.dev.reg (Reg.NFC_REC w 3)).toNat = false →
      Answers (.nfcClose q w v) s
        ((s.dev.setTrack (wfld v 9 0) { s.dev.track (wfld v 9 0) with stop := (s.dev.reg (Reg.NFC_REC w 3)).toNat }).setReg
          (Reg.NFC_CMD_STAT w) 0)) ∧
    ((w.val = 0 ∨ (s.dev.track (wfld v 9 0)).st ≠ 0 ∧ (s.dev.track (wfld v 9 0)).dom = w.val) →
      Answers (.readTrack q w v) s
        ((s.dev.setRegsNat (Reg.NFC_REC w 0) (trackNat (s.dev.track (wfld v 9 0))) 8).setReg (Reg.NFC_CMD_STAT w) 0)) ∧
    (∀ (n addr : Nat) (u : NandUnit), n = s.dev.regsNat (Reg.NFC_REC w 0) 2 → addr = s.dev.regsNat (Reg.NFC_REC w 2) 2 →
      s.dev.storeState = 2 → s.dev.releaseLsn ≤ n → s.dev.findUnit n = some u → (w.val = 0 ∨ byteAt u.bytes 28 % 16 = w.val) →
      Answers (.readUnit q w) s
        (((s.dev.readUnit n).2.dramPut 13 w addr (unitShown u (s.dev.readUnit n).1.1)).setReg (Reg.NFC_CMD_STAT w) 0)) ∧
    (∀ (n addr : Nat), n = s.dev.regsNat (Reg.NFC_REC w 0) 2 → addr = s.dev.regsNat (Reg.NFC_REC w 2) 2 → s.dev.storeState = 2 →
      (n < s.dev.releaseLsn ∨ s.dev.findUnit n = none) →
      Answers (.readUnit q w) s ((s.dev.dramPut 13 w addr (unitShown ⟨0, [], none, false⟩ 3)).setReg (Reg.NFC_CMD_STAT w) 0))) ∧
  (∀ (s : State) (q : Requester) (a : Access) (n : Nat), Opens s.dev q 56 0 a →
    (n = (s.dev.reg (Reg.NFC_REC 0 4)).toNat → n ≤ 4032 → s.dev.storeState = 2 → s.dev.storeFull = false →
      ∃ x : List Byte × Dev, x = s.dev.dramGet 13 0 (s.dev.regsNat (Reg.NFC_REC 0 2) 2) n ∧
        Answers (.appendHouse q 0) s ((x.2.appendPlain 4 x.1).setReg (Reg.NFC_CMD_STAT 0) 0)) ∧
    (n = s.dev.regsNat (Reg.NFC_REC 0 0) 2 → s.dev.storeState = 2 →
      (s.dev.releaseLsn < n → Answers (.nfcRelease q 0) s
        ((((s.dev.setReg64 Reg.NFC_RELEASE_LSN_LO Reg.NFC_RELEASE_LSN_HI n).eraseReleased).checkpoint).setReg (Reg.NFC_CMD_STAT 0) 0)) ∧
      (n ≤ s.dev.releaseLsn → Answers (.nfcRelease q 0) s (s.dev.setReg (Reg.NFC_CMD_STAT 0) 0))) ∧
    (s.dev.nfc.tracks.any (fun t => t.2.st != 0) = false → s.dev.storeState ≠ 1 → s.dev.storeState ≠ 3 → s.dev.retired = false →
      ∃ e : Dev, Answers (.nfcFormat q 0) s e ∧ e.storeState = 3 ∧ e.nfc.queue = [] ∧ e.nfc.head = none ∧ e.nand.root = s.dev.nand.root ∧
        e.fld (Reg.NFC_CMD_STAT 0) 31 0 = 0))

/-- R327, R330, R331, R338: the store's own work completes. A format's end erases what is left and opens a head; a page programmed
leaves the queue and is on the medium, a failed one retires its block; an erase returns a block; padding fills up to a word line; a
checkpoint is written; the patrol reads a block's units and marks a weak block for refresh; a refreshed block is erased.
The model's choices behind it: assumptions 100 to 103. -/
def Obligations.StoreWorkCompletes : Prop :=
  (∀ (s : State) (failed : List (BitVec 16 × Fin 64)), s.dev.storeState = 3 →
    ∃ (top : Nat) (d e : Dev), top = max s.dev.nfc.top (((List.range s.dev.superblocks).flatMap (fun b =>
        (s.dev.sblk b).pages.flatMap (fun p => p.units.map (fun u => u.lsn)))).foldl max 0) ∧
      d = s.dev.forEach ((List.range s.dev.superblocks).filter (fun b => (s.dev.sblk b).st == 4)) (fun d b =>
        d.erased b (((failed.map (fun f => (f.1.toNat, f.2.val))).filter (fun f => f.1 == b)).map (fun f => f.2))) ∧
      e = (if ({ d with nfc := { d.nfc with top := top } } : Dev).headLsn ≤ top then
          ({ d with nfc := { d.nfc with top := top } } : Dev).setReg64 Reg.NFC_HEAD_LSN_LO Reg.NFC_HEAD_LSN_HI (top + 1)
        else { d with nfc := { d.nfc with top := top } }) ∧
      Answers (.nfcFormatDone failed) s ((((e.setStore 2).openHead).checkpoint).raise Ev.NFC_FORMAT_DONE 0)) ∧
  (∀ (s : State) (b : Nat), s.dev.nfc.head = some b → s.dev.pageUnits ≤ s.dev.nfc.queue.length →
    (s.dev.storeState = 2 ∨ s.dev.storeState = 3) →
    (∃ d e : Dev, d = s.dev.setSblk b { s.dev.sblk b with pages := (s.dev.sblk b).pages ++
          [⟨s.dev.nfc.page, s.dev.nfc.member, s.dev.nfc.queue.take s.dev.pageUnits⟩] } ∧
      e = ({ d with nfc := { d.nfc with queue := d.nfc.queue.drop s.dev.pageUnits } } : Dev) ∧
      Answers (.pageProgramDone true) s
        (((e.setReg64 Reg.NFC_UNITS_LO Reg.NFC_UNITS_HI (e.reg64 Reg.NFC_UNITS_LO Reg.NFC_UNITS_HI + s.dev.pageUnits)).headAdvance b).durableCheck)) ∧
    Answers (.pageProgramDone false) s (((s.dev.retireBlock b s.dev.nfc.member).headAdvance b).spaceCheck)) ∧
  (∀ (s : State) (block : BitVec 16) (failed : List (Fin 64)), (s.dev.sblk block.toNat).st = 4 → s.dev.storeState = 2 →
    Answers (.eraseDone block failed) s (((s.dev.erased block.toNat (failed.map (fun m => m.val))).spaceCheck).wearCheck)) ∧
  (∀ (s : State) (b n row at_ : Nat), s.dev.nfc.head = some b → s.dev.storeState = 2 →
    s.dev.reg64 Reg.NFC_DURABLE_LSN_LO Reg.NFC_DURABLE_LSN_HI ≠ s.dev.nfc.top →
    row = (s.dev.blockMembers b).length * s.dev.pageUnits → n = (if s.dev.tlc then 3 * row else s.dev.pageUnits) →
    at_ = (if s.dev.tlc then row * (s.dev.nfc.page % 3) +
        ((s.dev.blockMembers b).filter (fun m => decide (m < s.dev.nfc.member))).length * s.dev.pageUnits else 0) + s.dev.nfc.queue.length →
    Answers .padFill s (s.dev.forEach (List.range ((n - at_ % n) % n)) (fun d _ => d.appendPlain 5 []))) ∧
  (∀ s : State, s.dev.storeState = 2 → Answers .checkpoint s s.dev.checkpoint) ∧
  (∀ (s : State) (block : BitVec 16), (s.dev.sblk block.toNat).st = 2 → s.dev.storeState = 2 → s.dev.fld Reg.NFC_PATROL 31 24 ≠ 0 →
    ∃ r : Dev × Bool, r = ((s.dev.sblk block.toNat).pages.flatMap (fun p => p.units)).foldl (fun (x : Dev × Bool) u =>
        (if (x.1.readUnit u.lsn).1.1 = 0 then (x.1.readUnit u.lsn).2 else (x.1.readUnit u.lsn).2.dropUnit block.toNat u.lsn,
          x.2 || decide (s.dev.fld Reg.NFC_PATROL 23 20 ≤ (x.1.readUnit u.lsn).1.2.1 ∨ s.dev.fld Reg.NFC_PATROL 7 0 < (x.1.readUnit u.lsn).1.2.2)))
        (s.dev, false) ∧
      Answers (.patrol block) s (if r.2 then r.1.markRefresh block.toNat else r.1)) ∧
  (∀ (s : State) (block : BitVec 16), (s.dev.sblk block.toNat).st = 3 →
    (s.dev.sblk block.toNat).pages.any (fun p => p.units.any (fun u => s.dev.nfc.queue.any (fun q => q.copy && q.lsn == u.lsn))) = false →
    Answers (.refreshDone block) s
      ((((s.dev.setSblk block.toNat { s.dev.sblk block.toNat with st := 4 }).checkpoint).count Reg.NFC_REFRESHED).raise Ev.NFC_REFRESH 0))

/-! ### The host side (20) -/

/-- R346, R347, R352, R354, R356 to R358, R340: the host's commands complete. A doorbell the ring accepts moves its host index (a
limit also returns the entries before it) and any other is counted and reported; a due coalesced message is sent; a DMA error stops
an enabled ring; a write of EN turns a ring on with both indices zero, or off; a VF's reset turns its domain's rings off and clears
its MSI-X; a change of the link is shown and reported; Bus Master Enable is the function's own.
The model's choices behind it: assumptions 105 to 107. -/
def Obligations.HostCommandsComplete : Prop :=
  (∀ (s : State) (fn x : Fin 16) (r : Fin 6) (v : Word), s.dev.fnServes fn x = true →
    (s.dev.dbAccepts (ringKey x r) v.toNat = true → Answers (.doorbellPi fn x r v) s (s.dev.setReg (rHost (ringKey x r)) v)) ∧
    (s.dev.dbAccepts (ringKey x r) v.toNat = false →
      Answers (.doorbellPi fn x r v) s ((s.dev.count Reg.HST_DB_BAD).raise Ev.DB_BAD (ringKey x r) (ringKey x r / 16)))) ∧
  (∀ (s : State) (fn x : Fin 16) (r : Fin 10) (v : Word) (l : List HostFields), s.dev.fnServes fn x = true →
    (s.dev.dbAccepts (ringKey x (6 + r)) v.toNat = true →
      Answers (.doorbellLimit fn x r v l) s ((s.dev.packetUnit 8).limitTo (ringKey x (6 + r)) v.toNat l)) ∧
    (s.dev.dbAccepts (ringKey x (6 + r)) v.toNat = false →
      Answers (.doorbellLimit fn x r v l) s
        ((s.dev.count Reg.HST_DB_BAD).raise Ev.DB_BAD (ringKey x (6 + r)) (ringKey x (6 + r) / 16)))) ∧
  (∀ (s : State) (x : Fin 16) (src : Fin 17) (k : Nat), k = ringKey x src →
    (src.val ≠ 16 → s.dev.fld (Reg.HST_RING_COAL x src) 31 16 ≠ 0 → tat 0 s.dev.hst.unsig k ≠ 0 →
      Answers (.msixCoalTimeout x src) s
        (({ s.dev with hst := { s.dev.hst with unsig := tset 0 s.dev.hst.unsig k 0 } } : Dev).message (s.dev.serving x) (s.dev.fld (rCfg k) 8 0))) ∧
    (src.val = 16 → s.dev.fld (Reg.SWT_LOG_COAL x) 31 16 ≠ 0 → tat 0 s.dev.swt.unsig x ≠ 0 →
      Answers (.msixCoalTimeout x src) s
        (({ s.dev with swt := { s.dev.swt with unsig := tset 0 s.dev.swt.unsig x 0 } } : Dev).message (s.dev.serving x)
          (s.dev.fld (Reg.SWT_LOG_CFG x) 8 0)))) ∧
  (∀ (s : State) (x : Fin 16) (r : Fin 6), s.dev.ringOn (ringKey x r) = true →
    Answers (.dmaErr x r) s (((s.dev.setReg (rStat (ringKey x r)) (w32 (2 ^ 31 + 2))).count Reg.HST_DMA_ERR).raise Ev.DMA_ERR (ringKey x r) x)) ∧
  (∀ (s : State) (q : Requester) (a : Access) (x r : Fin 16) (v : Word) (k : Nat), Opens s.dev q 5 x a → k = ringKey x r →
    (s.dev.bit (rCfg k) 31 = false → wbit v 31 = true →
      Answers (.ringEnWrite q x r v) s
        (((s.dev.setReg (rCfg k) (w32 (v.toNat &&& (ringCfgHl + 2 ^ 31)))).setReg (rDev k) 0).setReg (rHost k) 0)) ∧
    (s.dev.bit (rCfg k) 31 = true → wbit v 31 = false → (s.dev.reg (rCfg k)).toNat &&& ringCfgHl = v.toNat &&& ringCfgHl →
      Answers (.ringEnWrite q x r v) s (s.dev.ringOff k))) ∧
  (∀ (s : State) (fn : Fin 16), fn ≠ 0 → s.dev.regionOff 5 = false → s.dev.fnDomain fn ≠ 0 →
    Answers (.hstFlr fn) s
      (((s.dev.forEach (List.range 16) (fun d r => d.ringOff (ringKey (s.dev.fnDomain fn) r))).clearMsix fn).raise Ev.HST_FLR fn
        (s.dev.fnDomain fn))) ∧
  (∀ (s : State) (v w : Word), w = w32 (v.toNat &&& 0x1FF3F) → s.dev.reg Reg.HST_LINK_STAT ≠ w →
    Answers (.hstLink v) s ((s.dev.setReg Reg.HST_LINK_STAT w).raise Ev.HST_LINK 0 0 (leBytes 4 w.toNat))) ∧
  (∀ (s : State) (fn : Fin 16) (on : Bool),
    ∃ e : Dev, Answers (.busMasterEnable fn on) s e ∧ tat 0 e.hst.bme fn = on.toNat ∧
      (∀ j : Nat, j ≠ fn → tat 0 e.hst.bme j = tat 0 s.dev.hst.bme j) ∧ e.regs = s.dev.regs ∧ e.hst.msix = s.dev.hst.msix)

/-- R349, R350: the commands of command and injection rings complete. A descriptor the ring may run is taken: WRITE and DMA_WRITE
put their words at the address, READ answers the word, WAIT polls until the word matches or its time is out, NOP answers; each ends
with its record. An injected frame goes out raw, as SRTCP or as RTP from the chain its pool gives; without buffers it waits.
The model's choices behind it: assumption 104. -/
def Obligations.RingDescriptorsComplete : Prop :=
  (∀ (s : State) (x : Fin 16) (r : Fin 2) (c : CmdDesc) (k : Nat) (e : Dev), k = ringKey x r → tat none s.dev.hst.waits k = none →
    s.dev.takeDesc k = some e →
    (cmdGood c 1 = true → Answers (.cmdWrite x r c) s ((e.cmdWords x k c).cmdEnd k c 0 0)) ∧
    (cmdGood c 4 = true → Answers (.cmdDmaWrite x r c) s ((e.cmdWords x k c).cmdEnd k c 0 0)) ∧
    (cmdGood c 2 = true →
      Answers (.cmdRead x r c) s ((readAny (.ring x) c.offset.toNat e).2.cmdEnd k c 0 (readAny (.ring x) c.offset.toNat e).1.toNat)) ∧
    (cmdGood c 3 = true →
      Answers (.cmdWait x r c) s
        (e.waitPoll x r ⟨c.offset.toNat, c.mask.toNat, (c.data.getD 0 0).toNat, (c.data.getD 1 0).toNat, c.tag.toNat, c.notify⟩)) ∧
    (cmdGood c 5 = true → Answers (.cmdNop x r c) s (e.cmdEnd k c 0 0))) ∧
  (∀ (s : State) (x : Fin 16) (r : Fin 2) (w : Waiting) (k : Nat) (p : Word × Dev), k = ringKey x r → tat none s.dev.hst.waits k = some w →
    s.dev.ringOn k = true → p = readAny (.ring x) w.addr s.dev →
    (p.1.toNat &&& w.mask = w.value →
      Answers (.waitPoll x r) s
        (({ p.2 with hst := { p.2.hst with waits := tset none p.2.hst.waits k none } } : Dev).complete k w.tag 0 0 noTs w.notify)) ∧
    (p.1.toNat &&& w.mask ≠ w.value → w.left = 0 →
      Answers (.waitPoll x r) s
        (({ p.2 with hst := { p.2.hst with waits := tset none p.2.hst.waits k none } } : Dev).complete k w.tag 2 0 noTs w.notify)) ∧
    (p.1.toNat &&& w.mask ≠ w.value → w.left ≠ 0 →
      Answers (.waitPoll x r) s
        { p.2 with hst := { p.2.hst with waits := tset none p.2.hst.waits k (some { w with left := w.left - 1 }) } })) ∧
  (∀ (s : State) (x : Fin 16) (r : Fin 4) (i : InjDesc) (k n : Nat) (e : Dev), s.dev.regionOff 5 = false → k = ringKey x (2 + r) →
    tat none s.dev.hst.inject k = none → i.kind ≠ 3 → 60 ≤ i.frame.length → i.frame.length + 4 ≤ s.dev.maxFrame (s.dev.injectPort i) →
    s.dev.takeDesc k = some e → (i.legValid = true → e.mayLeg x i.leg.toNat = true) →
    n = buffersFor (e.fld (Reg.BPM_POOL_CFG (e.fld Reg.HST_INJ_POOL 2 0)) 7 0) (i.frame.length + 64) →
    (∀ (id : Nat) (g : Dev), e.alloc (e.fld Reg.HST_INJ_POOL 2 0) 42 n x = (some id, g) →
      Answers (.injectRaw x r i) s (g.injectRawRun { i with kind := 0 } k id) ∧
      (i.legValid = true → Answers (.injectSrtcp x r i) s (g.injectSrtcpRun { i with kind := 1 } k id) ∧
        Answers (.injectRtp x r i) s (g.injectRtpRun { i with kind := 2 } k id))) ∧
    (∀ g : Dev, e.alloc (e.fld Reg.HST_INJ_POOL 2 0) 42 n x = (none, g) →
      Answers (.injectRaw x r i) s
        { g with hst := { g.hst with inject := tset none g.hst.inject k (some ({ i with kind := 0 }, 0)) } }))

/-! ### Access to registers (00, 23) -/

/-- R5, R342, R384, R420, R421: a write of an aligned word reaches its register, and one of eight bytes the two words of an MSI-X
entry; any other is counted for its function. A write of an SH register by SD0 reaches the shadow copy and leaves the active set,
and under a seal is dropped and reported. A read of a LO half latches the HI half, which the next read of it shows.
The model's choices behind it: assumption 24. -/
def Obligations.RegisterAccess : Prop :=
  (∀ (s : State) (q : Requester) (addr : Nat) (v : BitVec 64) (boot : BootEnv),
    (addr % 4 = 0 → Answers (.registerWrite q addr 4 v boot) s (writeAny q boot addr (v.setWidth 32) s.dev)) ∧
    (addr % 8 = 0 → inMsix addr = true → Answers (.registerWrite q addr 8 v boot) s
      (writeAny q boot (addr + 4) ((v >>> 32).setWidth 32) (writeAny q boot addr (v.setWidth 32) s.dev))) ∧
    (addr % 4 = 0 → Answers (.loLatchRead q addr) s (readAny q addr s.dev).2)) ∧
  (∀ (s : State) (fn : Fin 16) (addr width : Nat) (v : BitVec 64) (boot : BootEnv), ¬ (width = 4 ∧ addr % 4 = 0) →
    ¬ (width = 8 ∧ addr % 8 = 0 ∧ inMsix addr = true) →
    Answers (.registerWrite (.fn fn) addr width v boot) s (s.dev.count Reg.HST_BAR0_UR)) ∧
  (∀ (s : State) (q : Requester) (x : Access) (addr b : Nat) (r : RegRow) (v : BitVec 64) (boot : BootEnv), q ≠ .debug →
    s.dev.access q = some x → x.dom = 0 → addr % 4 = 0 → inMsix addr = false → b = activeOf addr →
    commandWrite q boot addr (v.setWidth 32) s.dev = none → regRow b = some r → r.ty = .SH → r.w1c = 0 → inXp b = false →
    addr ≠ Reg.SWT_VIEW → s.dev.regionOff (regionOf addr) = false → s.dev.noUnit b = false → regionOf addr ≠ 61 → layerOf b = none →
    (s.dev.sealed (blockOf (regionOf b)) = false →
      Answers (.registerWrite q addr 4 v boot) s (s.dev.setSh b (w32 ((v.setWidth 32 : Word).toNat &&& r.mask)))) ∧
    (s.dev.sealed (blockOf (regionOf b)) = true →
      Answers (.registerWrite q addr 4 v boot) s
        ((s.dev.count Reg.PAT_SEAL_DROPS).raise Ev.SHADOW_SEALED (blockOf (regionOf b)) 0 (leBytes 4 (blockOffset b))))) ∧
  (∀ (s : State) (q : Requester) (x : Access), q ≠ .debug → s.dev.access q = some x → x.dom = 0 → s.dev.regionOff 3 = false →
    tat 0 s.dev.swt.view x.bank = 0 →
    ∃ e : Dev, Answers (.loLatchRead q Reg.TIM_ROW_NOW) s e ∧ (readAny q Reg.TIM_ROW_NOW s.dev).1 = w32 s.dev.tim.row ∧
      (readAny q Reg.TIM_ROW_NOW_HI e).1 = w32 (s.dev.tim.row / 2 ^ 32) ∧ e.tim = s.dev.tim ∧ e.regs = s.dev.regs)

/-! ### Security (21) -/

/-- R359, R360, R361, R366: the life-cycle and OTP commands of SD0 complete while no other runs. A field is read or programmed, a
floor raised, a key revoked, each with result 0 and shown in its registers; a change of state that asks for nothing more programs
its bits and seed rows and resets; one that a response admits does so after it, and one it does not admit ends with result 3.
The model's choices behind it: assumption 108. -/
def Obligations.LifeCycleCommandsComplete : Prop :=
  (∀ (s : State) (q : Requester) (a : Access) (v : Word) (f : Nat), Opens s.dev q 1 0 a → s.dev.bit Reg.SEC_CMD_STAT 31 = false →
    f = wfld v 3 0 → f ≤ 10 →
    (wfld v 31 30 = 1 →
      Answers (.otpRead q v) s ((s.dev.setRegsNat (Reg.SEC_OTP_DATA 0) (otpField s.dev.sec.otp f) 12).setFld Reg.SEC_CMD_STAT 3 0 0)) ∧
    (wfld v 31 30 = 2 → otpDone s.dev.sec.otp f = false → s.dev.sec.otp.lc ≤ (if f = 0 then 0 else 1) →
      Answers (.otpProgram q v) s
        (((s.dev.setOtp (otpSet f (s.dev.regsNat (Reg.SEC_OTP_DATA 0) 12))).showOtp).setFld Reg.SEC_CMD_STAT 3 0 0))) ∧
  (∀ (s : State) (q : Requester) (a : Access) (v : Word) (n : Nat), Opens s.dev q 1 0 a → s.dev.bit Reg.SEC_CMD_STAT 31 = false →
    wbit v 31 = true → n = wfld v 6 0 → n ≤ 64 →
    (wbit v 7 = false → s.dev.sec.otp.fwFloor < n → n ≤ (s.dev.reg Reg.SEC_FW_VERSION).toNat →
      Answers (.floorCmd q v) s (((s.dev.setOtp (fun o => { o with fwFloor := n })).showOtp).setFld Reg.SEC_CMD_STAT 3 0 0)) ∧
    (wbit v 7 = true → s.dev.sec.otp.patFloor < n → n ≤ (s.dev.reg Reg.PAT_SEC_VERSION).toNat →
      Answers (.floorCmd q v) s (((s.dev.setOtp (fun o => { o with patFloor := n })).showOtp).setFld Reg.SEC_CMD_STAT 3 0 0))) ∧
  (∀ (s : State) (q : Requester) (a : Access) (v : Word) (i : Nat), Opens s.dev q 1 0 a → s.dev.bit Reg.SEC_CMD_STAT 31 = false →
    wbit v 31 = true → i = wfld v 2 0 → s.dev.retired = false → s.dev.keyInUse i = false →
    Answers (.revoke q v) s
      (((((s.dev.setOtp (fun o => { o with revoke := o.revoke ||| 2 ^ i })).setFld Reg.SEC_FLOORS (16 + i) (16 + i) 0).showOtp)).setFld
        Reg.SEC_CMD_STAT 3 0 0)) ∧
  (∀ (s : State) (q : Requester) (a : Access) (v : Word) (boot : BootEnv) (t : Nat), Opens s.dev q 1 0 a →
    s.dev.bit Reg.SEC_CMD_STAT 31 = false → wbit v 31 = true → t = wfld v 2 0 →
    (s.dev.lcAsk s.dev.lcState t = 0 → Answers (.lcCmd q v boot) s (s.dev.lcChange s.dev.lcState t boot)) ∧
    (s.dev.lcAsk s.dev.lcState t = 3 →
      Answers (.lcCmd q v boot) s
        (if (s.dev.lcVerify t).1 then (s.dev.lcVerify t).2.lcChange s.dev.lcState t boot
        else ((s.dev.lcVerify t).2.setFld Reg.SEC_CMD_STAT 3 0 3).raise Ev.SEC_REFUSED 0 0 [3])))

/-- Table 21-2: a life-cycle change never goes back: one from BLANK or PROVISION to the next state, or straight to RETIRED, and
from DEPLOYED or RETURNED only with a response; RETIRED is left for nothing. It programs the LC bits, destroys the seed rows of the
states it leaves and keeps every other field of OTP, and it wipes DRAM at the reset that follows. -/
def Obligations.LifeCycleOrder : Prop :=
  (∀ (d : Dev) (e t : Nat), d.lcAsk e t ≠ 1 → e < t ∧ t ≤ 4 ∧ (2 ≤ e → d.lcAsk e t = 3)) ∧
  (∀ (d : Dev) (t : Nat), d.lcAsk 4 t = 1) ∧
  (∀ (s : State) (q : Requester) (a : Access) (v : Word) (boot : BootEnv) (t : Nat), Opens s.dev q 1 0 a →
    s.dev.bit Reg.SEC_CMD_STAT 31 = false → wbit v 31 = true → t = wfld v 2 0 → s.dev.lcAsk s.dev.lcState t = 0 → s.dev.sys.pinLow = true →
    ∃ e : Dev, Answers (.lcCmd q v boot) s e ∧ e.sec.otp.lc = t ∧ e.sys.wipe = true ∧
      (∀ k : Nat, tat 0 e.sec.otp.seeds k = (if k < 4 ∧ s.dev.lcState ≤ k ∧ k < t then seedGone else tat 0 s.dev.sec.otp.seeds k)) ∧
      e.sec.otp.uid = s.dev.sec.otp.uid ∧ e.sec.otp.keyHash = s.dev.sec.otp.keyHash ∧ e.sec.otp.revoke = s.dev.sec.otp.revoke ∧
      e.sec.otp.fwFloor = s.dev.sec.otp.fwFloor ∧ e.sec.otp.patFloor = s.dev.sec.otp.patFloor)

/-- R367, R368, R370, R375 to R377: the debug, bind-off, random and monitor commands complete, from SD0 or, for debug, from the
port. A challenge is filled with fresh random bytes, and expires; a response is verified once, a good one moves the level; SET
moves it within its limit; a bind-off of a domain at rest wipes its keys, then its carve-outs; a random word is read; the monitor
resets.
The model's choices behind it: assumptions 108 to 112. -/
def Obligations.SecurityCommandsComplete : Prop :=
  (∀ (s : State) (q : Requester) (v : Word), s.dev.power ≠ 3 → (q = .debug ∨ ∃ a : Access, Opens s.dev q 1 0 a) →
    (wfld v 31 28 = 1 → s.dev.dbgFails < 8 →
      (s.dev.bit Reg.SEC_RNG_STAT 0 = true → ∃ d : Dev, d = s.dev.chalOff.dbgResult 0 ∧ Answers (.dbgChallenge q v) s d.challenge) ∧
      (s.dev.bit Reg.SEC_RNG_STAT 0 = false → ∃ d : Dev, d = s.dev.chalOff.dbgResult 0 ∧
        Answers (.dbgChallenge q v) s { d with sec := { d.sec with chalWait := true } })) ∧
    (wfld v 31 28 = 2 → s.dev.bit Reg.SEC_DBG_STAT 30 = true → (s.dev.lcState = 2 ∨ s.dev.lcState = 3) →
      Answers (.dbgUnlock q v) s
        (if (s.dev.verifyResponse 0 (wfld v 1 0)).1 then ((s.dev.verifyResponse 0 (wfld v 1 0)).2.dbgResult 0).moveLevel (wfld v 1 0)
        else (s.dev.verifyResponse 0 (wfld v 1 0)).2.dbgResult 1)) ∧
    (wfld v 31 28 = 3 → (wfld v 1 0 ≤ s.dev.level ∨ wfld v 1 0 ≤ s.dev.setLimit) →
      Answers (.dbgSet q v) s ((s.dev.dbgResult 0).moveLevel (wfld v 1 0)))) ∧
  (∀ s : State, Answers .challengeExpiry s
    { s.dev.setBit Reg.SEC_DBG_STAT 30 false with sec := { s.dev.sec with chalWait := false } }) ∧
  (∀ (s : State) (q : Requester) (a : Access) (v : Word) (x : Nat), Opens s.dev q 1 0 a → s.dev.bit Reg.SEC_CMD_STAT 31 = false →
    wbit v 31 = true → x = wfld v 3 0 → x ≠ 0 → s.dev.legsUp x = false → s.dev.ringsUp x = false →
    ∃ e : Dev, Answers (.bindCmd q v) s e ∧ e.sec.binding = some x ∧ (∀ k : Nat, s.dev.slotDom k = x → e.slot k = 0) ∧
      (∀ k : Nat, s.dev.slotDom k ≠ x → e.slot k = s.dev.slot k) ∧ e.fld Reg.SEC_CMD_STAT 3 0 = 0 ∧ e.bit Reg.SEC_CMD_STAT 31 = true ∧
      e.dram = s.dev.dram) ∧
  (∀ (s : State) (x : Nat), s.dev.sec.binding = some x →
    ∃ d : Dev, d = (s.dev.wipeCarves x).setBit Reg.SEC_CMD_STAT 31 false ∧
      Answers .secDomBound s (({ d with sec := { d.sec with binding := none } } : Dev).raise Ev.SEC_DOM_BOUND x)) ∧
  (∀ (s : State) (q : Requester) (a : Access), Opens s.dev q 1 0 a →
    (s.dev.bit Reg.SEC_RNG_STAT 0 = true →
      Answers (.rngRead q) s ((s.dev.random 4).2.setReg Reg.SEC_RNG (w32 (leNat (s.dev.random 4).1)))) ∧
    (s.dev.bit Reg.SEC_RNG_STAT 0 = false → Answers (.rngRead q) s (s.dev.setReg Reg.SEC_RNG 0))) ∧
  (∀ s : State, Answers .secRngFail s (((s.dev.setBit Reg.SEC_RNG_STAT 0 false).setReg Reg.SEC_RNG 0).raise Ev.SEC_RNG_FAIL 0)) ∧
  (∀ s : State,
    (s.dev.sec.chalWait = true → Answers .rngValidRestored s (s.dev.setBit Reg.SEC_RNG_STAT 0 true).challenge) ∧
    (s.dev.sec.chalWait = false → Answers .rngValidRestored s (s.dev.setBit Reg.SEC_RNG_STAT 0 true))) ∧
  (∀ (s : State) (cause : Fin 3) (boot : BootEnv),
    ∃ d e : Dev, d = (s.dev.resetTo 3 2).setBit Reg.SEC_MON_STAT cause true ∧
      e = d.setFld Reg.SEC_MON_STAT 31 24 (min 255 (d.fld Reg.SEC_MON_STAT 31 24 + 1)) ∧
      Answers (.secMonTrip cause boot) s (({ e with sec := { e.sec with monTrip := true } } : Dev).castMay boot))

/-! ### Swatches and logs (22) -/

/-- R378 to R381, R386: a trigger source that is enabled on an armed block takes a swatch: SWT_STAT shows it pending with its
source, and every register is captured as it stands; while one is pending or unarmed the trigger is counted lost. The swatch takes
its ESN behind every event of its clock. A log's reader frees records, and EN 0 clears the log's pointers.
The model's choices behind it: assumptions 113, 114. -/
def Obligations.SwatchCommandsComplete : Prop :=
  (∀ (s : State) (q : Requester) (a : Access) (v : Word), Opens s.dev q 4 0 a → wbit v 0 = true → Answers (.swtTrig q v) s (s.dev.fire 1)) ∧
  (∀ s : State, Answers (.swatchInEdge (s.dev.bit Reg.SWT_CTL 5)) s (s.dev.fire 2)) ∧
  (∀ s : State, s.dev.bit Reg.SWT_MATCH_CFG 31 = true →
    Answers .timeMatch s
      (((s.dev.advance (s.dev.clocksTo (s.dev.fld Reg.SWT_MATCH_CFG 2 0) s.dev.matchTime)).setBit Reg.SWT_MATCH_CFG 31 false).fire 4)) ∧
  (∀ s : State, 1 ≤ s.dev.level → Answers .debugTrigger s (s.dev.fire 16)) ∧
  (∀ (d : Dev) (src : Nat), src &&& wfld (d.reg Reg.SWT_CTL) 4 0 ≠ 0 → wbit (d.reg Reg.SWT_CTL) 6 = true →
    d.bit Reg.SWT_STAT 31 = false →
    (d.fire src).reg Reg.SWT_STAT = w32 (2 ^ 31 + (src &&& wfld (d.reg Reg.SWT_CTL) 4 0)) ∧ (d.fire src).swt.taken = true ∧
    (d.fire src).swt.cntCopy = d.cnt ∧ (d.fire src).dram = d.dram ∧
    (∀ x : Nat, x ≠ Reg.SWT_STAT → x ≠ Reg.SWT_CTL → (d.fire src).reg x = d.reg x)) ∧
  (∀ (d : Dev) (src : Nat), src &&& wfld (d.reg Reg.SWT_CTL) 4 0 ≠ 0 →
    (wbit (d.reg Reg.SWT_CTL) 6 = false ∨ d.bit Reg.SWT_STAT 31 = true) →
    (d.fire src).reg Reg.SWT_TRIG_LOST = satAdd (d.reg Reg.SWT_TRIG_LOST) 1 ∧ (d.fire src).swt.copy = d.swt.copy) ∧
  (∀ s : State, s.dev.bit Reg.SWT_STAT 31 = true → s.dev.tim.queue.contains .swatch = false →
    Answers .swtSwatch s (s.dev.post .swatch)) ∧
  (∀ (s : State) (q : Requester) (a : Access) (w : Fin 16) (v : Word), Opens s.dev q 4 w a →
    Answers (.logRdWrite q w v) s ((s.dev.setReg (Reg.SWT_LOG_RD w) v).logLost w) ∧
    (wbit v 31 = true → s.dev.bit (Reg.SWT_LOG_CFG w) 31 = false →
      Answers (.logEnWrite q w v) s
        (s.dev.setReg (Reg.SWT_LOG_CFG w) (w32 (mix (logCfgHl + 2 ^ 31) (s.dev.reg (Reg.SWT_LOG_CFG w)).toNat v.toNat)))) ∧
    (wbit v 31 = false → ∃ e : Dev, Answers (.logEnWrite q w v) s e ∧ e.bit (Reg.SWT_LOG_CFG w) 31 = false ∧
      e.reg (Reg.SWT_LOG_WR w) = 0 ∧ e.reg (Reg.SWT_LOG_RD w) = 0 ∧ e.reg (Reg.SWT_LOG_LOST w) = 0 ∧ tat (0, 0) e.swt.lost w = (0, 0)))

/-! ### Resets, cast-on and power (23) -/

/-- R393 to R397, R399: every reset source completes with its scope and its cause, cast-on following unless RESET_N or the
temperature holds the device; a release of a hold starts it; a push continues it at its check; a PCIe source acts by its configured
scope.
The model's choices behind it: assumptions 11 to 15. -/
def Obligations.ResetCommandsComplete : Prop :=
  (∀ (s : State) (boot : BootEnv), ∃ d : Dev, d = s.dev.resetTo 4 0 ∧
    Answers (.powerOnReset boot) s (({ d with sys := { d.sys with pinLow := false, thermal := false } } : Dev).castOn boot)) ∧
  (∀ s : State, ∃ d : Dev, d = s.dev.resetTo 3 1 ∧ Answers .resetPin s { d with sys := { d.sys with pinLow := true } }) ∧
  (∀ s : State, ∃ d : Dev, d = s.dev.resetTo 3 9 ∧ Answers .thermalTrip s { d with sys := { d.sys with thermal := true } }) ∧
  (∀ (s : State) (boot : BootEnv), (s.dev.sys.pinLow = true ∨ s.dev.fld Reg.SYS_CASTON 11 8 = 0) →
    Answers (.resetNRelease boot) s (({ s.dev with sys := { s.dev.sys with pinLow := false } } : Dev).castMay boot)) ∧
  (∀ (s : State) (boot : BootEnv), s.dev.sys.thermal = true →
    Answers (.thermalTripEnd boot) s (({ s.dev with sys := { s.dev.sys with thermal := false } } : Dev).castMay boot)) ∧
  (∀ (s : State) (q : Requester) (a : Access) (v : Word) (boot : BootEnv), Opens s.dev q 0 0 a → wfld v 31 16 = 0xA5C3 →
    (wbit v 0 = true → Answers (.rstCmdCold q v boot) s ((s.dev.resetTo 3 3).castMay boot)) ∧
    (wbit v 0 = false → wbit v 1 = true → Answers (.rstCmdWarm q v boot) s ((s.dev.resetTo 2 4).castMay boot))) ∧
  (∀ (s : State) (boot : BootEnv), s.dev.ready = true →
    Answers (.pciePerst boot) s (s.dev.pcieSource (s.dev.fld Reg.SYS_RST_CFG 1 0) 5 boot) ∧
    Answers (.pcieHotReset boot) s (s.dev.pcieSource (s.dev.fld Reg.SYS_RST_CFG 3 2) 6 boot) ∧
    Answers (.pfFlr boot) s (s.dev.pcieSource (s.dev.fld Reg.SYS_RST_CFG 5 4) 7 boot)) ∧
  (∀ (d : Dev) (bit : Nat) (boot : BootEnv), d.ready = true →
    d.pcieSource 0 bit boot = (d.setBit Reg.SYS_RST_STAT bit true).pcieReset boot ∧
    d.pcieSource 1 bit boot = (d.resetTo 2 bit).castMay boot ∧ d.pcieSource 2 bit boot = (d.resetTo 3 bit).castMay boot) ∧
  (∀ (s : State) (q : Requester) (a : Access) (v : Word) (boot : BootEnv), Opens s.dev q 0 0 a → wbit v 0 = true → s.dev.stagingOpen = true →
    Answers (.sysPush q v boot) s (((s.dev.setFld Reg.SYS_CASTON 7 0 0).setBit Reg.SYS_CASTON 30 false).castCheck boot true))

/-- R394, Table 23-5: what a reset of the pin or of the temperature leaves, in every state: its cause set and every other cause
kept, SEC_MON_STAT kept, OTP and DRAM kept, every other register at its reset value, and every block's records, tables and queues
empty.
The model's choices behind it: assumptions 9, 10, 12. -/
def Obligations.ResetLeaves : Prop :=
  ∀ (s : State) (c : Instr) (bit : Nat), (c = .resetPin ∧ bit = 1 ∨ c = .thermalTrip ∧ bit = 9) →
    ∃ e : Dev, Answers c s e ∧ e.bit Reg.SYS_RST_STAT bit = true ∧
      (∀ k : Nat, k ≠ bit → e.bit Reg.SYS_RST_STAT k = s.dev.bit Reg.SYS_RST_STAT k) ∧
      e.reg Reg.SEC_MON_STAT = s.dev.reg Reg.SEC_MON_STAT ∧
      (∀ x : Nat, x ≠ Reg.SYS_RST_STAT → x ≠ Reg.SEC_MON_STAT → e.reg x = regReset x) ∧ e.sec.otp = s.dev.sec.otp ∧ e.dram = s.dev.dram ∧
      e.cls = {} ∧ e.ing = {} ∧ e.cip = {} ∧ e.bpm = {} ∧ e.fwd = {} ∧ e.leg = {} ∧ e.egs = {} ∧ e.dsp = {} ∧ e.shadow = [] ∧ e.lv = [] ∧
      e.cnt = [] ∧ e.tim.queue = [] ∧ e.sec.keys = [] ∧ e.ready = false

/-- R391, R400, R402, Table 23-10: the power commands complete. A request in order and without a swap in its way starts its
transition, to P3 once the function is in D3hot; a wake from P3 starts one; its end shows the state, clears BUSY and reports both
states; a reference that is lost takes its ports down; a temperature that rises through its limit is reported, each reading shown.
The model's choices behind it: assumptions 17, 18. -/
def Obligations.PowerCommandsComplete : Prop :=
  (∀ (s : State) (q : Requester) (a : Access), Opens s.dev q 0 0 a → s.dev.powerBusy = false →
    (s.dev.powerCheck 0 = 0 → Answers (.pwrCmdP0 q) s (s.dev.powerStart 0)) ∧
    (s.dev.powerCheck 1 = 0 → Answers (.pwrCmdP1 q) s (s.dev.powerStart 1)) ∧
    (s.dev.powerCheck 2 = 0 → Answers (.pwrCmdP2 q) s (s.dev.powerStart 2)) ∧
    (s.dev.powerCheck 3 = 0 → ∃ d : Dev, d = (s.dev.setBit Reg.SYS_PWR_STAT 31 true).setFld Reg.SYS_PWR_STAT 6 4 0 ∧
      Answers (.pwrCmdP3 q) s { d with sys := { s.dev.sys with d3wait := true } })) ∧
  (∀ (d : Dev) (x : Nat), x ≤ 3 → d.power ≤ 3 →
    ((d.powerCheck x = 0 ∨ d.powerCheck x = 2) ↔ d.power ≠ x ∧ d.power ≠ 3) ∧ (d.powerCheck x = 2 → 1 ≤ x)) ∧
  (∀ s : State, s.dev.sys.d3wait = true →
    Answers .pfD3hot s (({ s.dev with sys := { s.dev.sys with d3wait := false } } : Dev).powerStart 3)) ∧
  (∀ (s : State) (pcie : Bool), s.dev.power = 3 → s.dev.powerBusy = false → s.dev.bit Reg.SYS_PWR_CFG (if pcie then 0 else 1) = true →
    s.dev.fld Reg.SYS_PWR_CFG 5 4 < 3 → Answers (.wake pcie) s (s.dev.powerStart (s.dev.fld Reg.SYS_PWR_CFG 5 4))) ∧
  (∀ s : State, s.dev.powerBusy = true → s.dev.sys.d3wait = false →
    ∃ d : Dev, d = (if s.dev.sys.pwrTo < s.dev.power then s.dev.powerUp s.dev.sys.pwrTo else s.dev) ∧
      Answers .sysPwrDone s ((d.setBit Reg.SYS_PWR_STAT 31 false).raise Ev.SYS_PWR_DONE 0 0 [b8 d.sys.pwrOld, b8 d.sys.pwrTo])) ∧
  (∀ (s : State) (ref : Fin 4) (d : Dev), ref ≠ 0 → s.dev.bit Reg.SYS_CLK_STAT (8 + ref) = true →
    d = (s.dev.setBit Reg.SYS_CLK_STAT (8 + ref) false).raise Ev.SYS_REF_LOST 0 0 [b8 (8 + ref)] →
    (ref.val = 3 → Answers (.sysRefLost ref) s (hstLinkEffect 0 d)) ∧
    (ref.val ≠ 3 → Answers (.sysRefLost ref) s
      (d.forEach (d.refPorts ref) (fun d p => linkDownEffect p 0 (d.bit (Reg.NET_PORT_STAT p) 6) true d)))) ∧
  (∀ (s : State) (tj : BitVec 16) (d : Dev), d = s.dev.setFld Reg.SYS_TEMP 15 0 tj.toNat →
    (sInt 16 (s.dev.fld Reg.SYS_TEMP 15 0) < sInt 16 (s.dev.fld Reg.SYS_TEMP_WARN 15 0) →
      sInt 16 (s.dev.fld Reg.SYS_TEMP_WARN 15 0) ≤ tj.toInt → Answers (.sysTempWarn tj) s (d.raise Ev.SYS_TEMP_WARN 0)) ∧
    (¬ (sInt 16 (s.dev.fld Reg.SYS_TEMP 15 0) < sInt 16 (s.dev.fld Reg.SYS_TEMP_WARN 15 0) ∧
      sInt 16 (s.dev.fld Reg.SYS_TEMP_WARN 15 0) ≤ tj.toInt) → Answers (.sysTempWarn tj) s d))

/-! ### Domains (20, 21) -/

/-- R340, R374: a command in the window of a domain, by a requester that may not act in that domain, does nothing but report: the
device it leaves is the one before, or that one with a single event of the requester's domain. No register, record, memory or other
table changes; the same holds of every command of SD0's own resources by another domain. R340: a command of an unbound virtual
function in a window does nothing at all.
The model's choices behind it: assumption 20. -/
def Obligations.DomainsKeptApart : Prop :=
  (∀ (c : Instr) (s : State) (q : Requester) (a : Access) (n w : Nat), commandWindow c = some (q, n, w) → Shuts s.dev q n w a →
    ∃ e : Dev, Answers c s e ∧ (e = s.dev ∨ ∃ (code inst : Nat) (args : List Byte), e = s.dev.raise code inst a.dom args) ∧
      SameRecords s.dev e ∧ e.regs = s.dev.regs) ∧
  (∀ (c : Instr) (s : State) (fn : Fin 16) (n w : Nat), commandWindow c = some (.fn fn, n, w) → s.dev.fnBound fn = false → Answers c s s.dev)
end

