-- ==== Sys2Proof/Laws/State.lean ====
section
/-! SUPPORT. What each update of the device leaves alone: one lemma per field per update. -/

namespace Sys2Proof.Machine

variable (d : Dev)

/-! ### `setReg` -/

@[simp] theorem Dev.setReg_shadow (a : Nat) (v : Word) : (d.setReg a v).shadow = d.shadow := rfl
@[simp] theorem Dev.setReg_lv (a : Nat) (v : Word) : (d.setReg a v).lv = d.lv := rfl
@[simp] theorem Dev.setReg_cnt (a : Nat) (v : Word) : (d.setReg a v).cnt = d.cnt := rfl
@[simp] theorem Dev.setReg_hiLatch (a : Nat) (v : Word) : (d.setReg a v).hiLatch = d.hiLatch := rfl
@[simp] theorem Dev.setReg_dram (a : Nat) (v : Word) : (d.setReg a v).dram = d.dram := rfl
@[simp] theorem Dev.setReg_sram (a : Nat) (v : Word) : (d.setReg a v).sram = d.sram := rfl
@[simp] theorem Dev.setReg_tim (a : Nat) (v : Word) : (d.setReg a v).tim = d.tim := rfl
@[simp] theorem Dev.setReg_pat (a : Nat) (v : Word) : (d.setReg a v).pat = d.pat := rfl
@[simp] theorem Dev.setReg_swt (a : Nat) (v : Word) : (d.setReg a v).swt = d.swt := rfl
@[simp] theorem Dev.setReg_hst (a : Nat) (v : Word) : (d.setReg a v).hst = d.hst := rfl
@[simp] theorem Dev.setReg_sec (a : Nat) (v : Word) : (d.setReg a v).sec = d.sec := rfl
@[simp] theorem Dev.setReg_sys (a : Nat) (v : Word) : (d.setReg a v).sys = d.sys := rfl
@[simp] theorem Dev.setReg_bpm (a : Nat) (v : Word) : (d.setReg a v).bpm = d.bpm := rfl
@[simp] theorem Dev.setReg_net (a : Nat) (v : Word) : (d.setReg a v).net = d.net := rfl
@[simp] theorem Dev.setReg_cls (a : Nat) (v : Word) : (d.setReg a v).cls = d.cls := rfl
@[simp] theorem Dev.setReg_ing (a : Nat) (v : Word) : (d.setReg a v).ing = d.ing := rfl
@[simp] theorem Dev.setReg_cip (a : Nat) (v : Word) : (d.setReg a v).cip = d.cip := rfl
@[simp] theorem Dev.setReg_fwd (a : Nat) (v : Word) : (d.setReg a v).fwd = d.fwd := rfl
@[simp] theorem Dev.setReg_leg (a : Nat) (v : Word) : (d.setReg a v).leg = d.leg := rfl
@[simp] theorem Dev.setReg_egs (a : Nat) (v : Word) : (d.setReg a v).egs = d.egs := rfl
@[simp] theorem Dev.setReg_dmc (a : Nat) (v : Word) : (d.setReg a v).dmc = d.dmc := rfl
@[simp] theorem Dev.setReg_hok (a : Nat) (v : Word) : (d.setReg a v).hok = d.hok := rfl
@[simp] theorem Dev.setReg_dsp (a : Nat) (v : Word) : (d.setReg a v).dsp = d.dsp := rfl
@[simp] theorem Dev.setReg_jbf (a : Nat) (v : Word) : (d.setReg a v).jbf = d.jbf := rfl
@[simp] theorem Dev.setReg_cab (a : Nat) (v : Word) : (d.setReg a v).cab = d.cab := rfl
@[simp] theorem Dev.setReg_field (a : Nat) (v : Word) : (d.setReg a v).field = d.field := rfl
@[simp] theorem Dev.setReg_vde (a : Nat) (v : Word) : (d.setReg a v).vde = d.vde := rfl
@[simp] theorem Dev.setReg_ven (a : Nat) (v : Word) : (d.setReg a v).ven = d.ven := rfl
@[simp] theorem Dev.setReg_cmp (a : Nat) (v : Word) : (d.setReg a v).cmp = d.cmp := rfl
@[simp] theorem Dev.setReg_dpo (a : Nat) (v : Word) : (d.setReg a v).dpo = d.dpo := rfl
@[simp] theorem Dev.setReg_busy (a : Nat) (v : Word) : (d.setReg a v).busy = d.busy := rfl
@[simp] theorem Dev.setReg_sqs (a : Nat) (v : Word) : (d.setReg a v).sqs = d.sqs := rfl
@[simp] theorem Dev.setReg_nand (a : Nat) (v : Word) : (d.setReg a v).nand = d.nand := rfl
@[simp] theorem Dev.setReg_nfc (a : Nat) (v : Word) : (d.setReg a v).nfc = d.nfc := rfl

/-! ### `setSh` -/

@[simp] theorem Dev.setSh_regs (a : Nat) (v : Word) : (d.setSh a v).regs = d.regs := rfl
@[simp] theorem Dev.setSh_lv (a : Nat) (v : Word) : (d.setSh a v).lv = d.lv := rfl
@[simp] theorem Dev.setSh_cnt (a : Nat) (v : Word) : (d.setSh a v).cnt = d.cnt := rfl
@[simp] theorem Dev.setSh_hiLatch (a : Nat) (v : Word) : (d.setSh a v).hiLatch = d.hiLatch := rfl
@[simp] theorem Dev.setSh_dram (a : Nat) (v : Word) : (d.setSh a v).dram = d.dram := rfl
@[simp] theorem Dev.setSh_sram (a : Nat) (v : Word) : (d.setSh a v).sram = d.sram := rfl
@[simp] theorem Dev.setSh_tim (a : Nat) (v : Word) : (d.setSh a v).tim = d.tim := rfl
@[simp] theorem Dev.setSh_pat (a : Nat) (v : Word) : (d.setSh a v).pat = d.pat := rfl
@[simp] theorem Dev.setSh_swt (a : Nat) (v : Word) : (d.setSh a v).swt = d.swt := rfl
@[simp] theorem Dev.setSh_hst (a : Nat) (v : Word) : (d.setSh a v).hst = d.hst := rfl
@[simp] theorem Dev.setSh_sec (a : Nat) (v : Word) : (d.setSh a v).sec = d.sec := rfl
@[simp] theorem Dev.setSh_sys (a : Nat) (v : Word) : (d.setSh a v).sys = d.sys := rfl
@[simp] theorem Dev.setSh_bpm (a : Nat) (v : Word) : (d.setSh a v).bpm = d.bpm := rfl
@[simp] theorem Dev.setSh_net (a : Nat) (v : Word) : (d.setSh a v).net = d.net := rfl
@[simp] theorem Dev.setSh_cls (a : Nat) (v : Word) : (d.setSh a v).cls = d.cls := rfl
@[simp] theorem Dev.setSh_ing (a : Nat) (v : Word) : (d.setSh a v).ing = d.ing := rfl
@[simp] theorem Dev.setSh_cip (a : Nat) (v : Word) : (d.setSh a v).cip = d.cip := rfl
@[simp] theorem Dev.setSh_fwd (a : Nat) (v : Word) : (d.setSh a v).fwd = d.fwd := rfl
@[simp] theorem Dev.setSh_leg (a : Nat) (v : Word) : (d.setSh a v).leg = d.leg := rfl
@[simp] theorem Dev.setSh_egs (a : Nat) (v : Word) : (d.setSh a v).egs = d.egs := rfl
@[simp] theorem Dev.setSh_dmc (a : Nat) (v : Word) : (d.setSh a v).dmc = d.dmc := rfl
@[simp] theorem Dev.setSh_hok (a : Nat) (v : Word) : (d.setSh a v).hok = d.hok := rfl
@[simp] theorem Dev.setSh_dsp (a : Nat) (v : Word) : (d.setSh a v).dsp = d.dsp := rfl
@[simp] theorem Dev.setSh_jbf (a : Nat) (v : Word) : (d.setSh a v).jbf = d.jbf := rfl
@[simp] theorem Dev.setSh_cab (a : Nat) (v : Word) : (d.setSh a v).cab = d.cab := rfl
@[simp] theorem Dev.setSh_field (a : Nat) (v : Word) : (d.setSh a v).field = d.field := rfl
@[simp] theorem Dev.setSh_vde (a : Nat) (v : Word) : (d.setSh a v).vde = d.vde := rfl
@[simp] theorem Dev.setSh_ven (a : Nat) (v : Word) : (d.setSh a v).ven = d.ven := rfl
@[simp] theorem Dev.setSh_cmp (a : Nat) (v : Word) : (d.setSh a v).cmp = d.cmp := rfl
@[simp] theorem Dev.setSh_dpo (a : Nat) (v : Word) : (d.setSh a v).dpo = d.dpo := rfl
@[simp] theorem Dev.setSh_busy (a : Nat) (v : Word) : (d.setSh a v).busy = d.busy := rfl
@[simp] theorem Dev.setSh_sqs (a : Nat) (v : Word) : (d.setSh a v).sqs = d.sqs := rfl
@[simp] theorem Dev.setSh_nand (a : Nat) (v : Word) : (d.setSh a v).nand = d.nand := rfl
@[simp] theorem Dev.setSh_nfc (a : Nat) (v : Word) : (d.setSh a v).nfc = d.nfc := rfl

/-! ### `setFld` -/

@[simp] theorem Dev.setFld_shadow (a hi lo v : Nat) : (d.setFld a hi lo v).shadow = d.shadow := rfl
@[simp] theorem Dev.setFld_lv (a hi lo v : Nat) : (d.setFld a hi lo v).lv = d.lv := rfl
@[simp] theorem Dev.setFld_cnt (a hi lo v : Nat) : (d.setFld a hi lo v).cnt = d.cnt := rfl
@[simp] theorem Dev.setFld_hiLatch (a hi lo v : Nat) : (d.setFld a hi lo v).hiLatch = d.hiLatch := rfl
@[simp] theorem Dev.setFld_dram (a hi lo v : Nat) : (d.setFld a hi lo v).dram = d.dram := rfl
@[simp] theorem Dev.setFld_sram (a hi lo v : Nat) : (d.setFld a hi lo v).sram = d.sram := rfl
@[simp] theorem Dev.setFld_tim (a hi lo v : Nat) : (d.setFld a hi lo v).tim = d.tim := rfl
@[simp] theorem Dev.setFld_pat (a hi lo v : Nat) : (d.setFld a hi lo v).pat = d.pat := rfl
@[simp] theorem Dev.setFld_swt (a hi lo v : Nat) : (d.setFld a hi lo v).swt = d.swt := rfl
@[simp] theorem Dev.setFld_hst (a hi lo v : Nat) : (d.setFld a hi lo v).hst = d.hst := rfl
@[simp] theorem Dev.setFld_sec (a hi lo v : Nat) : (d.setFld a hi lo v).sec = d.sec := rfl
@[simp] theorem Dev.setFld_sys (a hi lo v : Nat) : (d.setFld a hi lo v).sys = d.sys := rfl
@[simp] theorem Dev.setFld_bpm (a hi lo v : Nat) : (d.setFld a hi lo v).bpm = d.bpm := rfl
@[simp] theorem Dev.setFld_net (a hi lo v : Nat) : (d.setFld a hi lo v).net = d.net := rfl
@[simp] theorem Dev.setFld_cls (a hi lo v : Nat) : (d.setFld a hi lo v).cls = d.cls := rfl
@[simp] theorem Dev.setFld_ing (a hi lo v : Nat) : (d.setFld a hi lo v).ing = d.ing := rfl
@[simp] theorem Dev.setFld_cip (a hi lo v : Nat) : (d.setFld a hi lo v).cip = d.cip := rfl
@[simp] theorem Dev.setFld_fwd (a hi lo v : Nat) : (d.setFld a hi lo v).fwd = d.fwd := rfl
@[simp] theorem Dev.setFld_leg (a hi lo v : Nat) : (d.setFld a hi lo v).leg = d.leg := rfl
@[simp] theorem Dev.setFld_egs (a hi lo v : Nat) : (d.setFld a hi lo v).egs = d.egs := rfl
@[simp] theorem Dev.setFld_dmc (a hi lo v : Nat) : (d.setFld a hi lo v).dmc = d.dmc := rfl
@[simp] theorem Dev.setFld_hok (a hi lo v : Nat) : (d.setFld a hi lo v).hok = d.hok := rfl
@[simp] theorem Dev.setFld_dsp (a hi lo v : Nat) : (d.setFld a hi lo v).dsp = d.dsp := rfl
@[simp] theorem Dev.setFld_jbf (a hi lo v : Nat) : (d.setFld a hi lo v).jbf = d.jbf := rfl
@[simp] theorem Dev.setFld_cab (a hi lo v : Nat) : (d.setFld a hi lo v).cab = d.cab := rfl
@[simp] theorem Dev.setFld_field (a hi lo v : Nat) : (d.setFld a hi lo v).field = d.field := rfl
@[simp] theorem Dev.setFld_vde (a hi lo v : Nat) : (d.setFld a hi lo v).vde = d.vde := rfl
@[simp] theorem Dev.setFld_ven (a hi lo v : Nat) : (d.setFld a hi lo v).ven = d.ven := rfl
@[simp] theorem Dev.setFld_cmp (a hi lo v : Nat) : (d.setFld a hi lo v).cmp = d.cmp := rfl
@[simp] theorem Dev.setFld_dpo (a hi lo v : Nat) : (d.setFld a hi lo v).dpo = d.dpo := rfl
@[simp] theorem Dev.setFld_busy (a hi lo v : Nat) : (d.setFld a hi lo v).busy = d.busy := rfl
@[simp] theorem Dev.setFld_sqs (a hi lo v : Nat) : (d.setFld a hi lo v).sqs = d.sqs := rfl
@[simp] theorem Dev.setFld_nand (a hi lo v : Nat) : (d.setFld a hi lo v).nand = d.nand := rfl
@[simp] theorem Dev.setFld_nfc (a hi lo v : Nat) : (d.setFld a hi lo v).nfc = d.nfc := rfl

/-! ### `setBit` -/

@[simp] theorem Dev.setBit_shadow (a i : Nat) (b : Bool) : (d.setBit a i b).shadow = d.shadow := rfl
@[simp] theorem Dev.setBit_lv (a i : Nat) (b : Bool) : (d.setBit a i b).lv = d.lv := rfl
@[simp] theorem Dev.setBit_cnt (a i : Nat) (b : Bool) : (d.setBit a i b).cnt = d.cnt := rfl
@[simp] theorem Dev.setBit_hiLatch (a i : Nat) (b : Bool) : (d.setBit a i b).hiLatch = d.hiLatch := rfl
@[simp] theorem Dev.setBit_dram (a i : Nat) (b : Bool) : (d.setBit a i b).dram = d.dram := rfl
@[simp] theorem Dev.setBit_sram (a i : Nat) (b : Bool) : (d.setBit a i b).sram = d.sram := rfl
@[simp] theorem Dev.setBit_tim (a i : Nat) (b : Bool) : (d.setBit a i b).tim = d.tim := rfl
@[simp] theorem Dev.setBit_pat (a i : Nat) (b : Bool) : (d.setBit a i b).pat = d.pat := rfl
@[simp] theorem Dev.setBit_swt (a i : Nat) (b : Bool) : (d.setBit a i b).swt = d.swt := rfl
@[simp] theorem Dev.setBit_hst (a i : Nat) (b : Bool) : (d.setBit a i b).hst = d.hst := rfl
@[simp] theorem Dev.setBit_sec (a i : Nat) (b : Bool) : (d.setBit a i b).sec = d.sec := rfl
@[simp] theorem Dev.setBit_sys (a i : Nat) (b : Bool) : (d.setBit a i b).sys = d.sys := rfl
@[simp] theorem Dev.setBit_bpm (a i : Nat) (b : Bool) : (d.setBit a i b).bpm = d.bpm := rfl
@[simp] theorem Dev.setBit_net (a i : Nat) (b : Bool) : (d.setBit a i b).net = d.net := rfl
@[simp] theorem Dev.setBit_cls (a i : Nat) (b : Bool) : (d.setBit a i b).cls = d.cls := rfl
@[simp] theorem Dev.setBit_ing (a i : Nat) (b : Bool) : (d.setBit a i b).ing = d.ing := rfl
@[simp] theorem Dev.setBit_cip (a i : Nat) (b : Bool) : (d.setBit a i b).cip = d.cip := rfl
@[simp] theorem Dev.setBit_fwd (a i : Nat) (b : Bool) : (d.setBit a i b).fwd = d.fwd := rfl
@[simp] theorem Dev.setBit_leg (a i : Nat) (b : Bool) : (d.setBit a i b).leg = d.leg := rfl
@[simp] theorem Dev.setBit_egs (a i : Nat) (b : Bool) : (d.setBit a i b).egs = d.egs := rfl
@[simp] theorem Dev.setBit_dmc (a i : Nat) (b : Bool) : (d.setBit a i b).dmc = d.dmc := rfl
@[simp] theorem Dev.setBit_hok (a i : Nat) (b : Bool) : (d.setBit a i b).hok = d.hok := rfl
@[simp] theorem Dev.setBit_dsp (a i : Nat) (b : Bool) : (d.setBit a i b).dsp = d.dsp := rfl
@[simp] theorem Dev.setBit_jbf (a i : Nat) (b : Bool) : (d.setBit a i b).jbf = d.jbf := rfl
@[simp] theorem Dev.setBit_cab (a i : Nat) (b : Bool) : (d.setBit a i b).cab = d.cab := rfl
@[simp] theorem Dev.setBit_field (a i : Nat) (b : Bool) : (d.setBit a i b).field = d.field := rfl
@[simp] theorem Dev.setBit_vde (a i : Nat) (b : Bool) : (d.setBit a i b).vde = d.vde := rfl
@[simp] theorem Dev.setBit_ven (a i : Nat) (b : Bool) : (d.setBit a i b).ven = d.ven := rfl
@[simp] theorem Dev.setBit_cmp (a i : Nat) (b : Bool) : (d.setBit a i b).cmp = d.cmp := rfl
@[simp] theorem Dev.setBit_dpo (a i : Nat) (b : Bool) : (d.setBit a i b).dpo = d.dpo := rfl
@[simp] theorem Dev.setBit_busy (a i : Nat) (b : Bool) : (d.setBit a i b).busy = d.busy := rfl
@[simp] theorem Dev.setBit_sqs (a i : Nat) (b : Bool) : (d.setBit a i b).sqs = d.sqs := rfl
@[simp] theorem Dev.setBit_nand (a i : Nat) (b : Bool) : (d.setBit a i b).nand = d.nand := rfl
@[simp] theorem Dev.setBit_nfc (a i : Nat) (b : Bool) : (d.setBit a i b).nfc = d.nfc := rfl

/-! ### `count` -/

@[simp] theorem Dev.count_shadow (a k : Nat) : (d.count a k).shadow = d.shadow := rfl
@[simp] theorem Dev.count_lv (a k : Nat) : (d.count a k).lv = d.lv := rfl
@[simp] theorem Dev.count_cnt (a k : Nat) : (d.count a k).cnt = d.cnt := rfl
@[simp] theorem Dev.count_hiLatch (a k : Nat) : (d.count a k).hiLatch = d.hiLatch := rfl
@[simp] theorem Dev.count_dram (a k : Nat) : (d.count a k).dram = d.dram := rfl
@[simp] theorem Dev.count_sram (a k : Nat) : (d.count a k).sram = d.sram := rfl
@[simp] theorem Dev.count_tim (a k : Nat) : (d.count a k).tim = d.tim := rfl
@[simp] theorem Dev.count_pat (a k : Nat) : (d.count a k).pat = d.pat := rfl
@[simp] theorem Dev.count_swt (a k : Nat) : (d.count a k).swt = d.swt := rfl
@[simp] theorem Dev.count_hst (a k : Nat) : (d.count a k).hst = d.hst := rfl
@[simp] theorem Dev.count_sec (a k : Nat) : (d.count a k).sec = d.sec := rfl
@[simp] theorem Dev.count_sys (a k : Nat) : (d.count a k).sys = d.sys := rfl
@[simp] theorem Dev.count_bpm (a k : Nat) : (d.count a k).bpm = d.bpm := rfl
@[simp] theorem Dev.count_net (a k : Nat) : (d.count a k).net = d.net := rfl
@[simp] theorem Dev.count_cls (a k : Nat) : (d.count a k).cls = d.cls := rfl
@[simp] theorem Dev.count_ing (a k : Nat) : (d.count a k).ing = d.ing := rfl
@[simp] theorem Dev.count_cip (a k : Nat) : (d.count a k).cip = d.cip := rfl
@[simp] theorem Dev.count_fwd (a k : Nat) : (d.count a k).fwd = d.fwd := rfl
@[simp] theorem Dev.count_leg (a k : Nat) : (d.count a k).leg = d.leg := rfl
@[simp] theorem Dev.count_egs (a k : Nat) : (d.count a k).egs = d.egs := rfl
@[simp] theorem Dev.count_dmc (a k : Nat) : (d.count a k).dmc = d.dmc := rfl
@[simp] theorem Dev.count_hok (a k : Nat) : (d.count a k).hok = d.hok := rfl
@[simp] theorem Dev.count_dsp (a k : Nat) : (d.count a k).dsp = d.dsp := rfl
@[simp] theorem Dev.count_jbf (a k : Nat) : (d.count a k).jbf = d.jbf := rfl
@[simp] theorem Dev.count_cab (a k : Nat) : (d.count a k).cab = d.cab := rfl
@[simp] theorem Dev.count_field (a k : Nat) : (d.count a k).field = d.field := rfl
@[simp] theorem Dev.count_vde (a k : Nat) : (d.count a k).vde = d.vde := rfl
@[simp] theorem Dev.count_ven (a k : Nat) : (d.count a k).ven = d.ven := rfl
@[simp] theorem Dev.count_cmp (a k : Nat) : (d.count a k).cmp = d.cmp := rfl
@[simp] theorem Dev.count_dpo (a k : Nat) : (d.count a k).dpo = d.dpo := rfl
@[simp] theorem Dev.count_busy (a k : Nat) : (d.count a k).busy = d.busy := rfl
@[simp] theorem Dev.count_sqs (a k : Nat) : (d.count a k).sqs = d.sqs := rfl
@[simp] theorem Dev.count_nand (a k : Nat) : (d.count a k).nand = d.nand := rfl
@[simp] theorem Dev.count_nfc (a k : Nat) : (d.count a k).nfc = d.nfc := rfl

/-! ### `count64` -/

@[simp] theorem Dev.count64_regs (a k : Nat) : (d.count64 a k).regs = d.regs := rfl
@[simp] theorem Dev.count64_shadow (a k : Nat) : (d.count64 a k).shadow = d.shadow := rfl
@[simp] theorem Dev.count64_lv (a k : Nat) : (d.count64 a k).lv = d.lv := rfl
@[simp] theorem Dev.count64_hiLatch (a k : Nat) : (d.count64 a k).hiLatch = d.hiLatch := rfl
@[simp] theorem Dev.count64_dram (a k : Nat) : (d.count64 a k).dram = d.dram := rfl
@[simp] theorem Dev.count64_sram (a k : Nat) : (d.count64 a k).sram = d.sram := rfl
@[simp] theorem Dev.count64_tim (a k : Nat) : (d.count64 a k).tim = d.tim := rfl
@[simp] theorem Dev.count64_pat (a k : Nat) : (d.count64 a k).pat = d.pat := rfl
@[simp] theorem Dev.count64_swt (a k : Nat) : (d.count64 a k).swt = d.swt := rfl
@[simp] theorem Dev.count64_hst (a k : Nat) : (d.count64 a k).hst = d.hst := rfl
@[simp] theorem Dev.count64_sec (a k : Nat) : (d.count64 a k).sec = d.sec := rfl
@[simp] theorem Dev.count64_sys (a k : Nat) : (d.count64 a k).sys = d.sys := rfl
@[simp] theorem Dev.count64_bpm (a k : Nat) : (d.count64 a k).bpm = d.bpm := rfl
@[simp] theorem Dev.count64_net (a k : Nat) : (d.count64 a k).net = d.net := rfl
@[simp] theorem Dev.count64_cls (a k : Nat) : (d.count64 a k).cls = d.cls := rfl
@[simp] theorem Dev.count64_ing (a k : Nat) : (d.count64 a k).ing = d.ing := rfl
@[simp] theorem Dev.count64_cip (a k : Nat) : (d.count64 a k).cip = d.cip := rfl
@[simp] theorem Dev.count64_fwd (a k : Nat) : (d.count64 a k).fwd = d.fwd := rfl
@[simp] theorem Dev.count64_leg (a k : Nat) : (d.count64 a k).leg = d.leg := rfl
@[simp] theorem Dev.count64_egs (a k : Nat) : (d.count64 a k).egs = d.egs := rfl
@[simp] theorem Dev.count64_dmc (a k : Nat) : (d.count64 a k).dmc = d.dmc := rfl
@[simp] theorem Dev.count64_hok (a k : Nat) : (d.count64 a k).hok = d.hok := rfl
@[simp] theorem Dev.count64_dsp (a k : Nat) : (d.count64 a k).dsp = d.dsp := rfl
@[simp] theorem Dev.count64_jbf (a k : Nat) : (d.count64 a k).jbf = d.jbf := rfl
@[simp] theorem Dev.count64_cab (a k : Nat) : (d.count64 a k).cab = d.cab := rfl
@[simp] theorem Dev.count64_field (a k : Nat) : (d.count64 a k).field = d.field := rfl
@[simp] theorem Dev.count64_vde (a k : Nat) : (d.count64 a k).vde = d.vde := rfl
@[simp] theorem Dev.count64_ven (a k : Nat) : (d.count64 a k).ven = d.ven := rfl
@[simp] theorem Dev.count64_cmp (a k : Nat) : (d.count64 a k).cmp = d.cmp := rfl
@[simp] theorem Dev.count64_dpo (a k : Nat) : (d.count64 a k).dpo = d.dpo := rfl
@[simp] theorem Dev.count64_busy (a k : Nat) : (d.count64 a k).busy = d.busy := rfl
@[simp] theorem Dev.count64_sqs (a k : Nat) : (d.count64 a k).sqs = d.sqs := rfl
@[simp] theorem Dev.count64_nand (a k : Nat) : (d.count64 a k).nand = d.nand := rfl
@[simp] theorem Dev.count64_nfc (a k : Nat) : (d.count64 a k).nfc = d.nfc := rfl

/-! ### `setReg64` -/

@[simp] theorem Dev.setReg64_shadow (lo hi v : Nat) : (d.setReg64 lo hi v).shadow = d.shadow := rfl
@[simp] theorem Dev.setReg64_lv (lo hi v : Nat) : (d.setReg64 lo hi v).lv = d.lv := rfl
@[simp] theorem Dev.setReg64_cnt (lo hi v : Nat) : (d.setReg64 lo hi v).cnt = d.cnt := rfl
@[simp] theorem Dev.setReg64_hiLatch (lo hi v : Nat) : (d.setReg64 lo hi v).hiLatch = d.hiLatch := rfl
@[simp] theorem Dev.setReg64_dram (lo hi v : Nat) : (d.setReg64 lo hi v).dram = d.dram := rfl
@[simp] theorem Dev.setReg64_sram (lo hi v : Nat) : (d.setReg64 lo hi v).sram = d.sram := rfl
@[simp] theorem Dev.setReg64_tim (lo hi v : Nat) : (d.setReg64 lo hi v).tim = d.tim := rfl
@[simp] theorem Dev.setReg64_pat (lo hi v : Nat) : (d.setReg64 lo hi v).pat = d.pat := rfl
@[simp] theorem Dev.setReg64_swt (lo hi v : Nat) : (d.setReg64 lo hi v).swt = d.swt := rfl
@[simp] theorem Dev.setReg64_hst (lo hi v : Nat) : (d.setReg64 lo hi v).hst = d.hst := rfl
@[simp] theorem Dev.setReg64_sec (lo hi v : Nat) : (d.setReg64 lo hi v).sec = d.sec := rfl
@[simp] theorem Dev.setReg64_sys (lo hi v : Nat) : (d.setReg64 lo hi v).sys = d.sys := rfl
@[simp] theorem Dev.setReg64_bpm (lo hi v : Nat) : (d.setReg64 lo hi v).bpm = d.bpm := rfl
@[simp] theorem Dev.setReg64_net (lo hi v : Nat) : (d.setReg64 lo hi v).net = d.net := rfl
@[simp] theorem Dev.setReg64_cls (lo hi v : Nat) : (d.setReg64 lo hi v).cls = d.cls := rfl
@[simp] theorem Dev.setReg64_ing (lo hi v : Nat) : (d.setReg64 lo hi v).ing = d.ing := rfl
@[simp] theorem Dev.setReg64_cip (lo hi v : Nat) : (d.setReg64 lo hi v).cip = d.cip := rfl
@[simp] theorem Dev.setReg64_fwd (lo hi v : Nat) : (d.setReg64 lo hi v).fwd = d.fwd := rfl
@[simp] theorem Dev.setReg64_leg (lo hi v : Nat) : (d.setReg64 lo hi v).leg = d.leg := rfl
@[simp] theorem Dev.setReg64_egs (lo hi v : Nat) : (d.setReg64 lo hi v).egs = d.egs := rfl
@[simp] theorem Dev.setReg64_dmc (lo hi v : Nat) : (d.setReg64 lo hi v).dmc = d.dmc := rfl
@[simp] theorem Dev.setReg64_hok (lo hi v : Nat) : (d.setReg64 lo hi v).hok = d.hok := rfl
@[simp] theorem Dev.setReg64_dsp (lo hi v : Nat) : (d.setReg64 lo hi v).dsp = d.dsp := rfl
@[simp] theorem Dev.setReg64_jbf (lo hi v : Nat) : (d.setReg64 lo hi v).jbf = d.jbf := rfl
@[simp] theorem Dev.setReg64_cab (lo hi v : Nat) : (d.setReg64 lo hi v).cab = d.cab := rfl
@[simp] theorem Dev.setReg64_field (lo hi v : Nat) : (d.setReg64 lo hi v).field = d.field := rfl
@[simp] theorem Dev.setReg64_vde (lo hi v : Nat) : (d.setReg64 lo hi v).vde = d.vde := rfl
@[simp] theorem Dev.setReg64_ven (lo hi v : Nat) : (d.setReg64 lo hi v).ven = d.ven := rfl
@[simp] theorem Dev.setReg64_cmp (lo hi v : Nat) : (d.setReg64 lo hi v).cmp = d.cmp := rfl
@[simp] theorem Dev.setReg64_dpo (lo hi v : Nat) : (d.setReg64 lo hi v).dpo = d.dpo := rfl
@[simp] theorem Dev.setReg64_busy (lo hi v : Nat) : (d.setReg64 lo hi v).busy = d.busy := rfl
@[simp] theorem Dev.setReg64_sqs (lo hi v : Nat) : (d.setReg64 lo hi v).sqs = d.sqs := rfl
@[simp] theorem Dev.setReg64_nand (lo hi v : Nat) : (d.setReg64 lo hi v).nand = d.nand := rfl
@[simp] theorem Dev.setReg64_nfc (lo hi v : Nat) : (d.setReg64 lo hi v).nfc = d.nfc := rfl

/-! ### `dramWrite` -/

@[simp] theorem Dev.dramWrite_regs (a : Nat) (b : List Byte) : (d.dramWrite a b).regs = d.regs := rfl
@[simp] theorem Dev.dramWrite_shadow (a : Nat) (b : List Byte) : (d.dramWrite a b).shadow = d.shadow := rfl
@[simp] theorem Dev.dramWrite_lv (a : Nat) (b : List Byte) : (d.dramWrite a b).lv = d.lv := rfl
@[simp] theorem Dev.dramWrite_cnt (a : Nat) (b : List Byte) : (d.dramWrite a b).cnt = d.cnt := rfl
@[simp] theorem Dev.dramWrite_hiLatch (a : Nat) (b : List Byte) : (d.dramWrite a b).hiLatch = d.hiLatch := rfl
@[simp] theorem Dev.dramWrite_sram (a : Nat) (b : List Byte) : (d.dramWrite a b).sram = d.sram := rfl
@[simp] theorem Dev.dramWrite_tim (a : Nat) (b : List Byte) : (d.dramWrite a b).tim = d.tim := rfl
@[simp] theorem Dev.dramWrite_pat (a : Nat) (b : List Byte) : (d.dramWrite a b).pat = d.pat := rfl
@[simp] theorem Dev.dramWrite_swt (a : Nat) (b : List Byte) : (d.dramWrite a b).swt = d.swt := rfl
@[simp] theorem Dev.dramWrite_hst (a : Nat) (b : List Byte) : (d.dramWrite a b).hst = d.hst := rfl
@[simp] theorem Dev.dramWrite_sec (a : Nat) (b : List Byte) : (d.dramWrite a b).sec = d.sec := rfl
@[simp] theorem Dev.dramWrite_sys (a : Nat) (b : List Byte) : (d.dramWrite a b).sys = d.sys := rfl
@[simp] theorem Dev.dramWrite_bpm (a : Nat) (b : List Byte) : (d.dramWrite a b).bpm = d.bpm := rfl
@[simp] theorem Dev.dramWrite_net (a : Nat) (b : List Byte) : (d.dramWrite a b).net = d.net := rfl
@[simp] theorem Dev.dramWrite_cls (a : Nat) (b : List Byte) : (d.dramWrite a b).cls = d.cls := rfl
@[simp] theorem Dev.dramWrite_ing (a : Nat) (b : List Byte) : (d.dramWrite a b).ing = d.ing := rfl
@[simp] theorem Dev.dramWrite_cip (a : Nat) (b : List Byte) : (d.dramWrite a b).cip = d.cip := rfl
@[simp] theorem Dev.dramWrite_fwd (a : Nat) (b : List Byte) : (d.dramWrite a b).fwd = d.fwd := rfl
@[simp] theorem Dev.dramWrite_leg (a : Nat) (b : List Byte) : (d.dramWrite a b).leg = d.leg := rfl
@[simp] theorem Dev.dramWrite_egs (a : Nat) (b : List Byte) : (d.dramWrite a b).egs = d.egs := rfl
@[simp] theorem Dev.dramWrite_dmc (a : Nat) (b : List Byte) : (d.dramWrite a b).dmc = d.dmc := rfl
@[simp] theorem Dev.dramWrite_hok (a : Nat) (b : List Byte) : (d.dramWrite a b).hok = d.hok := rfl
@[simp] theorem Dev.dramWrite_dsp (a : Nat) (b : List Byte) : (d.dramWrite a b).dsp = d.dsp := rfl
@[simp] theorem Dev.dramWrite_jbf (a : Nat) (b : List Byte) : (d.dramWrite a b).jbf = d.jbf := rfl
@[simp] theorem Dev.dramWrite_cab (a : Nat) (b : List Byte) : (d.dramWrite a b).cab = d.cab := rfl
@[simp] theorem Dev.dramWrite_field (a : Nat) (b : List Byte) : (d.dramWrite a b).field = d.field := rfl
@[simp] theorem Dev.dramWrite_vde (a : Nat) (b : List Byte) : (d.dramWrite a b).vde = d.vde := rfl
@[simp] theorem Dev.dramWrite_ven (a : Nat) (b : List Byte) : (d.dramWrite a b).ven = d.ven := rfl
@[simp] theorem Dev.dramWrite_cmp (a : Nat) (b : List Byte) : (d.dramWrite a b).cmp = d.cmp := rfl
@[simp] theorem Dev.dramWrite_dpo (a : Nat) (b : List Byte) : (d.dramWrite a b).dpo = d.dpo := rfl
@[simp] theorem Dev.dramWrite_busy (a : Nat) (b : List Byte) : (d.dramWrite a b).busy = d.busy := rfl
@[simp] theorem Dev.dramWrite_sqs (a : Nat) (b : List Byte) : (d.dramWrite a b).sqs = d.sqs := rfl
@[simp] theorem Dev.dramWrite_nand (a : Nat) (b : List Byte) : (d.dramWrite a b).nand = d.nand := rfl
@[simp] theorem Dev.dramWrite_nfc (a : Nat) (b : List Byte) : (d.dramWrite a b).nfc = d.nfc := rfl

/-! ### `post` -/

@[simp] theorem Dev.post_regs (x : Arrival) : (d.post x).regs = d.regs := rfl
@[simp] theorem Dev.post_shadow (x : Arrival) : (d.post x).shadow = d.shadow := rfl
@[simp] theorem Dev.post_lv (x : Arrival) : (d.post x).lv = d.lv := rfl
@[simp] theorem Dev.post_cnt (x : Arrival) : (d.post x).cnt = d.cnt := rfl
@[simp] theorem Dev.post_hiLatch (x : Arrival) : (d.post x).hiLatch = d.hiLatch := rfl
@[simp] theorem Dev.post_dram (x : Arrival) : (d.post x).dram = d.dram := rfl
@[simp] theorem Dev.post_sram (x : Arrival) : (d.post x).sram = d.sram := rfl
@[simp] theorem Dev.post_pat (x : Arrival) : (d.post x).pat = d.pat := rfl
@[simp] theorem Dev.post_swt (x : Arrival) : (d.post x).swt = d.swt := rfl
@[simp] theorem Dev.post_hst (x : Arrival) : (d.post x).hst = d.hst := rfl
@[simp] theorem Dev.post_sec (x : Arrival) : (d.post x).sec = d.sec := rfl
@[simp] theorem Dev.post_sys (x : Arrival) : (d.post x).sys = d.sys := rfl
@[simp] theorem Dev.post_bpm (x : Arrival) : (d.post x).bpm = d.bpm := rfl
@[simp] theorem Dev.post_net (x : Arrival) : (d.post x).net = d.net := rfl
@[simp] theorem Dev.post_cls (x : Arrival) : (d.post x).cls = d.cls := rfl
@[simp] theorem Dev.post_ing (x : Arrival) : (d.post x).ing = d.ing := rfl
@[simp] theorem Dev.post_cip (x : Arrival) : (d.post x).cip = d.cip := rfl
@[simp] theorem Dev.post_fwd (x : Arrival) : (d.post x).fwd = d.fwd := rfl
@[simp] theorem Dev.post_leg (x : Arrival) : (d.post x).leg = d.leg := rfl
@[simp] theorem Dev.post_egs (x : Arrival) : (d.post x).egs = d.egs := rfl
@[simp] theorem Dev.post_dmc (x : Arrival) : (d.post x).dmc = d.dmc := rfl
@[simp] theorem Dev.post_hok (x : Arrival) : (d.post x).hok = d.hok := rfl
@[simp] theorem Dev.post_dsp (x : Arrival) : (d.post x).dsp = d.dsp := rfl
@[simp] theorem Dev.post_jbf (x : Arrival) : (d.post x).jbf = d.jbf := rfl
@[simp] theorem Dev.post_cab (x : Arrival) : (d.post x).cab = d.cab := rfl
@[simp] theorem Dev.post_field (x : Arrival) : (d.post x).field = d.field := rfl
@[simp] theorem Dev.post_vde (x : Arrival) : (d.post x).vde = d.vde := rfl
@[simp] theorem Dev.post_ven (x : Arrival) : (d.post x).ven = d.ven := rfl
@[simp] theorem Dev.post_cmp (x : Arrival) : (d.post x).cmp = d.cmp := rfl
@[simp] theorem Dev.post_dpo (x : Arrival) : (d.post x).dpo = d.dpo := rfl
@[simp] theorem Dev.post_busy (x : Arrival) : (d.post x).busy = d.busy := rfl
@[simp] theorem Dev.post_sqs (x : Arrival) : (d.post x).sqs = d.sqs := rfl
@[simp] theorem Dev.post_nand (x : Arrival) : (d.post x).nand = d.nand := rfl
@[simp] theorem Dev.post_nfc (x : Arrival) : (d.post x).nfc = d.nfc := rfl

/-! ### `raise` -/

@[simp] theorem Dev.raise_regs (code inst dom : Nat) (args : List Byte) : (d.raise code inst dom args).regs = d.regs := rfl
@[simp] theorem Dev.raise_shadow (code inst dom : Nat) (args : List Byte) : (d.raise code inst dom args).shadow = d.shadow := rfl
@[simp] theorem Dev.raise_lv (code inst dom : Nat) (args : List Byte) : (d.raise code inst dom args).lv = d.lv := rfl
@[simp] theorem Dev.raise_cnt (code inst dom : Nat) (args : List Byte) : (d.raise code inst dom args).cnt = d.cnt := rfl
@[simp] theorem Dev.raise_hiLatch (code inst dom : Nat) (args : List Byte) : (d.raise code inst dom args).hiLatch = d.hiLatch := rfl
@[simp] theorem Dev.raise_dram (code inst dom : Nat) (args : List Byte) : (d.raise code inst dom args).dram = d.dram := rfl
@[simp] theorem Dev.raise_sram (code inst dom : Nat) (args : List Byte) : (d.raise code inst dom args).sram = d.sram := rfl
@[simp] theorem Dev.raise_pat (code inst dom : Nat) (args : List Byte) : (d.raise code inst dom args).pat = d.pat := rfl
@[simp] theorem Dev.raise_swt (code inst dom : Nat) (args : List Byte) : (d.raise code inst dom args).swt = d.swt := rfl
@[simp] theorem Dev.raise_hst (code inst dom : Nat) (args : List Byte) : (d.raise code inst dom args).hst = d.hst := rfl
@[simp] theorem Dev.raise_sec (code inst dom : Nat) (args : List Byte) : (d.raise code inst dom args).sec = d.sec := rfl
@[simp] theorem Dev.raise_sys (code inst dom : Nat) (args : List Byte) : (d.raise code inst dom args).sys = d.sys := rfl
@[simp] theorem Dev.raise_bpm (code inst dom : Nat) (args : List Byte) : (d.raise code inst dom args).bpm = d.bpm := rfl
@[simp] theorem Dev.raise_net (code inst dom : Nat) (args : List Byte) : (d.raise code inst dom args).net = d.net := rfl
@[simp] theorem Dev.raise_cls (code inst dom : Nat) (args : List Byte) : (d.raise code inst dom args).cls = d.cls := rfl
@[simp] theorem Dev.raise_ing (code inst dom : Nat) (args : List Byte) : (d.raise code inst dom args).ing = d.ing := rfl
@[simp] theorem Dev.raise_cip (code inst dom : Nat) (args : List Byte) : (d.raise code inst dom args).cip = d.cip := rfl
@[simp] theorem Dev.raise_fwd (code inst dom : Nat) (args : List Byte) : (d.raise code inst dom args).fwd = d.fwd := rfl
@[simp] theorem Dev.raise_leg (code inst dom : Nat) (args : List Byte) : (d.raise code inst dom args).leg = d.leg := rfl
@[simp] theorem Dev.raise_egs (code inst dom : Nat) (args : List Byte) : (d.raise code inst dom args).egs = d.egs := rfl
@[simp] theorem Dev.raise_dmc (code inst dom : Nat) (args : List Byte) : (d.raise code inst dom args).dmc = d.dmc := rfl
@[simp] theorem Dev.raise_hok (code inst dom : Nat) (args : List Byte) : (d.raise code inst dom args).hok = d.hok := rfl
@[simp] theorem Dev.raise_dsp (code inst dom : Nat) (args : List Byte) : (d.raise code inst dom args).dsp = d.dsp := rfl
@[simp] theorem Dev.raise_jbf (code inst dom : Nat) (args : List Byte) : (d.raise code inst dom args).jbf = d.jbf := rfl
@[simp] theorem Dev.raise_cab (code inst dom : Nat) (args : List Byte) : (d.raise code inst dom args).cab = d.cab := rfl
@[simp] theorem Dev.raise_field (code inst dom : Nat) (args : List Byte) : (d.raise code inst dom args).field = d.field := rfl
@[simp] theorem Dev.raise_vde (code inst dom : Nat) (args : List Byte) : (d.raise code inst dom args).vde = d.vde := rfl
@[simp] theorem Dev.raise_ven (code inst dom : Nat) (args : List Byte) : (d.raise code inst dom args).ven = d.ven := rfl
@[simp] theorem Dev.raise_cmp (code inst dom : Nat) (args : List Byte) : (d.raise code inst dom args).cmp = d.cmp := rfl
@[simp] theorem Dev.raise_dpo (code inst dom : Nat) (args : List Byte) : (d.raise code inst dom args).dpo = d.dpo := rfl
@[simp] theorem Dev.raise_busy (code inst dom : Nat) (args : List Byte) : (d.raise code inst dom args).busy = d.busy := rfl
@[simp] theorem Dev.raise_sqs (code inst dom : Nat) (args : List Byte) : (d.raise code inst dom args).sqs = d.sqs := rfl
@[simp] theorem Dev.raise_nand (code inst dom : Nat) (args : List Byte) : (d.raise code inst dom args).nand = d.nand := rfl
@[simp] theorem Dev.raise_nfc (code inst dom : Nat) (args : List Byte) : (d.raise code inst dom args).nfc = d.nfc := rfl

/-! ### `setTb` -/

@[simp] theorem Dev.setTb_regs (k : Nat) (t : TimeBase) : (d.setTb k t).regs = d.regs := rfl
@[simp] theorem Dev.setTb_shadow (k : Nat) (t : TimeBase) : (d.setTb k t).shadow = d.shadow := rfl
@[simp] theorem Dev.setTb_lv (k : Nat) (t : TimeBase) : (d.setTb k t).lv = d.lv := rfl
@[simp] theorem Dev.setTb_cnt (k : Nat) (t : TimeBase) : (d.setTb k t).cnt = d.cnt := rfl
@[simp] theorem Dev.setTb_hiLatch (k : Nat) (t : TimeBase) : (d.setTb k t).hiLatch = d.hiLatch := rfl
@[simp] theorem Dev.setTb_dram (k : Nat) (t : TimeBase) : (d.setTb k t).dram = d.dram := rfl
@[simp] theorem Dev.setTb_sram (k : Nat) (t : TimeBase) : (d.setTb k t).sram = d.sram := rfl
@[simp] theorem Dev.setTb_pat (k : Nat) (t : TimeBase) : (d.setTb k t).pat = d.pat := rfl
@[simp] theorem Dev.setTb_swt (k : Nat) (t : TimeBase) : (d.setTb k t).swt = d.swt := rfl
@[simp] theorem Dev.setTb_hst (k : Nat) (t : TimeBase) : (d.setTb k t).hst = d.hst := rfl
@[simp] theorem Dev.setTb_sec (k : Nat) (t : TimeBase) : (d.setTb k t).sec = d.sec := rfl
@[simp] theorem Dev.setTb_sys (k : Nat) (t : TimeBase) : (d.setTb k t).sys = d.sys := rfl
@[simp] theorem Dev.setTb_bpm (k : Nat) (t : TimeBase) : (d.setTb k t).bpm = d.bpm := rfl
@[simp] theorem Dev.setTb_net (k : Nat) (t : TimeBase) : (d.setTb k t).net = d.net := rfl
@[simp] theorem Dev.setTb_cls (k : Nat) (t : TimeBase) : (d.setTb k t).cls = d.cls := rfl
@[simp] theorem Dev.setTb_ing (k : Nat) (t : TimeBase) : (d.setTb k t).ing = d.ing := rfl
@[simp] theorem Dev.setTb_cip (k : Nat) (t : TimeBase) : (d.setTb k t).cip = d.cip := rfl
@[simp] theorem Dev.setTb_fwd (k : Nat) (t : TimeBase) : (d.setTb k t).fwd = d.fwd := rfl
@[simp] theorem Dev.setTb_leg (k : Nat) (t : TimeBase) : (d.setTb k t).leg = d.leg := rfl
@[simp] theorem Dev.setTb_egs (k : Nat) (t : TimeBase) : (d.setTb k t).egs = d.egs := rfl
@[simp] theorem Dev.setTb_dmc (k : Nat) (t : TimeBase) : (d.setTb k t).dmc = d.dmc := rfl
@[simp] theorem Dev.setTb_hok (k : Nat) (t : TimeBase) : (d.setTb k t).hok = d.hok := rfl
@[simp] theorem Dev.setTb_dsp (k : Nat) (t : TimeBase) : (d.setTb k t).dsp = d.dsp := rfl
@[simp] theorem Dev.setTb_jbf (k : Nat) (t : TimeBase) : (d.setTb k t).jbf = d.jbf := rfl
@[simp] theorem Dev.setTb_cab (k : Nat) (t : TimeBase) : (d.setTb k t).cab = d.cab := rfl
@[simp] theorem Dev.setTb_field (k : Nat) (t : TimeBase) : (d.setTb k t).field = d.field := rfl
@[simp] theorem Dev.setTb_vde (k : Nat) (t : TimeBase) : (d.setTb k t).vde = d.vde := rfl
@[simp] theorem Dev.setTb_ven (k : Nat) (t : TimeBase) : (d.setTb k t).ven = d.ven := rfl
@[simp] theorem Dev.setTb_cmp (k : Nat) (t : TimeBase) : (d.setTb k t).cmp = d.cmp := rfl
@[simp] theorem Dev.setTb_dpo (k : Nat) (t : TimeBase) : (d.setTb k t).dpo = d.dpo := rfl
@[simp] theorem Dev.setTb_busy (k : Nat) (t : TimeBase) : (d.setTb k t).busy = d.busy := rfl
@[simp] theorem Dev.setTb_sqs (k : Nat) (t : TimeBase) : (d.setTb k t).sqs = d.sqs := rfl
@[simp] theorem Dev.setTb_nand (k : Nat) (t : TimeBase) : (d.setTb k t).nand = d.nand := rfl
@[simp] theorem Dev.setTb_nfc (k : Nat) (t : TimeBase) : (d.setTb k t).nfc = d.nfc := rfl

/-! ### `lvWrite` -/

@[simp] theorem Dev.lvWrite_regs (a : Nat) (v : Word) : (d.lvWrite a v).regs = d.regs := rfl
@[simp] theorem Dev.lvWrite_shadow (a : Nat) (v : Word) : (d.lvWrite a v).shadow = d.shadow := rfl
@[simp] theorem Dev.lvWrite_cnt (a : Nat) (v : Word) : (d.lvWrite a v).cnt = d.cnt := rfl
@[simp] theorem Dev.lvWrite_hiLatch (a : Nat) (v : Word) : (d.lvWrite a v).hiLatch = d.hiLatch := rfl
@[simp] theorem Dev.lvWrite_dram (a : Nat) (v : Word) : (d.lvWrite a v).dram = d.dram := rfl
@[simp] theorem Dev.lvWrite_sram (a : Nat) (v : Word) : (d.lvWrite a v).sram = d.sram := rfl
@[simp] theorem Dev.lvWrite_tim (a : Nat) (v : Word) : (d.lvWrite a v).tim = d.tim := rfl
@[simp] theorem Dev.lvWrite_pat (a : Nat) (v : Word) : (d.lvWrite a v).pat = d.pat := rfl
@[simp] theorem Dev.lvWrite_swt (a : Nat) (v : Word) : (d.lvWrite a v).swt = d.swt := rfl
@[simp] theorem Dev.lvWrite_hst (a : Nat) (v : Word) : (d.lvWrite a v).hst = d.hst := rfl
@[simp] theorem Dev.lvWrite_sec (a : Nat) (v : Word) : (d.lvWrite a v).sec = d.sec := rfl
@[simp] theorem Dev.lvWrite_sys (a : Nat) (v : Word) : (d.lvWrite a v).sys = d.sys := rfl
@[simp] theorem Dev.lvWrite_bpm (a : Nat) (v : Word) : (d.lvWrite a v).bpm = d.bpm := rfl
@[simp] theorem Dev.lvWrite_net (a : Nat) (v : Word) : (d.lvWrite a v).net = d.net := rfl
@[simp] theorem Dev.lvWrite_cls (a : Nat) (v : Word) : (d.lvWrite a v).cls = d.cls := rfl
@[simp] theorem Dev.lvWrite_ing (a : Nat) (v : Word) : (d.lvWrite a v).ing = d.ing := rfl
@[simp] theorem Dev.lvWrite_cip (a : Nat) (v : Word) : (d.lvWrite a v).cip = d.cip := rfl
@[simp] theorem Dev.lvWrite_fwd (a : Nat) (v : Word) : (d.lvWrite a v).fwd = d.fwd := rfl
@[simp] theorem Dev.lvWrite_leg (a : Nat) (v : Word) : (d.lvWrite a v).leg = d.leg := rfl
@[simp] theorem Dev.lvWrite_egs (a : Nat) (v : Word) : (d.lvWrite a v).egs = d.egs := rfl
@[simp] theorem Dev.lvWrite_dmc (a : Nat) (v : Word) : (d.lvWrite a v).dmc = d.dmc := rfl
@[simp] theorem Dev.lvWrite_hok (a : Nat) (v : Word) : (d.lvWrite a v).hok = d.hok := rfl
@[simp] theorem Dev.lvWrite_dsp (a : Nat) (v : Word) : (d.lvWrite a v).dsp = d.dsp := rfl
@[simp] theorem Dev.lvWrite_jbf (a : Nat) (v : Word) : (d.lvWrite a v).jbf = d.jbf := rfl
@[simp] theorem Dev.lvWrite_cab (a : Nat) (v : Word) : (d.lvWrite a v).cab = d.cab := rfl
@[simp] theorem Dev.lvWrite_field (a : Nat) (v : Word) : (d.lvWrite a v).field = d.field := rfl
@[simp] theorem Dev.lvWrite_vde (a : Nat) (v : Word) : (d.lvWrite a v).vde = d.vde := rfl
@[simp] theorem Dev.lvWrite_ven (a : Nat) (v : Word) : (d.lvWrite a v).ven = d.ven := rfl
@[simp] theorem Dev.lvWrite_cmp (a : Nat) (v : Word) : (d.lvWrite a v).cmp = d.cmp := rfl
@[simp] theorem Dev.lvWrite_dpo (a : Nat) (v : Word) : (d.lvWrite a v).dpo = d.dpo := rfl
@[simp] theorem Dev.lvWrite_busy (a : Nat) (v : Word) : (d.lvWrite a v).busy = d.busy := rfl
@[simp] theorem Dev.lvWrite_sqs (a : Nat) (v : Word) : (d.lvWrite a v).sqs = d.sqs := rfl
@[simp] theorem Dev.lvWrite_nand (a : Nat) (v : Word) : (d.lvWrite a v).nand = d.nand := rfl
@[simp] theorem Dev.lvWrite_nfc (a : Nat) (v : Word) : (d.lvWrite a v).nfc = d.nfc := rfl

/-! ### `lvDrop` -/

@[simp] theorem Dev.lvDrop_regs (a : Nat) : (d.lvDrop a).regs = d.regs := rfl
@[simp] theorem Dev.lvDrop_shadow (a : Nat) : (d.lvDrop a).shadow = d.shadow := rfl
@[simp] theorem Dev.lvDrop_cnt (a : Nat) : (d.lvDrop a).cnt = d.cnt := rfl
@[simp] theorem Dev.lvDrop_hiLatch (a : Nat) : (d.lvDrop a).hiLatch = d.hiLatch := rfl
@[simp] theorem Dev.lvDrop_dram (a : Nat) : (d.lvDrop a).dram = d.dram := rfl
@[simp] theorem Dev.lvDrop_sram (a : Nat) : (d.lvDrop a).sram = d.sram := rfl
@[simp] theorem Dev.lvDrop_tim (a : Nat) : (d.lvDrop a).tim = d.tim := rfl
@[simp] theorem Dev.lvDrop_pat (a : Nat) : (d.lvDrop a).pat = d.pat := rfl
@[simp] theorem Dev.lvDrop_swt (a : Nat) : (d.lvDrop a).swt = d.swt := rfl
@[simp] theorem Dev.lvDrop_hst (a : Nat) : (d.lvDrop a).hst = d.hst := rfl
@[simp] theorem Dev.lvDrop_sec (a : Nat) : (d.lvDrop a).sec = d.sec := rfl
@[simp] theorem Dev.lvDrop_sys (a : Nat) : (d.lvDrop a).sys = d.sys := rfl
@[simp] theorem Dev.lvDrop_bpm (a : Nat) : (d.lvDrop a).bpm = d.bpm := rfl
@[simp] theorem Dev.lvDrop_net (a : Nat) : (d.lvDrop a).net = d.net := rfl
@[simp] theorem Dev.lvDrop_cls (a : Nat) : (d.lvDrop a).cls = d.cls := rfl
@[simp] theorem Dev.lvDrop_ing (a : Nat) : (d.lvDrop a).ing = d.ing := rfl
@[simp] theorem Dev.lvDrop_cip (a : Nat) : (d.lvDrop a).cip = d.cip := rfl
@[simp] theorem Dev.lvDrop_fwd (a : Nat) : (d.lvDrop a).fwd = d.fwd := rfl
@[simp] theorem Dev.lvDrop_leg (a : Nat) : (d.lvDrop a).leg = d.leg := rfl
@[simp] theorem Dev.lvDrop_egs (a : Nat) : (d.lvDrop a).egs = d.egs := rfl
@[simp] theorem Dev.lvDrop_dmc (a : Nat) : (d.lvDrop a).dmc = d.dmc := rfl
@[simp] theorem Dev.lvDrop_hok (a : Nat) : (d.lvDrop a).hok = d.hok := rfl
@[simp] theorem Dev.lvDrop_dsp (a : Nat) : (d.lvDrop a).dsp = d.dsp := rfl
@[simp] theorem Dev.lvDrop_jbf (a : Nat) : (d.lvDrop a).jbf = d.jbf := rfl
@[simp] theorem Dev.lvDrop_cab (a : Nat) : (d.lvDrop a).cab = d.cab := rfl
@[simp] theorem Dev.lvDrop_field (a : Nat) : (d.lvDrop a).field = d.field := rfl
@[simp] theorem Dev.lvDrop_vde (a : Nat) : (d.lvDrop a).vde = d.vde := rfl
@[simp] theorem Dev.lvDrop_ven (a : Nat) : (d.lvDrop a).ven = d.ven := rfl
@[simp] theorem Dev.lvDrop_cmp (a : Nat) : (d.lvDrop a).cmp = d.cmp := rfl
@[simp] theorem Dev.lvDrop_dpo (a : Nat) : (d.lvDrop a).dpo = d.dpo := rfl
@[simp] theorem Dev.lvDrop_busy (a : Nat) : (d.lvDrop a).busy = d.busy := rfl
@[simp] theorem Dev.lvDrop_sqs (a : Nat) : (d.lvDrop a).sqs = d.sqs := rfl
@[simp] theorem Dev.lvDrop_nand (a : Nat) : (d.lvDrop a).nand = d.nand := rfl
@[simp] theorem Dev.lvDrop_nfc (a : Nat) : (d.lvDrop a).nfc = d.nfc := rfl

/-! ### `draw` and `setRegsNat` -/

@[simp] theorem Dev.draw_regs : d.draw.2.regs = d.regs := rfl
@[simp] theorem Dev.draw_shadow : d.draw.2.shadow = d.shadow := rfl
@[simp] theorem Dev.draw_lv : d.draw.2.lv = d.lv := rfl
@[simp] theorem Dev.draw_cnt : d.draw.2.cnt = d.cnt := rfl
@[simp] theorem Dev.draw_hiLatch : d.draw.2.hiLatch = d.hiLatch := rfl
@[simp] theorem Dev.draw_dram : d.draw.2.dram = d.dram := rfl
@[simp] theorem Dev.draw_sram : d.draw.2.sram = d.sram := rfl
@[simp] theorem Dev.draw_pat : d.draw.2.pat = d.pat := rfl
@[simp] theorem Dev.draw_swt : d.draw.2.swt = d.swt := rfl
@[simp] theorem Dev.draw_hst : d.draw.2.hst = d.hst := rfl
@[simp] theorem Dev.draw_sec : d.draw.2.sec = d.sec := rfl
@[simp] theorem Dev.draw_sys : d.draw.2.sys = d.sys := rfl
@[simp] theorem Dev.draw_bpm : d.draw.2.bpm = d.bpm := rfl
@[simp] theorem Dev.draw_net : d.draw.2.net = d.net := rfl
@[simp] theorem Dev.draw_cls : d.draw.2.cls = d.cls := rfl
@[simp] theorem Dev.draw_ing : d.draw.2.ing = d.ing := rfl
@[simp] theorem Dev.draw_cip : d.draw.2.cip = d.cip := rfl
@[simp] theorem Dev.draw_fwd : d.draw.2.fwd = d.fwd := rfl
@[simp] theorem Dev.draw_leg : d.draw.2.leg = d.leg := rfl
@[simp] theorem Dev.draw_egs : d.draw.2.egs = d.egs := rfl
@[simp] theorem Dev.draw_dmc : d.draw.2.dmc = d.dmc := rfl
@[simp] theorem Dev.draw_hok : d.draw.2.hok = d.hok := rfl
@[simp] theorem Dev.draw_dsp : d.draw.2.dsp = d.dsp := rfl
@[simp] theorem Dev.draw_jbf : d.draw.2.jbf = d.jbf := rfl
@[simp] theorem Dev.draw_cab : d.draw.2.cab = d.cab := rfl
@[simp] theorem Dev.draw_field : d.draw.2.field = d.field := rfl
@[simp] theorem Dev.draw_vde : d.draw.2.vde = d.vde := rfl
@[simp] theorem Dev.draw_ven : d.draw.2.ven = d.ven := rfl
@[simp] theorem Dev.draw_cmp : d.draw.2.cmp = d.cmp := rfl
@[simp] theorem Dev.draw_dpo : d.draw.2.dpo = d.dpo := rfl
@[simp] theorem Dev.draw_busy : d.draw.2.busy = d.busy := rfl
@[simp] theorem Dev.draw_sqs : d.draw.2.sqs = d.sqs := rfl
@[simp] theorem Dev.draw_nand : d.draw.2.nand = d.nand := rfl
@[simp] theorem Dev.draw_nfc : d.draw.2.nfc = d.nfc := rfl

@[simp] theorem Dev.setRegsNat_shadow (a v n : Nat) : (d.setRegsNat a v n).shadow = d.shadow := by
  induction n generalizing d a v with
  | zero => rfl
  | succ n ih => simp [Dev.setRegsNat, ih]
@[simp] theorem Dev.setRegsNat_lv (a v n : Nat) : (d.setRegsNat a v n).lv = d.lv := by
  induction n generalizing d a v with
  | zero => rfl
  | succ n ih => simp [Dev.setRegsNat, ih]
@[simp] theorem Dev.setRegsNat_cnt (a v n : Nat) : (d.setRegsNat a v n).cnt = d.cnt := by
  induction n generalizing d a v with
  | zero => rfl
  | succ n ih => simp [Dev.setRegsNat, ih]
@[simp] theorem Dev.setRegsNat_hiLatch (a v n : Nat) : (d.setRegsNat a v n).hiLatch = d.hiLatch := by
  induction n generalizing d a v with
  | zero => rfl
  | succ n ih => simp [Dev.setRegsNat, ih]
@[simp] theorem Dev.setRegsNat_dram (a v n : Nat) : (d.setRegsNat a v n).dram = d.dram := by
  induction n generalizing d a v with
  | zero => rfl
  | succ n ih => simp [Dev.setRegsNat, ih]
@[simp] theorem Dev.setRegsNat_sram (a v n : Nat) : (d.setRegsNat a v n).sram = d.sram := by
  induction n generalizing d a v with
  | zero => rfl
  | succ n ih => simp [Dev.setRegsNat, ih]
@[simp] theorem Dev.setRegsNat_tim (a v n : Nat) : (d.setRegsNat a v n).tim = d.tim := by
  induction n generalizing d a v with
  | zero => rfl
  | succ n ih => simp [Dev.setRegsNat, ih]
@[simp] theorem Dev.setRegsNat_pat (a v n : Nat) : (d.setRegsNat a v n).pat = d.pat := by
  induction n generalizing d a v with
  | zero => rfl
  | succ n ih => simp [Dev.setRegsNat, ih]
@[simp] theorem Dev.setRegsNat_swt (a v n : Nat) : (d.setRegsNat a v n).swt = d.swt := by
  induction n generalizing d a v with
  | zero => rfl
  | succ n ih => simp [Dev.setRegsNat, ih]
@[simp] theorem Dev.setRegsNat_hst (a v n : Nat) : (d.setRegsNat a v n).hst = d.hst := by
  induction n generalizing d a v with
  | zero => rfl
  | succ n ih => simp [Dev.setRegsNat, ih]
@[simp] theorem Dev.setRegsNat_sec (a v n : Nat) : (d.setRegsNat a v n).sec = d.sec := by
  induction n generalizing d a v with
  | zero => rfl
  | succ n ih => simp [Dev.setRegsNat, ih]
@[simp] theorem Dev.setRegsNat_sys (a v n : Nat) : (d.setRegsNat a v n).sys = d.sys := by
  induction n generalizing d a v with
  | zero => rfl
  | succ n ih => simp [Dev.setRegsNat, ih]
@[simp] theorem Dev.setRegsNat_bpm (a v n : Nat) : (d.setRegsNat a v n).bpm = d.bpm := by
  induction n generalizing d a v with
  | zero => rfl
  | succ n ih => simp [Dev.setRegsNat, ih]
@[simp] theorem Dev.setRegsNat_net (a v n : Nat) : (d.setRegsNat a v n).net = d.net := by
  induction n generalizing d a v with
  | zero => rfl
  | succ n ih => simp [Dev.setRegsNat, ih]
@[simp] theorem Dev.setRegsNat_cls (a v n : Nat) : (d.setRegsNat a v n).cls = d.cls := by
  induction n generalizing d a v with
  | zero => rfl
  | succ n ih => simp [Dev.setRegsNat, ih]
@[simp] theorem Dev.setRegsNat_ing (a v n : Nat) : (d.setRegsNat a v n).ing = d.ing := by
  induction n generalizing d a v with
  | zero => rfl
  | succ n ih => simp [Dev.setRegsNat, ih]
@[simp] theorem Dev.setRegsNat_cip (a v n : Nat) : (d.setRegsNat a v n).cip = d.cip := by
  induction n generalizing d a v with
  | zero => rfl
  | succ n ih => simp [Dev.setRegsNat, ih]
@[simp] theorem Dev.setRegsNat_fwd (a v n : Nat) : (d.setRegsNat a v n).fwd = d.fwd := by
  induction n generalizing d a v with
  | zero => rfl
  | succ n ih => simp [Dev.setRegsNat, ih]
@[simp] theorem Dev.setRegsNat_leg (a v n : Nat) : (d.setRegsNat a v n).leg = d.leg := by
  induction n generalizing d a v with
  | zero => rfl
  | succ n ih => simp [Dev.setRegsNat, ih]
@[simp] theorem Dev.setRegsNat_egs (a v n : Nat) : (d.setRegsNat a v n).egs = d.egs := by
  induction n generalizing d a v with
  | zero => rfl
  | succ n ih => simp [Dev.setRegsNat, ih]
@[simp] theorem Dev.setRegsNat_dmc (a v n : Nat) : (d.setRegsNat a v n).dmc = d.dmc := by
  induction n generalizing d a v with
  | zero => rfl
  | succ n ih => simp [Dev.setRegsNat, ih]
@[simp] theorem Dev.setRegsNat_hok (a v n : Nat) : (d.setRegsNat a v n).hok = d.hok := by
  induction n generalizing d a v with
  | zero => rfl
  | succ n ih => simp [Dev.setRegsNat, ih]
@[simp] theorem Dev.setRegsNat_dsp (a v n : Nat) : (d.setRegsNat a v n).dsp = d.dsp := by
  induction n generalizing d a v with
  | zero => rfl
  | succ n ih => simp [Dev.setRegsNat, ih]
@[simp] theorem Dev.setRegsNat_jbf (a v n : Nat) : (d.setRegsNat a v n).jbf = d.jbf := by
  induction n generalizing d a v with
  | zero => rfl
  | succ n ih => simp [Dev.setRegsNat, ih]
@[simp] theorem Dev.setRegsNat_cab (a v n : Nat) : (d.setRegsNat a v n).cab = d.cab := by
  induction n generalizing d a v with
  | zero => rfl
  | succ n ih => simp [Dev.setRegsNat, ih]
@[simp] theorem Dev.setRegsNat_field (a v n : Nat) : (d.setRegsNat a v n).field = d.field := by
  induction n generalizing d a v with
  | zero => rfl
  | succ n ih => simp [Dev.setRegsNat, ih]
@[simp] theorem Dev.setRegsNat_vde (a v n : Nat) : (d.setRegsNat a v n).vde = d.vde := by
  induction n generalizing d a v with
  | zero => rfl
  | succ n ih => simp [Dev.setRegsNat, ih]
@[simp] theorem Dev.setRegsNat_ven (a v n : Nat) : (d.setRegsNat a v n).ven = d.ven := by
  induction n generalizing d a v with
  | zero => rfl
  | succ n ih => simp [Dev.setRegsNat, ih]
@[simp] theorem Dev.setRegsNat_cmp (a v n : Nat) : (d.setRegsNat a v n).cmp = d.cmp := by
  induction n generalizing d a v with
  | zero => rfl
  | succ n ih => simp [Dev.setRegsNat, ih]
@[simp] theorem Dev.setRegsNat_dpo (a v n : Nat) : (d.setRegsNat a v n).dpo = d.dpo := by
  induction n generalizing d a v with
  | zero => rfl
  | succ n ih => simp [Dev.setRegsNat, ih]
@[simp] theorem Dev.setRegsNat_busy (a v n : Nat) : (d.setRegsNat a v n).busy = d.busy := by
  induction n generalizing d a v with
  | zero => rfl
  | succ n ih => simp [Dev.setRegsNat, ih]
@[simp] theorem Dev.setRegsNat_sqs (a v n : Nat) : (d.setRegsNat a v n).sqs = d.sqs := by
  induction n generalizing d a v with
  | zero => rfl
  | succ n ih => simp [Dev.setRegsNat, ih]
@[simp] theorem Dev.setRegsNat_nand (a v n : Nat) : (d.setRegsNat a v n).nand = d.nand := by
  induction n generalizing d a v with
  | zero => rfl
  | succ n ih => simp [Dev.setRegsNat, ih]
@[simp] theorem Dev.setRegsNat_nfc (a v n : Nat) : (d.setRegsNat a v n).nfc = d.nfc := by
  induction n generalizing d a v with
  | zero => rfl
  | succ n ih => simp [Dev.setRegsNat, ih]

/-! ### Registers after an update of another field -/

@[simp] theorem Dev.setSh_reg (a : Nat) (v : Word) (r : Nat) : (d.setSh a v).reg r = d.reg r := rfl
@[simp] theorem Dev.count64_reg (a k : Nat) (r : Nat) : (d.count64 a k).reg r = d.reg r := rfl
@[simp] theorem Dev.dramWrite_reg (a : Nat) (b : List Byte) (r : Nat) : (d.dramWrite a b).reg r = d.reg r := rfl
@[simp] theorem Dev.post_reg (x : Arrival) (r : Nat) : (d.post x).reg r = d.reg r := rfl
@[simp] theorem Dev.raise_reg (code inst dom : Nat) (args : List Byte) (r : Nat) : (d.raise code inst dom args).reg r = d.reg r := rfl
@[simp] theorem Dev.setTb_reg (k : Nat) (t : TimeBase) (r : Nat) : (d.setTb k t).reg r = d.reg r := rfl
@[simp] theorem Dev.lvWrite_reg (a : Nat) (v : Word) (r : Nat) : (d.lvWrite a v).reg r = d.reg r := rfl
@[simp] theorem Dev.lvDrop_reg (a : Nat) (r : Nat) : (d.lvDrop a).reg r = d.reg r := rfl

/-! ### TIM after an arrival -/

@[simp] theorem Dev.post_queue (x : Arrival) : (d.post x).tim.queue = d.tim.queue ++ [x] := rfl
@[simp] theorem Dev.post_reported (x : Arrival) : (d.post x).tim.reported = d.tim.reported := rfl
@[simp] theorem Dev.post_esn (x : Arrival) : (d.post x).tim.esn = d.tim.esn := rfl
@[simp] theorem Dev.raise_queue (code inst dom : Nat) (args : List Byte) :
    (d.raise code inst dom args).tim.queue = d.tim.queue ++ [.event code inst dom (severity code) (args10 args)] := rfl
@[simp] theorem Dev.raise_reported (code inst dom : Nat) (args : List Byte) :
    (d.raise code inst dom args).tim.reported = d.tim.reported := rfl

end Sys2Proof.Machine
end

