-- ==== Sys2Proof/Laws/Table.lean ====
section
/-! SUPPORT. Sparse tables: reads after writes, and that every operation keeps the canonical form. -/

namespace Sys2Proof.Machine

variable {α : Type}

theorem lookup_terase_self (m : Tbl α) (j : Nat) : lookup (terase m j) j = none := by
  induction m with
  | nil => rfl
  | cons p t ih =>
    obtain ⟨k, v⟩ := p
    by_cases h : k = j <;> simp [terase, lookup, h, ih]

theorem lookup_terase_ne (m : Tbl α) (j i : Nat) (h : i ≠ j) : lookup (terase m j) i = lookup m i := by
  induction m with
  | nil => rfl
  | cons p t ih =>
    obtain ⟨k, v⟩ := p
    by_cases hj : k = j
    · subst hj; simp [terase, lookup, ih, Ne.symm h]
    · by_cases hi : k = i
      · subst hi; simp [terase, lookup, hj]
      · simp [terase, lookup, hj, hi, ih]

theorem lookup_tinsert_ne (m : Tbl α) (j i : Nat) (v : α) (h : i ≠ j) : lookup (tinsert m j v) i = lookup m i := by
  induction m with
  | nil => simp [tinsert, lookup, Ne.symm h]
  | cons p t ih =>
    obtain ⟨k, u⟩ := p
    by_cases hj : j < k
    · simp [tinsert, lookup, hj, Ne.symm h]
    · by_cases hi : k = i
      · subst hi; simp [tinsert, lookup, hj]
      · simp [tinsert, lookup, hj, hi, ih]

theorem lookup_tinsert_self (m : Tbl α) (j : Nat) (v : α) (h : lookup m j = none) : lookup (tinsert m j v) j = some v := by
  induction m with
  | nil => simp [tinsert, lookup]
  | cons p t ih =>
    obtain ⟨k, u⟩ := p
    by_cases hk : k = j
    · simp [lookup, hk] at h
    · by_cases hj : j < k
      · simp [tinsert, lookup, hj]
      · simp [tinsert, lookup, hj, hk]
        exact ih (by simpa [lookup, hk] using h)

variable [DecidableEq α]

/-- A table reads back what was written. -/
@[simp] theorem tget_tput_self (dflt : Nat → α) (m : Tbl α) (j : Nat) (v : α) : tget dflt (tput dflt m j v) j = v := by
  unfold tget tput
  split
  · next h => rw [lookup_terase_self]; exact h.symm
  · rw [lookup_tinsert_self _ _ _ (lookup_terase_self m j)]; rfl

/-- A write leaves every other key alone. -/
theorem tget_tput_ne (dflt : Nat → α) (m : Tbl α) (j i : Nat) (v : α) (h : i ≠ j) :
    tget dflt (tput dflt m j v) i = tget dflt m i := by
  unfold tget tput
  split
  · rw [lookup_terase_ne m j i h]
  · rw [lookup_tinsert_ne _ _ _ _ h, lookup_terase_ne m j i h]

theorem wfFrom_mono (dflt : Nat → α) {lo lo' : Nat} (h : lo' ≤ lo) {m : Tbl α} (hm : wfFrom dflt lo m = true) :
    wfFrom dflt lo' m = true := by
  cases m with
  | nil => rfl
  | cons p t =>
    obtain ⟨k, v⟩ := p
    simp only [wfFrom, Bool.and_eq_true, decide_eq_true_eq] at hm ⊢
    exact ⟨⟨Nat.le_trans h hm.1.1, hm.1.2⟩, hm.2⟩

theorem wfFrom_terase (dflt : Nat → α) (j : Nat) {lo : Nat} {m : Tbl α} (hm : wfFrom dflt lo m = true) :
    wfFrom dflt lo (terase m j) = true := by
  induction m generalizing lo with
  | nil => rfl
  | cons p t ih =>
    obtain ⟨k, v⟩ := p
    simp only [wfFrom, Bool.and_eq_true, decide_eq_true_eq] at hm
    by_cases hk : k = j
    · simp only [terase, hk, if_true]
      exact wfFrom_mono dflt (Nat.le_succ_of_le (hk ▸ hm.1.1)) (hk ▸ ih hm.2)
    · simp only [terase, hk, if_false, wfFrom, Bool.and_eq_true, decide_eq_true_eq]
      exact ⟨hm.1, ih hm.2⟩

theorem wfFrom_tinsert (dflt : Nat → α) (j : Nat) (v : α) (hv : v ≠ dflt j) {lo : Nat} {m : Tbl α} (hlo : lo ≤ j)
    (hm : wfFrom dflt lo m = true) (hj : lookup m j = none) : wfFrom dflt lo (tinsert m j v) = true := by
  induction m generalizing lo with
  | nil => simp [tinsert, wfFrom, hlo, hv]
  | cons p t ih =>
    obtain ⟨k, u⟩ := p
    simp only [wfFrom, Bool.and_eq_true, decide_eq_true_eq] at hm
    have hk : k ≠ j := by
      intro e
      simp [lookup, e] at hj
    by_cases hlt : j < k
    · simp only [tinsert, hlt, if_true, wfFrom, Bool.and_eq_true, decide_eq_true_eq]
      exact ⟨⟨hlo, hv⟩, ⟨⟨hlt, hm.1.2⟩, hm.2⟩⟩
    · simp only [tinsert, hlt, if_false, wfFrom, Bool.and_eq_true, decide_eq_true_eq]
      exact ⟨hm.1, ih (by omega) hm.2 (by simpa [lookup, hk] using hj)⟩

/-- A write keeps a table canonical. -/
theorem Tbl.wf_tput (dflt : Nat → α) (m : Tbl α) (j : Nat) (v : α) (hm : Tbl.wf dflt m = true) :
    Tbl.wf dflt (tput dflt m j v) = true := by
  unfold tput Tbl.wf at *
  split
  · exact wfFrom_terase dflt j hm
  · next h => exact wfFrom_tinsert dflt j v h (Nat.zero_le j) (wfFrom_terase dflt j hm) (lookup_terase_self m j)

/-- Erasing a key keeps a table canonical. -/
theorem Tbl.wf_terase (dflt : Nat → α) (m : Tbl α) (j : Nat) (hm : Tbl.wf dflt m = true) :
    Tbl.wf dflt (terase m j) = true := wfFrom_terase dflt j hm

/-- Filtering keeps a table canonical. -/
theorem wfFrom_filter (dflt : Nat → α) (p : Nat × α → Bool) {lo : Nat} {m : Tbl α} (hm : wfFrom dflt lo m = true) :
    wfFrom dflt lo (m.filter p) = true := by
  induction m generalizing lo with
  | nil => rfl
  | cons q t ih =>
    obtain ⟨k, v⟩ := q
    simp only [wfFrom, Bool.and_eq_true, decide_eq_true_eq] at hm
    by_cases hp : p (k, v) = true
    · simp only [List.filter_cons, hp, if_true, wfFrom, Bool.and_eq_true, decide_eq_true_eq]
      exact ⟨hm.1, ih hm.2⟩
    · simp only [List.filter_cons, hp]
      exact wfFrom_mono dflt (Nat.le_succ_of_le hm.1.1) (ih hm.2)

/-- Two canonical tables with rising keys join. -/
theorem wfFrom_append (dflt : Nat → α) {lo mid : Nat} {m n : Tbl α} (hlo : lo ≤ mid) (hm : wfFrom dflt lo m = true)
    (hk : ∀ c ∈ m, c.1 < mid) (hn : wfFrom dflt mid n = true) : wfFrom dflt lo (m ++ n) = true := by
  induction m generalizing lo with
  | nil => exact wfFrom_mono dflt hlo hn
  | cons q t ih =>
    obtain ⟨k, v⟩ := q
    simp only [wfFrom, Bool.and_eq_true, decide_eq_true_eq, List.cons_append] at hm ⊢
    have hkm : k < mid := hk (k, v) (by simp)
    exact ⟨hm.1, ih hkm hm.2 (fun c hc => hk c (by simp [hc]))⟩

end Sys2Proof.Machine
end

