-- ==== Sys2Proof/Laws/Memory.lean ====
section
/-! SUPPORT. Memories: every operation keeps the canonical form, which memory has at reset. -/

namespace Sys2Proof.Machine

/-- Canonical form from an address on. -/
abbrev memFrom (lo : Nat) (m : List Host.Cell) : Bool := wfFrom (fun _ => (0 : Byte)) lo m

theorem blockCells_from (a : Nat) (l : List Byte) : memFrom a (blockCells a l) = true := by
  induction l generalizing a with
  | nil => rfl
  | cons b t ih =>
    by_cases hb : b = 0
    · rw [blockCells, if_pos hb]
      exact wfFrom_mono _ (Nat.le_succ a) (ih (a + 1))
    · rw [blockCells, if_neg hb]
      simp only [wfFrom, Bool.and_eq_true, decide_eq_true_eq]
      exact ⟨⟨Nat.le_refl a, hb⟩, ih (a + 1)⟩

theorem blockCells_lt (a : Nat) (l : List Byte) : ∀ c ∈ blockCells a l, a ≤ c.1 ∧ c.1 < a + l.length := by
  induction l generalizing a with
  | nil => simp [blockCells]
  | cons b t ih =>
    intro c hc
    by_cases hb : b = 0
    · rw [blockCells, if_pos hb] at hc
      have := ih (a + 1) c hc
      simp only [List.length_cons]; omega
    · rw [blockCells, if_neg hb] at hc
      simp only [List.mem_cons] at hc
      rcases hc with rfl | hc
      · simp
      · have := ih (a + 1) c hc
        simp only [List.length_cons]; omega

theorem cellsBelow_lt (m : List Host.Cell) (a : Nat) : ∀ c ∈ cellsBelow m a, c.1 < a := by
  intro c hc
  simpa using (List.mem_filter.mp hc).2

theorem cellsBelow_wf {lo a : Nat} {m : List Host.Cell} (hm : memFrom lo m = true) : memFrom lo (cellsBelow m a) = true :=
  wfFrom_filter _ _ hm

theorem cellsFrom_from {lo : Nat} (a : Nat) {m : List Host.Cell} (hm : memFrom lo m = true) : memFrom a (cellsFrom m a) = true := by
  induction m generalizing lo with
  | nil => rfl
  | cons q t ih =>
    obtain ⟨k, v⟩ := q
    simp only [wfFrom, Bool.and_eq_true, decide_eq_true_eq] at hm
    by_cases hk : a ≤ k
    · simp only [cellsFrom, List.filter_cons, hk, decide_true, if_true, wfFrom, Bool.and_eq_true, decide_eq_true_eq]
      exact ⟨⟨trivial, hm.1.2⟩, wfFrom_filter _ _ hm.2⟩
    · simpa [cellsFrom, hk] using ih hm.2

/-- A write keeps a memory canonical. -/
theorem Memory.wf_memWrite (m : List Host.Cell) (a : Nat) (bytes : List Byte) (hm : Memory.wf m = true) :
    Memory.wf (memWrite m a bytes) = true := by
  have hb : memFrom 0 (cellsBelow m a ++ blockCells a bytes) = true :=
    wfFrom_append _ (Nat.zero_le a) (cellsBelow_wf hm) (cellsBelow_lt m a) (blockCells_from a bytes)
  refine wfFrom_append _ (Nat.zero_le (a + bytes.length)) hb ?_ (cellsFrom_from _ hm)
  intro c hc
  rcases List.mem_append.mp hc with h | h
  · exact Nat.lt_of_lt_of_le (cellsBelow_lt m a c h) (Nat.le_add_right _ _)
  · exact (blockCells_lt a bytes c h).2

/-- Zeroing a block keeps a memory canonical. -/
theorem Memory.wf_memZero (m : List Host.Cell) (a n : Nat) (hm : Memory.wf m = true) : Memory.wf (memZero m a n) = true :=
  wfFrom_append _ (Nat.zero_le (a + n)) (cellsBelow_wf hm)
    (fun c hc => Nat.lt_of_lt_of_le (cellsBelow_lt m a c hc) (Nat.le_add_right _ _)) (cellsFrom_from _ hm)

/-- Every memory is canonical at reset. -/
theorem reset_memories : Memory.wf State.reset.dev.dram = true ∧ Memory.wf State.reset.dev.sram = true ∧
    Memory.wf State.reset.dev.hst.hostMem = true := ⟨rfl, rfl, rfl⟩

/-- A DRAM write keeps device DRAM canonical. -/
theorem Dev.dramWrite_wf (d : Dev) (a : Nat) (bytes : List Byte) (hd : Memory.wf d.dram = true) :
    Memory.wf (d.dramWrite a bytes).dram = true := Memory.wf_memWrite d.dram a bytes hd

end Sys2Proof.Machine
end

