-- ==== Sys2Proof/Laws/Settle.lean ====
section
/-! SUPPORT. What reporting can do: the issue of ESNs (R64) touches TIM's queue and records, the host's memory and messages, the
logs, Hook's completion queues, descriptors' ESNs and their registers, and leaves every other block as it was. -/

namespace Sys2Proof.Machine

/-- `e` differs from `d` at most in what reporting touches. Registers of blocks 0 to 3 keep their values. -/
structure Reported (d e : Dev) : Prop where
  shadow : e.shadow = d.shadow
  hiLatch : e.hiLatch = d.hiLatch
  sram : e.sram = d.sram
  pat : e.pat = d.pat
  sec : e.sec = d.sec
  sys : e.sys = d.sys
  net : e.net = d.net
  cls : e.cls = d.cls
  ing : e.ing = d.ing
  cip : e.cip = d.cip
  fwd : e.fwd = d.fwd
  leg : e.leg = d.leg
  egs : e.egs = d.egs
  dsp : e.dsp = d.dsp
  jbf : e.jbf = d.jbf
  cab : e.cab = d.cab
  field : e.field = d.field
  vde : e.vde = d.vde
  ven : e.ven = d.ven
  cmp : e.cmp = d.cmp
  dpo : e.dpo = d.dpo
  busy : e.busy = d.busy
  sqs : e.sqs = d.sqs
  nand : e.nand = d.nand
  nfc : e.nfc = d.nfc
  tim : e.tim = { d.tim with queue := e.tim.queue, esn := e.tim.esn, reported := e.tim.reported, low := e.tim.low,
                             pastLimit := e.tim.pastLimit }
  hst : e.hst = { d.hst with hostMem := e.hst.hostMem, unsig := e.hst.unsig, msgs := e.hst.msgs, pba := e.hst.pba }
  hok : e.hok = { d.hok with cq := e.hok.cq, cqMark := e.hok.cqMark }
  dmc : e.dmc = { d.dmc with denyMark := e.dmc.denyMark }
  bpm : e.bpm = { d.bpm with descs := e.bpm.descs }
  reg : ∀ a, a < 0x400000 → e.reg a = d.reg a

namespace Reported

variable {d e f : Dev}

theorem refl (d : Dev) : Reported d d := by constructor <;> intros <;> rfl

theorem trans (h : Reported d e) (k : Reported e f) : Reported d f where
  shadow := k.shadow.trans h.shadow
  hiLatch := k.hiLatch.trans h.hiLatch
  sram := k.sram.trans h.sram
  pat := k.pat.trans h.pat
  sec := k.sec.trans h.sec
  sys := k.sys.trans h.sys
  net := k.net.trans h.net
  cls := k.cls.trans h.cls
  ing := k.ing.trans h.ing
  cip := k.cip.trans h.cip
  fwd := k.fwd.trans h.fwd
  leg := k.leg.trans h.leg
  egs := k.egs.trans h.egs
  dsp := k.dsp.trans h.dsp
  jbf := k.jbf.trans h.jbf
  cab := k.cab.trans h.cab
  field := k.field.trans h.field
  vde := k.vde.trans h.vde
  ven := k.ven.trans h.ven
  cmp := k.cmp.trans h.cmp
  dpo := k.dpo.trans h.dpo
  busy := k.busy.trans h.busy
  sqs := k.sqs.trans h.sqs
  nand := k.nand.trans h.nand
  nfc := k.nfc.trans h.nfc
  tim := by rw [k.tim, h.tim]
  hst := by rw [k.hst, h.hst]
  hok := by rw [k.hok, h.hok]
  dmc := by rw [k.dmc, h.dmc]
  bpm := by rw [k.bpm, h.bpm]
  reg := fun a ha => (k.reg a ha).trans (h.reg a ha)

end Reported

theorem Dev.setReg_reported (d : Dev) (a : Nat) (v : Word) (h : 0x400000 ≤ a) : Reported d (d.setReg a v) := by
  constructor
  case reg => intro b hb; exact tget_tput_ne regReset d.regs a b v (by omega)
  all_goals rfl

theorem Dev.setFld_reported (d : Dev) (a hi lo v : Nat) (h : 0x400000 ≤ a) : Reported d (d.setFld a hi lo v) :=
  d.setReg_reported a _ h

theorem Dev.setBit_reported (d : Dev) (a i : Nat) (b : Bool) (h : 0x400000 ≤ a) : Reported d (d.setBit a i b) :=
  d.setReg_reported a _ h

theorem Dev.count_reported (d : Dev) (a k : Nat) (h : 0x400000 ≤ a) : Reported d (d.count a k) := d.setReg_reported a _ h

theorem Dev.setRegsNat_reported (d : Dev) (a v n : Nat) (h : 0x400000 ≤ a) : Reported d (d.setRegsNat a v n) := by
  induction n generalizing d a v with
  | zero => exact Reported.refl d
  | succ n ih => exact (d.setReg_reported a _ h).trans (ih _ _ _ (by omega))

theorem Dev.count64_reported (d : Dev) (a k : Nat) : Reported d (d.count64 a k) := by constructor <;> intros <;> rfl

theorem Dev.post_reported_frame (d : Dev) (x : Arrival) : Reported d (d.post x) := by constructor <;> intros <;> rfl

theorem Dev.raise_reported_frame (d : Dev) (code inst dom : Nat) (args : List Byte) : Reported d (d.raise code inst dom args) :=
  d.post_reported_frame _

theorem Dev.forEach_reported {α : Type} (f : Dev → α → Dev) (hf : ∀ d x, Reported d (f d x)) (d : Dev) (l : List α) :
    Reported d (d.forEach l f) := by
  induction l generalizing d with
  | nil => exact Reported.refl d
  | cons x t ih => exact (hf d x).trans (ih (f d x))

/-- LV writes that wait for a register of reporting take effect. -/
theorem Dev.lvTake_reported (d : Dev) (r : Nat) (h : 0x400000 ≤ r) : Reported d (d.lvTake (fun a => a == r)) := by
  unfold Dev.lvTake
  have key : ∀ (l : Tbl Word) (e : Dev), (∀ c ∈ l, c.1 = r) → Reported e (e.forEach l (fun d e => d.lvApply e.1 e.2)) := by
    intro l
    induction l with
    | nil => intro e _; exact Reported.refl e
    | cons c t ih =>
      intro e hl
      have hc : c.1 = r := hl c (by simp)
      exact (e.setReg_reported c.1 _ (by omega)).trans (ih _ (fun x hx => hl x (by simp [hx])))
  refine Reported.trans (e := { d with lv := d.lv.filter (fun e => !(e.1 == r)) }) ?_ (key _ _ ?_)
  · constructor <;> intros <;> rfl
  · intro c hc
    simpa using (List.mem_filter.mp hc).2

theorem Dev.swt_reported (d : Dev) (x : Swt) : Reported d { d with swt := x } := by constructor <;> intros <;> rfl

theorem Dev.message_reported (d : Dev) (fn vec : Nat) : Reported d (d.message fn vec) := by
  unfold Dev.message
  split
  · exact Reported.refl d
  · split <;> (constructor <;> intros <;> rfl)

theorem Dev.countLines_reported (d : Dev) (lo : Nat → Nat) (a n : Nat) : Reported d (d.countLines lo a n) :=
  Dev.forEach_reported _ (fun d _ => d.count64_reported _ _) d _

theorem Dev.dramReport_reported (d : Dev) (kind port dom a : Nat) : Reported d (d.dramReport kind port dom a) := by
  unfold Dev.dramReport
  dsimp only
  split
  · exact Reported.refl d
  · exact Reported.trans (e := { d with dmc := { d.dmc with denyMark := addMark d.dmc.denyMark (16 * kind + port) } })
      (by constructor <;> intros <;> rfl) (Dev.raise_reported_frame _ _ _ _ _)

theorem Dev.dramPut_reported (d : Dev) (port dom a : Nat) (b : List Byte) : Reported d (d.dramPut port dom a b) := by
  unfold Dev.dramPut
  dsimp only
  split
  · exact Reported.trans (e := d.dramWrite a b) (by constructor <;> intros <;> rfl) (Dev.countLines_reported _ _ _ _)
  · exact d.dramReport_reported _ _ _ _

theorem Dev.ringSignal_reported (d : Dev) (k : Nat) : Reported d (d.ringSignal k) := by
  unfold Dev.ringSignal
  dsimp only
  split
  · exact Reported.trans (e := { d with hst := { d.hst with unsig := tset 0 d.hst.unsig k 0 } })
      (by constructor <;> intros <;> rfl) (Dev.message_reported _ _ _)
  · exact Reported.refl d

theorem Dev.ringWrite_reported (d : Dev) (k esnAt : Nat) (bytes : List Byte) (esn : Nat) :
    Reported d (d.ringWrite k esnAt bytes esn) := by
  unfold Dev.ringWrite
  refine (d.lvTake_reported (Reg.HST_RING_COAL (k / 16) (k % 16)) (by simp only [Reg.HST_RING_COAL]; omega)).trans ?_
  refine Reported.trans ?_ (Dev.ringSignal_reported _ _)
  refine Reported.trans ?_ (Dev.setReg_reported _ (rDev k) _ (by simp only [rDev, Reg.HST_RING_DEV]; omega))
  constructor <;> intros <;> rfl

theorem Dev.logSignal_reported (d : Dev) (x : Nat) : Reported d (d.logSignal x) := by
  unfold Dev.logSignal
  split
  · exact Reported.trans (e := { d with swt := { d.swt with unsig := tset 0 d.swt.unsig x 0 } })
      (by constructor <;> intros <;> rfl) (Dev.message_reported _ _ _)
  · exact Reported.refl d

theorem Dev.logWrite_reported (d : Dev) (x : Nat) (r : EventRec) : Reported d (d.logWrite x r) := by
  unfold Dev.logWrite
  refine (d.lvTake_reported (Reg.SWT_LOG_COAL x) (by simp only [Reg.SWT_LOG_COAL]; omega)).trans ?_
  dsimp only
  split
  · refine Reported.trans ?_ (Dev.count_reported _ (Reg.SWT_LOG_LOST x) _ (by simp only [Reg.SWT_LOG_LOST]; omega))
    constructor <;> intros <;> rfl
  · refine Reported.trans ?_ (Dev.logSignal_reported _ _)
    exact (Dev.dramPut_reported _ _ _ _ _).trans
      ((Dev.setReg_reported _ (Reg.SWT_LOG_WR x) _ (by simp only [Reg.SWT_LOG_WR]; omega)).trans (Dev.swt_reported _ _))

theorem Dev.logRecord_reported (d : Dev) (r : EventRec) : Reported d (d.logRecord r) := by
  unfold Dev.logRecord
  refine Dev.forEach_reported _ (fun d x => ?_) d _
  split
  · exact d.logWrite_reported x r
  · exact Reported.refl d

theorem Dev.fire_reported (d : Dev) (src : Nat) : Reported d (d.fire src) := by
  unfold Dev.fire
  dsimp only
  split
  · exact Reported.refl d
  · split
    · refine (d.count_reported Reg.SWT_TRIG_LOST 1 (by decide)).trans ?_
      split
      · exact Reported.refl _
      · exact Reported.trans (Dev.swt_reported _ _) (Dev.raise_reported_frame _ _ _ _ _)
    · have h : ∀ e : Dev, Reported e (if wbit (d.reg Reg.SWT_CTL) 7 then e.setBit Reg.SWT_CTL 6 false else e) := by
        intro e
        split
        · exact e.setBit_reported Reg.SWT_CTL 6 false (by decide)
        · exact Reported.refl e
      exact Reported.trans ((d.setReg_reported Reg.SWT_STAT _ (by decide)).trans (h _)) (Dev.swt_reported _ _)

theorem Dev.tim_reported (d : Dev) (q : List Arrival) (e : Nat) (r : List EventRec) (b c : Bool) :
    Reported d { d with tim := { d.tim with queue := q, esn := e, reported := r, low := b, pastLimit := c } } := by
  constructor <;> intros <;> rfl

theorem Dev.hok_reported (d : Dev) (q : Tbl (List (List Byte))) (m : List Nat) :
    Reported d { d with hok := { d.hok with cq := q, cqMark := m } } := by constructor <;> intros <;> rfl

theorem Dev.cnt_reported (d : Dev) (c : Tbl Nat) : Reported d { d with cnt := c } := by constructor <;> intros <;> rfl

theorem Dev.record_reported (d : Dev) (r : EventRec) : Reported d (d.record r) := by constructor <;> intros <;> rfl

theorem Dev.esnNext_reported (d : Dev) : Reported d d.esnNext := by constructor <;> intros <;> rfl

theorem Dev.swatchStamp_reported (d : Dev) (esn time : Nat) : Reported d (d.swatchStamp esn time) := d.cnt_reported _

theorem Dev.issueRecord_reported (d : Dev) (r : EventRec) : Reported d (d.issueRecord r) := by
  unfold Dev.issueRecord
  dsimp only
  refine ((d.record_reported r).trans (Dev.logRecord_reported _ r)).trans ?_
  split
  · exact Dev.fire_reported _ _
  · exact Reported.refl _

theorem Dev.swatchDone_reported (d : Dev) (esn time : Nat) : Reported d (d.swatchDone esn time) := by
  unfold Dev.swatchDone
  dsimp only
  refine Reported.trans ((((d.setBit_reported Reg.SWT_STAT 31 false (by decide)).trans
    (Dev.count_reported _ Reg.SWT_COUNT 1 (by decide))).trans (Dev.swatchStamp_reported _ esn time)).trans
      (Dev.record_reported _ _)) (Dev.forEach_reported _ (fun d x => ?_) _ _)
  split
  · exact d.logWrite_reported x _
  · exact Reported.refl d

theorem Dev.cqSet_reported (d : Dev) (dom : Nat) (l : List (List Byte)) : Reported d (d.cqSet dom l) := by
  unfold Dev.cqSet
  exact (Dev.hok_reported d _ d.hok.cqMark).trans ((Dev.setFld_reported _ _ _ _ _ (by simp only [Reg.HOK_CQ_STAT]; omega)).trans
      (Dev.setRegsNat_reported _ _ _ _ (by simp only [Reg.HOK_CQ]; omega)))

theorem Dev.cqPush_reported (d : Dev) (dom : Nat) (bytes : List Byte) : Reported d (d.cqPush dom bytes) := by
  unfold Dev.cqPush
  dsimp only
  split
  · exact d.cqSet_reported _ _
  · have h1 : Reported d ((d.count Reg.HOK_CQ_LOST).setBit (Reg.HOK_CQ_STAT dom) 31 true) :=
      (d.count_reported _ _ (by decide)).trans (Dev.setBit_reported _ _ _ _ (by simp only [Reg.HOK_CQ_STAT]; omega))
    split
    · exact h1
    · exact h1.trans ((Dev.hok_reported _ _ _).trans (Dev.raise_reported_frame _ _ _ _ _))

theorem Dev.esnWatch_reported (d : Dev) : Reported d d.esnWatch := by
  have h : ∀ e : Dev, Reported e (if e.tim.pastLimit && decide (e.tim.limit ≤ e.tim.esn) then
      { e with tim := { e.tim with pastLimit := false } }.raise Ev.ESN_RESV_OVER 0 else e) := by
    intro e
    split
    · constructor <;> intros <;> rfl
    · exact Reported.refl e
  unfold Dev.esnWatch
  dsimp only
  refine Reported.trans ?_ (h _)
  split
  · constructor <;> intros <;> rfl
  · exact Reported.refl d

theorem Dev.stampChain_reported (d : Dev) (id esn : Nat) : Reported d (d.stampChain id esn) := by
  unfold Dev.stampChain
  dsimp only
  split
  · exact Reported.refl d
  · constructor <;> intros <;> rfl

theorem Dev.deliverNew_reported (d : Dev) (x : Arrival) : Reported d (d.deliverNew x) := by
  unfold Dev.deliverNew
  refine Reported.trans (d.esnNext_reported.trans ?_) (Dev.esnWatch_reported _)
  cases x with
  | event code inst dom sev args => exact Dev.issueRecord_reported _ _
  | packet p chain =>
    cases chain with
    | none => exact Reported.refl _
    | some id => exact Dev.stampChain_reported _ _ _
  | ring k at_ bytes c =>
    dsimp only
    split
    · exact Dev.ringWrite_reported _ _ _ _ _
    · exact Reported.refl _
  | cq dom bytes => exact Dev.cqPush_reported _ _ _
  | swatch => exact Dev.swatchDone_reported _ _ _

theorem Dev.deliver_reported (d : Dev) (x : Arrival) : Reported d (d.deliver x) := by
  unfold Dev.deliver
  split
  · split
    · exact Dev.ringWrite_reported _ _ _ _ _
    · exact Reported.refl d
  · exact d.deliverNew_reported x

theorem Dev.issue_reported (d : Dev) (n : Nat) : Reported d (d.issue n) := by
  induction n generalizing d with
  | zero => exact Reported.refl d
  | succ n ih =>
    unfold Dev.issue
    split
    · exact Reported.refl d
    · next x t _ =>
      refine Reported.trans (e := { d with tim := { d.tim with queue := t } }) ?_
        ((Dev.deliver_reported _ x).trans (ih _))
      constructor <;> intros <;> rfl

/-- The end of a command's clock changes nothing but what reporting touches. -/
theorem Dev.settle_reported (d : Dev) (old : Nat) : Reported d (d.settle old) := by
  unfold Dev.settle
  dsimp only
  split
  · refine Reported.trans ?_ (Dev.issue_reported _ 4)
    constructor <;> intros <;> rfl
  · constructor <;> intros <;> rfl

/-- A command that runs an effect answers a next state whose device differs from the effect's only in what reporting touches,
and whose queue of commands is the same. -/
theorem State.run_next (s : State) (f : Dev → Dev) :
    ∃ t, s.run f = .next t ∧ t.pending = s.pending ∧ Reported (f s.dev) t.dev :=
  ⟨_, rfl, rfl, Dev.settle_reported _ _⟩

end Sys2Proof.Machine
end

