-- ==== Sys2Proof/WellFormed.lean ====
section
/-! DEFINITION. Which commands are well formed: what the manual's formats admit beyond the operands' types. -/

namespace Sys2Proof

/-- Cast-on has eleven steps (R396). -/
def bootOk (b : BootEnv) : Bool := b.steps.length == 11

/-- A command descriptor of a row, or one with a reserved OP (Table 20-3): DATA is 12 words, or the words a DMA_WRITE
fetches. -/
def descOk (op : Nat) (x : CmdDesc) : Bool :=
  (x.op.toNat == op || [0, 6, 7].contains x.op.toNat) && bootOk x.boot &&
    (if op = 4 then x.data.length == (if x.count.toNat = 0 then 65536 else x.count.toNat) else x.data.length == 12)

/-- An injection descriptor of a row, or one with the reserved KIND (Table 20-4). -/
def injectOk (kind : Nat) (x : InjDesc) : Bool :=
  (x.kind.toNat == kind || x.kind.toNat == 3) && decide (x.frame.length < 2 ^ 16)

/-- A BAR2 access lies within the largest window (R343). -/
def bar2Ok : Bar2Op → Bool
  | .write off b => decide (off + b.length ≤ 2 ^ 36)
  | .read off n => decide (off + n ≤ 2 ^ 36)

/-- A command that the manual's formats admit. -/
def wellFormed : Instr → Bool
  | .registerWrite _ addr width _ boot => decide (addr < 2 ^ 26) && [1, 2, 4, 8].contains width && bootOk boot
  | .loLatchRead _ addr => decide (addr < 2 ^ 26)
  | .esnQueuedIssue => true
  | .rowTick => true
  | .roundTick => true
  | .updateTick => true
  | .tbLatchRead .. => true
  | .tbStep .. => true
  | .tbPhaseWrite .. => true
  | .lockIndWrite .. => true
  | .tbMasterLost .. => true
  | .tickCtlWrite .. => true
  | .esnResvWrite .. => true
  | .txtsPop .. => true
  | .portEnable .. => true
  | .portDisable .. => true
  | .retrain .. => true
  | .trainingComplete .. => true
  | .trainFail .. => true
  | .linkUp .. => true
  | .noLockTimeout .. => true
  | .linkDown .. => true
  | .remoteFault .. => true
  | .remoteFaultClear .. => true
  | .frameReceived _ f => decide (f.bytes.length < 2 ^ 16)
  | .pauseExpiry .. => true
  | .pfcFrameSend .. => true
  | .pfcRepeat .. => true
  | .clsInsert .. => true
  | .clsDelete .. => true
  | .clsReplace .. => true
  | .clsLookup .. => true
  | .hashKeyWrite .. => true
  | .polRead .. => true
  | .polWriteCfg .. => true
  | .polWriteAll .. => true
  | .keyInstall .. => true
  | .keyErase .. => true
  | .keyReadStat .. => true
  | .keyRelease .. => true
  | .indexRead .. => true
  | .indexSet .. => true
  | .derivationDone .. => true
  | .tagVerdict .. => true
  | .lateVerdict .. => true
  | .fwdWalkResume .. => true
  | .allocRequest _ reqs => decide (reqs.length ≤ 64)
  | .cacheRefill .. => true
  | .chainShare .. => true
  | .chainDrop .. => true
  | .chainFree .. => true
  | .bpmCmdAlloc .. => true
  | .bpmCmdShare .. => true
  | .bpmCmdDrop .. => true
  | .bpmCmdFree .. => true
  | .bpmCmdRead .. => true
  | .taskSubmit .. => true
  | .subCmdGo .. => true
  | .take .. => true
  | .give .. => true
  | .giveY .. => true
  | .sweepEnd => true
  | .cqPop .. => true
  | .mpy _ _ _ _ _ rest => decide (rest.length ≤ 3)
  | .mac _ _ _ _ _ rest => decide (rest.length ≤ 3)
  | .msu _ _ _ _ _ rest => decide (rest.length ≤ 3)
  | .clr _ _ rest => decide (rest.length ≤ 3)
  | .accShift _ _ _ rest => decide (rest.length ≤ 3)
  | .accAdd _ _ _ rest => decide (rest.length ≤ 3)
  | .aluAdd _ _ _ _ rest => decide (rest.length ≤ 3)
  | .aluSub _ _ _ _ rest => decide (rest.length ≤ 3)
  | .aluCompare _ _ _ rest => decide (rest.length ≤ 3)
  | .aluMin _ _ _ _ rest => decide (rest.length ≤ 3)
  | .aluMax _ _ _ _ rest => decide (rest.length ≤ 3)
  | .aluAbs _ _ _ rest => decide (rest.length ≤ 3)
  | .aluAnd _ _ _ _ rest => decide (rest.length ≤ 3)
  | .aluOr _ _ _ _ rest => decide (rest.length ≤ 3)
  | .aluXor _ _ _ _ rest => decide (rest.length ≤ 3)
  | .aluMov _ _ _ rest => decide (rest.length ≤ 3)
  | .aluAdd2 _ _ _ _ rest => decide (rest.length ≤ 3)
  | .aluSub2 _ _ _ _ rest => decide (rest.length ≤ 3)
  | .barrelShift _ _ _ _ _ rest => decide (rest.length ≤ 3)
  | .ext _ _ _ _ rest => decide (rest.length ≤ 3)
  | .ext2 _ _ _ _ rest => decide (rest.length ≤ 3)
  | .exp _ _ _ _ rest => decide (rest.length ≤ 3)
  | .extN _ _ _ _ rest => decide (rest.length ≤ 3)
  | .dspLoad _ _ _ _ _ _ rest => decide (rest.length ≤ 3)
  | .dspStore _ _ _ _ _ _ rest => decide (rest.length ≤ 3)
  | .ldi _ _ _ rest => decide (rest.length ≤ 3)
  | .ldih _ _ _ rest => decide (rest.length ≤ 3)
  | .regMove _ _ _ _ _ rest => decide (rest.length ≤ 3)
  | .pmov _ _ _ _ rest => decide (rest.length ≤ 3)
  | .xadd _ _ _ _ _ rest => decide (rest.length ≤ 3)
  | .jmp .. => true
  | .call .. => true
  | .ret .. => true
  | .br .. => true
  | .loop .. => true
  | .lpop .. => true
  | .rti .. => true
  | .post .. => true
  | .fence .. => true
  | .cinv .. => true
  | .nop .. => true
  | .cycMatch .. => true
  | .interruptEntry .. => true
  | .mdct .. => true
  | .imdct .. => true
  | .rcDecode .. => true
  | .rcEncode .. => true
  | .pvqDecode .. => true
  | .pvqSearch .. => true
  | .convert .. => true
  | .setRatio .. => true
  | .asrcReset .. => true
  | .toBuf .. => true
  | .fromBuf .. => true
  | .copyAlloc .. => true
  | .copyFree .. => true
  | .copyDrop .. => true
  | .unitDone .. => true
  | .coreHalt .. => true
  | .coreResume .. => true
  | .coreStep .. => true
  | .coreRelease .. => true
  | .regdataAccess .. => true
  | .memDataAccess .. => true
  | .dspBreak .. => true
  | .jbfReadActive .. => true
  | .jbfReadShadow .. => true
  | .jbfWriteCfg .. => true
  | .jbfWriteLive .. => true
  | .jbfReset .. => true
  | .cableMixStart => true
  | .swapReq .. => true
  | .swapAccept => true
  | .swapCancel .. => true
  | .swapAck => true
  | .swapAckTimeout => true
  | .swapDone .. => true
  | .genReport => true
  | .splitMute => true
  | .loadStart .. => true
  | .loadResume => true
  | .loadDone => true
  | .cmpCommit .. => true
  | .cgEnable .. => true
  | .cgDisable .. => true
  | .cgAck .. => true
  | .cgLost .. => true
  | .cgEdgesResume .. => true
  | .cgRateChange .. => true
  | .cgStable .. => true
  | .cgGlitch .. => true
  | .loopHold .. => true
  | .loopLock .. => true
  | .gaugeWindow _ _ span => decide (0 < span)
  | .tickCopy => true
  | .linkCrc .. => true
  | .fldLinkDown .. => true
  | .fldLinkUp => true
  | .decodeStart .. => true
  | .decodeEnd .. => true
  | .vdePicLost .. => true
  | .vdeReadActive .. => true
  | .vdeReadShadow .. => true
  | .vdeWriteCfg .. => true
  | .vdeWriteLive .. => true
  | .vdeReset .. => true
  | .encBandStart .. => true
  | .encodeDone .. => true
  | .venReadActive .. => true
  | .venReadShadow .. => true
  | .venWriteCfg .. => true
  | .venWriteLive .. => true
  | .venReset .. => true
  | .cacheRebuild .. => true
  | .cmpFrameDone .. => true
  | .dpoEnable .. => true
  | .dpoDisable .. => true
  | .dpoRetrain .. => true
  | .dpoHpd .. => true
  | .hpdLow .. => true
  | .dpoLinkUp .. => true
  | .dpoTrainFail .. => true
  | .trainRetry .. => true
  | .hpdIrq .. => true
  | .vblank .. => true
  | .dpoUnderflow .. => true
  | .auxNativeRead .. => true
  | .auxNativeWrite .. => true
  | .auxI2cRead .. => true
  | .auxI2cWrite .. => true
  | .auxReply _ _ bytes => decide (bytes.length ≤ 16)
  | .auxDeferRetry .. => true
  | .auxTimeout .. => true
  | .tilePictureLost .. => true
  | .sqsFrameDone .. => true
  | .sqsReadActive .. => true
  | .sqsReadShadow .. => true
  | .sqsWriteCfg .. => true
  | .sqsWriteLive .. => true
  | .sqsReset .. => true
  | .subRead .. => true
  | .subWrite .. => true
  | .subWant .. => true
  | .subDisable .. => true
  | .srcRead .. => true
  | .srcWrite .. => true
  | .legReadActive .. => true
  | .legReadShadow .. => true
  | .legWriteCfg .. => true
  | .legWriteLive .. => true
  | .legSuspend .. => true
  | .legResume .. => true
  | .dequeueDecision .. => true
  | .frameTxEnd .. => true
  | .gateChange .. => true
  | .gateChanged .. => true
  | .egsFlush .. => true
  | .dramRequest .. => true
  | .refreshDue .. => true
  | .mr4Poll .. => true
  | .delayUpdate .. => true
  | .dmcPanicLong .. => true
  | .nfcMount .. => true
  | .nfcOpen .. => true
  | .nfcClose .. => true
  | .readTrack .. => true
  | .readUnit .. => true
  | .appendHouse .. => true
  | .nfcRelease .. => true
  | .nfcFormat .. => true
  | .nfcFormatDone .. => true
  | .pageProgramDone .. => true
  | .eraseDone .. => true
  | .padFill => true
  | .checkpoint => true
  | .patrol .. => true
  | .refreshDone .. => true
  | .doorbellPi .. => true
  | .doorbellLimit _ _ _ _ entries => decide (entries.length ≤ 2 ^ 16)
  | .cmdWrite _ _ desc => descOk 1 desc
  | .cmdRead _ _ desc => descOk 2 desc
  | .cmdWait _ _ desc => descOk 3 desc
  | .waitPoll .. => true
  | .cmdDmaWrite _ _ desc => descOk 4 desc
  | .cmdNop _ _ desc => descOk 5 desc
  | .injectRaw _ _ desc => injectOk 0 desc
  | .injectSrtcp _ _ desc => injectOk 1 desc
  | .injectRtp _ _ desc => injectOk 2 desc
  | .msixCoalTimeout .. => true
  | .dmaErr .. => true
  | .ringEnWrite .. => true
  | .hstFlr .. => true
  | .hstLink .. => true
  | .bar2Access _ op => bar2Ok op
  | .lcCmd _ _ boot => bootOk boot
  | .otpRead .. => true
  | .otpProgram .. => true
  | .floorCmd .. => true
  | .revoke .. => true
  | .dbgChallenge .. => true
  | .challengeExpiry => true
  | .dbgUnlock .. => true
  | .dbgSet .. => true
  | .bindCmd .. => true
  | .secDomBound => true
  | .rngRead .. => true
  | .secRngFail => true
  | .secMonTrip _ boot => bootOk boot
  | .swtTrig .. => true
  | .swatchInEdge .. => true
  | .timeMatch => true
  | .debugTrigger => true
  | .swtSwatch => true
  | .logRdWrite .. => true
  | .logEnWrite .. => true
  | .powerOnReset boot => bootOk boot
  | .resetPin => true
  | .thermalTrip => true
  | .rstCmdCold _ _ boot => bootOk boot
  | .rstCmdWarm _ _ boot => bootOk boot
  | .pciePerst boot => bootOk boot
  | .pcieHotReset boot => bootOk boot
  | .pfFlr boot => bootOk boot
  | .sysPush _ _ boot => bootOk boot
  | .pwrCmdP0 .. => true
  | .pwrCmdP1 .. => true
  | .pwrCmdP2 .. => true
  | .pwrCmdP3 .. => true
  | .pfD3hot => true
  | .wake .. => true
  | .sysPwrDone => true
  | .sysRefLost .. => true
  | .sysTempWarn .. => true
  | .cgFrameStart _ _ _ slots => decide (slots.length ≤ 128)
  | .dramCommandSlot .. => true
  | .rngValidRestored => true
  | .resetNRelease boot => bootOk boot
  | .thermalTripEnd boot => bootOk boot
  | .busMasterEnable .. => true

end Sys2Proof
end

