-- ==== Sys2Proof/Tests/Slice0.lean ====
section
/-! SUPPORT. Tests of the model's author: small states, ill-formed commands that the checks refuse, single commands with results
taken from the manual, and states that meet the hypotheses of the obligations. -/

set_option maxRecDepth 100000

open Sys2Proof.Machine

namespace Sys2Proof.Tests

/-! ### Small states -/

/-- An access of SD0 by a DSP core. -/
def sd : Access := ⟨0, 44, 16, false⟩

/-- Core 0 as requester, an SD0 agent. -/
def q0 : Requester := .core 0

/-- The device at its reset values. -/
def dv : Dev := {}

/-- A state with an empty queue. -/
def st (d : Dev) : State := ⟨d, []⟩

/-- The device after READY. -/
def up : Dev := dv.setBit Reg.SYS_CASTON 31 true

/-- A packet. -/
def pkt : Packet := ⟨7, 0, 0, 0, 0, 0, 0, false, false, 0, 0, 0, 0, 0, 0, false, true, 0, 0, false, 64, 0, none, false, [], [], []⟩

/-- A frame on the wire. -/
def txf : TxFrame := ⟨⟨9, 1, 64, none, none, none, false, 0, none, false, some 7, none, none⟩, 0, false⟩

/-- A device whose pools hold one chain. -/
def chain (h : Desc) : Dev := { dv with bpm := { descs := [(9, h)] } }

/-- A device with a staged flow record. -/
def flow : Dev := dv.setReg (Reg.CLS_CMD_REC 0 7) 0x40000000

/-- The same with every slot of the two candidates taken. -/
def flowFull : Dev :=
  { flow with cls := { ways := (flow.slots (recKey (2 ^ 254)) ++ flow.slots (recKey (2 ^ 254 + 1))).map (fun i => (i, 2 ^ 254 + 1)) } }

/-- A device in which core 95 is as given. -/
def oneCore (c : Core) : Dev := { dv with dsp := { cores := [(95, c)] } }

/-- Core 95 runs with its pointers in a shared-memory region of its own. -/
def shared : Dev :=
  ((oneCore { state := 1, task := some 0, regs := (List.range 8).map (fun i => (0x20 + i, 0x200000)) }).setReg
    (Reg.DSP_SHM_RGN_ADDR 5 0) 0x10000).setReg (Reg.DSP_SHM_RGN_GRP 5 0) 0xFFF0000

/-- A device in which a ring of the physical function and its completion ring are on. -/
def ringsOn (k : Nat) : Dev :=
  ((((({ dv with hst := { bme := [(0, 1)] } }.setReg Reg.HST_LINK_STAT 0x11).setReg (rCfg k) 0x80000000).setReg (rHost k) 1).setReg
    (rCfg (completionRing k)) 0x80000000).setReg (rHost (completionRing k)) 4)

/-- Controller 0 is trained. -/
def dram : Dev := dv.setFld (Reg.DMC_STAT 0) 1 0 2

/-- And its capacity is known. -/
def dramBig : Dev := (dram.setBit (Reg.DMC_CFG 0) 31 true).setReg (Reg.HST_VF_WIN_HI 15) 0

/-- A READY store and a staged OPEN. -/
def opening : Dev := ((((dv.setFld Reg.NFC_STAT 2 0 2).setReg (Reg.NFC_REC 0 0) 1).setReg (Reg.NFC_REC 0 2) 5).setReg (Reg.NFC_REC 0 3)
  9).setBit (Reg.FLD_IN_SLOT 0) 30 true

/-- A cast-on that meets no image. -/
def boot : BootEnv := ⟨none, true, [], true, List.replicate 11 1000, 0, 0, []⟩

theorem tat_nil {α : Type} (z : α) (l : Nat) : tat z [] l = z := rfl

theorem hdrReset_off : rbits hdrReset 16 2 0 = 0 := by decide

theorem noLegs (d : Dev) (x : Nat) (h : d.leg.hdr = []) : d.legsUp x = false := by
  rw [Dev.legsUp, List.any_eq_false]
  intro l _
  rw [Dev.legState, Dev.hdr, h, tat_nil, hdrReset_off]
  simp

/-- A cast-on without its steps. -/
def noBoot : BootEnv := { boot with steps := [] }

/-- More operations than a word has slots beside the first. -/
def four : List SlotOp := [.nop, .nop, .nop, .nop]

/-- A command descriptor. -/
def desc (op n : Nat) : CmdDesc := ⟨BitVec.ofNat 3 op, false, 0, 1, 0, 0, List.replicate n 0, boot⟩

/-- An injection descriptor. -/
def inject (kind : Nat) : InjDesc := ⟨BitVec.ofNat 2 kind, false, false, false, 0, 0, 0, 0, []⟩

/-- The device that a command leaves. -/
def after (c : Instr) (d : Dev) : Dev := match exec c (st d) with
  | .next t => t.dev
  | _ => {}

/-! ### Ill-formed commands -/

theorem test_illformed_write_address : wellFormed (.registerWrite q0 (2 ^ 26) 4 0 boot) = false := by decide
theorem test_illformed_write_width : wellFormed (.registerWrite q0 0 3 0 boot) = false := by decide
theorem test_illformed_write_boot : wellFormed (.registerWrite q0 0 4 0 { boot with steps := [] }) = false := by decide
theorem test_illformed_latch_address : wellFormed (.loLatchRead q0 (2 ^ 26)) = false := by decide
theorem test_illformed_frame (b : List Byte) (h : b.length = 65536) : wellFormed (.frameReceived 0 ⟨b, true, 0, 0, 0⟩) = false :=
  decide_eq_false (by rw [h]; decide)
theorem test_illformed_requests : wellFormed (.allocRequest 0 (List.replicate 65 ⟨0, 1, 0, false⟩)) = false := by decide
theorem test_illformed_words :
    ∀ c ∈ ([.mpy 0 0 0 0 0 four, .mac 0 0 0 0 0 four, .msu 0 0 0 0 0 four, .clr 0 0 four, .accShift 0 0 0 four, .accAdd 0 0 0 four,
      .aluAdd 0 0 0 0 four, .aluSub 0 0 0 0 four, .aluCompare 0 0 0 four, .aluMin 0 0 0 0 four, .aluMax 0 0 0 0 four,
      .aluAbs 0 0 0 four, .aluAnd 0 0 0 0 four, .aluOr 0 0 0 0 four, .aluXor 0 0 0 0 four, .aluMov 0 0 0 four, .aluAdd2 0 0 0 0 four,
      .aluSub2 0 0 0 0 four, .barrelShift 0 0 0 0 true four, .ext 0 0 0 0 four, .ext2 0 0 0 0 four, .exp 0 0 true 0 four,
      .extN 0 0 0 0 four, .dspLoad 0 true 0 0 0 (.imm 0) four, .dspStore 0 true 0 0 0 (.imm 0) four, .ldi 0 0 0 four, .ldih 0 0 0 four,
      .regMove 0 true 0 true 0 four, .pmov 0 0 0 (.imm 0) four, .xadd 0 0 0 0 (.imm 0) four] : List Instr), wellFormed c = false := by
  decide
theorem test_illformed_gauge : wellFormed (.gaugeWindow 0 2 0) = false := by decide
theorem test_illformed_aux : wellFormed (.auxReply 0 0 (List.replicate 17 0)) = false := by decide
theorem test_illformed_limit (e : List HostFields) (h : e.length = 65537) : wellFormed (.doorbellLimit 0 0 0 0 e) = false :=
  decide_eq_false (by rw [h]; decide)
theorem test_illformed_descriptors :
    ∀ c ∈ ([.cmdWrite 0 0 (desc 2 12), .cmdWrite 0 0 (desc 1 11), .cmdRead 0 0 (desc 3 12), .cmdWait 0 0 (desc 2 12),
      .cmdDmaWrite 0 0 (desc 4 12), .cmdNop 0 0 (desc 4 12)] : List Instr), wellFormed c = false := by decide
theorem test_illformed_injections :
    ∀ c ∈ ([.injectRaw 0 0 (inject 1), .injectSrtcp 0 0 (inject 2), .injectRtp 0 0 (inject 0)] : List Instr), wellFormed c = false := by
  decide
theorem test_illformed_window : ∀ op ∈ [Bar2Op.write (2 ^ 36) [0], .read (2 ^ 36) 1], wellFormed (.bar2Access 0 op) = false := by decide
theorem test_illformed_boot :
    ∀ c ∈ ([.lcCmd q0 0 noBoot, .secMonTrip 0 noBoot, .powerOnReset noBoot, .rstCmdCold q0 0 noBoot, .rstCmdWarm q0 0 noBoot,
      .pciePerst noBoot, .pcieHotReset noBoot, .pfFlr noBoot, .sysPush q0 0 noBoot, .resetNRelease noBoot, .thermalTripEnd noBoot] :
      List Instr), wellFormed c = false := by decide
theorem test_illformed_slots : wellFormed (.cgFrameStart 0 0 0 (List.replicate 129 0)) = false := by decide
theorem test_wellformed : ∀ c ∈ ([.rowTick, .powerOnReset boot, .cmdWrite 0 0 (desc 1 12), .clr 0 0 []] : List Instr),
    wellFormed c = true := by decide

/-! ### Single commands -/

/-- The opcode table gives no row bits. -/
theorem test_no_words : decodeTableWord 32 0 = none := rfl

/-- PAT_ID reads 0x9600_00A1 (chapter 2). -/
theorem test_reset_id : dv.reg Reg.PAT_ID = 0x960000A1 := by decide

/-- The FFT example of chapter 9: the first load through A4 moves it from 0x1000 to 0x1010. -/
theorem test_load_bit_reversed :
    ((after (.dspLoad 95 false 1 0 4 (.reg 4) [])
      (oneCore { state := 1, bank2 := [(0x16, 0x10)], regs := [(0x24, 0x1000), (0x2C, 16), (0x34, 0x1000), (0x3C, 32)] })).core 95).r 0x24
      = 0x1010 := by decide

/-- Table 08-4, product 293 with ACCSAT 0: 255.5 + 0.875 wraps to -255.625, in units of 2^-63. -/
theorem test_mac_wraps :
    tat 0 ((after (.mac 95 0 0 0 1 []) (oneCore { state := 1, regs := [(0, 0x90000000), (1, 0x80000000)], acc := [(0, 511 * 2 ^ 62)] })).core
      95).acc 0 = 2 ^ 72 - 2045 * 2 ^ 60 := by decide

/-- Table 08-4, product 293 with ACCSAT 1: 256 - 2^-63. -/
theorem test_mac_saturates :
    tat 0 ((after (.mac 95 0 0 0 1 [])
      (oneCore { state := 1, regs := [(0, 0x90000000), (1, 0x80000000), (0x1D, 2)], acc := [(0, 511 * 2 ^ 62)] })).core 95).acc 0
      = 2 ^ 71 - 1 := by decide

/-- R137: the source of an operation that is also its destination is read before it is written. -/
theorem test_sub_from_itself :
    ((after (.aluSub 95 1 2 1 []) (oneCore { state := 1, regs := [(1, 5), (2, 3)] })).core 95).r 1 = 0xFFFFFFFE := by decide

/-- R343: a write through BAR2 lies in DRAM in the order of its bytes. -/
theorem test_window_byte_order :
    (after (.bar2Access 0 (.write 4 [0x11, 0x22])) dramBig).dramRead 4 1 = [0x11] ∧
    (after (.bar2Access 0 (.write 4 [0x11, 0x22])) dramBig).dramRead 5 1 = [0x22] := by decide

/-- R97: an erase in another domain's window is reported to the domain that asked. -/
theorem test_erase_other_domain :
    ((after (.keyErase (.ring 3) 2 0) up).tim.reported.getLast?.map (fun e => (e.code, e.dom))) = some (0x0C05, 3) := by decide

/-- Table 23-2: the pin's reset sets its cause and clears READY. -/
theorem test_reset_pin : (after .resetPin up).reg Reg.SYS_RST_STAT = 3 ∧ (after .resetPin up).ready = false := by decide

/-! ### States that meet the hypotheses of the obligations -/

theorem witness_stepTakesTheFront :
    (∃ (s : State) (c : Instr) (rest : List Instr), s.pending = c :: rest) ∧
    (∃ (s : State), s.pending = []) :=
  ⟨⟨⟨{}, [.esnQueuedIssue]⟩, .esnQueuedIssue, [], by decide⟩,
   ⟨{}, by decide⟩⟩

theorem witness_earlyBufferKept :
    ∃ (s t : State), EarlyOk s.dev ∧ step s = .next t :=
  ⟨{}, {}, by decide, rfl⟩

theorem witness_atMostFourEsns :
    ∃ (s : State), s.dev.ready = true ∧ s.dev.tim.queue = [] :=
  ⟨st up, by decide⟩

theorem witness_oldestEventTakesNextEsn :
    ∃ (s : State) (code inst dom sev : Nat) (args : List Byte) (rest : List Arrival), s.dev.ready = true ∧ s.dev.tim.queue = .event code
      inst dom sev args :: rest :=
  ⟨st { up with tim := { queue := [.event 1 2 3 0 []] } }, 1, 2, 3, 0, [], [], by decide⟩

theorem witness_timeBaseStep :
    (∃ (s : State) (q : Requester) (a : Access) (k : Fin 8) (v : Word) (j : Nat), Opens s.dev q 3 0 a ∧ wbit v 0 = true ∧ s.dev.inUse k =
      false ∧ j ≠ k) ∧
    (∃ (s : State) (q : Requester) (a : Access) (k : Fin 8) (v : Word), Opens s.dev q 3 0 a ∧ wbit v 0 = true ∧ s.dev.inUse k = true) :=
  ⟨⟨{}, q0, sd, 7, 1, 0, by decide⟩,
   ⟨st (dv.setReg Reg.TIM_TICK_CTL 1), q0, sd, 0, 1, by decide⟩⟩

theorem witness_latchedTime :
    ∃ (s : State) (q : Requester) (x : Access) (k : Fin 8) (t : Nat) (e d : Dev), q ≠ .debug ∧ s.dev.access q = some x ∧ x.dom = 0 ∧
      s.dev.regionOff 3 = false ∧ tat 0 s.dev.swt.view x.bank = 0 ∧ t = (s.dev.tb k).time ∧ e = (readAny q (Reg.TIM_TB_FRAC k) s.dev).2 ∧
      (d.tb k).latch = t ∧ d.access q = some x ∧ d.regionOff 3 = false ∧ tat 0 d.swt.view x.bank = 0 :=
  ⟨st (dv.setTb 7 { latch := 9, time := 2 ^ 89 }), q0, sd, 7, _, _, dv.setTb 7 { latch := 2 ^ 89, time := 2 ^ 90 }, by decide, by decide,
    by decide, by decide, by decide, rfl, rfl, by decide, by decide, by decide, by decide⟩

theorem witness_timeCommandsComplete :
    (∃ (s : State) (q : Requester) (a : Access), Opens s.dev q 3 0 a ∧ s.dev.ready = true) ∧
    (∃ (s : State) (k : Fin 8), s.dev.fld (Reg.TIM_TB_LOSS k) 15 0 ≠ 0 ∧ s.dev.tbState k = 1) ∧
    (∃ (s : State) (k : Fin 8), s.dev.fld (Reg.TIM_TB_LOSS k) 15 0 ≠ 0 ∧ s.dev.tbState k = 2 ∧ s.dev.tbPaired k = false) ∧
    (∃ (s : State) (k : Fin 8), s.dev.fld (Reg.TIM_TB_LOSS k) 15 0 ≠ 0 ∧ s.dev.tbState k = 2 ∧ s.dev.tbPaired k = true ∧ s.dev.tbState
      (k.val + 1) = 2) :=
  ⟨⟨st up, q0, sd, by decide⟩,
   ⟨st ((dv.setFld (Reg.TIM_TB_LOSS 6) 15 0 1).setTbState 6 1), 6, by decide⟩,
   ⟨st ((dv.setFld (Reg.TIM_TB_LOSS 6) 15 0 1).setTbState 6 2), 6, by decide⟩,
   ⟨st ((((dv.setFld (Reg.TIM_TB_LOSS 6) 15 0 1).setTbState 6 2).setTbState 7 2).setBit (Reg.TIM_TB_CFG 6) 8 true), 6, by decide⟩⟩

theorem witness_ticksComplete :
    (∃ (s : State), s.dev.power < 2) ∧
    (∃ (s : State), s.dev.power = 2) ∧
    (∃ (s : State), s.dev.bit Reg.TIM_TICK_CTL 0 = true ∧ s.dev.power < 3) ∧
    (∃ (s : State), s.dev.bit Reg.TIM_TICK_CTL 1 = true ∧ s.dev.power < 3) ∧
    (∃ (s : State) (q : Requester) (a : Access) (v : Word), Opens s.dev q 3 0 a ∧ (s.dev.bit Reg.TIM_TICK_CTL 0 = true → wbit v 0 = true)
      ∧ (s.dev.bit Reg.TIM_TICK_CTL 1 = true → wbit v 1 = true)) :=
  ⟨⟨st (dv.setFld Reg.SYS_PWR_STAT 1 0 1), by decide⟩,
   ⟨st (dv.setFld Reg.SYS_PWR_STAT 1 0 2), by decide⟩,
   ⟨st ((dv.setReg Reg.TIM_TICK_CTL 1).setFld Reg.SYS_PWR_STAT 1 0 2), by decide⟩,
   ⟨st ((dv.setReg Reg.TIM_TICK_CTL 2).setFld Reg.SYS_PWR_STAT 1 0 2), by decide⟩,
   ⟨st (dv.setReg Reg.TIM_TICK_CTL 1), q0, sd, 1, by decide⟩⟩

theorem witness_updateTickPassesTime :
    ∃ (s : State), s.dev.power = 2 :=
  ⟨st (dv.setFld Reg.SYS_PWR_STAT 1 0 2), by decide⟩

theorem witness_portCommandsComplete :
    (∃ (s : State) (q : Requester) (a : Access) (p : Fin 8), Opens s.dev q 8 0 a ∧ s.dev.portAbsent p = false ∧ s.dev.retired = false ∧
      s.dev.bit (Reg.NET_PORT_CTL p) 0 = false) ∧
    (∃ (s : State) (q : Requester) (a : Access) (p : Fin 8), Opens s.dev q 8 0 a ∧ s.dev.portAbsent p = false ∧ s.dev.portState p < 3) ∧
    (∃ (s : State) (q : Requester) (a : Access) (p : Fin 8), Opens s.dev q 8 0 a ∧ s.dev.portAbsent p = false ∧ s.dev.portState p = 4) ∧
    (∃ (s : State) (q : Requester) (a : Access) (p : Fin 8), Opens s.dev q 8 0 a ∧ s.dev.portAbsent p = false ∧ s.dev.portState p = 3 ∧
      tat none s.dev.egs.tx p = none) ∧
    (∃ (s : State) (p : Fin 8), s.dev.portState p = 1) ∧
    (∃ (s : State) (p : Fin 8), s.dev.portState p = 2 ∧ s.dev.trains p = true) :=
  ⟨⟨{}, q0, sd, 3, by decide⟩,
   ⟨st (dv.setPort 3 2), q0, sd, 3, by decide⟩,
   ⟨st (dv.setPort 3 4), q0, sd, 3, by decide⟩,
   ⟨st (dv.setPort 3 3), q0, sd, 3, by decide⟩,
   ⟨st (dv.setPort 3 1), 3, by decide⟩,
   ⟨st ((dv.setPort 3 2).setFld (Reg.NET_PORT_CFG 3) 3 0 8), 3, by decide⟩⟩

theorem witness_linkDown :
    ∃ (s : State) (p : Fin 8) (locks : BitVec 3) (fault : Bool) (r : Fin 8), s.dev.portState p = 3 ∧ (locks ≠ 7 ∨ fault = true) ∧ r ≠ p :=
  ⟨st (dv.setPort 3 3), 3, 7, true, 0, by decide⟩

theorem witness_receiveCommandsComplete :
    (∃ (s : State) (p : Fin 8), s.dev.portUp p = true ∧ s.dev.fld (Reg.NET_PFC_STAT p) 7 0 = 0 ∧ s.dev.xoffNow p ≠ 0) ∧
    (∃ (s : State) (p : Fin 8), s.dev.portUp p = true ∧ s.dev.fld (Reg.NET_PFC_STAT p) 7 0 ≠ 0 ∧ s.dev.xoffNow p = 0) ∧
    (∃ (s : State) (p : Fin 8) (f : RxFrame), s.dev.portUp p = true ∧ s.dev.regionOff 8 = false ∧ s.dev.fecOn = false ∧ (s.dev.packetUnit
      p).macFault p f.bytes f.fcsOk 0 = none ∧ (s.dev.packetUnit p).macHit p f.bytes = true ∧ beAt f.bytes 12 2 ≠ 0x8808) :=
  ⟨⟨st (((((up.setPort 3 3).setBit (Reg.NET_PORT_CTL 3) 0 true).setFld (Reg.NET_PFC_CFG 3) 1 0 1).setFld (Reg.NET_PFC_LEVEL 3) 1 0
     1).setReg (Reg.BPM_LEVEL 0) 1), 3, by decide⟩,
   ⟨st (((up.setPort 3 3).setBit (Reg.NET_PORT_CTL 3) 0 true).setFld (Reg.NET_PFC_STAT 3) 7 0 1), 3, by decide⟩,
   ⟨st (((up.setPort 3 3).setBit (Reg.NET_PORT_CTL 3) 0 true).setReg Reg.NET_LANE_MODE 2), 3, ⟨1 :: List.replicate 59 0, true, 0, 0, 0⟩,
     by decide⟩⟩

theorem witness_flowCommandsComplete :
    (∃ (s : State) (q : Requester) (a : Access) (w : Fin 16) (path : List Nat), Opens s.dev q 10 w a ∧ recOk (s.dev.staged w) true = true
      ∧ s.dev.recAllowed w (s.dev.staged w) = true ∧ s.dev.flowFind (recKey (s.dev.staged w)) = none ∧ s.dev.flowOcc ≠ 1048576 + 4096 ∧
      s.dev.flowSearch 256 ((s.dev.slots (recKey (s.dev.staged w))).map (fun x => [x])) (s.dev.slots (recKey (s.dev.staged w))) = some
      path) ∧
    (∃ (s : State) (q : Requester) (a : Access) (w : Fin 16), Opens s.dev q 10 w a ∧ recOk (s.dev.staged w) true = true ∧
      s.dev.recAllowed w (s.dev.staged w) = true ∧ s.dev.flowFind (recKey (s.dev.staged w)) = none ∧ s.dev.flowOcc ≠ 1048576 + 4096 ∧
      s.dev.flowSearch 256 ((s.dev.slots (recKey (s.dev.staged w))).map (fun x => [x])) (s.dev.slots (recKey (s.dev.staged w))) = none ∧
      s.dev.camFree < 4096) ∧
    (∃ (s : State) (q : Requester) (a : Access) (w : Fin 16) (x : FlowAt), Opens s.dev q 10 w a ∧ recOk (s.dev.staged w) true = true ∧
      s.dev.recAllowed w (s.dev.staged w) = true ∧ s.dev.flowFind (recKey (s.dev.staged w)) = some x ∧ s.dev.recAllowed w (s.dev.flowRec
      x) = true) ∧
    (∃ (s : State) (q : Requester) (a : Access) (w : Fin 16) (x : FlowAt), Opens s.dev q 10 w a ∧ recOk (s.dev.staged w) false = true ∧
      s.dev.flowFind (recKey (s.dev.staged w)) = some x ∧ (w.val = 0 ∨ recDom (s.dev.flowRec x) = w.val) ∧ s.dev.recAllowed w
      (s.dev.flowRec x) = true) :=
  ⟨⟨st flow, q0, sd, 0, (flow.slots (recKey (2 ^ 254))).take 1, by decide⟩,
   ⟨st flowFull, q0, sd, 0, by decide⟩,
   ⟨st { flow with cls := { cam := [(4095, 2 ^ 254)] } }, q0, sd, 0, .cam 4095, by decide⟩,
   ⟨st { flow with cls := { cam := [(4095, 2 ^ 254)] } }, q0, sd, 0, .cam 4095, by decide⟩⟩

theorem witness_insertedRecordIsFound :
    ∃ (s : State) (q : Requester) (a : Access) (w : Fin 16) (i : Nat), Opens s.dev q 10 w a ∧ recOk (s.dev.staged w) true = true ∧
      s.dev.recAllowed w (s.dev.staged w) = true ∧ s.dev.flowFind (recKey (s.dev.staged w)) = none ∧ s.dev.flowOcc ≠ 1048576 + 4096 ∧
      s.dev.wayRec ((s.dev.slots (recKey (s.dev.staged w))).headD 0) = 0 ∧ i ≠ (s.dev.slots (recKey (s.dev.staged w))).headD 0 :=
  ⟨st flow, q0, sd, 0, 2 ^ 20, by decide⟩

theorem witness_hashKeyOnlyWhileEmpty :
    (∃ (s : State) (q : Requester) (a : Access), Opens s.dev q 10 0 a ∧ s.dev.flowOcc = 0) ∧
    (∃ (s : State) (q : Requester) (a : Access), Opens s.dev q 10 0 a ∧ s.dev.flowOcc ≠ 0) :=
  ⟨⟨{}, q0, sd, by decide⟩,
   ⟨st (dv.setReg Reg.CLS_OCC 1), q0, sd, by decide⟩⟩

theorem witness_policerCommandsComplete :
    (∃ (s : State) (q : Requester) (a : Access) (w : Fin 16) (v : Word), Opens s.dev q 15 w a ∧ s.dev.polAllowed w (wfld v 15 0) = true) ∧
    (∃ (s : State) (q : Requester) (a : Access) (w : Fin 16) (v : Word), Opens s.dev q 15 w a ∧ s.dev.polAllowed w (wfld v 15 0) = false) :=
  ⟨⟨{}, q0, sd, 0, 65535, by decide⟩,
   ⟨{}, q0, sd, 15, 65535, by decide⟩⟩

theorem witness_policerBuckets :
    (∃ (alg tc tp b : Nat), alg ≠ 2 ∧ tc < b ∧ tp < b) ∧
    (∃ (alg : Nat) (blind : Bool) (col tc tp b : Nat), alg ≠ 2 ∧ (polColour alg blind col tc tp b).1 ≠ 2) ∧
    (∃ (alg : Nat) (blind : Bool) (col tc tp b : Nat), alg ≠ 2 ∧ (polColour alg blind col tc tp b).1 = 2) :=
  ⟨⟨0, 1, 2, 3, by decide⟩,
   ⟨0, true, 0, 5, 0, 5, by decide⟩,
   ⟨1, false, 2, 5, 5, 5, by decide⟩⟩

theorem witness_keyCommandsComplete :
    (∃ (s : State) (q : Requester) (a : Access) (w : Fin 16) (v : Word), Opens s.dev q 12 w a ∧ s.dev.slotDom (wfld v 14 0) = w.val ∧
      s.dev.retired = false ∧ 1 ≤ s.dev.fld (Reg.CIP_KEY_CFG w) 2 0 ∧ s.dev.fld (Reg.CIP_KEY_CFG w) 2 0 ≤ 6 ∧ rf (tat 0 s.dev.cip.stage
      w) (keyBytes (s.dev.fld (Reg.CIP_KEY_CFG w) 2 0)) (32 - keyBytes (s.dev.fld (Reg.CIP_KEY_CFG w) 2 0)) = 0 ∧ rf (tat 0
      s.dev.cip.stage w) (32 + saltBytes (s.dev.fld (Reg.CIP_KEY_CFG w) 2 0)) (14 - saltBytes (s.dev.fld (Reg.CIP_KEY_CFG w) 2 0)) = 0 ∧
      s.dev.mayLeg w (s.dev.cfgLeg w) = true ∧ slotState (s.dev.slot (wfld v 14 0)) = 0 ∧ (s.dev.fld (Reg.CIP_KEY_CFG w) 8 8 = 1 →
      s.dev.freshPair w (s.dev.fingerprint w (s.dev.fld (Reg.CIP_KEY_CFG w) 2 0) (tat 0 s.dev.cip.stage w)) = true)) ∧
    (∃ (s : State) (q : Requester) (a : Access) (w : Fin 16) (v : Word), Opens s.dev q 12 w a ∧ s.dev.slotDom (wfld v 14 0) = w.val ∧
      slotState (s.dev.slot (wfld v 14 0)) = 3) ∧
    (∃ (s : State) (q : Requester) (a : Access) (w : Fin 16) (v : Word), Opens s.dev q 12 w a ∧ s.dev.slotDom (wfld v 14 0) = w.val ∧
      s.dev.mayLeg w (s.dev.cfgLeg w) = true ∧ wfld v 22 16 ≤ 39 ∧ slotState (s.dev.slot (wfld v 14 0)) ≠ 0 ∧ (rbits (s.dev.index (40 *
      s.dev.cfgLeg w + wfld v 22 16)) 6 1 0 ≠ 2 ∧ rbits (s.dev.index (40 * s.dev.cfgLeg w + wfld v 22 16)) 6 3 2 ≠ 2 ∨ slotState
      (s.dev.slot (wfld v 14 0)) = 2 ∧ slotLeg (s.dev.slot (wfld v 14 0)) = s.dev.cfgLeg w ∧ slotSerial (s.dev.slot (wfld v 14 0)) ≠ rf
      (s.dev.index (40 * s.dev.cfgLeg w + wfld v 22 16)) 24 4)) ∧
    (∃ (s : State) (k : Fin 32768), slotState (s.dev.slot k) = 1) :=
  ⟨⟨st (dv.setReg (Reg.CIP_KEY_CFG 0) 1), q0, sd, 0, 0, by decide⟩,
   ⟨st (dv.setSlot 5 (rset 0 212 1 3)), q0, sd, 0, 5, by decide⟩,
   ⟨st (dv.setSlot 5 (rset 0 212 1 2)), q0, sd, 0, w32 (39 * 2 ^ 16 + 5), by decide⟩,
   ⟨st (dv.setSlot 32767 (rset 0 212 1 1)), 32767, by decide⟩⟩

theorem witness_keySlotStates :
    (∃ (s : State) (k : Fin 32768) (j : Nat), slotState (s.dev.slot k) = 1 ∧ j ≠ k.val) ∧
    (∃ (s : State) (q : Requester) (a : Access) (w : Fin 16) (v : Word) (j : Nat), Opens s.dev q 12 w a ∧ s.dev.slotDom (wfld v 14 0) =
      w.val ∧ slotState (s.dev.slot (wfld v 14 0)) = 3 ∧ j ≠ wfld v 14 0) :=
  ⟨⟨st (dv.setSlot 32767 (rset 0 212 1 1)), 32767, 0, by decide⟩,
   ⟨st (dv.setSlot 5 (rset 0 212 1 3)), q0, sd, 0, 5, 4, by decide⟩⟩

theorem witness_verdictCommandsComplete :
    (∃ (s : State) (chain : BitVec 25) (x : Packet), (s.dev.lvCommit 0xC00000 0xE00000).packetAt chain.toNat = some x) ∧
    (∃ (s : State) (p : Fin 8) (t : TxFrame), tat none s.dev.egs.tx p = some t ∧ t.bad = false ∧ t.frame.cutOf.any s.dev.inFlight = true) ∧
    (∃ (s : State) (chain : BitVec 25) (x : Packet), s.dev.packetAt chain.toNat = some x ∧ x.fwd = true ∧ x.rtcp = false ∧ x.walked =
      false ∧ s.dev.walkBlocked x = false) :=
  ⟨⟨st { dv with fwd := { flight := [pkt] } }, 7, pkt, by decide⟩,
   ⟨st { dv with fwd := { flight := [pkt] }, egs :=
     { tx := [(3, some ⟨⟨9, 1, 64, none, none, none, false, 0, none, false, some 7, none, none⟩, 0, false⟩)] } }, 3, ⟨⟨9, 1, 64, none,
     none, none, false, 0, none, false, some 7, none, none⟩, 0, false⟩, by decide⟩,
   ⟨st { dv with fwd := { flight := [pkt] } }, 7, pkt, by decide⟩⟩

theorem witness_allocationGranted :
    ∃ (s : State) (p : Fin 8) (r : AllocReq) (i : Nat) (rest : List Nat) (x : Fin 8), (s.dev.pool p).waiting = [] ∧ reservedAgent r.agent
      = false ∧ 1 ≤ r.nbuf.val ∧ r.nbuf.val ≤ 5 ∧ s.dev.mustRefuse p 0 r.agent r.nbuf r.dom r.de = false ∧ (p.val = 0 ∨ r.nbuf.val ≤
      (s.dev.pool p).cached) ∧ (takeFree r.nbuf (s.dev.pool p).free).1 = i :: rest ∧ (∀ j ∈ rest, j ≠ i) ∧ x ≠ p :=
  ⟨st (({ dv with bpm := { pools := [(0, { free := [(5, 3)] })] } }.setReg (Reg.BPM_FREE 0) 3).setReg (Reg.BPM_QUOTA 15 0) 2), 0, ⟨42, 2,
    15, false⟩, 5, [6], 7, by decide⟩

theorem witness_bufferCommandsComplete :
    (∃ (s : State) (p : Fin 8) (r : AllocReq), (s.dev.pool p).waiting = [] ∧ reservedAgent r.agent = false ∧ 1 ≤ r.nbuf.val ∧ r.nbuf.val
      ≤ 5 ∧ s.dev.mustRefuse p 0 r.agent r.nbuf r.dom r.de = true) ∧
    (∃ (s : State) (q : Requester) (a : Access) (w : Fin 16) (v : Word) (id : Nat) (e : Dev), Opens s.dev q 14 w a ∧ 1 ≤ wfld v 24 22 ∧
      wfld v 24 22 ≤ 5 ∧ s.dev.alloc (wfld v 27 25) a.agent (wfld v 24 22) w = (some id, e)) ∧
    (∃ (s : State) (q : Requester) (a : Access) (w : Fin 16) (v : Word) (id : Nat), Opens s.dev q 14 w a ∧ id = s.dev.fld (Reg.BPM_CMD_ID
      w) 24 0 ∧ (w.val = 0 ∨ (s.dev.desc id).dom = w.val) ∧ (s.dev.share a.agent id (s.dev.reg64 (Reg.BPM_CMD_MASK_LO w)
      (Reg.BPM_CMD_MASK_HI w)) (wfld v 21 16) w).2 = 0) ∧
    (∃ (s : State) (q : Requester) (a : Access) (w : Fin 16) (id : Nat), Opens s.dev q 14 w a ∧ id = s.dev.fld (Reg.BPM_CMD_ID w) 24 0 ∧
      (w.val = 0 ∨ (s.dev.desc id).dom = w.val) ∧ (s.dev.release a.agent 3 id w).2 = 0) ∧
    (∃ (s : State) (q : Requester) (a : Access) (w : Fin 16) (id : Nat), Opens s.dev q 14 w a ∧ id = s.dev.fld (Reg.BPM_CMD_ID w) 24 0 ∧
      (w.val = 0 ∨ (s.dev.desc id).dom = w.val) ∧ (s.dev.release a.agent 4 id w).2 = 0) ∧
    (∃ (s : State) (q : Requester) (a : Access) (w : Fin 16) (id : Nat), Opens s.dev q 14 w a ∧ id = s.dev.fld (Reg.BPM_CMD_ID w) 24 0 ∧
      (w.val = 0 ∨ (s.dev.desc id).dom = w.val) ∧ (s.dev.desc id).head = true) ∧
    (∃ (s : State) (q : Requester) (a : Access) (w : Fin 16), Opens s.dev q 14 w a ∧ w.val ≠ 0 ∧ (s.dev.desc (s.dev.fld (Reg.BPM_CMD_ID
      w) 24 0)).dom ≠ w.val) :=
  ⟨⟨{}, 0, ⟨42, 5, 15, false⟩, by decide⟩,
   ⟨st (({ dv with bpm := { pools := [(0, { free := [(5, 3)] })] } }.setReg (Reg.BPM_FREE 0) 3).setReg (Reg.BPM_QUOTA 0 0) 2), q0, sd, 0,
     0x400000, 5, _, by decide, by decide, by decide, rfl⟩,
   ⟨st (((chain { head := true, state := 1, last := 44, owners := 2 ^ 44, shares := 1 }).setReg (Reg.BPM_CMD_ID 0) 9).setReg64
     (Reg.BPM_CMD_MASK_LO 0) (Reg.BPM_CMD_MASK_HI 0) (2 ^ 44)), q0, sd, 0, w32 (44 * 2 ^ 16), 9, by decide⟩,
   ⟨st ((chain { head := true, state := 2, last := 3, owners := 2 ^ 44 + 2 ^ 3, shares := 2 }).setReg (Reg.BPM_CMD_ID 0) 9), q0, sd, 0,
     9, by decide⟩,
   ⟨st ((chain { head := true, state := 1, last := 44, owners := 2 ^ 44, shares := 2 }).setReg (Reg.BPM_CMD_ID 0) 9), q0, sd, 0, 9, by
     decide⟩,
   ⟨st ((chain { head := true, state := 1 }).setReg (Reg.BPM_CMD_ID 0) 9), q0, sd, 0, 9, by decide⟩,
   ⟨{}, q0, sd, 15, by decide⟩⟩

theorem witness_chainOwnerCommandsComplete :
    (∃ (s : State) (agent last : Fin 64) (id : BitVec 25) (mask : BitVec 64), (s.dev.desc id.toNat).head = true ∧ (s.dev.desc
      id.toNat).state = 1 ∧ agent.val = (s.dev.desc id.toNat).last ∧ mask.toNat.testBit last = true ∧ (maskAgents mask.toNat).all (fun a
      => !reservedAgent a) = true) ∧
    (∃ (s : State) (agent last : Fin 64) (id : BitVec 25) (mask : BitVec 64), (s.dev.desc id.toNat).head = true ∧ ((s.dev.desc
      id.toNat).state ≠ 1 ∨ agent.val ≠ (s.dev.desc id.toNat).last ∨ mask.toNat.testBit last = false ∨ (maskAgents mask.toNat).any
      reservedAgent = true)) ∧
    (∃ (s : State) (agent : Fin 64) (id : BitVec 25) (h : Desc), h = s.dev.desc id.toNat ∧ h.head = true ∧ h.state ≠ 0 ∧ agent.val ≠
      h.last ∧ h.owners.testBit agent = true) ∧
    (∃ (s : State) (agent : Fin 64) (id : BitVec 25) (h : Desc), h = s.dev.desc id.toNat ∧ h.head = true ∧ h.state ≠ 0 ∧ agent.val =
      h.last ∧ h.lastDone = false) ∧
    (∃ (s : State) (id : BitVec 25) (h : Desc), h = s.dev.desc id.toNat ∧ h.state = 0) ∧
    (∃ (s : State) (agent : Fin 64) (id : BitVec 25) (h : Desc), h = s.dev.desc id.toNat ∧ agent.val = h.last ∧ h.lastDone = true) ∧
    (∃ (s : State) (agent : Fin 64) (id : BitVec 25) (h : Desc), h = s.dev.desc id.toNat ∧ h.head = true ∧ h.state ≠ 0 ∧ (agent.val =
      h.last ∨ h.owners.testBit agent = false)) :=
  ⟨⟨st (chain { head := true, state := 1, last := 63 }), 63, 3, 9, 8, by decide⟩,
   ⟨st (chain { head := true, state := 2 }), 0, 0, 9, 1, by decide⟩,
   ⟨st (chain { head := true, state := 2, owners := 4, last := 1, shares := 2 }), 2, 9,
     { head := true, state := 2, owners := 4, last := 1, shares := 2 }, by decide⟩,
   ⟨st (chain { head := true, state := 1, last := 63, shares := 1 }), 63, 9, { head := true, state := 1, last := 63, shares := 1 }, by
     decide⟩,
   ⟨{}, 9, {}, by decide⟩,
   ⟨st (chain { head := true, state := 3, last := 63, lastDone := true }), 63, 9,
     { head := true, state := 3, last := 63, lastDone := true }, by decide⟩,
   ⟨st (chain { head := true, state := 1, last := 1 }), 2, 9, { head := true, state := 1, last := 1 }, by decide⟩⟩

theorem witness_hookCommandsComplete :
    (∃ (s : State) (agent : Fin 64) (dom : Fin 16) (desc : BitVec 512), hookAgent agent = true ∧ s.dev.regionOff 20 = false ∧
      s.dev.submitCheck dom desc.toNat = 0) ∧
    (∃ (s : State) (agent : Fin 64) (dom : Fin 16) (desc : BitVec 512), hookAgent agent = true ∧ s.dev.regionOff 20 = false ∧
      s.dev.submitCheck dom desc.toNat ≠ 0) ∧
    (∃ (s : State) (q : Requester) (a : Access) (w : Fin 16) (v : Word) (t : Nat), Opens s.dev q 20 w a ∧ wbit v 0 = true ∧
      s.dev.submitCheck w (s.dev.regsNat (Reg.HOK_SUB w 0) 16) = 0 ∧ t = rset (rset (s.dev.regsNat (Reg.HOK_SUB w 0) 16) 14 1 a.agent) 15
      1 w) ∧
    (∃ (s : State) (n : Fin 96), Issues s.dev n [.take]) ∧
    (∃ (s : State) (n : Fin 96), Issues s.dev n [.give]) ∧
    (∃ (s : State) (n : Fin 96), Issues s.dev n [.giveY]) ∧
    (∃ (d : Dev) (n : Fin 96) (t : Nat), (d.core n).task = some t ∧ d.unitsIdle n = true) ∧
    (∃ (s : State), s.dev.hok.sweep = none) ∧
    (∃ (s : State) (r : Sweep), s.dev.hok.sweep = some r ∧ r.running = 0 ∧ s.dev.hok.groups = []) ∧
    (∃ (s : State) (q : Requester) (a : Access) (w : Fin 16) (v : Word) (x : Nat), Opens s.dev q 20 w a ∧ wbit v 0 = true ∧ x ≠ w.val) :=
  ⟨⟨st (dv.setReg (Reg.HOK_DOM_QUOTA 0) 1), 32, 0, 0, by decide +kernel⟩,
   ⟨{}, 47, 0, 0x10000000, by decide +kernel⟩,
   ⟨st (dv.setReg (Reg.HOK_DOM_QUOTA 0) 1), q0, sd, 0, 1, rset (rset 0 14 1 44) 15 1 0, by decide⟩,
   ⟨st (oneCore { state := 1 }), 95, by decide⟩,
   ⟨st (oneCore { state := 1 }), 95, by decide⟩,
   ⟨st (oneCore { state := 1 }), 95, by decide⟩,
   ⟨oneCore { state := 1, task := some 0 }, 95, 0, by decide⟩,
   ⟨{}, by decide⟩,
   ⟨st { dv with hok := { sweep := some ⟨0, none, false⟩ } }, ⟨0, none, false⟩, by decide⟩,
   ⟨{}, q0, sd, 15, 1, 0, by decide⟩⟩

theorem witness_wordsComplete :
    (∀ ops ∈ ([
      [.product 0 1 1 1 2], [.product 1 0 3 15 15], [.product 2 3 0 0 0], [.clr 3], [.accShift 3 0x40], [.accAdd 3 0],
      [.alu .add 3 1 2], [.alu .sub 3 1 2], [.alu .min 3 1 2], [.alu .max 3 1 2], [.alu .and 3 1 2], [.alu .or 3 1 2],
      [.alu .xor 3 1 2], [.alu .add2 3 1 2], [.alu .sub2 3 1 2], [.alu .compare 0 15 2], [.alu .abs 3 1 0], [.alu .mov 3 1 0],
      [.shift 3 1 0x20 true], [.ext 3 3 0x20], [.ext2 3 1 0], [.expD 3 15], [.expAcc 3 (Fin.ofNat 4 15)], [.extN 3 4 3],
      [.load false 2 0 0 (.imm 1)], [.store false 1 1 7 (.imm 0)], [.ldi 0x1E 0xFFFF], [.ldih 3 0x8000],
      [.move true 0x10 false 3], [.xadd 3 1 0 (.imm 0)], [.jmp 0xFFFC], [.call 0], [.ret], [.br 7 4], [.loop (.imm 2) 8], [.lpop],
      [.rti], [.post 0], [.fence], [.cinv], [.nop]] : List (List SlotOp)), Issues shared 95 ops) ∧
    Issues (oneCore { state := 1 }) 95 [.pmov 3 7 (.imm 0)] := by decide

theorem witness_aluResultAndFrame :
    (∃ (s : State) (n : Fin 96) (c : Instr) (op : AluOp) (k x y : Fin 16) (j : Nat), Issues s.dev n [.alu op k x y] ∧ (s.dev.core n).pipe
      = [] ∧ (s.dev.core n).branch = none ∧ (s.dev.core n).b2 3 = 0 ∧ (s.dev.core n).step = false ∧ (c, op) ∈ [(Instr.aluAdd n k x y [],
      AluOp.add), (.aluSub n k x y [], .sub), (.aluMin n k x y [], .min), (.aluMax n k x y [], .max), (.aluAnd n k x y [], .and), (.aluOr
      n k x y [], .or), (.aluXor n k x y [], .xor), (.aluAdd2 n k x y [], .add2), (.aluSub2 n k x y [], .sub2)] ∧ j ≠ k.val) ∧
    (∃ (s : State) (n : Fin 96) (c : Instr) (op : AluOp) (k x y : Fin 16) (j : Nat), Issues s.dev n [.alu op k x y] ∧ (s.dev.core n).pipe
      = [] ∧ (s.dev.core n).branch = none ∧ (s.dev.core n).b2 3 = 0 ∧ (s.dev.core n).step = false ∧ (c, op) ∈ [(Instr.aluAdd n k x y [],
      AluOp.add), (.aluSub n k x y [], .sub), (.aluMin n k x y [], .min), (.aluMax n k x y [], .max), (.aluAnd n k x y [], .and), (.aluOr
      n k x y [], .or), (.aluXor n k x y [], .xor), (.aluAdd2 n k x y [], .add2), (.aluSub2 n k x y [], .sub2)] ∧ j ≠ 0x11) ∧
    (∃ (s : State) (n : Fin 96) (c : Instr) (op : AluOp) (k x y : Fin 16) (m : Nat), Issues s.dev n [.alu op k x y] ∧ (s.dev.core n).pipe
      = [] ∧ (s.dev.core n).branch = none ∧ (s.dev.core n).b2 3 = 0 ∧ (s.dev.core n).step = false ∧ (c, op) ∈ [(Instr.aluAdd n k x y [],
      AluOp.add), (.aluSub n k x y [], .sub), (.aluMin n k x y [], .min), (.aluMax n k x y [], .max), (.aluAnd n k x y [], .and), (.aluOr
      n k x y [], .or), (.aluXor n k x y [], .xor), (.aluAdd2 n k x y [], .add2), (.aluSub2 n k x y [], .sub2)] ∧ m ≠ n.val) :=
  ⟨⟨st (oneCore { state := 1 }), 95, .aluAdd 95 3 1 2 [], .add, 3, 1, 2, 1, by decide⟩,
   ⟨st (oneCore { state := 1 }), 95, .aluAdd 95 3 1 2 [], .add, 3, 1, 2, 0, by decide⟩,
   ⟨st (oneCore { state := 1 }), 95, .aluAdd 95 3 1 2 [], .add, 3, 1, 2, 94, by decide⟩⟩

theorem witness_productResultAndFrame :
    (∃ (s : State) (n : Fin 96) (c : Instr) (op : Fin 3) (form acc : Fin 4) (x y : Fin 16) (v : Int) (j : Nat), Issues s.dev n [.product
      op form acc x y] ∧ (s.dev.core n).pipe = [] ∧ (s.dev.core n).branch = none ∧ (s.dev.core n).b2 3 = 0 ∧ (s.dev.core n).step = false
      ∧ form.val < 2 ∧ (c, op) ∈ [(Instr.mpy n form acc x y [], (0 : Fin 3)), (.mac n form acc x y [], 1), (.msu n form acc x y [], 2)] ∧
      v = sInt 32 ((s.dev.core n).r x) * sInt 32 ((s.dev.core n).r y) * (if form.val = 0 then 2 else 1) ∧ j ≠ acc.val) ∧
    (∃ (s : State) (n : Fin 96) (c : Instr) (op : Fin 3) (form acc : Fin 4) (x y : Fin 16) (v : Int) (m : Nat), Issues s.dev n [.product
      op form acc x y] ∧ (s.dev.core n).pipe = [] ∧ (s.dev.core n).branch = none ∧ (s.dev.core n).b2 3 = 0 ∧ (s.dev.core n).step = false
      ∧ form.val < 2 ∧ (c, op) ∈ [(Instr.mpy n form acc x y [], (0 : Fin 3)), (.mac n form acc x y [], 1), (.msu n form acc x y [], 2)] ∧
      v = sInt 32 ((s.dev.core n).r x) * sInt 32 ((s.dev.core n).r y) * (if form.val = 0 then 2 else 1) ∧ m ≠ n.val) :=
  ⟨⟨st (oneCore { state := 1 }), 95, .mac 95 1 3 1 2 [], 1, 1, 3, 1, 2, 0, 0, by decide⟩,
   ⟨st (oneCore { state := 1 }), 95, .mac 95 1 3 1 2 [], 1, 1, 3, 1, 2, 0, 94, by decide⟩⟩

theorem witness_extNOfZero :
    ∃ (s : State) (n : Fin 96) (k m : Fin 16) (acc : Fin 4) (j : Nat), Issues s.dev n [.extN k m acc] ∧ k ≠ m ∧ (s.dev.core n).pipe = []
      ∧ (s.dev.core n).branch = none ∧ (s.dev.core n).b2 3 = 0 ∧ (s.dev.core n).step = false ∧ (s.dev.core n).accSeen acc = 0 ∧ j ≠ k.val
      ∧ j ≠ m.val :=
  ⟨st (oneCore { state := 1 }), 95, 3, 4, 3, 0, by decide⟩

theorem witness_addressFaultStopsTheCore :
    ∃ (s : State) (n : Fin 96) (y : Bool) (size : Fin 3) (r : Fin 64) (an : Fin 8) (st : Step), s.dev.regionOff (24 + n.val / 16) = false
      ∧ (s.dev.core n).state = 1 ∧ (s.dev.core n).ending = 0 ∧ s.dev.breakHere n = false ∧ (s.dev.core n).pc % 4 = 0 ∧ (s.dev.core
      n).illegal [.load y size r an st] = false ∧ (dataSpace y ((s.dev.core n).r (0x20 + an.val)) = 0 ∨ (s.dev.core n).r (0x20 + an.val)
      % accessBytes size ≠ 0) :=
  ⟨st (oneCore { state := 1, regs := [(0x20, 2)] }), 95, true, 1, 0, 0, .imm 0, by decide⟩

theorem witness_coreCommandsComplete :
    (∃ (s : State) (n : Fin 96) (k : Nat), (s.dev.core n).source = some k ∧ s.dev.regionOff (24 + n.val / 16) = false ∧ (s.dev.core
      n).interruptible = true) ∧
    (∃ (s : State) (n : Fin 96), s.dev.regionOff (24 + n.val / 16) = false ∧ (s.dev.core n).state = 1 ∧ (s.dev.core n).b2 0x15 ≠ 0) ∧
    (∃ (s : State) (n : Fin 96) (u : UnitCmd) (c : Instr) (unit op : Nat), s.dev.regionOff (24 + n.val / 16) = false ∧ (s.dev.core
      n).state = 1 ∧ (s.dev.core n).ending = 0 ∧ (c, unit, op) ∈ [(Instr.mdct n u, 0, 1), (.imdct n u, 0, 2), (.rcDecode n u, 0, 3),
      (.rcEncode n u, 0, 4), (.pvqDecode n u, 0, 5), (.pvqSearch n u, 0, 6), (.convert n u, 1, 1), (.setRatio n u, 1, 2), (.asrcReset n
      u, 1, 3), (.toBuf n u, 2, 1), (.fromBuf n u, 2, 2), (.copyAlloc n u, 2, 3), (.copyFree n u, 2, 4), (.copyDrop n u, 2, 5)]) ∧
    (∃ (s : State) (sk : Fin 6) (unit : Fin 3) (n slot : Nat) (rest : List (Nat × Nat)), s.dev.unitQueue sk unit = (n, slot) :: rest ∧
      s.dev.regionOff (24 + sk.val) = false) ∧
    (∃ (s : State) (q : Requester) (a : Access) (n : Fin 96) (v : Word), q ≠ .debug ∧ Opens s.dev q (24 + n.val / 16) (s.dev.coreDomain
      n) a ∧ s.dev.haltLevel = true ∧ wbit v 1 = true ∧ (s.dev.core n).state ≠ 2) ∧
    (∃ (s : State) (q : Requester) (a : Access) (n : Fin 96) (v : Word), q ≠ .debug ∧ Opens s.dev q (24 + n.val / 16) (s.dev.coreDomain
      n) a ∧ s.dev.haltLevel = true ∧ wbit v 2 = true ∧ s.dev.debugHalted n = true) ∧
    (∃ (s : State) (q : Requester) (a : Access) (n : Fin 96) (v : Word), q ≠ .debug ∧ Opens s.dev q (24 + n.val / 16) (s.dev.coreDomain
      n) a ∧ s.dev.haltLevel = true ∧ wbit v 3 = true ∧ s.dev.debugHalted n = true ∧ (s.dev.core n).asleep = false) ∧
    (∃ (s : State) (q : Requester) (a : Access) (n : Fin 96), q ≠ .debug ∧ Opens s.dev q (24 + n.val / 16) (s.dev.coreDomain n) a ∧
      s.dev.haltLevel = true ∧ (s.dev.core n).state = 2) ∧
    (∃ (s : State) (q : Requester) (a : Access) (n : Fin 96) (v : Word), q ≠ .debug ∧ Opens s.dev q (24 + n.val / 16) (s.dev.coreDomain
      n) a ∧ wbit v 0 = true) ∧
    (∃ (s : State) (q : Requester) (a : Access) (n : Fin 96) (v : Word), q ≠ .debug ∧ Opens s.dev q (24 + n.val / 16) (s.dev.coreDomain
      n) a ∧ s.dev.haltLevel = false ∧ wbit v 1 = true) ∧
    (∃ (s : State) (n : Fin 96), (s.dev.core n).state = 1 ∧ (s.dev.core n).ending = 0 ∧ (s.dev.core n).skip = false ∧ s.dev.breakHere n =
      true) :=
  ⟨⟨st (oneCore { state := 1, bank2 := [(0x10, 2 ^ 31 + 8), (0x11, 8)] }), 95, 3, by decide⟩,
   ⟨st (oneCore { state := 1, bank2 := [(0x15, 1)] }), 95, by decide⟩,
   ⟨st (oneCore { state := 1 }), 95, ⟨true, 0, 0, 0, 0, 0⟩, .copyDrop 95 ⟨true, 0, 0, 0, 0, 0⟩, 2, 5, by decide⟩,
   ⟨st { dv with dsp := { units := [(17, [(95, 0)])] } }, 5, 2, 95, 0, [], by decide⟩,
   ⟨st ((oneCore { state := 1 }).setFld Reg.SEC_LC_STAT 9 8 2), q0, sd, 95, 2, by decide⟩,
   ⟨st (((oneCore { state := 2 }).setFld Reg.SEC_LC_STAT 9 8 2).setFld (Reg.DSP_CORE_STAT 5 15) 26 24 1), q0, sd, 95, 4, by decide⟩,
   ⟨st (((oneCore { state := 2 }).setFld Reg.SEC_LC_STAT 9 8 2).setFld (Reg.DSP_CORE_STAT 5 15) 26 24 1), q0, sd, 95, 8, by decide⟩,
   ⟨st (((oneCore { state := 2 }).setFld Reg.SEC_LC_STAT 9 8 2).setFld (Reg.DSP_CORE_STAT 5 15) 26 24 1), q0, sd, 95, by decide⟩,
   ⟨{}, q0, sd, 95, 1, by decide⟩,
   ⟨{}, q0, sd, 95, 2, by decide⟩,
   ⟨st ((oneCore { state := 1 }).setReg (Reg.DSP_CORE_BP 5 15 3) 0x80000000), 95, by decide⟩⟩

theorem witness_swapCancel :
    (∃ (s : State) (q : Requester) (a : Access), s.dev.access q = some a ∧ a.dom = 0) ∧
    (∃ (d : Dev) (i : Fin 3), d.scopeState i = 0) ∧
    (∃ (d : Dev) (i : Fin 3), d.scopeState i = 2) ∧
    (∃ (d : Dev) (i : Fin 3) (left : Nat) (j : Fin 3), left = sub32 (d.reg (atReg i)).toNat (d.tick32 (i.val == 2)) ∧ d.scopeState i = 1
      ∧ (if i.val = 0 then 2 ≤ left else d.within (i.val == 2) left 4 = false) ∧ j ≠ i) ∧
    (∃ (d : Dev) (i : Fin 3) (left : Nat), left = sub32 (d.reg (atReg i)).toNat (d.tick32 (i.val == 2)) ∧ d.scopeState i = 1 ∧ (¬ (if
      i.val = 0 then 2 ≤ left else d.within (i.val == 2) left 4 = false))) :=
  ⟨⟨{}, q0, sd, by decide⟩,
   ⟨{}, 2, by decide⟩,
   ⟨(dv.setFld Reg.PAT_SWAP_STAT 5 4 2), 2, by decide⟩,
   ⟨(dv.setFld Reg.PAT_SWAP_STAT 1 0 1).setReg Reg.PAT_SWAP_AT_AUD 2, 0, 2, 1, by decide⟩,
   ⟨(dv.setFld Reg.PAT_SWAP_STAT 1 0 1).setReg Reg.PAT_SWAP_AT_AUD 1, 0, 1, by decide⟩⟩

theorem witness_swapAndLoadCommandsComplete :
    (∃ (s : State) (q : Requester) (a : Access), s.dev.access q = some a ∧ a.dom = 0) ∧
    (∃ (s : State) (r : SwapReq) (t : List SwapReq), s.dev.pat.reqs = r :: t ∧ 1 ≤ r.mask ∧ r.mask ≤ 4 ∧ r.atTarget = false ∧
      s.dev.swapPowered r.mask = true ∧ s.dev.ticksRun r.mask = true ∧ (r.mask.testBit 0 = false ∨ s.dev.fldAbsent = true ∨ s.dev.linkUp
      = true) ∧ (scopesOf r.mask).any (fun i => s.dev.scopeState i != 0) = false) ∧
    (∃ (s : State), s.dev.scopeState 0 = 1 ∧ s.dev.pat.sent = true ∧ s.dev.pat.acked = false) ∧
    (∃ (s : State) (i : Fin 3), s.dev.scopeState i = 2) ∧
    (∃ (s : State), s.dev.fldAbsent = false ∧ s.dev.linkUp = true ∧ s.dev.pat.zeroReport = false) ∧
    (∃ (s : State), s.dev.pat.split = true ∧ s.dev.linkUp = true) ∧
    (∃ (s : State) (q : Requester) (a : Access) (v : Word), Opens s.dev q 2 0 a ∧ s.dev.bit Reg.PAT_LOAD_STAT 31 = false ∧ wbit v 0 =
      true) ∧
    (∃ (s : State) (l : Load), s.dev.pat.load = some l ∧ l.result = 0x0A ∧ l.written = false ∧ s.dev.loadBlocked l = false) ∧
    (∃ (s : State) (l : Load), s.dev.pat.load = some l ∧ l.result = 0x0A ∧ l.written = true) ∧
    (∃ (s : State) (l : Load), s.dev.pat.load = some l ∧ l.result ≠ 0x0A) :=
  ⟨⟨{}, q0, sd, by decide⟩,
   ⟨st ({ dv with pat := { reqs := [⟨4, false⟩] } }.setReg Reg.TIM_TICK_CTL 2), ⟨4, false⟩, [], by decide⟩,
   ⟨st ((dv.setFld Reg.PAT_SWAP_STAT 1 0 1) |> fun d => { d with pat := { sent := true } }), by decide⟩,
   ⟨st (dv.setFld Reg.PAT_SWAP_STAT 5 4 2), 2, by decide⟩,
   ⟨st (dv.setBit Reg.FLD_LINK_STAT 8 true), by decide⟩,
   ⟨st ({ dv with pat := { split := true } }.setBit Reg.FLD_LINK_STAT 8 true), by decide⟩,
   ⟨{}, q0, sd, 1, by decide⟩,
   ⟨st { dv with pat := { load := some ⟨[], 0, false, 0, 0, false, 10, false, none⟩ } }, ⟨[], 0, false, 0, 0, false, 10, false, none⟩, by
     decide⟩,
   ⟨st { dv with pat := { load := some ⟨[], 0, false, 0, 0, false, 10, true, none⟩ } }, ⟨[], 0, false, 0, 0, false, 10, true, none⟩, by
     decide⟩,
   ⟨st { dv with pat := { load := some ⟨[], 0, false, 0, 0, false, 11, false, none⟩ } }, ⟨[], 0, false, 0, 0, false, 11, false, none⟩, by
     decide⟩⟩

theorem witness_generationReports :
    (∃ (s : State), s.dev.fldAbsent = false ∧ s.dev.linkUp = true ∧ s.dev.pat.zeroReport = true) ∧
    (∃ (s : State), s.dev.fldAbsent = false ∧ s.dev.linkUp = true ∧ s.dev.pat.zeroReport = false ∧ s.dev.fld Reg.FLD_SEL_GEN 15 0 =
      s.dev.expectedGen) ∧
    (∃ (s : State), s.dev.fldAbsent = false ∧ s.dev.linkUp = true ∧ s.dev.pat.zeroReport = false ∧ s.dev.fld Reg.FLD_SEL_GEN 15 0 ≠
      s.dev.expectedGen ∧ s.dev.pat.split = true) ∧
    (∃ (s : State), s.dev.fldAbsent = false ∧ s.dev.linkUp = true ∧ s.dev.pat.zeroReport = false ∧ s.dev.fld Reg.FLD_SEL_GEN 15 0 ≠
      s.dev.expectedGen ∧ s.dev.pat.split = false) :=
  ⟨⟨st (({ dv with pat := { zeroReport := true } }.setBit Reg.FLD_LINK_STAT 8 true).setReg Reg.FLD_SEL_GEN 5), by decide⟩,
   ⟨st (({ dv with pat := {  } }.setBit Reg.FLD_LINK_STAT 8 true).setReg Reg.FLD_SEL_GEN 0), by decide⟩,
   ⟨st (({ dv with pat := { split := true } }.setBit Reg.FLD_LINK_STAT 8 true).setReg Reg.FLD_SEL_GEN 65535), by decide⟩,
   ⟨st (({ dv with pat := {  } }.setBit Reg.FLD_LINK_STAT 8 true).setReg Reg.FLD_SEL_GEN 65535), by decide⟩⟩

theorem witness_compositorCommandsComplete :
    (∃ (s : State) (q : Requester) (a : Access) (i : Fin 64) (v : Word), Opens s.dev q 42 (s.dev.ciDomain i) a ∧ wbit v 0 = true ∧
      s.dev.power = 0 ∧ s.dev.ciLayers i ≠ 0 ∧ s.dev.bit (Reg.CMP_COMMIT_STAT i) 31 = false ∧ s.dev.ciOn i = false) ∧
    (∃ (s : State) (q : Requester) (a : Access) (i : Fin 64) (v : Word), Opens s.dev q 42 (s.dev.ciDomain i) a ∧ wbit v 0 = true ∧
      s.dev.power = 0 ∧ s.dev.ciLayers i ≠ 0 ∧ s.dev.bit (Reg.CMP_COMMIT_STAT i) 31 = false ∧ s.dev.ciOn i = true) ∧
    (∃ (s : State) (i : Fin 64) (f : CmpFrame) (d e : Dev), (s.dev.ci i).frame = some f ∧ f.running = true ∧ d = (s.dev.writeFrame i
      f).dropCount i ∧ e = (((d.setCi i { d.ci i with frame := none, complete := true }).setFld (Reg.CMP_CI_STAT i) 26 24 f.surf).setFld
      (Reg.CMP_CI_STAT i) 11 0 0).setReg (Reg.CMP_CI_FRAME i) (w32 f.round) ∧ f.rebuild = false) ∧
    (∃ (s : State) (i : Fin 64) (f : CmpFrame) (d e : Dev), (s.dev.ci i).frame = some f ∧ f.running = true ∧ d = (s.dev.writeFrame i
      f).dropCount i ∧ e = (((d.setCi i { d.ci i with frame := none, complete := true }).setFld (Reg.CMP_CI_STAT i) 26 24 f.surf).setFld
      (Reg.CMP_CI_STAT i) 11 0 0).setReg (Reg.CMP_CI_FRAME i) (w32 f.round) ∧ f.rebuild = true) :=
  ⟨⟨st ((dv.setFld (Reg.CMP_CI_CFG 63) 23 20 8).setBit (Reg.CMP_CI_CTL 63) 31 false), q0, sd, 63, 1, by decide⟩,
   ⟨st ((dv.setFld (Reg.CMP_CI_CFG 63) 23 20 8).setBit (Reg.CMP_CI_CTL 63) 31 true), q0, sd, 63, 1, by decide⟩,
   ⟨st { dv with cmp := { cis := [(63, { frame := some ⟨0, true, 0, [], [], false⟩ })] } }, 63, ⟨0, true, 0, [], [], false⟩, _, _, by
     decide, by decide, rfl, rfl, by decide⟩,
   ⟨st { dv with cmp := { cis := [(63, { frame := some ⟨0, true, 0, [], [], true⟩ })] } }, 63, ⟨0, true, 0, [], [], true⟩, _, _, by
     decide, by decide, rfl, rfl, by decide⟩⟩

theorem witness_jitterAndMixCommandsComplete :
    (∃ (s : State) (q : Requester) (a : Access) (w : Fin 16) (v : Word) (i : Nat) (e : Dev), Opens s.dev q 34 w a ∧ i = wfld v 12 0 ∧ (if
      wbit v 27 then i ≤ 2047 ∧ (w.val = 0 ∨ s.dev.encDomain i = w.val) else s.dev.mayLeg w i = true) ∧ s.dev.jbfWriteCfg w v i = (e, 0)) ∧
    (∃ (s : State) (q : Requester) (a : Access) (w : Fin 16) (v : Word) (i : Nat) (e : Dev), Opens s.dev q 34 w a ∧ i = wfld v 12 0 ∧ (if
      wbit v 27 then i ≤ 2047 ∧ (w.val = 0 ∨ s.dev.encDomain i = w.val) else s.dev.mayLeg w i = true) ∧ s.dev.jbfWriteLive w v i = (e,
      0)) ∧
    (∃ (s : State) (q : Requester) (a : Access) (w : Fin 16) (v : Word) (i : Nat), Opens s.dev q 34 w a ∧ i = wfld v 12 0 ∧ (if wbit v 27
      then i ≤ 2047 ∧ (w.val = 0 ∨ s.dev.encDomain i = w.val) else s.dev.mayLeg w i = true) ∧ wbit v 27 = false ∧ jState (s.dev.jrec i) ≠
      0) ∧
    (∃ (s : State) (q : Requester) (a : Access) (w : Fin 16) (v : Word), Opens s.dev q 34 w a ∧ wbit v 27 = false ∧ s.dev.mayLeg w (wfld
      v 12 0) = false) ∧
    (∃ (s : State), s.dev.cab.due = true ∧ s.dev.power < 2) ∧
    (∃ (s : State), s.dev.cab.due = false) :=
  ⟨⟨st (dv.setReg (Reg.JBF_REC 0 6) 0x02000000), q0, sd, 0, 0, 0, _, by decide, rfl, by decide, rfl⟩,
   ⟨st (dv.setReg (Reg.JBF_REC 0 6) 0x02000000), q0, sd, 0, 0, 0, _, by decide, by decide, by decide, rfl⟩,
   ⟨st { dv with jbf := { recs := [(5, rsetBits 0 50 2 0 1)] } }, q0, sd, 0, 5, 5, by decide⟩,
   ⟨{}, q0, sd, 1, 8191, by decide⟩,
   ⟨st { dv with cab := { due := true } }, by decide⟩,
   ⟨{}, by decide⟩⟩

theorem witness_fieldCommandsComplete :
    (∃ (s : State) (q : Requester) (a : Access) (k : Fin 32), Opens s.dev q 61 (s.dev.grpDomain k) a ∧ s.dev.fldAbsent = false ∧
      s.dev.linkUp = true ∧ s.dev.retired = false) ∧
    (∃ (s : State) (q : Requester) (a : Access) (k : Fin 32), Opens s.dev q 61 (s.dev.grpDomain k) a ∧ s.dev.fldAbsent = false ∧
      s.dev.linkUp = true ∧ s.dev.grpState k ≠ 0) ∧
    (∃ (s : State) (q : Requester) (a : Access) (k : Fin 32), Opens s.dev q 61 (s.dev.grpDomain k) a ∧ s.dev.fldAbsent = false ∧
      s.dev.linkUp = true ∧ s.dev.grpState k = 5) ∧
    (∃ (s : State) (k : Fin 32), s.dev.grpMaster k = false ∧ (s.dev.grpState k = 2 ∨ s.dev.grpState k = 4)) ∧
    (∃ (s : State) (k : Fin 32), s.dev.grpState k = 3) ∧
    (∃ (s : State) (k : Fin 32), s.dev.grpMaster k = false ∧ s.dev.grpState k = 2) ∧
    (∃ (s : State) (k : Fin 32) (rate : BitVec 32), s.dev.grpMaster k = false ∧ (s.dev.grpState k = 1 ∨ s.dev.grpState k = 4) ∧ nearRate
      rate.toNat (s.dev.grp k).rate = true) ∧
    (∃ (s : State) (k : Fin 32) (n : Nat), s.dev.grpMaster k = false ∧ s.dev.grpState k ≠ 0 ∧ n ≠ 0 ∧ ((s.dev.count (Reg.FLD_CG_GLITCH k)
      n).grp k).glitchMark = true) ∧
    (∃ (s : State) (k : Fin 32) (n : Nat) (d : Dev), s.dev.grpMaster k = false ∧ s.dev.grpState k ≠ 0 ∧ n ≠ 0 ∧ d = s.dev.count
      (Reg.FLD_CG_GLITCH k) n ∧ (d.grp k).glitchMark = false) ∧
    (∃ (s : State) (k : Fin 32), s.dev.grpMaster k = true ∧ s.dev.grpState k ≠ 0 ∧ s.dev.bit (Reg.FLD_CG_STAT k) 19 = false) ∧
    (∃ (s : State) (k : Fin 32), s.dev.grpMaster k = true ∧ 2 ≤ s.dev.grpState k ∧ s.dev.grpRef k ≠ 1 ∧ s.dev.bit (Reg.FLD_CG_STAT k) 19
      = false) ∧
    (∃ (s : State) (k : Fin 32), s.dev.grpMaster k = true ∧ 2 ≤ s.dev.grpState k ∧ s.dev.grpRef k ≠ 1 ∧ s.dev.bit (Reg.FLD_CG_STAT k) 19
      = true) ∧
    (∃ (s : State) (k : Fin 32) (n span : Nat), s.dev.grpState k ≠ 0 ∧ 2 ≤ n ∧ span ≠ 0) ∧
    (∃ (s : State), s.dev.fldAbsent = false ∧ s.dev.linkUp = true ∧ s.dev.power < 3) ∧
    (∃ (s : State), s.dev.fldAbsent = false ∧ s.dev.linkUp = true ∧ s.dev.field.crcMark = true) ∧
    (∃ (s : State), s.dev.fldAbsent = false ∧ s.dev.linkUp = true ∧ s.dev.field.crcMark = false) ∧
    (∃ (s : State) (locks : BitVec 8) (e : Dev), s.dev.fldAbsent = false ∧ s.dev.linkUp = true ∧ e = s.dev.linkFall locks.toNat ∧
      s.dev.pat.acked = true) ∧
    (∃ (s : State), s.dev.fldAbsent = false ∧ s.dev.linkUp = false ∧ s.dev.field.held = []) :=
  ⟨⟨st (dv.setBit Reg.FLD_LINK_STAT 8 true), q0, sd, 31, by decide⟩,
   ⟨st ((dv.setBit Reg.FLD_LINK_STAT 8 true).setFld (Reg.FLD_CG_STAT 31) 2 0 1), q0, sd, 31, by decide⟩,
   ⟨st ((dv.setBit Reg.FLD_LINK_STAT 8 true).setFld (Reg.FLD_CG_STAT 0) 2 0 5), q0, sd, 0, by decide⟩,
   ⟨st (dv.setFld (Reg.FLD_CG_STAT 0) 2 0 4), 0, by decide⟩,
   ⟨st (dv.setFld (Reg.FLD_CG_STAT 31) 2 0 3), 31, by decide⟩,
   ⟨st (dv.setFld (Reg.FLD_CG_STAT 3) 2 0 2), 3, by decide⟩,
   ⟨st ((dv.setFld (Reg.FLD_CG_STAT 3) 2 0 4).setGrp 3 { rate := 200 }), 3, 201, by decide⟩,
   ⟨st ((dv.setFld (Reg.FLD_CG_STAT 3) 2 0 4).setGrp 3 { glitchMark := true }), 3, 1, by decide⟩,
   ⟨st (dv.setFld (Reg.FLD_CG_STAT 3) 2 0 1), 3, 1, _, by decide, by decide, by decide, rfl, by decide⟩,
   ⟨st ((dv.setFld (Reg.FLD_CG_STAT 31) 2 0 1).setBit (Reg.FLD_CG_CFG_A 31) 21 true), 31, by decide⟩,
   ⟨st ((dv.setFld (Reg.FLD_CG_STAT 31) 2 0 2).setBit (Reg.FLD_CG_CFG_A 31) 21 true), 31, by decide⟩,
   ⟨st (((dv.setFld (Reg.FLD_CG_STAT 31) 2 0 5).setBit (Reg.FLD_CG_CFG_A 31) 21 true).setBit (Reg.FLD_CG_STAT 31) 19 true), 31, by
     decide⟩,
   ⟨st (dv.setFld (Reg.FLD_CG_STAT 3) 2 0 1), 3, 2, 1, by decide⟩,
   ⟨st (dv.setBit Reg.FLD_LINK_STAT 8 true), by decide⟩,
   ⟨st { ((dv.setBit Reg.FLD_LINK_STAT 8 true) : Dev) with field := { crcMark := true } }, by decide⟩,
   ⟨st { ((dv.setBit Reg.FLD_LINK_STAT 8 true) : Dev) with field := { crcMark := false } }, by decide⟩,
   ⟨st { (dv.setBit Reg.FLD_LINK_STAT 8 true) with pat := { acked := true } }, 0xFF, _, by decide, by decide, rfl, by decide⟩,
   ⟨{}, by decide⟩⟩

theorem witness_videoRecordCommandsComplete :
    (∃ (s : State) (q : Requester) (a : Access) (w : Fin 16) (v : Word) (i r : Nat), Opens s.dev q 40 w a ∧ i = wfld v 9 0 ∧ r =
      s.dev.regsNat (Reg.VDE_REC w 0) 32 ∧ (w.val = 0 ∨ s.dev.vdeDomain i = w.val) ∧ vdeCfg.bad r = false ∧ vdeRange r = true ∧
      s.dev.sealed 40 = false) ∧
    (∃ (s : State) (q : Requester) (a : Access) (w : Fin 16) (v : Word) (i r : Nat), Opens s.dev q 40 w a ∧ i = wfld v 9 0 ∧ r =
      s.dev.regsNat (Reg.VDE_REC w 0) 32 ∧ (w.val = 0 ∨ s.dev.vdeDomain i = w.val) ∧ vdeLive.bad r = false) ∧
    (∃ (s : State) (q : Requester) (a : Access) (w : Fin 16) (v : Word) (i r : Nat), Opens s.dev q 41 w a ∧ i = wfld v 8 0 ∧ r =
      s.dev.regsNat (Reg.VEN_REC w 0) 32 ∧ (w.val = 0 ∨ s.dev.venDomain i = w.val) ∧ venCfg.bad r = false ∧ venRange r = true ∧
      s.dev.sealed 41 = false) ∧
    (∃ (s : State) (q : Requester) (a : Access) (w : Fin 16) (v : Word) (i r : Nat), Opens s.dev q 41 w a ∧ i = wfld v 8 0 ∧ r =
      s.dev.regsNat (Reg.VEN_REC w 0) 32 ∧ (w.val = 0 ∨ s.dev.venDomain i = w.val) ∧ nCodec (s.dev.nrec i) ≠ 0 ∧ venLive.bad r = false ∧
      activeOk (nCodec (s.dev.nrec i)) (rbits r 74 2 0) = true ∧ 10 ≤ rf r 72 2 ∧ rf r 72 2 ≤ 2000) ∧
    (∃ (s : State) (q : Requester) (a : Access) (w : Fin 16) (v : Word) (g r : Nat), Opens s.dev q 44 w a ∧ wbit v 27 = false ∧ g = wfld
      v 13 0 ∧ g < 64 ∧ r = s.dev.regsNat (Reg.SQS_REC w 0) 16 ∧ (w.val = 0 ∨ s.dev.galDomain g = w.val) ∧ galCfg.bad r = false ∧
      galRange r = true ∧ s.dev.sealed 44 = false) ∧
    (∃ (s : State) (q : Requester) (a : Access) (w : Fin 16) (v : Word) (g r : Nat), Opens s.dev q 44 w a ∧ wbit v 27 = false ∧ g = wfld
      v 13 0 ∧ g < 64 ∧ r = s.dev.regsNat (Reg.SQS_REC w 0) 16 ∧ (w.val = 0 ∨ s.dev.galDomain g = w.val) ∧ galLive.bad r = false) ∧
    (∃ (s : State) (q : Requester) (a : Access) (w : Fin 16) (v : Word) (t r : Nat), Opens s.dev q 44 w a ∧ wbit v 27 = true ∧ t = wfld v
      13 0 ∧ r = s.dev.regsNat (Reg.SQS_REC w 0) 4 ∧ (w.val = 0 ∨ s.dev.galDomain (t / 256) = w.val) ∧ tileCfg.bad r = false ∧ tileRange
      r = true ∧ s.dev.sealed 44 = false) :=
  ⟨⟨{}, q0, sd, 0, 1023, 1023, 0, by decide⟩,
   ⟨{}, q0, sd, 0, 0, 0, 0, by decide⟩,
   ⟨{}, q0, sd, 0, 511, 511, 0, by decide⟩,
   ⟨st ((dv.setNrec 511 1).setReg (Reg.VEN_REC 0 18) 0x7000A), q0, sd, 0, 511, 511, _, by decide, by decide, rfl, by decide, by decide,
     by decide, by decide, by decide, by decide⟩,
   ⟨{}, q0, sd, 0, 63, 63, 0, by decide⟩,
   ⟨{}, q0, sd, 0, 0, 0, 0, by decide⟩,
   ⟨{}, q0, sd, 0, 0x8003FFF, 16383, 0, by decide⟩⟩

theorem witness_videoWorkCommandsComplete :
    (∃ (s : State) (core : Fin 16) (k : Nat) (f : Option Nat) (p : Picture) (h : Config.PicHeader), s.dev.regionOff 40 = false ∧
      s.dev.coreBusy core = false ∧ s.dev.vNext core = some k ∧ s.dev.vStartable core k = some (f, p) ∧ s.dev.vHeader k f p = some h) ∧
    (∃ (s : State) (core : Fin 16) (k j addr : Nat) (x : VdeCtx) (f : Option Nat) (p : Picture) (h : Config.PicHeader),
      s.dev.vde.ctxs.find? (fun e => e.2.str.pics.any (fun p => p.core == some core.val)) = some (k, x) ∧ x.str.expected.find? (fun e =>
      e.2.core == some core.val) = some (f, p) ∧ p.slot = some (j, addr) ∧ s.dev.vHeader k f p = some h ∧ p.whole f = true ∧
      s.dev.vPoisoned (s.dev.vrec k) = false) ∧
    (∃ (s : State) (k : Fin 1024) (f : Option Nat) (p : Picture) (d : Dev), (s.dev.vctx k).str.expected.find? (fun e => e.2.hold &&
      !e.2.dead && !e.2.ended && !e.2.whole e.1) = some (f, p) ∧ d = s.dev.vCount k 96 Reg.VDE_LOST ∧ k.val ∈ d.vde.lostMark) ∧
    (∃ (s : State) (k : Fin 1024) (f : Option Nat) (p : Picture) (d : Dev), (s.dev.vctx k).str.expected.find? (fun e => e.2.hold &&
      !e.2.dead && !e.2.ended && !e.2.whole e.1) = some (f, p) ∧ d = s.dev.vCount k 96 Reg.VDE_LOST ∧ k.val ∉ d.vde.lostMark) ∧
    (∃ (s : State) (t : Fin 16384) (f : Option Nat) (p : Picture), (s.dev.tst t).str.expected.find? (fun e => e.2.hold && !e.2.dead &&
      !e.2.whole e.1) = some (f, p)) ∧
    (∃ (s : State) (k : Fin 512) (b : Fin 4) (f : EncFrame), (s.dev.nctx k).frame = some f ∧ b.val < nSpan (s.dev.nrec k) ∧ b.val ∉
      f.bands ∧ nCore (s.dev.nrec k) + b.val ∉ s.dev.encCores ∧ s.dev.bandReady k f = true) ∧
    (∃ (s : State) (k : Fin 512) (f : EncFrame), (s.dev.nctx k).frame = some f ∧ nSpan (s.dev.nrec k) ≤ f.bands.length) ∧
    (∃ (s : State) (g : Fin 64) (f : GalFrame), (s.dev.gst g).frame = some f ∧ f.running = true) :=
  ⟨⟨st ({ dv with vde := { ctxs := [(5,
     { str := { pics := [⟨1, [⟨7, 0, 0, 0, true, true⟩], false, 0, some 0, true, false, none, none, false, false⟩] } })] } }.setVrec 5
     (rsetBits (rsetBits 0 65 1 0 1) 1 3 0 15)), 15, 5, none, ⟨1, [⟨7, 0, 0, 0, true, true⟩], false, 0, some 0, true, false, none, none,
     false, false⟩, _, by decide, by decide, by decide, by decide, rfl⟩,
   ⟨st { dv with vde := { ctxs := [(5, { str :=
     { pics := [⟨1, [⟨7, 0, 0, 0, true, true⟩], false, 0, some 0, true, false, some 15, some (0, 0), false, false⟩] } })] } }, 15, 5, 0,
     0, { str := { pics := [⟨1, [⟨7, 0, 0, 0, true, true⟩], false, 0, some 0, true, false, some 15, some (0, 0), false, false⟩] } },
     none, ⟨1, [⟨7, 0, 0, 0, true, true⟩], false, 0, some 0, true, false, some 15, some (0, 0), false, false⟩, _, by decide, by decide,
     by decide, rfl, by decide, by decide⟩,
   ⟨st { dv with vde := { lostMark := [1023], ctxs := [(1023,
     { str := { pics := [⟨1, [], false, 0, none, true, false, none, none, false, false⟩] } })] } }, 1023, none, ⟨1, [], false, 0, none,
     true, false, none, none, false, false⟩, _, by decide, rfl, by decide⟩,
   ⟨st { dv with vde := { ctxs := [(0, { str := { pics := [⟨1, [], false, 0, none, true, false, none, none, false, false⟩] } })] } }, 0,
     none, ⟨1, [], false, 0, none, true, false, none, none, false, false⟩, _, by decide, rfl, by decide⟩,
   ⟨st { dv with sqs := { tstate := [(16383, { str := { pics := [⟨1, [], false, 0, none, true, false, none, none, false, false⟩] } })] }
     }, 16383, none, ⟨1, [], false, 0, none, true, false, none, none, false, false⟩, by decide⟩,
   ⟨st { dv with ven := { ctxs := [(511, { frame := some ⟨0, some 0, [], []⟩ })] } }, 511, 0, ⟨0, some 0, [], []⟩, by decide⟩,
   ⟨st { dv with ven := { ctxs := [(511, { frame := some ⟨0, some 0, [0], []⟩ })] } }, 511, ⟨0, some 0, [0], []⟩, by decide⟩,
   ⟨st { dv with sqs := { gstate := [(63, { frame := some ⟨0, true, true, [], 0⟩ })] } }, 63, ⟨0, true, true, [], 0⟩, by decide⟩⟩

theorem witness_displayCommandsComplete :
    (∃ (s : State) (q : Requester) (a : Access) (o : Fin 2), Opens s.dev q 45 (s.dev.dpDomain o) a ∧ s.dev.retired = false ∧
      s.dev.dpState o = 0 ∧ (s.dev.setBit (Reg.DPO_CTL o) 0 true).dpOk o = true) ∧
    (∃ (s : State) (q : Requester) (a : Access) (o : Fin 2), Opens s.dev q 45 (s.dev.dpDomain o) a ∧ s.dev.dpState o = 3) ∧
    (∃ (s : State) (q : Requester) (a : Access) (o : Fin 2), Opens s.dev q 45 (s.dev.dpDomain o) a ∧ s.dev.dpState o = 4 ∧ s.dev.bit
      (Reg.DPO_STAT o) 4 = true) ∧
    (∃ (s : State) (o : Fin 2), s.dev.dpState o = 1) ∧
    (∃ (s : State) (o : Fin 2), s.dev.dpState o ≠ 0) ∧
    (∃ (s : State) (o : Fin 2), s.dev.dpState o = 2) ∧
    (∃ (s : State) (o : Fin 2) (i : Nat) (b : Bool) (x : Dpo) (d : Dev), s.dev.dpState o = 3 ∧ i = s.dev.dpSrc o ∧ x = s.dev.dp o ∧ b =
      (s.dev.ci i).complete ∧ d = s.dev.setPanic (6 + o) false ∧ b = false) ∧
    (∃ (s : State) (o : Fin 2) (i : Nat) (b : Bool) (x : Dpo) (d : Dev), s.dev.dpState o = 3 ∧ i = s.dev.dpSrc o ∧ x = s.dev.dp o ∧ b =
      (s.dev.ci i).complete ∧ d = s.dev.setPanic (6 + o) false ∧ b = true) ∧
    (∃ (s : State) (o : Fin 2), s.dev.dpState o = 3 ∧ (s.dev.dp o).scan ≠ none) ∧
    (∃ (s : State) (q : Requester) (a : Access) (o : Fin 2), Opens s.dev q 45 (s.dev.dpDomain o) a ∧ s.dev.bit (Reg.DPO_AUX_STAT o) 31 =
      false) ∧
    (∃ (s : State) (o : Fin 2) (x : Aux), (s.dev.dp o).aux = some x ∧ x.waiting = false ∧ x.op % 2 = 1) ∧
    (∃ (s : State) (o : Fin 2) (x : Aux), (s.dev.dp o).aux = some x ∧ x.waiting = false ∧ x.op % 2 = 0) ∧
    (∃ (s : State) (o : Fin 2) (x : Aux), (s.dev.dp o).aux = some x ∧ x.waiting = false ∧ x.defers < 7) ∧
    (∃ (s : State) (o : Fin 2) (x : Aux), (s.dev.dp o).aux = some x ∧ x.waiting = false ∧ 7 ≤ x.defers) ∧
    (∃ (s : State) (o : Fin 2) (x : Aux), (s.dev.dp o).aux = some x ∧ s.dev.dpState o ≠ 2) :=
  ⟨⟨{}, q0, sd, 1, by decide⟩,
   ⟨st (dv.setFld (Reg.DPO_STAT 1) 2 0 3), q0, sd, 1, by decide⟩,
   ⟨st ((dv.setFld (Reg.DPO_STAT 0) 2 0 4).setBit (Reg.DPO_STAT 0) 4 true), q0, sd, 0, by decide⟩,
   ⟨st (dv.setFld (Reg.DPO_STAT 1) 2 0 1), 1, by decide⟩,
   ⟨st (dv.setFld (Reg.DPO_STAT 0) 2 0 5), 0, by decide⟩,
   ⟨st (dv.setFld (Reg.DPO_STAT 1) 2 0 2), 1, by decide⟩,
   ⟨st (dv.setFld (Reg.DPO_STAT 1) 2 0 3), 1, _, _, _, _, by decide, rfl, rfl, rfl, rfl, by decide⟩,
   ⟨st { (dv.setFld (Reg.DPO_STAT 0) 2 0 3) with cmp := { cis := [(0, { complete := true })] } }, 0, _, _, _, _, by decide, rfl, rfl,
     rfl, rfl, by decide⟩,
   ⟨st { (dv.setFld (Reg.DPO_STAT 1) 2 0 3) with dpo := [(1, { scan := some (0, 0) })] }, 1, by decide⟩,
   ⟨{}, q0, sd, 1, by decide⟩,
   ⟨st { dv with dpo := [(1, { aux := some ⟨3, 0, 1, [], 0, false⟩ })] }, 1, ⟨3, 0, 1, [], 0, false⟩, by decide⟩,
   ⟨st { dv with dpo := [(1, { aux := some ⟨4, 0, 1, [], 0, false⟩ })] }, 1, ⟨4, 0, 1, [], 0, false⟩, by decide⟩,
   ⟨st { dv with dpo := [(1, { aux := some ⟨1, 0, 1, [], 6, false⟩ })] }, 1, ⟨1, 0, 1, [], 6, false⟩, by decide⟩,
   ⟨st { dv with dpo := [(0, { aux := some ⟨2, 0, 1, [], 7, false⟩ })] }, 0, ⟨2, 0, 1, [], 7, false⟩, by decide⟩,
   ⟨st { dv with dpo := [(1, { aux := some ⟨1, 0, 1, [], 0, true⟩ })] }, 1, ⟨1, 0, 1, [], 0, true⟩, by decide⟩⟩

theorem witness_forwardingRecordCommandsComplete :
    (∃ (s : State) (q : Requester) (a : Access) (w : Fin 16) (v : Word) (i n : Nat), Opens s.dev q 36 w a ∧ i = wfld v 19 0 ∧ n =
      s.dev.regsNat (Reg.FWD_REC w 0) 2 ∧ (w.val = 0 ∨ s.dev.subIn w i = true) ∧ n &&& subReserved = 0 ∧ subEn (s.dev.sub i) = false) ∧
    (∃ (s : State) (q : Requester) (a : Access) (w : Fin 16) (v : Word) (i n : Nat), Opens s.dev q 36 w a ∧ i = wfld v 19 0 ∧ n =
      s.dev.regsNat (Reg.FWD_REC w 0) 2 ∧ (w.val = 0 ∨ s.dev.subIn w i = true) ∧ n &&& bitsAt 3 7 4 = 0) ∧
    (∃ (s : State) (q : Requester) (a : Access) (w : Fin 16) (v : Word), Opens s.dev q 36 w a ∧ s.dev.mayLeg w (wfld v 15 0 / 8) = true ∧
      s.dev.fld (Reg.FWD_REC w 0) 7 0 < 16) ∧
    (∃ (s : State) (q : Requester) (a : Access) (w : Fin 16) (v : Word) (n : Nat), Opens s.dev q 35 w a ∧ s.dev.mayLeg w (cmdLeg v) =
      true ∧ n = hdrCfg.take (s.dev.legShadow v) (s.dev.legStaged w v) ∧ wbit v 27 = false ∧ hdrCfg.bad (s.dev.legStaged w v) = false ∧
      s.dev.sealed 35 = false) ∧
    (∃ (s : State) (q : Requester) (a : Access) (w : Fin 16) (v : Word) (n : Nat), Opens s.dev q 35 w a ∧ s.dev.mayLeg w (cmdLeg v) =
      true ∧ n = outCfg.take (s.dev.legShadow v) (s.dev.legStaged w v) ∧ wbit v 27 = true ∧ outCfg.bad (s.dev.legStaged w v) = false ∧
      s.dev.sealed 35 = false) ∧
    (∃ (s : State) (q : Requester) (a : Access) (w : Fin 16) (v : Word), Opens s.dev q 35 w a ∧ s.dev.mayLeg w (cmdLeg v) = true ∧ wbit v
      27 = false ∧ hdrLive.bad (s.dev.legStaged w v) = false) ∧
    (∃ (s : State) (q : Requester) (a : Access) (w : Fin 16) (v : Word), Opens s.dev q 35 w a ∧ s.dev.mayLeg w (cmdLeg v) = true ∧ wbit v
      27 = true ∧ outLive.bad (s.dev.legStaged w v) = false ∧ outOwned (s.dev.outRec (cmdOut v)) = false) ∧
    (∃ (s : State) (q : Requester) (a : Access) (w : Fin 16) (v : Word), Opens s.dev q 35 w a ∧ s.dev.mayLeg w (cmdLeg v) = true ∧
      s.dev.legReceives (cmdLeg v) = true) ∧
    (∃ (s : State) (q : Requester) (a : Access) (w : Fin 16) (v : Word), Opens s.dev q 35 w a ∧ s.dev.mayLeg w (cmdLeg v) = true ∧
      s.dev.legState (cmdLeg v) = 3) :=
  ⟨⟨{}, q0, sd, 0, 0xFFFFF, 0xFFFFF, 0, by decide⟩,
   ⟨{}, q0, sd, 0, 0, 0, 0, by decide⟩,
   ⟨{}, q0, sd, 0, 0xFFFF, by decide⟩,
   ⟨{}, q0, sd, 0, 0x1FFF, _, by decide, by decide, rfl, by decide, by decide, by decide⟩,
   ⟨{}, q0, sd, 0, 0xFFFFFFF, _, by decide, by decide, rfl, by decide, by decide, by decide⟩,
   ⟨{}, q0, sd, 0, 0, by decide⟩,
   ⟨{}, q0, sd, 0, 0x8000000, by decide⟩,
   ⟨st { dv with leg := { hdr := [(8191, rset 0 16 1 2)] } }, q0, sd, 0, 8191, by decide⟩,
   ⟨st { dv with leg := { hdr := [(0, rset 0 16 1 3)] } }, q0, sd, 0, 0, by decide⟩⟩

theorem witness_egressCommandsComplete :
    (∃ (s : State) (p : Fin 8) (lead : Fin 16) (d : Dev) (f : QFrame) (e : Dev), s.dev.portUp p = true ∧ tat none s.dev.egs.tx p = none ∧
      d = s.dev.lvTake (fun a => s.dev.shaperPort a == some p.val) ∧ d.choose p (gateUnits ((d.tb (d.fld (Reg.TIM_PORT_CFG p) 10 8)).time
      + lead * 2 ^ 40)) = (some f, e)) ∧
    (∃ (s : State) (p : Fin 8) (t : TxFrame), tat none s.dev.egs.tx p = some t ∧ (t.bad = true ∨ t.frame.cutOf.any s.dev.inFlight =
      false)) ∧
    (∃ (s : State) (q : Requester) (a : Access) (p : Fin 8) (v : Word) (r : Fin 8), s.dev.access q = some a ∧ a.dom = 0 ∧ s.dev.regionOff
      16 = false ∧ wbit v 0 = true ∧ s.dev.gatePending p = false ∧ r ≠ p) ∧
    (∃ (s : State) (p : Fin 8), s.dev.gatePending p = true) ∧
    (∃ (s : State) (p : Fin 8), s.dev.portUp p = false ∧ p.val ∉ s.dev.egs.flushed ∧ s.dev.fld (Reg.EGS_PORT_CFG p) 27 16 ≠ 0) :=
  ⟨⟨st ({ dv with egs := { cq := [(7, [⟨9, 1, 64, none, none, none, false, 0, none, false, none, none, none⟩])] } }.setFld
     (Reg.NET_PORT_STAT 7) 2 0 3), 7, 15, _, ⟨9, 1, 64, none, none, none, false, 0, none, false, none, none, none⟩, _, by decide, by
     decide, rfl, rfl⟩,
   ⟨st { dv with egs := { tx := [(7, some ⟨⟨9, 1, 64, none, none, none, false, 0, none, false, none, none, none⟩, 0, false⟩)] } }, 7,
     ⟨⟨9, 1, 64, none, none, none, false, 0, none, false, none, none, none⟩, 0, false⟩, by decide⟩,
   ⟨{}, q0, sd, 7, 1, 0, by decide⟩,
   ⟨st (dv.setBit (Reg.EGS_GATE_STAT 7) 31 true), 7, by decide⟩,
   ⟨st (dv.setReg (Reg.EGS_PORT_CFG 7) 0x10000), 7, by decide⟩⟩

theorem witness_dramCommandsComplete :
    (∃ (s : State) (port dom : Fin 16) (addr : BitVec 36) (data : Option (BitVec 512)) (k : Nat) (r : DramReq), k = s.dev.dmcOf
      addr.toNat ∧ s.dev.trained k = true ∧ s.dev.dramDeny dom (64 * (addr.toNat / 64)) 64 = 0 ∧ r = ⟨port, portClass port, addr.toNat /
      64, data.map (·.toNat), s.dev.tim.clocks, s.dev.inPanic k port⟩ ∧ (s.dev.dmcUnit k).held data.isSome < 64) ∧
    (∃ (s : State) (port dom : Fin 16) (addr : BitVec 36) (data : Option (BitVec 512)) (k : Nat) (r : DramReq), k = s.dev.dmcOf
      addr.toNat ∧ s.dev.trained k = true ∧ s.dev.dramDeny dom (64 * (addr.toNat / 64)) 64 = 0 ∧ r = ⟨port, portClass port, addr.toNat /
      64, data.map (·.toNat), s.dev.tim.clocks, s.dev.inPanic k port⟩ ∧ 64 ≤ (s.dev.dmcUnit k).held data.isSome) ∧
    (∃ (s : State) (dom : Fin 16) (addr : BitVec 36) (n : Nat), s.dev.trained (s.dev.dmcOf addr.toNat) = true ∧ n = s.dev.dramDeny dom
      (64 * (addr.toNat / 64)) 64 ∧ (n = 1 ∨ n = 2)) ∧
    (∃ (s : State) (k : Fin 8) (port : Fin 16), s.dev.trained k = true ∧ s.dev.inPanic k port = true ∧ s.dev.fld (Reg.DMC_QOS k) 31 16 ≠
      0 ∧ 16 * k.val + port.val ∉ s.dev.dmc.longMark) ∧
    (∃ (s : State) (k : Fin 8) (d : Dev), s.dev.trained k = true ∧ (s.dev.bankTimers k).slotStep k = (d, none)) ∧
    (∃ (s : State) (k : Fin 8) (link : Fin 4) (d e : Dev) (r : DramReq), s.dev.trained k = true ∧ (s.dev.bankTimers k).slotStep k = (d,
      some r) ∧ d.linkResult k r link = (e, none)) ∧
    (∃ (s : State) (k : Fin 8) (link : Fin 4) (d e : Dev) (r : DramReq) (x : Nat × Nat), s.dev.trained k = true ∧ (s.dev.bankTimers
      k).slotStep k = (d, some r) ∧ d.linkResult k r link = (e, some x)) :=
  ⟨⟨st dramBig, 0, 0, 0, none, 0, _, by decide, by decide, by decide, rfl, by decide⟩,
   ⟨st { dramBig with dmc := { units := [(0, { queue := List.replicate 64 ⟨0, 0, 0, none, 0, false⟩ })] } }, 0, 0, 0, none, 0, _, by
     decide, by decide, by decide, rfl, by decide⟩,
   ⟨st dramBig, 1, 0xFFFFFFFC0, 2, by decide⟩,
   ⟨st (((dv.setFld (Reg.DMC_STAT 7) 1 0 2).setReg (Reg.DMC_PANIC_STAT 7) 0x8000).setReg (Reg.DMC_QOS 7) 0x10000), 7, 15, by decide⟩,
   ⟨st dram, 0, _, by decide, rfl⟩,
   ⟨st { dram with dmc := { units := [(0, { queue := [⟨0, 0, 0, none, 0, false⟩] })] } }, 0, 0, _, _, ⟨0, 0, 0, none, 0, false⟩, by
     decide, rfl, rfl⟩,
   ⟨st ({ dram with dmc := { units := [(0, { queue := [⟨0, 0, 0, none, 0, false⟩] })] } }.setBit (Reg.DMC_CFG 0) 8 true), 0, 3, _, _, ⟨0,
     0, 0, none, 0, false⟩, (0, 0), by decide, rfl, rfl⟩⟩

theorem witness_windowWritesDram :
    (∃ (s : State) (fn : Fin 16) (off a : Nat) (b : List Byte) (x : Nat), s.dev.fnBound fn = true ∧ s.dev.regionOff 5 = false ∧ (fn = 0 →
      s.dev.stagingOpen = false) ∧ b ≠ [] ∧ off + b.length ≤ (s.dev.bar2Window fn).2 ∧ a = (s.dev.bar2Window fn).1 + off ∧ s.dev.dramDeny
      (s.dev.fnDomain fn) a b.length = 0 ∧ Memory.wf s.dev.dram = true ∧ (x < a ∨ a + b.length ≤ x)) ∧
    (∃ (s : State) (fn : Fin 16) (off a k : Nat) (b : List Byte), s.dev.fnBound fn = true ∧ s.dev.regionOff 5 = false ∧ (fn = 0 →
      s.dev.stagingOpen = false) ∧ b ≠ [] ∧ off + b.length ≤ (s.dev.bar2Window fn).2 ∧ a = (s.dev.bar2Window fn).1 + off ∧ k =
      s.dev.dramDeny (s.dev.fnDomain fn) a b.length ∧ k ≠ 0) ∧
    (∃ (s : State) (fn : Fin 16) (off n a : Nat) (e : Dev), s.dev.fnBound fn = true ∧ s.dev.regionOff 5 = false ∧ (fn = 0 →
      s.dev.stagingOpen = false) ∧ n ≠ 0 ∧ off + n ≤ (s.dev.bar2Window fn).2 ∧ a = (s.dev.bar2Window fn).1 + off ∧ s.dev.dramDeny
      (s.dev.fnDomain fn) a n = 0 ∧ e = (s.dev.dramGet 0 (s.dev.fnDomain fn) a n).2 ∧ s.dev.dmc.poison = []) ∧
    (∃ (s : State) (fn : Fin 16), s.dev.fnBound fn = false) :=
  ⟨⟨st dramBig, 0, 0, 0, [1, 2], 2, by decide⟩,
   ⟨st dram, 0, 0, 0, 2, [1], by decide⟩,
   ⟨st dramBig, 0, 0, 4, 0, _, by decide, by decide, by decide, by decide, by decide, by decide, by decide, rfl, by decide⟩,
   ⟨{}, 15, by decide⟩⟩

theorem witness_storeCommandsComplete :
    (∃ (s : State) (q : Requester) (a : Access) (l e : Nat), Opens s.dev q 56 0 a ∧ s.dev.dramUp = true ∧ s.dev.retired = false ∧
      (s.dev.storeState = 0 ∨ 4 ≤ s.dev.storeState) ∧ s.dev.dies ≠ [] ∧ s.dev.bit Reg.NFC_CTL (s.dev.dies.headD 0 / 4) = true ∧
      s.dev.nand.root = some (l, e)) ∧
    (∃ (s : State) (q : Requester) (a : Access) (w : Fin 16) (v : Word) (e : Dev), Opens s.dev q 56 w a ∧ s.dev.openTrack w (wfld v 9 0)
      (s.dev.regsNat (Reg.NFC_REC w 0) 4) = (e, 0)) ∧
    (∃ (s : State) (q : Requester) (a : Access) (w : Fin 16) (v : Word), Opens s.dev q 56 w a ∧ (s.dev.track (wfld v 9 0)).st ≠ 0 ∧
      (w.val = 0 ∨ (s.dev.track (wfld v 9 0)).dom = w.val) ∧ s.dev.rowLate (s.dev.reg (Reg.NFC_REC w 3)).toNat = false) ∧
    (∃ (s : State) (q : Requester) (a : Access) (w : Fin 16) (v : Word), Opens s.dev q 56 w a ∧ (w.val = 0 ∨ (s.dev.track (wfld v 9
      0)).st ≠ 0 ∧ (s.dev.track (wfld v 9 0)).dom = w.val)) ∧
    (∃ (s : State) (q : Requester) (a : Access) (w : Fin 16) (n addr : Nat) (u : NandUnit), Opens s.dev q 56 w a ∧ n = s.dev.regsNat
      (Reg.NFC_REC w 0) 2 ∧ addr = s.dev.regsNat (Reg.NFC_REC w 2) 2 ∧ s.dev.storeState = 2 ∧ s.dev.releaseLsn ≤ n ∧ s.dev.findUnit n =
      some u ∧ (w.val = 0 ∨ byteAt u.bytes 28 % 16 = w.val)) ∧
    (∃ (s : State) (q : Requester) (a : Access) (w : Fin 16) (n addr : Nat), Opens s.dev q 56 w a ∧ n = s.dev.regsNat (Reg.NFC_REC w 0) 2
      ∧ addr = s.dev.regsNat (Reg.NFC_REC w 2) 2 ∧ s.dev.storeState = 2 ∧ (n < s.dev.releaseLsn ∨ s.dev.findUnit n = none)) ∧
    (∃ (s : State) (q : Requester) (a : Access) (n : Nat), Opens s.dev q 56 0 a ∧ n = (s.dev.reg (Reg.NFC_REC 0 4)).toNat ∧ n ≤ 4032 ∧
      s.dev.storeState = 2 ∧ s.dev.storeFull = false) ∧
    (∃ (s : State) (q : Requester) (a : Access) (n : Nat), Opens s.dev q 56 0 a ∧ n = s.dev.regsNat (Reg.NFC_REC 0 0) 2 ∧
      s.dev.storeState = 2 ∧ s.dev.releaseLsn < n) ∧
    (∃ (s : State) (q : Requester) (a : Access) (n : Nat), Opens s.dev q 56 0 a ∧ n = s.dev.regsNat (Reg.NFC_REC 0 0) 2 ∧
      s.dev.storeState = 2 ∧ n ≤ s.dev.releaseLsn) ∧
    (∃ (s : State) (q : Requester) (a : Access), Opens s.dev q 56 0 a ∧ s.dev.nfc.tracks.any (fun t => t.2.st != 0) = false ∧
      s.dev.storeState ≠ 1 ∧ s.dev.storeState ≠ 3 ∧ s.dev.retired = false) :=
  ⟨⟨st ((({ dram with nand := { root := some (1, 0) } }).setBit Reg.NFC_GEOM 16 true).setBit Reg.NFC_CTL 0 true), q0, sd, 1, 0, by
     decide⟩,
   ⟨st opening, q0, sd, 0, 511, (opening.openTrack 0 (wfld 511 9 0) (opening.regsNat (Reg.NFC_REC 0 0) 4)).1, by decide, Prod.ext rfl (by
     decide)⟩,
   ⟨st ({ dv with nfc := { tracks := [(511, { st := 1 })] } }.setReg (Reg.NFC_REC 0 3) 9), q0, sd, 0, 511, by decide⟩,
   ⟨{}, q0, sd, 0, 511, by decide⟩,
   ⟨st ({ (dv.setFld Reg.NFC_STAT 2 0 2) with nfc := { queue := [⟨0, [], none, false⟩] } }), q0, sd, 0, 0, 0, ⟨0, [], none, false⟩, by
     decide⟩,
   ⟨st (dv.setFld Reg.NFC_STAT 2 0 2), q0, sd, 15, 0, 0, by decide⟩,
   ⟨st (dv.setFld Reg.NFC_STAT 2 0 2), q0, sd, 0, by decide⟩,
   ⟨st ((dv.setFld Reg.NFC_STAT 2 0 2).setReg (Reg.NFC_REC 0 0) 7), q0, sd, 7, by decide⟩,
   ⟨st (dv.setFld Reg.NFC_STAT 2 0 2), q0, sd, 0, by decide⟩,
   ⟨{}, q0, sd, by decide⟩⟩

theorem witness_storeWorkCompletes :
    (∃ (s : State), s.dev.storeState = 3) ∧
    (∃ (s : State) (b : Nat), s.dev.nfc.head = some b ∧ s.dev.pageUnits ≤ s.dev.nfc.queue.length ∧ (s.dev.storeState = 2 ∨
      s.dev.storeState = 3)) ∧
    (∃ (s : State) (block : BitVec 16), (s.dev.sblk block.toNat).st = 4 ∧ s.dev.storeState = 2) ∧
    (∃ (s : State) (b n row at_ : Nat), s.dev.nfc.head = some b ∧ s.dev.storeState = 2 ∧ s.dev.reg64 Reg.NFC_DURABLE_LSN_LO
      Reg.NFC_DURABLE_LSN_HI ≠ s.dev.nfc.top ∧ row = (s.dev.blockMembers b).length * s.dev.pageUnits ∧ n = (if s.dev.tlc then 3 * row
      else s.dev.pageUnits) ∧ at_ = (if s.dev.tlc then row * (s.dev.nfc.page % 3) + ((s.dev.blockMembers b).filter (fun m => decide (m <
      s.dev.nfc.member))).length * s.dev.pageUnits else 0) + s.dev.nfc.queue.length) ∧
    (∃ (s : State) (block : BitVec 16), (s.dev.sblk block.toNat).st = 2 ∧ s.dev.storeState = 2 ∧ s.dev.fld Reg.NFC_PATROL 31 24 ≠ 0) ∧
    (∃ (s : State) (block : BitVec 16), (s.dev.sblk block.toNat).st = 3 ∧ (s.dev.sblk block.toNat).pages.any (fun p => p.units.any (fun u
      => s.dev.nfc.queue.any (fun q => q.copy && q.lsn == u.lsn))) = false) :=
  ⟨⟨st (dv.setFld Reg.NFC_STAT 2 0 3), by decide⟩,
   ⟨st ({ (dv.setFld Reg.NFC_STAT 2 0 2) with nfc := { head := some 5, queue := List.replicate 8 ⟨0, [], none, false⟩ } }), 5, by decide⟩,
   ⟨st ({ (dv.setFld Reg.NFC_STAT 2 0 2) with nand := { blocks := [(5, { st := 4 })] } }), 5, by decide⟩,
   ⟨st ({ (dv.setFld Reg.NFC_STAT 2 0 2) with nfc := { head := some 5, top := 1 } }), 5, _, _, _, by decide, by decide, by decide, rfl,
     rfl, rfl⟩,
   ⟨st (({ (dv.setFld Reg.NFC_STAT 2 0 2) with nand := { blocks := [(5, { st := 2 })] } }).setReg Reg.NFC_PATROL 0x1000000), 5, by
     decide⟩,
   ⟨st ({ (dv.setFld Reg.NFC_STAT 2 0 2) with nand := { blocks := [(5, { st := 3 })] } }), 5, by decide⟩⟩

theorem witness_hostCommandsComplete :
    (∃ (s : State) (fn x : Fin 16) (r : Fin 6) (v : Word), s.dev.fnServes fn x = true ∧ s.dev.dbAccepts (ringKey x r) v.toNat = true) ∧
    (∃ (s : State) (fn x : Fin 16) (r : Fin 6) (v : Word), s.dev.fnServes fn x = true ∧ s.dev.dbAccepts (ringKey x r) v.toNat = false) ∧
    (∃ (s : State) (fn x : Fin 16) (r : Fin 10) (v : Word), s.dev.fnServes fn x = true ∧ s.dev.dbAccepts (ringKey x (6 + r)) v.toNat =
      true) ∧
    (∃ (s : State) (fn x : Fin 16) (r : Fin 10) (v : Word), s.dev.fnServes fn x = true ∧ s.dev.dbAccepts (ringKey x (6 + r)) v.toNat =
      false) ∧
    (∃ (s : State) (x : Fin 16) (src : Fin 17) (k : Nat), k = ringKey x src ∧ src.val ≠ 16 ∧ s.dev.fld (Reg.HST_RING_COAL x src) 31 16 ≠
      0 ∧ tat 0 s.dev.hst.unsig k ≠ 0) ∧
    (∃ (s : State) (x : Fin 16) (src : Fin 17) (k : Nat), k = ringKey x src ∧ src.val = 16 ∧ s.dev.fld (Reg.SWT_LOG_COAL x) 31 16 ≠ 0 ∧
      tat 0 s.dev.swt.unsig x ≠ 0) ∧
    (∃ (s : State) (x : Fin 16) (r : Fin 6), s.dev.ringOn (ringKey x r) = true) ∧
    (∃ (s : State) (q : Requester) (a : Access) (x r : Fin 16) (v : Word) (k : Nat), Opens s.dev q 5 x a ∧ k = ringKey x r ∧ s.dev.bit
      (rCfg k) 31 = false ∧ wbit v 31 = true) ∧
    (∃ (s : State) (q : Requester) (a : Access) (x r : Fin 16) (v : Word) (k : Nat), Opens s.dev q 5 x a ∧ k = ringKey x r ∧ s.dev.bit
      (rCfg k) 31 = true ∧ wbit v 31 = false ∧ (s.dev.reg (rCfg k)).toNat &&& ringCfgHl = v.toNat &&& ringCfgHl) ∧
    (∃ (s : State) (fn : Fin 16), fn ≠ 0 ∧ s.dev.regionOff 5 = false ∧ s.dev.fnDomain fn ≠ 0) ∧
    (∃ (s : State) (v w : Word), w = w32 (v.toNat &&& 0x1FF3F) ∧ s.dev.reg Reg.HST_LINK_STAT ≠ w) ∧
    (∃ (fn : Fin 16) (j : Nat), j ≠ fn) :=
  ⟨⟨{}, 0, 15, 5, 0, by decide⟩,
   ⟨{}, 0, 15, 5, 0x80000000, by decide⟩,
   ⟨{}, 0, 15, 9, 0, by decide⟩,
   ⟨{}, 0, 15, 9, 0x80000000, by decide⟩,
   ⟨st ({ dv with hst := { unsig := [(ringKey 15 7, 2)] } }.setReg (Reg.HST_RING_COAL 15 7) 0x10000), 15, 7, _, rfl, by decide, by
     decide, by decide⟩,
   ⟨st ({ dv with swt := { unsig := [(15, 2)] } }.setReg (Reg.SWT_LOG_COAL 15) 0x10000), 15, 16, _, rfl, by decide, by decide, by decide⟩,
   ⟨st (ringsOn 5), 0, 5, by decide⟩,
   ⟨{}, q0, sd, 15, 15, 0x80000000, _, by decide, rfl, by decide, by decide⟩,
   ⟨st (dv.setReg (rCfg (ringKey 15 15)) 0x80000000), q0, sd, 15, 15, 0, _, by decide, rfl, by decide, by decide, by decide⟩,
   ⟨st (dv.setReg (Reg.HST_VF_DOM 15) 3), 15, by decide⟩,
   ⟨{}, 0x1FFFF, _, rfl, by decide⟩,
   ⟨0, 15, by decide⟩⟩

theorem witness_ringDescriptorsComplete :
    (∃ (s : State) (x : Fin 16) (r : Fin 2) (c : CmdDesc) (k : Nat) (e : Dev), k = ringKey x r ∧ tat none s.dev.hst.waits k = none ∧
      s.dev.takeDesc k = some e ∧ cmdGood c 1 = true) ∧
    (∃ (s : State) (x : Fin 16) (r : Fin 2) (c : CmdDesc) (k : Nat) (e : Dev), k = ringKey x r ∧ tat none s.dev.hst.waits k = none ∧
      s.dev.takeDesc k = some e ∧ cmdGood c 4 = true) ∧
    (∃ (s : State) (x : Fin 16) (r : Fin 2) (c : CmdDesc) (k : Nat) (e : Dev), k = ringKey x r ∧ tat none s.dev.hst.waits k = none ∧
      s.dev.takeDesc k = some e ∧ cmdGood c 2 = true) ∧
    (∃ (s : State) (x : Fin 16) (r : Fin 2) (c : CmdDesc) (k : Nat) (e : Dev), k = ringKey x r ∧ tat none s.dev.hst.waits k = none ∧
      s.dev.takeDesc k = some e ∧ cmdGood c 3 = true) ∧
    (∃ (s : State) (x : Fin 16) (r : Fin 2) (c : CmdDesc) (k : Nat) (e : Dev), k = ringKey x r ∧ tat none s.dev.hst.waits k = none ∧
      s.dev.takeDesc k = some e ∧ cmdGood c 5 = true) ∧
    (∃ (s : State) (x : Fin 16) (r : Fin 2) (w : Waiting) (k : Nat) (p : Word × Dev), k = ringKey x r ∧ tat none s.dev.hst.waits k = some
      w ∧ s.dev.ringOn k = true ∧ p = readAny (.ring x) w.addr s.dev ∧ p.1.toNat &&& w.mask = w.value) ∧
    (∃ (s : State) (x : Fin 16) (r : Fin 2) (w : Waiting) (k : Nat) (p : Word × Dev), k = ringKey x r ∧ tat none s.dev.hst.waits k = some
      w ∧ s.dev.ringOn k = true ∧ p = readAny (.ring x) w.addr s.dev ∧ p.1.toNat &&& w.mask ≠ w.value ∧ w.left = 0) ∧
    (∃ (s : State) (x : Fin 16) (r : Fin 2) (w : Waiting) (k : Nat) (p : Word × Dev), k = ringKey x r ∧ tat none s.dev.hst.waits k = some
      w ∧ s.dev.ringOn k = true ∧ p = readAny (.ring x) w.addr s.dev ∧ p.1.toNat &&& w.mask ≠ w.value ∧ w.left ≠ 0) ∧
    (∃ (s : State) (x : Fin 16) (r : Fin 4) (i : InjDesc) (k n : Nat) (e : Dev) (id : Nat) (g : Dev), s.dev.regionOff 5 = false ∧ k =
      ringKey x (2 + r) ∧ tat none s.dev.hst.inject k = none ∧ i.kind ≠ 3 ∧ 60 ≤ i.frame.length ∧ i.frame.length + 4 ≤ s.dev.maxFrame
      (s.dev.injectPort i) ∧ s.dev.takeDesc k = some e ∧ (i.legValid = true → e.mayLeg x i.leg.toNat = true) ∧ n = buffersFor (e.fld
      (Reg.BPM_POOL_CFG (e.fld Reg.HST_INJ_POOL 2 0)) 7 0) (i.frame.length + 64) ∧ e.alloc (e.fld Reg.HST_INJ_POOL 2 0) 42 n x = (some
      id, g) ∧ i.legValid = true) ∧
    (∃ (s : State) (x : Fin 16) (r : Fin 4) (i : InjDesc) (k n : Nat) (e g : Dev), s.dev.regionOff 5 = false ∧ k = ringKey x (2 + r) ∧
      tat none s.dev.hst.inject k = none ∧ i.kind ≠ 3 ∧ 60 ≤ i.frame.length ∧ i.frame.length + 4 ≤ s.dev.maxFrame (s.dev.injectPort i) ∧
      s.dev.takeDesc k = some e ∧ (i.legValid = true → e.mayLeg x i.leg.toNat = true) ∧ n = buffersFor (e.fld (Reg.BPM_POOL_CFG (e.fld
      Reg.HST_INJ_POOL 2 0)) 7 0) (i.frame.length + 64) ∧ e.alloc (e.fld Reg.HST_INJ_POOL 2 0) 42 n x = (none, g)) :=
  ⟨⟨st (ringsOn 1), 0, 1, ⟨1, true, 0, 12, 7, 0, [], boot⟩, _, _, rfl, by decide, rfl, by decide⟩,
   ⟨st (ringsOn 1), 0, 1, ⟨4, true, 0, 9, 7, 0, [], boot⟩, _, _, rfl, by decide, rfl, by decide⟩,
   ⟨st (ringsOn 1), 0, 1, ⟨2, true, 0, 0, 7, 0, [], boot⟩, _, _, rfl, by decide, rfl, by decide⟩,
   ⟨st (ringsOn 1), 0, 1, ⟨3, true, 0, 0, 7, 0, [], boot⟩, _, _, rfl, by decide, rfl, by decide⟩,
   ⟨st (ringsOn 1), 0, 1, ⟨5, true, 0, 0, 7, 0, [], boot⟩, _, _, rfl, by decide, rfl, by decide⟩,
   ⟨st { ringsOn 0 with hst := { (ringsOn 0).hst with waits := [(0, some ⟨0, 0, 0, 5, 7, true⟩)] } }, 0, 0, ⟨0, 0, 0, 5, 7, true⟩, _, _,
     rfl, by decide, by decide, rfl, by decide⟩,
   ⟨st { ringsOn 0 with hst := { (ringsOn 0).hst with waits := [(0, some ⟨0, 0, 1, 0, 7, true⟩)] } }, 0, 0, ⟨0, 0, 1, 0, 7, true⟩, _, _,
     rfl, by decide, by decide, rfl, by decide, by decide⟩,
   ⟨st { ringsOn 0 with hst := { (ringsOn 0).hst with waits := [(0, some ⟨0, 0, 1, 5, 7, true⟩)] } }, 0, 0, ⟨0, 0, 1, 5, 7, true⟩, _, _,
     rfl, by decide, by decide, rfl, by decide, by decide⟩,
   ⟨st ((({ ringsOn 2 with bpm := { pools := [(0, { free := [(5, 3)] })] } }.setReg (Reg.BPM_FREE 0) 3).setReg (Reg.BPM_QUOTA 0 0) 2)),
     0, 0, ⟨0, false, true, true, 7, 0, 0, 0, List.replicate 60 0⟩, _, _, _, 5, _, by decide, rfl, by decide, by decide, by decide, by
     decide, rfl, by decide, rfl, rfl, rfl⟩,
   ⟨st (ringsOn 2), 0, 0, ⟨0, false, true, false, 7, 0, 0, 0, List.replicate 60 0⟩, _, _, _, _, by decide, rfl, by decide, by decide, by
     decide, by decide, rfl, by decide, rfl, rfl⟩⟩

theorem witness_registerAccess :
    (∃ (addr : Nat), addr % 8 = 0 ∧ inMsix addr = true) ∧
    (∃ (addr width : Nat), (¬ (width = 4 ∧ addr % 4 = 0)) ∧ (¬ (width = 8 ∧ addr % 8 = 0 ∧ inMsix addr = true))) ∧
    (∃ (s : State) (q : Requester) (x : Access) (addr b : Nat) (r : RegRow) (v : BitVec 64) (boot : BootEnv), q ≠ .debug ∧ s.dev.access q
      = some x ∧ x.dom = 0 ∧ addr % 4 = 0 ∧ inMsix addr = false ∧ b = activeOf addr ∧ commandWrite q boot addr (v.setWidth 32) s.dev =
      none ∧ regRow b = some r ∧ r.ty = .SH ∧ r.w1c = 0 ∧ inXp b = false ∧ addr ≠ Reg.SWT_VIEW ∧ s.dev.regionOff (regionOf addr) = false
      ∧ s.dev.noUnit b = false ∧ regionOf addr ≠ 61 ∧ layerOf b = none ∧ s.dev.sealed (blockOf (regionOf b)) = false) ∧
    (∃ (s : State) (q : Requester) (x : Access) (addr b : Nat) (r : RegRow) (v : BitVec 64) (boot : BootEnv), q ≠ .debug ∧ s.dev.access q
      = some x ∧ x.dom = 0 ∧ addr % 4 = 0 ∧ inMsix addr = false ∧ b = activeOf addr ∧ commandWrite q boot addr (v.setWidth 32) s.dev =
      none ∧ regRow b = some r ∧ r.ty = .SH ∧ r.w1c = 0 ∧ inXp b = false ∧ addr ≠ Reg.SWT_VIEW ∧ s.dev.regionOff (regionOf addr) = false
      ∧ s.dev.noUnit b = false ∧ regionOf addr ≠ 61 ∧ layerOf b = none ∧ s.dev.sealed (blockOf (regionOf b)) = true) ∧
    (∃ (s : State) (q : Requester) (x : Access), q ≠ .debug ∧ s.dev.access q = some x ∧ x.dom = 0 ∧ s.dev.regionOff 3 = false ∧ tat 0
      s.dev.swt.view x.bank = 0) :=
  ⟨⟨0x540000, by decide⟩,
   ⟨0x540004, 8, by decide⟩,
   ⟨{}, q0, sd, Reg.CAB_CFG, Reg.CAB_CFG, _, 0x12345678, boot, by decide, by decide, by decide, by decide, by decide, by decide, by
     decide, rfl, by decide, by decide, by decide, by decide, by decide, by decide, by decide, by decide, by decide⟩,
   ⟨st (dv.setReg Reg.PAT_SWAP_STAT 1), q0, sd, Reg.CAB_CFG, Reg.CAB_CFG, _, 0x12345678, boot, by decide, by decide, by decide, by
     decide, by decide, by decide, by decide, rfl, by decide, by decide, by decide, by decide, by decide, by decide, by decide, by
     decide, by decide⟩,
   ⟨{}, q0, sd, by decide⟩⟩

theorem witness_lifeCycleCommandsComplete :
    (∃ (s : State) (q : Requester) (a : Access) (v : Word) (f : Nat), Opens s.dev q 1 0 a ∧ s.dev.bit Reg.SEC_CMD_STAT 31 = false ∧ f =
      wfld v 3 0 ∧ f ≤ 10 ∧ wfld v 31 30 = 1) ∧
    (∃ (s : State) (q : Requester) (a : Access) (v : Word) (f : Nat), Opens s.dev q 1 0 a ∧ s.dev.bit Reg.SEC_CMD_STAT 31 = false ∧ f =
      wfld v 3 0 ∧ f ≤ 10 ∧ wfld v 31 30 = 2 ∧ otpDone s.dev.sec.otp f = false ∧ s.dev.sec.otp.lc ≤ (if f = 0 then 0 else 1)) ∧
    (∃ (s : State) (q : Requester) (a : Access) (v : Word) (n : Nat), Opens s.dev q 1 0 a ∧ s.dev.bit Reg.SEC_CMD_STAT 31 = false ∧ wbit
      v 31 = true ∧ n = wfld v 6 0 ∧ n ≤ 64 ∧ wbit v 7 = false ∧ s.dev.sec.otp.fwFloor < n ∧ n ≤ (s.dev.reg Reg.SEC_FW_VERSION).toNat) ∧
    (∃ (s : State) (q : Requester) (a : Access) (v : Word) (n : Nat), Opens s.dev q 1 0 a ∧ s.dev.bit Reg.SEC_CMD_STAT 31 = false ∧ wbit
      v 31 = true ∧ n = wfld v 6 0 ∧ n ≤ 64 ∧ wbit v 7 = true ∧ s.dev.sec.otp.patFloor < n ∧ n ≤ (s.dev.reg Reg.PAT_SEC_VERSION).toNat) ∧
    (∃ (s : State) (q : Requester) (a : Access) (v : Word) (i : Nat), Opens s.dev q 1 0 a ∧ s.dev.bit Reg.SEC_CMD_STAT 31 = false ∧ wbit
      v 31 = true ∧ i = wfld v 2 0 ∧ s.dev.retired = false ∧ s.dev.keyInUse i = false) ∧
    (∃ (s : State) (q : Requester) (a : Access) (v : Word) (t : Nat), Opens s.dev q 1 0 a ∧ s.dev.bit Reg.SEC_CMD_STAT 31 = false ∧ wbit
      v 31 = true ∧ t = wfld v 2 0 ∧ s.dev.lcAsk s.dev.lcState t = 0) ∧
    (∃ (s : State) (q : Requester) (a : Access) (v : Word) (t : Nat), Opens s.dev q 1 0 a ∧ s.dev.bit Reg.SEC_CMD_STAT 31 = false ∧ wbit
      v 31 = true ∧ t = wfld v 2 0 ∧ s.dev.lcAsk s.dev.lcState t = 3) :=
  ⟨⟨{}, q0, sd, 0x4000000A, 10, by decide⟩,
   ⟨{}, q0, sd, 0x8000000A, 10, by decide⟩,
   ⟨st (dv.setReg Reg.SEC_FW_VERSION 64), q0, sd, 0x80000040, 64, by decide⟩,
   ⟨st (dv.setReg Reg.PAT_SEC_VERSION 1), q0, sd, 0x80000081, 1, by decide⟩,
   ⟨{}, q0, sd, 0x80000007, 7, by decide⟩,
   ⟨{}, q0, sd, 0x80000004, 4, by decide⟩,
   ⟨st (dv.setFld Reg.SEC_LC_STAT 2 0 3), q0, sd, 0x80000004, 4, by decide⟩⟩

theorem witness_lifeCycleOrder :
    (∃ (d : Dev) (e t : Nat), d.lcAsk e t ≠ 1 ∧ 2 ≤ e) ∧
    (∃ (s : State) (q : Requester) (a : Access) (v : Word) (t : Nat), Opens s.dev q 1 0 a ∧ s.dev.bit Reg.SEC_CMD_STAT 31 = false ∧ wbit
      v 31 = true ∧ t = wfld v 2 0 ∧ s.dev.lcAsk s.dev.lcState t = 0 ∧ s.dev.sys.pinLow = true) :=
  ⟨⟨dv, 2, 3, by decide⟩,
   ⟨st { dv with sys := { pinLow := true } }, q0, sd, 0x80000001, 1, by decide⟩⟩

theorem witness_securityCommandsComplete :
    (∃ (s : State) (q : Requester) (v : Word), s.dev.power ≠ 3 ∧ (q = .debug ∨ ∃ a : Access, Opens s.dev q 1 0 a) ∧ wfld v 31 28 = 1 ∧
      s.dev.dbgFails < 8 ∧ s.dev.bit Reg.SEC_RNG_STAT 0 = true) ∧
    (∃ (s : State) (q : Requester) (v : Word), s.dev.power ≠ 3 ∧ (q = .debug ∨ ∃ a : Access, Opens s.dev q 1 0 a) ∧ wfld v 31 28 = 1 ∧
      s.dev.dbgFails < 8 ∧ s.dev.bit Reg.SEC_RNG_STAT 0 = false) ∧
    (∃ (s : State) (q : Requester) (v : Word), s.dev.power ≠ 3 ∧ (q = .debug ∨ ∃ a : Access, Opens s.dev q 1 0 a) ∧ wfld v 31 28 = 2 ∧
      s.dev.bit Reg.SEC_DBG_STAT 30 = true ∧ (s.dev.lcState = 2 ∨ s.dev.lcState = 3)) ∧
    (∃ (s : State) (q : Requester) (v : Word), s.dev.power ≠ 3 ∧ (q = .debug ∨ ∃ a : Access, Opens s.dev q 1 0 a) ∧ wfld v 31 28 = 3 ∧
      (wfld v 1 0 ≤ s.dev.level ∨ wfld v 1 0 ≤ s.dev.setLimit)) ∧
    (∃ (s : State) (q : Requester) (a : Access) (v : Word) (x k : Nat), Opens s.dev q 1 0 a ∧ s.dev.bit Reg.SEC_CMD_STAT 31 = false ∧
      wbit v 31 = true ∧ x = wfld v 3 0 ∧ x ≠ 0 ∧ s.dev.legsUp x = false ∧ s.dev.ringsUp x = false ∧ s.dev.slotDom k = x) ∧
    (∃ (s : State) (q : Requester) (a : Access) (v : Word) (x k : Nat), Opens s.dev q 1 0 a ∧ s.dev.bit Reg.SEC_CMD_STAT 31 = false ∧
      wbit v 31 = true ∧ x = wfld v 3 0 ∧ x ≠ 0 ∧ s.dev.legsUp x = false ∧ s.dev.ringsUp x = false ∧ s.dev.slotDom k ≠ x) ∧
    (∃ (s : State) (x : Nat), s.dev.sec.binding = some x) ∧
    (∃ (s : State) (q : Requester) (a : Access), Opens s.dev q 1 0 a ∧ s.dev.bit Reg.SEC_RNG_STAT 0 = true) ∧
    (∃ (s : State) (q : Requester) (a : Access), Opens s.dev q 1 0 a ∧ s.dev.bit Reg.SEC_RNG_STAT 0 = false) ∧
    (∃ (s : State), s.dev.sec.chalWait = true) ∧
    (∃ (s : State), s.dev.sec.chalWait = false) :=
  ⟨⟨st (dv.setReg Reg.SEC_RNG_STAT 1), q0, 0x10000000, by decide, (Or.inr ⟨sd, by decide⟩), by decide⟩,
   ⟨{}, .debug, 0x10000000, by decide, Or.inl rfl, by decide⟩,
   ⟨st ((dv.setFld Reg.SEC_LC_STAT 2 0 2).setBit Reg.SEC_DBG_STAT 30 true), .debug, 0x20000001, by decide, Or.inl rfl, by decide⟩,
   ⟨{}, q0, 0x30000003, by decide, (Or.inr ⟨sd, by decide⟩), by decide⟩,
   ⟨st (dv.setReg (Reg.CIP_PAGE_DOM 0) 1), q0, sd, 0x80000001, 1, 0, by decide, by decide, by decide, by decide, by decide, noLegs _ _
     rfl, by decide, by decide⟩,
   ⟨{}, q0, sd, 0x8000000F, 15, 0, by decide, by decide, by decide, by decide, by decide, noLegs _ _ rfl, by decide, by decide⟩,
   ⟨st { dv with sec := { binding := some 15 } }, 15, by decide⟩,
   ⟨st (dv.setReg Reg.SEC_RNG_STAT 1), q0, sd, by decide⟩,
   ⟨{}, q0, sd, by decide⟩,
   ⟨st { dv with sec := { chalWait := true } }, by decide⟩,
   ⟨{}, by decide⟩⟩

theorem witness_swatchCommandsComplete :
    (∃ (s : State) (q : Requester) (a : Access) (v : Word), Opens s.dev q 4 0 a ∧ wbit v 0 = true) ∧
    (∃ (s : State), s.dev.bit Reg.SWT_MATCH_CFG 31 = true) ∧
    (∃ (s : State), 1 ≤ s.dev.level) ∧
    (∃ (d : Dev) (src x : Nat), src &&& wfld (d.reg Reg.SWT_CTL) 4 0 ≠ 0 ∧ wbit (d.reg Reg.SWT_CTL) 6 = true ∧ d.bit Reg.SWT_STAT 31 =
      false ∧ x ≠ Reg.SWT_STAT ∧ x ≠ Reg.SWT_CTL) ∧
    (∃ (d : Dev) (src : Nat), src &&& wfld (d.reg Reg.SWT_CTL) 4 0 ≠ 0 ∧ (wbit (d.reg Reg.SWT_CTL) 6 = false ∨ d.bit Reg.SWT_STAT 31 =
      true)) ∧
    (∃ (s : State), s.dev.bit Reg.SWT_STAT 31 = true ∧ s.dev.tim.queue.contains .swatch = false) ∧
    (∃ (s : State) (q : Requester) (a : Access) (w : Fin 16) (v : Word), Opens s.dev q 4 w a ∧ wbit v 31 = true ∧ s.dev.bit
      (Reg.SWT_LOG_CFG w) 31 = false) ∧
    (∃ (s : State) (q : Requester) (a : Access) (w : Fin 16) (v : Word), Opens s.dev q 4 w a ∧ wbit v 31 = false) :=
  ⟨⟨{}, q0, sd, 1, by decide⟩,
   ⟨st (dv.setReg Reg.SWT_MATCH_CFG 0x80000000), by decide⟩,
   ⟨st (dv.setFld Reg.SEC_LC_STAT 9 8 1), by decide⟩,
   ⟨dv.setReg Reg.SWT_CTL 0x41, 1, 0, by decide⟩,
   ⟨dv.setReg Reg.SWT_CTL 1, 1, by decide⟩,
   ⟨st (dv.setReg Reg.SWT_STAT 0x80000001), by decide⟩,
   ⟨{}, q0, sd, 15, 0x80000000, by decide⟩,
   ⟨{}, q0, sd, 0, 0, by decide⟩⟩

theorem witness_resetCommandsComplete :
    (∃ (s : State), (s.dev.sys.pinLow = true ∨ s.dev.fld Reg.SYS_CASTON 11 8 = 0)) ∧
    (∃ (s : State), s.dev.sys.thermal = true) ∧
    (∃ (s : State) (q : Requester) (a : Access) (v : Word), Opens s.dev q 0 0 a ∧ wfld v 31 16 = 0xA5C3 ∧ wbit v 0 = true) ∧
    (∃ (s : State) (q : Requester) (a : Access) (v : Word), Opens s.dev q 0 0 a ∧ wfld v 31 16 = 0xA5C3 ∧ wbit v 0 = false ∧ wbit v 1 =
      true) ∧
    (∃ (s : State), s.dev.ready = true) ∧
    (∃ (d : Dev), d.ready = true) ∧
    (∃ (s : State) (q : Requester) (a : Access) (v : Word), Opens s.dev q 0 0 a ∧ wbit v 0 = true ∧ s.dev.stagingOpen = true) :=
  ⟨⟨{}, by decide⟩,
   ⟨st { dv with sys := { thermal := true } }, by decide⟩,
   ⟨{}, q0, sd, 0xA5C30001, by decide⟩,
   ⟨{}, q0, sd, 0xA5C30002, by decide⟩,
   ⟨st up, by decide⟩,
   ⟨up, by decide⟩,
   ⟨st (dv.setFld Reg.SYS_CASTON 7 0 4), q0, sd, 1, by decide⟩⟩

theorem witness_resetLeaves :
    (∃ (c : Instr) (bit k : Nat), (c = .resetPin ∧ bit = 1 ∨ c = .thermalTrip ∧ bit = 9) ∧ k ≠ bit) ∧
    (∃ (c : Instr) (bit x : Nat), (c = .resetPin ∧ bit = 1 ∨ c = .thermalTrip ∧ bit = 9) ∧ x ≠ Reg.SYS_RST_STAT ∧ x ≠ Reg.SEC_MON_STAT) :=
  ⟨⟨.resetPin, 1, 31, by decide⟩,
   ⟨.thermalTrip, 9, 0, by decide⟩⟩

theorem witness_powerCommandsComplete :
    (∃ (s : State) (q : Requester) (a : Access), Opens s.dev q 0 0 a ∧ s.dev.powerBusy = false ∧ s.dev.powerCheck 0 = 0) ∧
    (∃ (s : State) (q : Requester) (a : Access), Opens s.dev q 0 0 a ∧ s.dev.powerBusy = false ∧ s.dev.powerCheck 1 = 0) ∧
    (∃ (s : State) (q : Requester) (a : Access), Opens s.dev q 0 0 a ∧ s.dev.powerBusy = false ∧ s.dev.powerCheck 2 = 0) ∧
    (∃ (s : State) (q : Requester) (a : Access), Opens s.dev q 0 0 a ∧ s.dev.powerBusy = false ∧ s.dev.powerCheck 3 = 0) ∧
    (∃ (d : Dev) (x : Nat), x ≤ 3 ∧ d.power ≤ 3 ∧ d.powerCheck x = 2) ∧
    (∃ (s : State), s.dev.sys.d3wait = true) ∧
    (∃ (s : State) (pcie : Bool), s.dev.power = 3 ∧ s.dev.powerBusy = false ∧ s.dev.bit Reg.SYS_PWR_CFG (if pcie then 0 else 1) = true ∧
      s.dev.fld Reg.SYS_PWR_CFG 5 4 < 3) ∧
    (∃ (s : State), s.dev.powerBusy = true ∧ s.dev.sys.d3wait = false) ∧
    (∃ (s : State) (ref : Fin 4) (d : Dev), ref ≠ 0 ∧ s.dev.bit Reg.SYS_CLK_STAT (8 + ref) = true ∧ d = (s.dev.setBit Reg.SYS_CLK_STAT (8
      + ref) false).raise Ev.SYS_REF_LOST 0 0 [b8 (8 + ref)] ∧ ref.val = 3) ∧
    (∃ (s : State) (ref : Fin 4) (d : Dev), ref ≠ 0 ∧ s.dev.bit Reg.SYS_CLK_STAT (8 + ref) = true ∧ d = (s.dev.setBit Reg.SYS_CLK_STAT (8
      + ref) false).raise Ev.SYS_REF_LOST 0 0 [b8 (8 + ref)] ∧ ref.val ≠ 3) ∧
    (∃ (s : State) (tj : BitVec 16) (d : Dev), d = s.dev.setFld Reg.SYS_TEMP 15 0 tj.toNat ∧ sInt 16 (s.dev.fld Reg.SYS_TEMP 15 0) < sInt
      16 (s.dev.fld Reg.SYS_TEMP_WARN 15 0) ∧ sInt 16 (s.dev.fld Reg.SYS_TEMP_WARN 15 0) ≤ tj.toInt) ∧
    (∃ (s : State) (tj : BitVec 16) (d : Dev), d = s.dev.setFld Reg.SYS_TEMP 15 0 tj.toNat ∧ (¬ (sInt 16 (s.dev.fld Reg.SYS_TEMP 15 0) <
      sInt 16 (s.dev.fld Reg.SYS_TEMP_WARN 15 0) ∧ sInt 16 (s.dev.fld Reg.SYS_TEMP_WARN 15 0) ≤ tj.toInt))) :=
  ⟨⟨st (dv.setFld Reg.SYS_PWR_STAT 1 0 1), q0, sd, by decide⟩,
   ⟨st (dv.setFld Reg.SYS_PWR_STAT 1 0 2), q0, sd, by decide⟩,
   ⟨{}, q0, sd, by decide⟩,
   ⟨{}, q0, sd, by decide⟩,
   ⟨dv.setReg Reg.PAT_SWAP_STAT 16, 1, by decide⟩,
   ⟨st { dv with sys := { d3wait := true } }, by decide⟩,
   ⟨st ((dv.setFld Reg.SYS_PWR_STAT 1 0 3).setBit Reg.SYS_PWR_CFG 0 true), true, by decide⟩,
   ⟨st (dv.setBit Reg.SYS_PWR_STAT 31 true), by decide⟩,
   ⟨st (dv.setReg Reg.SYS_CLK_STAT 0x800), 3, _, by decide, by decide, rfl, by decide⟩,
   ⟨st (dv.setReg Reg.SYS_CLK_STAT 0x200), 1, _, by decide, by decide, rfl, by decide⟩,
   ⟨st (dv.setReg Reg.SYS_TEMP_WARN 0x10), 0x10, _, rfl, by decide⟩,
   ⟨{}, 0, _, rfl, by decide⟩⟩

theorem witness_domainsKeptApart :
    (∃ (c : Instr) (s : State) (q : Requester) (a : Access) (n w : Nat), commandWindow c = some (q, n, w) ∧ Shuts s.dev q n w a) ∧
    (∃ (c : Instr) (s : State) (fn : Fin 16) (n w : Nat), commandWindow c = some (.fn fn, n, w) ∧ s.dev.fnBound fn = false) :=
  ⟨⟨.keyErase (.ring 3) 2 0, {}, .ring 3, ⟨3, 42, 0, false⟩, 12, 2, by decide⟩,
   ⟨.keyErase (.fn 15) 2 0, {}, 15, 12, 2, by decide⟩⟩

end Sys2Proof.Tests
end

/-! ## Fields of a word (R2): reads after writes -/

namespace Sys2Proof.Machine

/-- Bits of a number made of what lies above a field of `n` bits at `lo`, the field, and what lies below it. -/
theorem testBit_field_parts {lo n top f low : Nat} (hf : f < 2 ^ n) (hlow : low < 2 ^ lo) (i : Nat) :
    (2 ^ lo * (2 ^ n * top + f) + low).testBit i =
      if i < lo then low.testBit i else if i - lo < n then f.testBit (i - lo) else top.testBit (i - lo - n) := by
  rw [Nat.testBit_two_pow_mul_add _ hlow, Nat.testBit_two_pow_mul_add _ hf]

theorem wfld_lt (w : Word) (hi lo : Nat) : wfld w hi lo < 2 ^ (hi + 1 - lo) := Nat.mod_lt _ (Nat.two_pow_pos _)

/-- A word is made of what lies above a field, the field, and what lies below it. -/
theorem toNat_eq_field_parts (w : Word) (hi lo : Nat) :
    w.toNat = 2 ^ lo * (2 ^ (hi + 1 - lo) * (w.toNat >>> lo >>> (hi + 1 - lo)) + wfld w hi lo) + w.toNat % 2 ^ lo := by
  rw [wfld, Nat.shiftRight_eq_div_pow _ (hi + 1 - lo), Nat.div_add_mod, Nat.shiftRight_eq_div_pow, Nat.div_add_mod]

/-- A field write keeps what lies above and below the field. -/
theorem toNat_wset (w : Word) (hi lo v : Nat) :
    (wset w hi lo v).toNat = (2 ^ lo * (2 ^ (hi + 1 - lo) * (w.toNat >>> lo >>> (hi + 1 - lo)) + v % 2 ^ (hi + 1 - lo)) +
      w.toNat % 2 ^ lo) % 2 ^ 32 := by
  have hw := toNat_eq_field_parts w hi lo
  rw [Nat.mul_add, Nat.add_right_comm, Nat.mul_comm (2 ^ lo) (wfld w hi lo)] at hw
  rw [wset, BitVec.toNat_ofNat, Nat.mul_add, Nat.add_right_comm, Nat.mul_comm (2 ^ lo) (v % _), Nat.sub_eq_of_eq_add hw]

/-- A field write replaces the field's bits and keeps every other bit. -/
theorem testBit_wset (w : Word) (hi lo v i : Nat) (hhi : hi < 32) :
    (wset w hi lo v).toNat.testBit i = if lo ≤ i ∧ i ≤ hi then v.testBit (i - lo) else w.toNat.testBit i := by
  have hlow : w.toNat % 2 ^ lo < 2 ^ lo := Nat.mod_lt _ (Nat.two_pow_pos lo)
  have hnew : v % 2 ^ (hi + 1 - lo) < 2 ^ (hi + 1 - lo) := Nat.mod_lt _ (Nat.two_pow_pos _)
  have hold : w.toNat.testBit i = _ :=
    (congrArg (Nat.testBit · i) (toNat_eq_field_parts w hi lo)).trans (testBit_field_parts (wfld_lt w hi lo) hlow i)
  by_cases hword : i < 32
  · rw [toNat_wset, Nat.testBit_mod_two_pow, testBit_field_parts hnew hlow, hold, decide_eq_true hword, Bool.true_and]
    by_cases hbelow : i < lo
    · rw [if_pos hbelow, if_neg (by omega), if_pos hbelow]
    · by_cases hin : i ≤ hi
      · rw [if_neg hbelow, if_pos (by omega), if_pos ⟨by omega, hin⟩, Nat.testBit_mod_two_pow, decide_eq_true (by omega), Bool.true_and]
      · rw [if_neg hbelow, if_neg (by omega), if_neg (by omega), if_neg hbelow, if_neg (by omega)]
  · rw [if_neg (by omega), BitVec.testBit_toNat, BitVec.testBit_toNat, BitVec.getLsbD_of_ge _ _ (by omega),
      BitVec.getLsbD_of_ge _ _ (by omega)]

theorem testBit_wfld (w : Word) (hi lo i : Nat) :
    (wfld w hi lo).testBit i = (decide (i < hi + 1 - lo) && w.toNat.testBit (lo + i)) := by
  rw [wfld, Nat.testBit_mod_two_pow, Nat.testBit_shiftRight]

theorem wfld_wset_self (w : Word) (hi lo v : Nat) (hhi : hi < 32) :
    wfld (wset w hi lo v) hi lo = v % 2 ^ (hi + 1 - lo) := by
  refine Nat.eq_of_testBit_eq fun i => ?_
  rw [testBit_wfld, testBit_wset _ _ _ _ _ hhi, Nat.testBit_mod_two_pow]
  by_cases h : i < hi + 1 - lo
  · have : lo + i ≤ hi := by omega
    simp [*]
  · simp [h]

/-- A field write leaves every field apart from it as it was. -/
theorem wfld_wset_of_disjoint (w : Word) (hi lo hi' lo' v : Nat) (hhi : hi < 32) (h : hi' < lo ∨ hi < lo') :
    wfld (wset w hi lo v) hi' lo' = wfld w hi' lo' := by
  refine Nat.eq_of_testBit_eq fun i => ?_
  rw [testBit_wfld, testBit_wfld, testBit_wset _ _ _ _ _ hhi]
  by_cases hin : i < hi' + 1 - lo'
  · rw [if_neg (by omega)]
  · simp [hin]

/-- A bit of a word is its one-bit field. -/
theorem wbit_eq_wfld (w : Word) (i : Nat) : wbit w i = (wfld w i i == 1) := by
  have hfld : wfld w i i = w.toNat / 2 ^ i % 2 := by
    rw [wfld, Nat.shiftRight_eq_div_pow, Nat.add_sub_cancel_left, Nat.pow_one]
  rw [hfld, wbit]
  exact Nat.testBit_eq_decide_div_mod_eq

end Sys2Proof.Machine

/-! ## Registers and their fields after a write, and how a command answers -/

namespace Sys2Proof.Machine

variable (d : Dev)

@[simp] theorem Dev.setReg_reg_self (a : Nat) (v : Word) : (d.setReg a v).reg a = v := tget_tput_self regReset d.regs a v

theorem Dev.setReg_reg_of_ne {a b : Nat} (h : b ≠ a) (v : Word) : (d.setReg a v).reg b = d.reg b :=
  tget_tput_ne regReset d.regs a b v h

theorem Dev.setFld_reg_of_ne {a b : Nat} (h : b ≠ a) (hi lo v : Nat) : (d.setFld a hi lo v).reg b = d.reg b :=
  d.setReg_reg_of_ne h _

theorem Dev.setFld_fld_self (a hi lo v : Nat) (hhi : hi < 32) : (d.setFld a hi lo v).fld a hi lo = v % 2 ^ (hi + 1 - lo) := by
  rw [Dev.fld, Dev.setFld, Dev.setReg_reg_self, wfld_wset_self _ _ _ _ hhi]

/-- A field write leaves the fields of its register that lie apart from it. -/
theorem Dev.setFld_fld_of_disjoint (a hi lo hi' lo' v : Nat) (hhi : hi < 32) (h : hi' < lo ∨ hi < lo') :
    (d.setFld a hi lo v).fld a hi' lo' = d.fld a hi' lo' := by
  rw [Dev.fld, Dev.setFld, Dev.setReg_reg_self, wfld_wset_of_disjoint _ _ _ _ _ _ hhi h, Dev.fld]

theorem Dev.setFld_fld_of_ne {a b : Nat} (h : b ≠ a) (hi lo hi' lo' v : Nat) :
    (d.setFld a hi lo v).fld b hi' lo' = d.fld b hi' lo' := by
  rw [Dev.fld, Dev.setFld_reg_of_ne d h, Dev.fld]

theorem Dev.bit_eq_fld (a i : Nat) : d.bit a i = (d.fld a i i == 1) := wbit_eq_wfld _ _

theorem Dev.setBit_bit_self (a i : Nat) (b : Bool) (hi : i < 32) : (d.setBit a i b).bit a i = b := by
  rw [Dev.bit_eq_fld, Dev.setBit, Dev.setFld_fld_self _ _ _ _ _ hi, Nat.add_sub_cancel_left, Nat.pow_one]
  cases b with
  | false => rfl
  | true => rfl

/-- A field write leaves the bits of its register that lie apart from it. -/
theorem Dev.setFld_bit_of_disjoint (a hi lo i v : Nat) (hhi : hi < 32) (h : i < lo ∨ hi < i) :
    (d.setFld a hi lo v).bit a i = d.bit a i := by
  rw [Dev.bit_eq_fld, Dev.setFld_fld_of_disjoint _ _ _ _ _ _ _ hhi h, Dev.bit_eq_fld]

/-! ### Who may make a command -/

variable {d}

/-- A bound requester's command is made with its access. -/
theorem Dev.by_of_access {q : Requester} {a : Access} (h : d.access q = some a) (f : Access → Dev → Dev) : d.by q f = f a d := by
  rw [Dev.by, h]

/-- A window that opens performs its command. -/
theorem Dev.window_of_opens {q : Requester} {n w : Nat} {a : Access} (h : Opens d q n w a) (deny : Option Nat)
    (f : Access → Dev → Dev) : d.window q n w deny f = f a d := by
  obtain ⟨haccess, hmay, hpower⟩ := h
  rw [Dev.window, Dev.by_of_access haccess, if_neg (by simp [hpower]), if_pos hmay]

theorem Dev.sd0_of_opens {q : Requester} {n : Nat} {a : Access} (h : Opens d q n 0 a) (f : Dev → Dev) : d.sd0 q n f = f d :=
  Dev.window_of_opens h none _

/-! ### How a command answers -/

/-- A command whose meaning is an effect answers with the device that the effect makes. -/
theorem answers_of_effect {c : Instr} {s : State} {e : Dev} (f : Dev → Dev) (hc : exec c s = s.run f) (hf : f s.dev = e) :
    Answers c s e := by
  rw [Answers, hc, State.run, hf]

end Sys2Proof.Machine

/-! ## Reports of the selvedge die (R40, R428) -/

namespace Sys2Proof.Machine

theorem Dev.setFld_scopeState_of_ne (d : Dev) {a : Nat} (h : a ≠ Reg.PAT_SWAP_STAT) (hi lo v i : Nat) :
    (d.setFld a hi lo v).scopeState i = d.scopeState i := d.setFld_fld_of_ne h.symm _ _ _ _ _

theorem Dev.setFld_gen_of_ne (d : Dev) {a i : Nat} (h : a ≠ genReg i) (hi lo v : Nat) :
    (d.setFld a hi lo v).gen i = d.gen i := d.setFld_fld_of_ne h.symm _ _ _ _ _

/-- While the link is up a report is shown: 0 when it is the first since the link came up. -/
theorem genReportEffect_of_linkUp {d : Dev} (hfld : d.fldAbsent = false) (hlink : d.linkUp = true) :
    genReportEffect d = ({ d with pat := { d.pat with zeroReport := false } } : Dev).genShow
      (if d.pat.zeroReport then 0 else d.fld Reg.FLD_SEL_GEN 15 0) := by
  rw [genReportEffect, if_neg (by simp [hfld, hlink])]

theorem genReportEffect_of_zeroReport {d : Dev} (hfld : d.fldAbsent = false) (hlink : d.linkUp = true)
    (hzero : d.pat.zeroReport = true) :
    genReportEffect d = ({ d with pat := { d.pat with zeroReport := false } } : Dev).genShow 0 := by
  rw [genReportEffect_of_linkUp hfld hlink, if_pos hzero]

theorem genReportEffect_of_notZeroReport {d : Dev} (hfld : d.fldAbsent = false) (hlink : d.linkUp = true)
    (hzero : d.pat.zeroReport = false) : genReportEffect d = d.genShow (d.fld Reg.FLD_SEL_GEN 15 0) := by
  have hpat : ({ d with pat := { d.pat with zeroReport := false } } : Dev) = d := by rw [← hzero]
  rw [genReportEffect_of_linkUp hfld hlink, if_neg (by simp [hzero]), hpat]

/-- Showing a report does not touch what it is compared with. -/
theorem Dev.setFld_genFld_expectedGen (d : Dev) (hi lo g : Nat) :
    (d.setFld Reg.PAT_GEN_FLD hi lo g).expectedGen = d.expectedGen := by
  simp only [Dev.expectedGen, d.setFld_scopeState_of_ne (a := Reg.PAT_GEN_FLD) (by decide),
    d.setFld_gen_of_ne (a := Reg.PAT_GEN_FLD) (i := 0) (by decide)]

/-- A report that equals the expected generation, or follows one that differed, is shown and nothing else. -/
theorem Dev.genShow_of_quiet {d : Dev} {g : Nat} (h : g = d.expectedGen ∨ d.pat.split = true) :
    d.genShow g = d.setFld Reg.PAT_GEN_FLD 15 0 g := by
  rw [Dev.genShow]
  dsimp only
  rw [Dev.setFld_genFld_expectedGen, if_neg]
  rintro ⟨hdiffers, hsplit⟩
  rcases h with hequal | hsplit'
  · exact hdiffers hequal
  · simp [hsplit'] at hsplit

/-- The first report that differs from the expected generation marks the split and raises SWAP_SPLIT. -/
theorem Dev.genShow_of_differs {d : Dev} {g : Nat} (hdiffers : g ≠ d.expectedGen) (hsplit : d.pat.split = false) :
    d.genShow g = ({ d.setFld Reg.PAT_GEN_FLD 15 0 g with pat := { d.pat with split := true } } : Dev).raise Ev.SWAP_SPLIT 1 := by
  rw [Dev.genShow]
  dsimp only
  rw [Dev.setFld_genFld_expectedGen, if_pos ⟨hdiffers, hsplit⟩, Dev.setFld_pat]

/-- Showing a report changes no register but PAT_GEN_FLD. -/
theorem Dev.genShow_reg (d : Dev) (g a : Nat) : (d.genShow g).reg a = (d.setFld Reg.PAT_GEN_FLD 15 0 g).reg a := by
  rw [Dev.genShow]
  dsimp only
  split <;> rfl

/-- PAT_GEN_FLD shows the generation reported. -/
theorem Dev.genShow_genFld (d : Dev) {g : Nat} (hg : g < 2 ^ 16) : (d.genShow g).fld Reg.PAT_GEN_FLD 15 0 = g := by
  rw [Dev.fld, Dev.genShow_reg, ← Dev.fld, Dev.setFld_fld_self _ _ _ _ _ (by decide), Nat.mod_eq_of_lt hg]

theorem Dev.genShow_fld_of_ne (d : Dev) (g : Nat) {a : Nat} (h : a ≠ Reg.PAT_GEN_FLD) (hi lo : Nat) :
    (d.genShow g).fld a hi lo = d.fld a hi lo := by
  rw [Dev.fld, Dev.genShow_reg, Dev.setFld_reg_of_ne d h, Dev.fld]

theorem Dev.genShow_zeroReport (d : Dev) (g : Nat) : (d.genShow g).pat.zeroReport = d.pat.zeroReport := by
  rw [Dev.genShow]
  dsimp only
  split <;> rfl

/-- Settles O37: the report's value is decided by `zeroReport`; whether it raises SWAP_SPLIT, by `Dev.genShow`'s comparison. -/
theorem generationReports : Obligations.GenerationReports := by
  refine ⟨fun s hfld hlink hzero => ?_, fun s hfld hlink hzero => ?_⟩
  · refine ⟨_, answers_of_effect genReportEffect rfl (genReportEffect_of_zeroReport hfld hlink hzero), ?_, ?_, ?_⟩
    · exact Dev.genShow_genFld _ (by decide)
    · exact Dev.genShow_zeroReport _ _
    · exact Dev.genShow_fld_of_ne _ _ (by decide) _ _
  · refine ⟨_, answers_of_effect genReportEffect rfl (genReportEffect_of_notZeroReport hfld hlink hzero), ?_, ?_, ?_⟩
    · exact Dev.genShow_genFld _ (wfld_lt _ _ _)
    · intro hequal
      rw [Dev.genShow_of_quiet (.inl hequal)]
      exact ⟨rfl, rfl⟩
    · intro hdiffers
      cases hsplit : s.dev.pat.split with
      | true =>
        rw [Dev.genShow_of_quiet (.inr hsplit)]
        exact ⟨hsplit, fun _ => rfl, fun h => nomatch h⟩
      | false =>
        rw [Dev.genShow_of_differs hdiffers hsplit]
        exact ⟨rfl, (fun h => nomatch h), fun _ => rfl⟩

end Sys2Proof.Machine

/-! ## Swaps: cancel, acceptance and the selvedge die's part (R30 to R40, R440) -/

namespace Sys2Proof.Machine

/-- The scopes of a mask are its bits below 3 (R440). -/
theorem mem_scopesOf {mask i : Nat} : i ∈ scopesOf mask ↔ i < 3 ∧ mask.testBit i = true := by
  rw [scopesOf, List.mem_filter, List.mem_range]

/-- The scopes that a write of PAT_SWAP_REQ or PAT_SWAP_CANCEL names. -/
theorem mem_scopesOf_wfld {v : Word} {i : Nat} : i ∈ scopesOf (wfld v 2 0) ↔ i < 3 ∧ wbit v i = true := by
  rw [mem_scopesOf, testBit_wfld, Nat.zero_add, wbit]
  simp +contextual

/-! ### PAT_SWAP_STAT, scope by scope -/

theorem Dev.setScope_scopeState_self (d : Dev) (i : Fin 3) (v : Nat) : (d.setScope i v).scopeState i = v % 4 := by
  have hwidth : 2 * i.val + 1 + 1 - 2 * i.val = 2 := by omega
  have hfld : (d.setScope i v).scopeState i = v % 2 ^ (2 * i.val + 1 + 1 - 2 * i.val) := d.setFld_fld_self _ _ _ _ (by omega)
  exact hfld.trans (congrArg (fun n => v % 2 ^ n) hwidth)

theorem Dev.setScope_scopeState_of_ne (d : Dev) {i j : Fin 3} (h : j ≠ i) (v : Nat) :
    (d.setScope i v).scopeState j = d.scopeState j :=
  d.setFld_fld_of_disjoint _ _ _ _ _ _ (by omega) (by omega)

theorem Dev.setLast_scopeState (d : Dev) (i j : Fin 3) (v : Nat) : (d.setLast i v).scopeState j = d.scopeState j :=
  d.setFld_fld_of_disjoint _ _ _ _ _ _ (by omega) (by omega)

/-! ### Cancel (R36) -/

theorem swapCancelEffect_of_sd0 {d : Dev} {q : Requester} {a : Access} (haccess : d.access q = some a) (hdom : a.dom = 0)
    (v : Word) : swapCancelEffect q v d = d.forEach (scopesOf (wfld v 2 0)) Dev.swapCancel := by
  rw [swapCancelEffect, Dev.by_of_access haccess, if_pos hdom]

/-- The time left that R36 asks of a cancel, for rows and for µs. -/
theorem Dev.cancelInTime_iff (d : Dev) (i : Nat) : d.cancelInTime i = true ↔
    if i = 0 then 2 ≤ sub32 (d.reg (atReg i)).toNat (d.tick32 (i == 2))
    else d.within (i == 2) (sub32 (d.reg (atReg i)).toNat (d.tick32 (i == 2))) 4 = false := by
  rw [Dev.cancelInTime]
  split <;> simp

theorem Dev.swapCancel_of_idle {d : Dev} {i : Nat} (h : d.scopeState i = 0) : d.swapCancel i = d := by
  simp only [Dev.swapCancel, h]

theorem Dev.swapCancel_of_settling {d : Dev} {i : Nat} (h : d.scopeState i = 2) :
    d.swapCancel i = d.raise Ev.CANCEL_LATE (2 ^ i) := by
  simp only [Dev.swapCancel, h]

theorem Dev.swapCancel_of_late {d : Dev} {i : Nat} (h : d.scopeState i = 1) (hlate : d.cancelInTime i = false) :
    d.swapCancel i = d.raise Ev.CANCEL_LATE (2 ^ i) := by
  simp only [Dev.swapCancel, h, hlate, Bool.false_eq_true, if_false]

/-- A cancel in time lifts the scope's seal and raises CANCEL_DONE; a scope of audio or network parts from its request. -/
theorem Dev.swapCancel_of_inTime {d : Dev} {i : Nat} (h : d.scopeState i = 1) (htime : d.cancelInTime i = true) :
    d.swapCancel i =
      let e := ((d.setScope i 0).setLast i 2).raise Ev.CANCEL_DONE (2 ^ i)
      if i ≤ 1 then { e with pat := { e.pat with joint := false } } else e := by
  simp only [Dev.swapCancel, h, htime, if_true]

theorem Dev.swapCancel_reg_of_inTime {d : Dev} {i : Nat} (h : d.scopeState i = 1) (htime : d.cancelInTime i = true) (a : Nat) :
    (d.swapCancel i).reg a = ((d.setScope i 0).setLast i 2).reg a := by
  rw [Dev.swapCancel_of_inTime h htime]
  generalize (d.setScope i 0).setLast i 2 = e
  dsimp only
  split <;> rfl

theorem Dev.swapCancel_queue_of_inTime {d : Dev} {i : Nat} (h : d.scopeState i = 1) (htime : d.cancelInTime i = true) :
    (d.swapCancel i).tim.queue = d.tim.queue ++ [.event Ev.CANCEL_DONE (2 ^ i) 0 (severity Ev.CANCEL_DONE) (args10 [])] := by
  have htim : ((d.setScope i 0).setLast i 2).tim = d.tim := by rw [Dev.setLast, Dev.setFld_tim, Dev.setScope, Dev.setFld_tim]
  rw [Dev.swapCancel_of_inTime h htime, ← htim]
  generalize (d.setScope i 0).setLast i 2 = e
  dsimp only
  split <;> rfl

/-- A cancel in time leaves its own scope IDLE and the others as they were. -/
theorem Dev.swapCancel_scopeState_of_inTime {d : Dev} {i : Fin 3} (h : d.scopeState i = 1) (htime : d.cancelInTime i = true)
    (j : Fin 3) : (d.swapCancel i).scopeState j = if j = i then 0 else d.scopeState j := by
  have hreg : (d.swapCancel i).scopeState j = ((d.setScope i 0).setLast i 2).scopeState j :=
    congrArg (wfld · _ _) (Dev.swapCancel_reg_of_inTime h htime _)
  rw [hreg, Dev.setLast_scopeState]
  split
  · next heq => rw [heq, Dev.setScope_scopeState_self]
  · next hne => exact d.setScope_scopeState_of_ne hne 0

/-- Settles O35, by the state of the scope and by whether the cancel is in time. -/
theorem swapCancel : Obligations.SwapCancel := by
  refine ⟨fun s q a v haccess hdom => ?_, fun v i => mem_scopesOf_wfld, fun d i => ⟨?_, ?_, ?_, ?_⟩⟩
  · exact answers_of_effect (swapCancelEffect q v) rfl (swapCancelEffect_of_sd0 haccess hdom v)
  · exact Dev.swapCancel_of_idle
  · exact Dev.swapCancel_of_settling
  · rintro _ rfl hpending htime
    have hstate := Dev.swapCancel_scopeState_of_inTime hpending ((d.cancelInTime_iff i).mpr htime)
    refine ⟨?_, Dev.swapCancel_queue_of_inTime hpending ((d.cancelInTime_iff i).mpr htime), fun j hj => ?_⟩
    · rw [hstate, if_pos rfl]
    · rw [hstate, if_neg hj]
  · rintro _ rfl hpending hlate
    exact Dev.swapCancel_of_late hpending (Bool.eq_false_iff.mpr fun htime => hlate ((d.cancelInTime_iff i).mp htime))

/-! ### Requests and acceptance (R32 to R38) -/

theorem swapReqEffect_of_sd0 {d : Dev} {q : Requester} {a : Access} (haccess : d.access q = some a) (hdom : a.dom = 0) (v : Word) :
    swapReqEffect q v d = { d with pat := { d.pat with reqs := d.pat.reqs ++ [⟨wfld v 2 0, wbit v 7⟩] } } := by
  rw [swapReqEffect, Dev.by_of_access haccess, if_pos hdom]

/-- A request without a target that nothing refuses seals its scopes at the earliest boundary. -/
theorem Dev.swapTake_of_accepted {d : Dev} {r : SwapReq} (hlo : 1 ≤ r.mask) (hhi : r.mask ≤ 4) (htarget : r.atTarget = false)
    (hpower : d.swapPowered r.mask = true) (hticks : d.ticksRun r.mask = true)
    (hlink : r.mask.testBit 0 = false ∨ d.fldAbsent = true ∨ d.linkUp = true)
    (hidle : (scopesOf r.mask).any (fun i => d.scopeState i != 0) = false) :
    d.swapTake r = d.swapSeal r.mask (d.earliest r.mask) := by
  rw [Dev.swapTake]
  dsimp only
  rw [if_neg (by omega), if_neg (by simp [hpower]), if_neg (by simp [hticks]), if_neg, if_neg (by simp [htarget]),
    if_neg (by simp [htarget]), if_neg (by simp [hidle]), if_neg (by simp [htarget])]
  rintro ⟨haudio, hpresent, hdown⟩
  rcases hlink with h | h | h
  · simp [haudio] at h
  · simp [hpresent] at h
  · simp [hdown] at h

theorem swapAcceptEffect_of_request {d : Dev} {r : SwapReq} {t : List SwapReq} (h : d.pat.reqs = r :: t) :
    swapAcceptEffect d = ({ d with pat := { d.pat with reqs := t } } : Dev).swapTake r := by
  rw [swapAcceptEffect, h]

/-! ### The selvedge die's part (R39) and the end of a swap (R31, R40) -/

theorem swapAckEffect_of_sent {d : Dev} (hpending : d.scopeState 0 = 1) (hsent : d.pat.sent = true) :
    swapAckEffect d = { d with pat := { d.pat with
      acked := true, sel := some ((d.reg (atReg 0)).toNat, (d.gen 0 + 1) % 2 ^ 16) } } := by
  rw [swapAckEffect, if_pos ⟨hpending, hsent⟩]

theorem swapAckTimeoutEffect_of_unacked {d : Dev} (hpending : d.scopeState 0 = 1) (hsent : d.pat.sent = true)
    (hacked : d.pat.acked = false) : swapAckTimeoutEffect d = d.swapAbort (if d.pat.joint then 3 else 1) := by
  rw [swapAckTimeoutEffect, if_pos ⟨hsent, hacked⟩, Dev.audioAbort, if_pos hpending]

theorem swapDoneEffect_of_settling {d : Dev} {i : Nat} (h : d.scopeState i = 2) :
    swapDoneEffect i d =
      (let e := ((d.setScope i 0).setLast i 1).setFld (genReg i) 15 0 (d.gen i + 1)
      if i = 0 then { e with pat := { e.pat with split := false, muted := false, sent := false, acked := false } } else e).raise
        Ev.SWAP_DONE (2 ^ i) := by
  rw [swapDoneEffect, if_pos h]

theorem splitMuteEffect_of_split {d : Dev} (hsplit : d.pat.split = true) (hlink : d.linkUp = true) :
    splitMuteEffect d = { d with pat := { d.pat with muted := true } } := by
  rw [splitMuteEffect, if_pos ⟨hsplit, hlink⟩]

end Sys2Proof.Machine

/-! ## Loads while the device runs (R34, R44) -/

namespace Sys2Proof.Machine

/-- START on an idle loader begins the load (R44). -/
theorem Dev.loadCtl_of_start {d : Dev} {v : Word} (hidle : d.bit Reg.PAT_LOAD_STAT 31 = false) (hstart : wbit v 0 = true) :
    d.loadCtl v = (d.setFld Reg.PAT_LOAD_CTL 1 0 (wfld v 1 0)).loadBegin := by
  rw [Dev.loadCtl, if_neg (by simp [hidle])]
  exact if_pos hstart

section
variable {d : Dev} {l : Load} (hload : d.pat.load = some l)
include hload

/-- A load that waited writes its runs once the seals it touches have lifted (R34). -/
theorem loadResumeEffect_of_unblocked (hgood : l.result = 0x0A) (hwaits : l.written = false) (hfree : d.loadBlocked l = false) :
    loadResumeEffect d = d.loadWrite l := by
  rw [loadResumeEffect, hload]
  exact if_pos ⟨hgood, hwaits, hfree⟩

theorem loadDoneEffect_of_unblocked (hgood : l.result = 0x0A) (hwaits : l.written = false) (hfree : d.loadBlocked l = false) :
    loadDoneEffect d = ((d.loadWrite l).loadFinish l).loadEnd 0x0A := by
  rw [loadDoneEffect, hload]
  dsimp only
  rw [if_neg (by simp [hgood]), if_neg (by simp [hwaits]), if_neg (by simp [hfree])]

theorem loadDoneEffect_of_written (hgood : l.result = 0x0A) (hwritten : l.written = true) :
    loadDoneEffect d = (d.loadFinish l).loadEnd 0x0A := by
  rw [loadDoneEffect, hload]
  dsimp only
  rw [if_neg (by simp [hgood]), if_pos hwritten]

theorem loadDoneEffect_of_failed (hbad : l.result ≠ 0x0A) : loadDoneEffect d = d.loadEnd l.result := by
  rw [loadDoneEffect, hload]
  exact if_pos hbad

end

/-- The end of a load frees the loader in PAT's registers, drops the load and reports the result (Table 02-6). -/
theorem Dev.loadEnd_eq (d : Dev) (result : Nat) : ∃ e : Dev,
    d.loadEnd result = ({ e with pat := { e.pat with load := none } } : Dev).raise (0x0200 + result) 0 ∧
      e.shadow = d.shadow ∧ e.dram = d.dram ∧ e.tim = d.tim ∧ e.bit Reg.PAT_LOAD_STAT 31 = false := by
  refine ⟨_, rfl, ?_, ?_, ?_, ?_⟩
  · rw [Dev.setFld_shadow, Dev.setBit_shadow, Dev.setBit_shadow]
  · rw [Dev.setFld_dram, Dev.setBit_dram, Dev.setBit_dram]
  · rw [Dev.setFld_tim, Dev.setBit_tim, Dev.setBit_tim]
  · rw [Dev.setFld_bit_of_disjoint _ _ _ _ _ _ (by decide) (by decide), Dev.setBit_bit_self _ _ _ _ (by decide)]

/-- Settles O36, clause by clause in the order of the statement. -/
theorem swapAndLoadCommandsComplete : Obligations.SwapAndLoadCommandsComplete := by
  refine ⟨?_, ?_, ?_, ?_, ?_, ?_, ?_, ?_, ?_, ?_, ?_⟩
  · intro s q a v haccess hdom
    exact answers_of_effect (swapReqEffect q v) rfl (swapReqEffect_of_sd0 haccess hdom v)
  · intro s r t hreqs hlo hhi htarget hpower hticks hlink hidle
    exact answers_of_effect swapAcceptEffect rfl
      ((swapAcceptEffect_of_request hreqs).trans (Dev.swapTake_of_accepted hlo hhi htarget hpower hticks hlink hidle))
  · intro s hpending hsent
    exact answers_of_effect swapAckEffect rfl (swapAckEffect_of_sent hpending hsent)
  · intro s hpending hsent hacked
    exact answers_of_effect swapAckTimeoutEffect rfl (swapAckTimeoutEffect_of_unacked hpending hsent hacked)
  · intro s i hsettling
    exact ⟨_, rfl, answers_of_effect (swapDoneEffect i) rfl (swapDoneEffect_of_settling hsettling)⟩
  · intro s hfld hlink hzero
    exact answers_of_effect genReportEffect rfl (genReportEffect_of_notZeroReport hfld hlink hzero)
  · intro s hsplit hlink
    exact answers_of_effect splitMuteEffect rfl (splitMuteEffect_of_split hsplit hlink)
  · intro s q a v hopens hidle hstart
    exact answers_of_effect (loadStartEffect q v) rfl ((Dev.sd0_of_opens hopens _).trans (Dev.loadCtl_of_start hidle hstart))
  · intro s l hload hgood hwaits hfree
    exact ⟨answers_of_effect loadResumeEffect rfl (loadResumeEffect_of_unblocked hload hgood hwaits hfree),
      answers_of_effect loadDoneEffect rfl (loadDoneEffect_of_unblocked hload hgood hwaits hfree)⟩
  · intro s l hload hgood hwritten
    exact answers_of_effect loadDoneEffect rfl (loadDoneEffect_of_written hload hgood hwritten)
  · intro s l hload hbad
    obtain ⟨e, hend, hshadow, hdram, htim, hidle⟩ := s.dev.loadEnd_eq l.result
    refine ⟨_, answers_of_effect loadDoneEffect rfl ((loadDoneEffect_of_failed hload hbad).trans hend), hshadow, rfl, hidle, hdram, ?_⟩
    rw [Dev.raise_queue, ← htim]

end Sys2Proof.Machine

/-! ## Time bases, reservation and timestamps (R42, R43, R47, R51, R57, R58, R66) -/

namespace Sys2Proof.Machine

/-- From READY on, a PHASE write waits for the update tick (R43). -/
theorem tbPhaseWriteEffect_of_ready {d : Dev} {q : Requester} {a : Access} {k : Nat} {v : Word} (h : Opens d q 3 0 a)
    (hready : d.ready = true) : tbPhaseWriteEffect q k v d = d.lvWrite (Reg.TIM_TB_PHASE_HI k) v := by
  rw [tbPhaseWriteEffect, Dev.sd0_of_opens h]
  exact if_pos hready

/-- From READY on, a LOCK_IND write waits for the update tick (R42). -/
theorem lockIndWriteEffect_of_ready {d : Dev} {q : Requester} {a : Access} {k : Nat} {v : Word} (h : Opens d q 3 0 a)
    (hready : d.ready = true) : lockIndWriteEffect q k v d = d.lvWrite (Reg.TIM_TB_CTL k) v := by
  rw [lockIndWriteEffect, Dev.sd0_of_opens h, if_pos hready]

/-! ### Master loss (Table 03-2) -/

section
variable {d : Dev} {k : Nat} (hdetect : d.fld (Reg.TIM_TB_LOSS k) 15 0 ≠ 0)
include hdetect

/-- ACQUIRE falls back to FREE. -/
theorem Dev.masterLost_of_acquire (hstate : d.tbState k = 1) :
    d.masterLost k = ((d.setTb k { d.tb k with ownSync := false }).setTbState k 0).raise Ev.TB_MASTER_LOST k := by
  have hstate' : (d.setTb k { d.tb k with ownSync := false }).tbState k = 1 := hstate
  rw [Dev.masterLost, if_neg hdetect]
  simp only [hstate']

/-- LOCKED goes to PARTNER when the pair's other member is LOCKED, and to HOLDOVER otherwise. -/
theorem Dev.masterLost_of_locked (hstate : d.tbState k = 2) :
    d.masterLost k =
      let e := (d.setTb k { d.tb k with ownSync := false }).raise Ev.TB_MASTER_LOST k
      if d.tbPaired k && d.tbState (k + 1) == 2 then e.toPartner k
      else ((e.setTbState k 4).raise Ev.TB_HOLDOVER k).leftLocked k := by
  have hstate' : (d.setTb k { d.tb k with ownSync := false }).tbState k = 2 := hstate
  have hpaired : ((d.setTb k { d.tb k with ownSync := false }).raise Ev.TB_MASTER_LOST k).tbPaired k = d.tbPaired k := rfl
  have hpartner : ((d.setTb k { d.tb k with ownSync := false }).raise Ev.TB_MASTER_LOST k).tbState (k + 1) = d.tbState (k + 1) := rfl
  rw [Dev.masterLost, if_neg hdetect]
  simp only [hstate', hpaired, hpartner]

end

/-- Settles O11, clause by clause in the order of the statement. -/
theorem timeCommandsComplete : Obligations.TimeCommandsComplete := by
  refine ⟨?_, ?_, ?_, ?_, ?_, ?_, ?_⟩
  · intro s q a k hopens
    exact answers_of_effect (tbLatchReadEffect q k) rfl (Dev.sd0_of_opens hopens _)
  · intro s q a k v hopens hready
    exact ⟨answers_of_effect (tbPhaseWriteEffect q k v) rfl (tbPhaseWriteEffect_of_ready hopens hready),
      answers_of_effect (lockIndWriteEffect q k v) rfl (lockIndWriteEffect_of_ready hopens hready)⟩
  · intro s q a v hopens
    exact answers_of_effect (esnResvWriteEffect q v) rfl (Dev.sd0_of_opens hopens _)
  · intro s q a p hopens
    exact answers_of_effect (txtsPopEffect q p) rfl (Dev.sd0_of_opens hopens _)
  · intro s k hdetect hstate
    exact answers_of_effect (tbMasterLostEffect k) rfl (Dev.masterLost_of_acquire hdetect hstate)
  · intro s k hdetect hstate halone
    exact answers_of_effect (tbMasterLostEffect k) rfl
      ((Dev.masterLost_of_locked hdetect hstate).trans (if_neg (by simp [halone])))
  · intro s k hdetect hstate hpaired hpartner
    exact answers_of_effect (tbMasterLostEffect k) rfl
      ((Dev.masterLost_of_locked hdetect hstate).trans (if_pos (by simp [hpaired, hpartner])))

end Sys2Proof.Machine

/-! ## Compositor commits, rebuilds and frame ends (R41, R245, R247, R249) -/

namespace Sys2Proof.Machine

/-- A compositor's window that opens performs its command. -/
theorem Dev.ciWindow_of_opens {d : Dev} {q : Requester} {i : Nat} {a : Access} (h : Opens d q 42 (d.ciDomain i) a) (f : Dev → Dev) :
    d.ciWindow q i f = f d := by
  obtain ⟨haccess, hmay, -⟩ := h
  rw [Dev.ciWindow, Dev.by_of_access haccess, if_neg (by simp [hmay])]

/-- A commit that a window with video power takes is one of acceptance (R247). -/
theorem cmpCommitEffect_of_opens {d : Dev} {q : Requester} {i : Nat} {v : Word} {a : Access} (h : Opens d q 42 (d.ciDomain i) a)
    (hgo : wbit v 0 = true) (hpower : d.power = 0) : cmpCommitEffect q i v d = d.commitAccept i := by
  rw [cmpCommitEffect, Dev.ciWindow_of_opens h, if_neg (by simp [hgo]), if_neg (by simp [hpower])]

theorem Dev.commitAccept_of_free {d : Dev} {i : Nat} (hlayers : d.ciLayers i ≠ 0)
    (hfree : d.bit (Reg.CMP_COMMIT_STAT i) 31 = false) :
    d.commitAccept i =
      if d.ciOn i = false then d.commitApply i
      else (d.setCi i { d.ci i with commitAt := some (d.tim.round + if d.within true 1 4 then 2 else 1) }).setBit
        (Reg.CMP_COMMIT_STAT i) 31 true := by
  rw [Dev.commitAccept, if_neg (by simp [hlayers, hfree])]

theorem cacheRebuildEffect_of_opens {d : Dev} {q : Requester} {i : Nat} {v : Word} {a : Access}
    (h : Opens d q 42 (d.ciDomain i) a) (hgo : wbit v 0 = true) :
    cacheRebuildEffect q i v d = d.setCi i { d.ci i with rebuild := true } := by
  obtain ⟨-, -, hpower⟩ := id h
  rw [cacheRebuildEffect, Dev.ciWindow_of_opens h, if_pos (by simp [hgo, hpower])]

/-- The end of a running frame (R245). -/
theorem cmpFrameDoneEffect_of_running {d : Dev} {i : Nat} {f : CmpFrame} (hframe : (d.ci i).frame = some f)
    (hrunning : f.running = true) :
    cmpFrameDoneEffect i d =
      let b := (d.writeFrame i f).dropCount i
      let e := (((b.setCi i { b.ci i with frame := none, complete := true }).setFld (Reg.CMP_CI_STAT i) 26 24 f.surf).setFld
        (Reg.CMP_CI_STAT i) 11 0 0).setReg (Reg.CMP_CI_FRAME i) (w32 f.round)
      let g := if f.rebuild then (e.count Reg.CMP_REBUILDS).raise Ev.CMP_CACHE_REBUILT i (e.ciDomain i) else e
      (g.rest (Reg.CMP_PP_BUSY (g.ciPipe i))).pipeNext (g.ciPipe i) 64 := by
  rw [cmpFrameDoneEffect, hframe]
  exact if_neg (by simp [hrunning])

/-- Settles O38, clause by clause in the order of the statement. -/
theorem compositorCommandsComplete : Obligations.CompositorCommandsComplete := by
  refine ⟨?_, ?_, ?_⟩
  · intro s q a i v hopens hgo hpower hlayers hfree
    have heffect := (cmpCommitEffect_of_opens hopens hgo hpower).trans (Dev.commitAccept_of_free hlayers hfree)
    constructor
    · intro hoff
      exact answers_of_effect (cmpCommitEffect q i v) rfl (heffect.trans (if_pos hoff))
    · intro hon
      exact answers_of_effect (cmpCommitEffect q i v) rfl (heffect.trans (if_neg (by simp [hon])))
  · intro s q a i v hopens hgo
    exact answers_of_effect (cacheRebuildEffect q i v) rfl (cacheRebuildEffect_of_opens hopens hgo)
  · intro s i f hframe hrunning
    have heffect := cmpFrameDoneEffect_of_running hframe hrunning
    refine ⟨_, _, rfl, rfl, fun hrebuild => ?_, fun hrebuild => ⟨_, rfl, ?_⟩⟩
    · simp only [hrebuild, Bool.false_eq_true, if_false] at heffect
      exact answers_of_effect (cmpFrameDoneEffect i) rfl heffect
    · simp only [hrebuild, if_true] at heffect
      exact answers_of_effect (cmpFrameDoneEffect i) rfl heffect

end Sys2Proof.Machine

/-! ## Time bases: reads after writes, and what a step leaves (R45, R53, R55) -/

namespace Sys2Proof.Machine

variable (d : Dev)

@[simp] theorem Dev.setTb_tb_self (k : Nat) (t : TimeBase) : (d.setTb k t).tb k = t :=
  tget_tput_self (fun _ => ({} : TimeBase)) d.tim.tbs k t

theorem Dev.setTb_tb_of_ne {j k : Nat} (h : j ≠ k) (t : TimeBase) : (d.setTb k t).tb j = d.tb j :=
  tget_tput_ne (fun _ => ({} : TimeBase)) d.tim.tbs k j t h

theorem Dev.raise_tb (code inst dom : Nat) (args : List Byte) (k : Nat) : (d.raise code inst dom args).tb k = d.tb k := rfl

theorem Dev.raise_bit (code inst dom : Nat) (args : List Byte) (a i : Nat) : (d.raise code inst dom args).bit a i = d.bit a i := rfl

theorem Dev.setTb_bit (k : Nat) (t : TimeBase) (a i : Nat) : (d.setTb k t).bit a i = d.bit a i := rfl

/-- The check of FAR moves no time base. -/
theorem Dev.farCheck_tb (k j : Nat) : (d.farCheck k).tb j = d.tb j := by
  rw [Dev.farCheck]
  split
  · rfl
  · split <;> rfl

theorem Dev.farCheck_dram (k : Nat) : (d.farCheck k).dram = d.dram := by
  rw [Dev.farCheck]
  split
  · rfl
  · split <;> rfl

/-- Without a remainder FAR is cleared, unless the limit is 0: the magnitude is then not below it (R55). -/
theorem Dev.farCheck_far_of_rem_zero {d : Dev} {k : Nat} (hrem : (d.tb k).rem = 0) :
    (d.farCheck k).bit (Reg.TIM_TB_STAT k) 6 = (d.bit (Reg.TIM_TB_STAT k) 6 && d.reg (Reg.TIM_TB_FAR_LIMIT k) == 0) := by
  rw [Dev.farCheck, hrem, Int.natAbs_zero, if_neg fun h => Nat.not_lt_zero _ h.1]
  by_cases hlimit : d.reg (Reg.TIM_TB_FAR_LIMIT k) = 0
  · simp [hlimit]
  · have hlimit' : (d.reg (Reg.TIM_TB_FAR_LIMIT k) == 0) = false := beq_eq_false_iff_ne.mpr hlimit
    have hpos : 0 < (d.reg (Reg.TIM_TB_FAR_LIMIT k)).toNat := Nat.pos_of_ne_zero fun h => hlimit (BitVec.eq_of_toNat_eq h)
    rw [if_pos (by omega), Dev.setBit_bit_self _ _ _ _ (by decide), hlimit', Bool.and_false]

/-! ### The step (R53) -/

/-- The time that a step sets, in units of 2^-40 ns: the set seconds and nanoseconds, fraction zero. -/
def Dev.setTime (d : Dev) (k : Nat) : Nat :=
  (((d.reg (Reg.TIM_TB_SET_SEC_LO k)).toNat + 2 ^ 32 * d.fld (Reg.TIM_TB_SET_SEC_HI k) 15 0) * 10 ^ 9 +
    d.fld (Reg.TIM_TB_SET_NS k) 29 0) * 2 ^ 40

theorem Dev.tbSet_eq (k : Nat) :
    d.tbSet k = ((d.setTb k { d.tb k with time := d.setTime k, rem := 0 }).farCheck k).raise Ev.TB_STEP_DONE k := rfl

/-- A step sets its own time base and clears its remainder. -/
theorem Dev.tbSet_tb_self (k : Nat) : (d.tbSet k).tb k = { d.tb k with time := d.setTime k, rem := 0 } := by
  rw [Dev.tbSet_eq, Dev.raise_tb, Dev.farCheck_tb, Dev.setTb_tb_self]

theorem Dev.tbSet_tb_of_ne {j k : Nat} (h : j ≠ k) : (d.tbSet k).tb j = d.tb j := by
  rw [Dev.tbSet_eq, Dev.raise_tb, Dev.farCheck_tb, Dev.setTb_tb_of_ne _ h]

theorem Dev.tbSet_dram (k : Nat) : (d.tbSet k).dram = d.dram := by
  rw [Dev.tbSet_eq, Dev.raise_dram, Dev.farCheck_dram, Dev.setTb_dram]

/-- The step has left no remainder when FAR is checked. -/
theorem Dev.tbSet_far (k : Nat) :
    (d.tbSet k).bit (Reg.TIM_TB_STAT k) 6 = (d.bit (Reg.TIM_TB_STAT k) 6 && d.reg (Reg.TIM_TB_FAR_LIMIT k) == 0) := by
  rw [Dev.tbSet_eq, Dev.raise_bit, Dev.farCheck_far_of_rem_zero (congrArg TimeBase.rem (d.setTb_tb_self k _)), Dev.setTb_bit, Dev.setTb_reg]

/-- A write of GO is a step where the time base is free, and TB_STEP_REFUSED where it is in use. -/
theorem tbStepEffect_of_go {d : Dev} {q : Requester} {a : Access} {k : Nat} {v : Word} (h : Opens d q 3 0 a) (hgo : wbit v 0 = true) :
    tbStepEffect q k v d = if d.inUse k then d.raise Ev.TB_STEP_REFUSED k else d.tbSet k := by
  rw [tbStepEffect, Dev.sd0_of_opens h, Dev.tbStepWrite, if_neg (by simp [hgo])]

/-- Settles O9: what a step that is taken leaves is read from `Dev.tbSet`'s lemmas, whose check of FAR meets no remainder. -/
theorem timeBaseStep : Obligations.TimeBaseStep := by
  refine ⟨fun s q a k v hopens hgo hfree => ?_, fun s q a k v hopens hgo huse => ?_⟩
  · refine ⟨s.dev.tbSet k, ?_, ?_, ?_, fun j hj => s.dev.tbSet_tb_of_ne hj, s.dev.tbSet_far k, s.dev.tbSet_dram k⟩
    · exact answers_of_effect (tbStepEffect q k v) rfl ((tbStepEffect_of_go hopens hgo).trans (if_neg (by simp [hfree])))
    · rw [Dev.tbSet_tb_self, Dev.setTime]
    · rw [Dev.tbSet_tb_self]
  · exact answers_of_effect (tbStepEffect q k v) rfl ((tbStepEffect_of_go hopens hgo).trans (if_pos huse))

end Sys2Proof.Machine

/-! ## Records of events once issued stay among the records issued (R64, R65) -/

namespace Sys2Proof.Machine

variable (d : Dev)

/-! ### What delivers an arrival issues no record of its own -/

theorem Dev.forEach_records {α : Type} {f : Dev → α → Dev} (hf : ∀ d x, (f d x).tim.reported = d.tim.reported) (l : List α) :
    (d.forEach l f).tim.reported = d.tim.reported := by
  induction l generalizing d with
  | nil => rfl
  | cons x t ih => exact (ih (f d x)).trans (hf d x)

theorem Dev.lvTake_records (p : Nat → Bool) : (d.lvTake p).tim.reported = d.tim.reported := by
  rw [Dev.lvTake, Dev.forEach_records]
  exact fun _ _ => rfl

theorem Dev.message_records (fn vec : Nat) : (d.message fn vec).tim.reported = d.tim.reported := by
  rw [Dev.message]
  split
  · rfl
  · split <;> rfl

theorem Dev.ringSignal_records (k : Nat) : (d.ringSignal k).tim.reported = d.tim.reported := by
  rw [Dev.ringSignal]
  split
  · exact Dev.message_records _ _ _
  · rfl

theorem Dev.ringWrite_records (k esnAt : Nat) (bytes : List Byte) (esn : Nat) :
    (d.ringWrite k esnAt bytes esn).tim.reported = d.tim.reported :=
  (Dev.ringSignal_records _ k).trans (d.lvTake_records _)

theorem Dev.dramReport_records (kind port dom a : Nat) : (d.dramReport kind port dom a).tim.reported = d.tim.reported := by
  rw [Dev.dramReport]
  split <;> rfl

theorem Dev.countLines_records (lo : Nat → Nat) (a n : Nat) : (d.countLines lo a n).tim.reported = d.tim.reported := by
  rw [Dev.countLines, Dev.forEach_records]
  exact fun _ _ => rfl

theorem Dev.dramPut_records (port dom a : Nat) (b : List Byte) : (d.dramPut port dom a b).tim.reported = d.tim.reported := by
  rw [Dev.dramPut]
  split
  · exact Dev.countLines_records _ _ _ _
  · exact d.dramReport_records _ _ _ _

theorem Dev.logSignal_records (x : Nat) : (d.logSignal x).tim.reported = d.tim.reported := by
  rw [Dev.logSignal]
  split
  · exact Dev.message_records _ _ _
  · rfl

theorem Dev.logWrite_records (x : Nat) (r : EventRec) : (d.logWrite x r).tim.reported = d.tim.reported := by
  rw [Dev.logWrite]
  split
  · exact d.lvTake_records _
  · exact (Dev.logSignal_records _ x).trans ((Dev.dramPut_records _ _ _ _ _).trans (d.lvTake_records _))

theorem Dev.logRecord_records (r : EventRec) : (d.logRecord r).tim.reported = d.tim.reported := by
  refine Dev.forEach_records _ (fun e x => ?_) _
  split
  · exact e.logWrite_records x r
  · rfl

theorem Dev.fire_records (src : Nat) : (d.fire src).tim.reported = d.tim.reported := by
  rw [Dev.fire]
  dsimp only
  split
  · rfl
  · split
    · split <;> rfl
    · split <;> rfl

theorem Dev.cqSet_records (dom : Nat) (l : List (List Byte)) : (d.cqSet dom l).tim.reported = d.tim.reported := by
  rw [Dev.cqSet, Dev.setRegsNat_tim, Dev.setFld_tim]

theorem Dev.cqOverflow_records (dom : Nat) :
    (if dom ∈ d.hok.cqMark then d else
      ({ d with hok := { d.hok with cqMark := addMark d.hok.cqMark dom } } : Dev).raise Ev.CQ_OVERFLOW dom dom).tim.reported =
    d.tim.reported := by
  split <;> rfl

theorem Dev.cqPush_records (dom : Nat) (bytes : List Byte) : (d.cqPush dom bytes).tim.reported = d.tim.reported := by
  rw [Dev.cqPush]
  split
  · exact d.cqSet_records _ _
  · rw [Dev.cqOverflow_records, Dev.setBit_tim, Dev.count_tim]

theorem Dev.stampChain_records (id esn : Nat) : (d.stampChain id esn).tim.reported = d.tim.reported := by
  rw [Dev.stampChain]
  split <;> rfl

theorem Dev.esnWatch_records : d.esnWatch.tim.reported = d.tim.reported := by
  have hpast : ∀ e : Dev, (if e.tim.pastLimit && decide (e.tim.limit ≤ e.tim.esn) then
      { e with tim := { e.tim with pastLimit := false } }.raise Ev.ESN_RESV_OVER 0 else e).tim.reported = e.tim.reported := by
    intro e
    split <;> rfl
  rw [Dev.esnWatch]
  refine (hpast _).trans ?_
  split <;> rfl

/-! ### An event's record, and a swatch's -/

/-- The record of an event joins the records issued. -/
theorem Dev.issueRecord_records (r : EventRec) : (d.issueRecord r).tim.reported = r :: d.tim.reported := by
  rw [Dev.issueRecord]
  split
  · exact (Dev.fire_records _ _).trans (Dev.logRecord_records _ r)
  · exact Dev.logRecord_records _ r

theorem Dev.forEach_record_records {α : Type} {f : Dev → α → Dev} (hf : ∀ d x, (f d x).tim.reported = d.tim.reported) (l : List α)
    (r : EventRec) : ((d.record r).forEach l f).tim.reported = r :: d.tim.reported := Dev.forEach_records _ hf l

theorem Dev.swatchStamp_tim (esn time : Nat) : (d.swatchStamp esn time).tim = d.tim := rfl

/-- So does the record of a swatch. -/
theorem Dev.swatchDone_records (esn time : Nat) : d.tim.reported <:+ (d.swatchDone esn time).tim.reported := by
  rw [Dev.swatchDone, Dev.forEach_record_records, Dev.swatchStamp_tim, Dev.count_tim, Dev.setBit_tim]
  · exact List.suffix_cons _ _
  · intro e x
    dsimp only
    split
    · exact e.logWrite_records x _
    · rfl

/-! ### Delivery and issue -/

/-- An event's record carries the ESN and the row time base's time that its delivery met (R65). -/
theorem Dev.deliver_event_records (code inst dom sev : Nat) (args : List Byte) :
    (d.deliver (.event code inst dom sev args)).tim.reported = ⟨d.tim.esn, d.rowNs, code, inst, dom, sev, args⟩ :: d.tim.reported :=
  (Dev.esnWatch_records _).trans (Dev.issueRecord_records _ _)

/-- No delivery takes a record away. -/
theorem Dev.deliverNew_records (x : Arrival) : d.tim.reported <:+ (d.deliverNew x).tim.reported := by
  have hwatch : ∀ e : Dev, d.tim.reported <:+ e.tim.reported → d.tim.reported <:+ e.esnWatch.tim.reported := fun e h => by
    rwa [Dev.esnWatch_records]
  unfold Dev.deliverNew
  refine hwatch _ ?_
  cases x with
  | event code inst dom sev args => exact ⟨[_], (d.esnNext.issueRecord_records _).symm⟩
  | packet p chain =>
    cases chain with
    | none => exact List.suffix_rfl
    | some id => exact ⟨[], (d.esnNext.stampChain_records id _).symm⟩
  | ring k at_ bytes c =>
    dsimp only
    split
    · exact ⟨[], (d.esnNext.ringWrite_records k at_ bytes _).symm⟩
    · exact List.suffix_rfl
  | cq dom bytes => exact ⟨[], (d.esnNext.cqPush_records dom _).symm⟩
  | swatch => exact d.esnNext.swatchDone_records _ _

theorem Dev.deliver_records (x : Arrival) : d.tim.reported <:+ (d.deliver x).tim.reported := by
  unfold Dev.deliver
  split
  · split
    · exact ⟨[], (d.ringWrite_records _ _ _ _).symm⟩
    · exact List.suffix_rfl
  · exact d.deliverNew_records x

/-- The records issued stay, the newest in front. -/
theorem Dev.issue_records (n : Nat) : d.tim.reported <:+ (d.issue n).tim.reported := by
  induction n generalizing d with
  | zero => exact List.suffix_rfl
  | succ n ih =>
    rw [Dev.issue]
    split
    · exact List.suffix_rfl
    · next x t _ => exact (Dev.deliver_records { d with tim := { d.tim with queue := t } } x).trans (ih _)

theorem Dev.issue_of_queue {d : Dev} {x : Arrival} {t : List Arrival} (h : d.tim.queue = x :: t) (n : Nat) :
    d.issue (n + 1) = (({ d with tim := { d.tim with queue := t } } : Dev).deliver x).issue n := by
  rw [Dev.issue, h]

/-- When nothing new arrives, a ready device issues from the queue as it stands. -/
theorem Dev.settle_of_noArrival {d : Dev} (h : d.ready = true) : d.settle d.tim.queue.length = d.issue 4 := by
  rw [Dev.settle, if_pos h, List.take_length, List.drop_length, sortArrivals, List.foldl_nil, List.append_nil]

/-- Settles O7: the front of the queue is delivered first, and what is delivered after it keeps its record. -/
theorem oldestEventTakesNextEsn : Obligations.OldestEventTakesNextEsn := by
  intro s code inst dom sev args rest hready hqueue
  refine ⟨s.dev.settle s.dev.tim.queue.length, rfl, ?_⟩
  rw [Dev.settle_of_noArrival hready, Dev.issue_of_queue hqueue 3]
  refine (Dev.issue_records _ 3).mem ?_
  rw [Dev.deliver_event_records]
  exact List.mem_cons_self

end Sys2Proof.Machine

/-! ## The update tick: what its servo, its limiter and its waiting writes leave (R46, R54 to R56) -/

namespace Sys2Proof.Machine

/-- `e` is `d` at the same moment: the clocks, the counts and the time of every time base are those of `d`, as are device DRAM, the
cores and the registers of the regions below TIM's. -/
structure SameMoment (d e : Dev) : Prop where
  clocks : e.tim.clocks = d.tim.clocks
  row : e.tim.row = d.tim.row
  round : e.tim.round = d.tim.round
  time : ∀ k, (e.tb k).time = (d.tb k).time
  dram : e.dram = d.dram
  dsp : e.dsp = d.dsp
  reg : ∀ a, a < 0x300000 → e.reg a = d.reg a

namespace SameMoment

variable {d e f : Dev}

theorem refl (d : Dev) : SameMoment d d := ⟨rfl, rfl, rfl, fun _ => rfl, rfl, rfl, fun _ _ => rfl⟩

theorem trans (h : SameMoment d e) (k : SameMoment e f) : SameMoment d f where
  clocks := k.clocks.trans h.clocks
  row := k.row.trans h.row
  round := k.round.trans h.round
  time := fun i => (k.time i).trans (h.time i)
  dram := k.dram.trans h.dram
  dsp := k.dsp.trans h.dsp
  reg := fun a ha => (k.reg a ha).trans (h.reg a ha)

/-- The power state is kept: its register lies below TIM's. -/
theorem power (h : SameMoment d e) : e.power = d.power := congrArg (wfld · 1 0) (h.reg Reg.SYS_PWR_STAT (by decide))

end SameMoment

variable (d : Dev)

theorem Dev.setReg_sameMoment {a : Nat} (ha : 0x300000 ≤ a) (v : Word) : SameMoment d (d.setReg a v) :=
  ⟨rfl, rfl, rfl, fun _ => rfl, rfl, rfl, fun _ hb => d.setReg_reg_of_ne (by omega) v⟩

theorem Dev.setFld_sameMoment {a : Nat} (ha : 0x300000 ≤ a) (hi lo v : Nat) : SameMoment d (d.setFld a hi lo v) :=
  d.setReg_sameMoment ha _

theorem Dev.setBit_sameMoment {a : Nat} (ha : 0x300000 ≤ a) (i : Nat) (b : Bool) : SameMoment d (d.setBit a i b) :=
  d.setReg_sameMoment ha _

theorem Dev.lvApply_sameMoment {a : Nat} (ha : 0x300000 ≤ a) (v : Word) : SameMoment d (d.lvApply a v) := d.setReg_sameMoment ha _

theorem Dev.raise_sameMoment (code inst dom : Nat) (args : List Byte) : SameMoment d (d.raise code inst dom args) :=
  ⟨rfl, rfl, rfl, fun _ => rfl, rfl, rfl, fun _ _ => rfl⟩

theorem Dev.lv_sameMoment (l : Tbl Word) : SameMoment d { d with lv := l } :=
  ⟨rfl, rfl, rfl, fun _ => rfl, rfl, rfl, fun _ _ => rfl⟩

theorem Dev.setTb_sameMoment {k : Nat} {t : TimeBase} (ht : t.time = (d.tb k).time) : SameMoment d (d.setTb k t) where
  clocks := rfl
  row := rfl
  round := rfl
  time := fun j => by
    by_cases h : j = k
    · rw [h, Dev.setTb_tb_self, ht]
    · rw [Dev.setTb_tb_of_ne d h]
  dram := rfl
  dsp := rfl
  reg := fun _ _ => rfl

theorem Dev.forEach_sameMoment {α : Type} {f : Dev → α → Dev} {l : List α} (hf : ∀ d, ∀ x ∈ l, SameMoment d (f d x)) :
    SameMoment d (d.forEach l f) := by
  induction l generalizing d with
  | nil => exact SameMoment.refl d
  | cons x t ih => exact (hf d x List.mem_cons_self).trans (ih (f d x) fun e y hy => hf e y (List.mem_cons_of_mem x hy))

/-- Waiting writes of TIM's registers, or of regions above, take effect. -/
theorem Dev.lvCommit_sameMoment {lo hi : Nat} (hlo : 0x300000 ≤ lo) : SameMoment d (d.lvCommit lo hi) := by
  refine (d.lv_sameMoment _).trans (Dev.forEach_sameMoment _ fun e x hx => ?_)
  have hrange : lo ≤ x.1 ∧ x.1 < hi := by simpa using (List.mem_filter.mp hx).2
  exact e.lvApply_sameMoment (by omega) x.2

/-! ### The servo's writes (R42, R43, Table 03-2) -/

theorem Dev.setTbState_sameMoment (k v : Nat) : SameMoment d (d.setTbState k v) :=
  d.setFld_sameMoment (Nat.le_add_right_of_le (by decide)) _ _ _

theorem Dev.toPartner_sameMoment (k : Nat) : SameMoment d (d.toPartner k) := by
  unfold Dev.toPartner
  refine (SameMoment.trans ?_ (Dev.setTbState_sameMoment _ k 3)).trans (Dev.raise_sameMoment _ _ _ _ _)
  exact d.setTb_sameMoment rfl

theorem Dev.toLocked_sameMoment (k : Nat) : SameMoment d (d.toLocked k) := by
  have hlocked := (d.setTb_sameMoment (k := k) (t := { d.tb k with hold := [] }) rfl).trans (Dev.setTbState_sameMoment _ k 2)
  rw [Dev.toLocked]
  split
  · exact hlocked.trans (Dev.toPartner_sameMoment _ _)
  · exact hlocked

theorem Dev.leftLocked_sameMoment (k : Nat) : SameMoment d (d.leftLocked k) := by
  rw [Dev.leftLocked]
  split
  · exact ((d.setReg_sameMoment (Nat.le_add_right_of_le (by decide)) _).trans (Dev.setTbState_sameMoment _ _ 4)).trans
      (Dev.raise_sameMoment _ _ _ _ _)
  · exact SameMoment.refl d

theorem Dev.lockInd_sameMoment (k : Nat) (v : Word) : SameMoment d (d.lockInd k v) := by
  have hwritten : SameMoment d (d.lvApply (Reg.TIM_TB_CTL k) v) := d.lvApply_sameMoment (Nat.le_add_right_of_le (by decide)) v
  unfold Dev.lockInd
  refine hwritten.trans ?_
  generalize d.lvApply (Reg.TIM_TB_CTL k) v = e
  dsimp only
  split
  · exact (e.toLocked_sameMoment k).trans (Dev.raise_sameMoment _ _ _ _ _)
  · exact (e.setTbState_sameMoment k 1).trans (Dev.leftLocked_sameMoment _ k)
  · split
    · exact (e.toLocked_sameMoment k).trans (Dev.raise_sameMoment _ _ _ _ _)
    · exact SameMoment.refl e
  · exact SameMoment.refl e

theorem Dev.phaseAdd_sameMoment (k lo hi : Nat) : SameMoment d (d.phaseAdd k lo hi) := by
  rw [Dev.phaseAdd]
  split
  · exact SameMoment.refl d
  · exact d.setTb_sameMoment rfl

theorem Dev.phaseCommit_sameMoment (k : Nat) : SameMoment d (d.phaseCommit k) := by
  rw [Dev.phaseCommit]
  split
  · exact SameMoment.refl d
  · exact (((d.lv_sameMoment _).trans (Dev.lv_sameMoment _ _)).trans
      (Dev.setReg_sameMoment _ (Nat.le_add_right_of_le (by decide)) _)).trans (Dev.phaseAdd_sameMoment _ _ _ _)

theorem Dev.servoCommit_sameMoment (k : Nat) : SameMoment d (d.servoCommit k) := by
  have hlock : SameMoment d (match d.lvAt (Reg.TIM_TB_CTL k) with
      | some v => (d.lvDrop (Reg.TIM_TB_CTL k)).lockInd k v
      | none => d) := by
    split
    · exact (d.lv_sameMoment _).trans (Dev.lockInd_sameMoment _ _ _)
    · exact SameMoment.refl d
  have hadj : 0x300000 ≤ Reg.TIM_TB_ADJ k := Nat.le_add_right_of_le (by decide)
  have hslew : 0x300000 ≤ Reg.TIM_TB_SLEW_MAX k := Nat.le_add_right_of_le (by decide)
  unfold Dev.servoCommit
  exact ((hlock.trans (Dev.phaseCommit_sameMoment _ k)).trans (Dev.lvCommit_sameMoment _ hadj)).trans
    (Dev.lvCommit_sameMoment _ hslew)

/-! ### Sampling, slewing and FAR (R54 to R56) -/

theorem Dev.holdSample_sameMoment (k : Nat) : SameMoment d (d.holdSample k) := by
  have hhold : 0x300000 ≤ Reg.TIM_TB_HOLD_ADJ k := Nat.le_add_right_of_le (by decide)
  rw [Dev.holdSample]
  split
  · refine SameMoment.trans ?_ (Dev.setReg_sameMoment _ hhold _)
    exact d.setTb_sameMoment rfl
  · exact SameMoment.refl d

/-- The limiter moves the rate and the remainder; the time base itself moves with the clocks alone. -/
theorem Dev.slew_sameMoment (k : Nat) : SameMoment d (d.slew k) := by
  have hstat : 0x300000 ≤ Reg.TIM_TB_STAT k := Nat.le_add_right_of_le (by decide)
  have hrate : ∀ (e : Dev) (r : Word) (m : Int), SameMoment e
      ((e.setReg (Reg.TIM_TB_RATE_EFF k) r).setTb k { e.tb k with rem := m }) := fun e r m =>
    (e.setReg_sameMoment (Nat.le_add_right_of_le (by decide)) r).trans (Dev.setTb_sameMoment _ rfl)
  unfold Dev.slew
  refine SameMoment.trans ?_ (hrate _ _ _)
  split
  · exact (d.setBit_sameMoment hstat 5 true).trans (Dev.raise_sameMoment _ _ _ _ _)
  · exact SameMoment.refl d

theorem Dev.farCheck_sameMoment (k : Nat) : SameMoment d (d.farCheck k) := by
  have hstat : 0x300000 ≤ Reg.TIM_TB_STAT k := Nat.le_add_right_of_le (by decide)
  rw [Dev.farCheck]
  split
  · exact (d.setBit_sameMoment hstat 6 true).trans (Dev.raise_sameMoment _ _ _ _ _)
  · split
    · exact d.setBit_sameMoment hstat 6 false
    · exact SameMoment.refl d

theorem Dev.tbUpdate_sameMoment (k : Nat) : SameMoment d (d.tbUpdate k) :=
  (((d.servoCommit_sameMoment k).trans (Dev.holdSample_sameMoment _ k)).trans (Dev.slew_sameMoment _ k)).trans
    (Dev.farCheck_sameMoment _ k)

/-! ### Clocks pass (R46) -/

theorem Dev.setTb_rateEff (k j : Nat) (t : TimeBase) : (d.setTb k t).rateEff j = d.rateEff j := rfl

/-- Each of the time bases listed, once, moves by its rate. -/
theorem Dev.forEach_advance_tb (n : Nat) {l : List Nat} (hl : l.Nodup) (k : Nat) :
    (d.forEach l (fun d k => d.setTb k (tbAdvance (d.tb k) (d.rateEff k) n))).tb k =
      if k ∈ l then tbAdvance (d.tb k) (d.rateEff k) n else d.tb k := by
  induction l generalizing d with
  | nil => rfl
  | cons j t ih =>
    obtain ⟨hj, ht⟩ := List.nodup_cons.mp hl
    refine (ih (d.setTb j (tbAdvance (d.tb j) (d.rateEff j) n)) ht).trans ?_
    rw [Dev.setTb_rateEff]
    by_cases hk : k = j
    · rw [hk, if_neg hj, if_pos List.mem_cons_self, Dev.setTb_tb_self]
    · rw [Dev.setTb_tb_of_ne d hk]
      simp [hk]

theorem Dev.advance_tb (n : Nat) (k : Fin 8) : (d.advance n).tb k = tbAdvance (d.tb k) (d.rateEff k) n := by
  rw [Dev.advance, Dev.forEach_advance_tb _ n List.nodup_range k, if_pos (List.mem_range.mpr k.isLt)]
  rfl

/-- Clocks that pass move TIM's time bases and its count of clocks, and nothing else. -/
theorem Dev.advance_frame (n : Nat) : ∃ l, d.advance n = { d with tim := { d.tim with clocks := d.tim.clocks + n, tbs := l } } := by
  have hloop : ∀ (l : List Nat) (e : Dev), ∃ m,
      e.forEach l (fun d k => d.setTb k (tbAdvance (d.tb k) (d.rateEff k) n)) = { e with tim := { e.tim with tbs := m } } := by
    intro l
    induction l with
    | nil => exact fun e => ⟨_, rfl⟩
    | cons j t ih =>
      intro e
      obtain ⟨m, hm⟩ := ih (e.setTb j (tbAdvance (e.tb j) (e.rateEff j) n))
      exact ⟨m, hm⟩
  exact hloop _ _

/-- With media powered down an update tick passes its clocks, and all else it does belongs to the same moment. -/
theorem updateTickEffect_sameMoment {d : Dev} (h : d.power = 2) : SameMoment (d.advance 1500) (updateTickEffect d) := by
  have hticked : SameMoment (d.advance 1500) (((d.advance 1500).lvCommit 0x302000 0x303000).forEach (List.range 8) Dev.tbUpdate) :=
    (Dev.lvCommit_sameMoment _ (by decide)).trans (Dev.forEach_sameMoment _ fun e k _ => e.tbUpdate_sameMoment k)
  have hpower : (d.advance 1500).power = 2 := by
    obtain ⟨l, hl⟩ := d.advance_frame 1500
    rw [hl]
    exact h
  rw [updateTickEffect, if_neg (by simp [h]), if_pos (hticked.power.trans hpower)]
  exact hticked

/-- Settles O13: the clocks pass first (`Dev.advance`); what the tick does then leaves the moment as it is. -/
theorem updateTickPassesTime : Obligations.UpdateTickPassesTime := by
  intro s hpower
  have hmoment := updateTickEffect_sameMoment hpower
  obtain ⟨l, hframe⟩ := s.dev.advance_frame 1500
  refine ⟨updateTickEffect s.dev, answers_of_effect updateTickEffect rfl rfl, ?_, ?_, ?_, ?_, ?_, fun k => ?_⟩
  · rw [hmoment.clocks, hframe]
  · rw [hmoment.row, hframe]
  · rw [hmoment.round, hframe]
  · rw [hmoment.dram, hframe]
  · rw [hmoment.dsp, hframe]
  · rw [hmoment.time, Dev.advance_tb]

end Sys2Proof.Machine

/-! ## Reads of a time base's registers (R45, R47) -/

namespace Sys2Proof.Machine

/-- Address `a` is at offset `o` in the registers of time base `k`. -/
structure TbAt (a k o : Nat) : Prop where
  base_lt : k < 8
  offset_lt : o < 0x100
  addr : a = 0x301000 + 0x100 * k + o

namespace TbAt

variable {a k o : Nat} (h : TbAt a k o)
include h

theorem bounds : 0x301000 ≤ a ∧ a < 0x301800 := by
  obtain ⟨hk, ho, rfl⟩ := h
  omega

theorem ne {b : Nat} (hb : b < 0x301000 ∨ 0x301800 ≤ b) : a ≠ b := by
  obtain ⟨hlo, hhi⟩ := h.bounds
  omega

theorem offset : a % 256 = o := by
  obtain ⟨hk, ho, rfl⟩ := h
  omega

theorem base : (a - Reg.TIM_TB_CFG 0) / 256 = k := by
  obtain ⟨hk, ho, rfl⟩ := h
  simp only [Reg.TIM_TB_CFG]
  omega

theorem region : regionOf a = 3 := by
  obtain ⟨hlo, hhi⟩ := h.bounds
  rw [regionOf]
  omega

theorem inMsix : inMsix a = false := by
  obtain ⟨hlo, hhi⟩ := h.bounds
  rw [Machine.inMsix, decide_eq_false]
  omega

theorem inXp : inXp a = false := by
  obtain ⟨hlo, hhi⟩ := h.bounds
  rw [Machine.inXp, decide_eq_false]
  simp only [xpWindow]
  omega

theorem inShadow : inShadow a = false := by
  obtain ⟨hlo, hhi⟩ := h.bounds
  rw [Machine.inShadow, decide_eq_false]
  omega

theorem activeOf : activeOf a = a := by
  obtain ⟨hlo, hhi⟩ := h.bounds
  rw [Machine.activeOf, if_neg (by omega)]

theorem elem_timeBases : elem a (Reg.TIM_TB_CFG 0) 256 8 = some k := by
  obtain ⟨hlo, hhi⟩ := h.bounds
  rw [elem, if_pos (by simp only [Reg.TIM_TB_CFG]; omega), h.base]

theorem elem_ports : elem a (Reg.TIM_PORT_CFG 0) 64 8 = none := by
  obtain ⟨hlo, hhi⟩ := h.bounds
  rw [elem, if_neg (by simp only [Reg.TIM_PORT_CFG]; omega)]

/-- No unit that a structural register leaves out has registers among a time base's. -/
theorem noUnit (d : Dev) : d.noUnit a = false := by
  obtain ⟨hlo, hhi⟩ := h.bounds
  have hport : elem a (Reg.NET_PORT_CFG 0) 256 8 = none := by rw [elem, if_neg (by simp only [Reg.NET_PORT_CFG]; omega)]
  have hlayer : layerOf a = none := by rw [layerOf, if_neg (by simp only [Reg.CMP_LAYER]; omega)]
  rw [Dev.noUnit, hport, hlayer]
  rfl

theorem isLo64 : isLo64 a = false ∧ isLo64 (a - 4) = false := by
  obtain ⟨hlo, hhi⟩ := h.bounds
  have hregion : ∀ b, 0x300020 < b → b < 0x400000 → Machine.isLo64 b = false := fun b hb hb' => by
    rw [Machine.isLo64, regionOf, if_pos (by omega)]
    exact beq_false_of_ne (by omega)
  exact ⟨hregion _ (by omega) (by omega), hregion _ (by omega) (by omega)⟩

theorem hiOf : hiOf a = none := by
  rw [Machine.hiOf, if_neg (h.ne (by decide)), if_neg (h.ne (by decide)), if_neg (by simp [h.isLo64.1])]

theorem loOf : loOf a = none := by
  rw [Machine.loOf, if_neg (h.ne (by decide)), if_neg (h.ne (by decide)), if_neg (by simp [h.isLo64.2])]

end TbAt

/-! ### What such a register shows -/

@[simp] theorem w32_toNat (w : Word) : w32 w.toNat = w := BitVec.eq_of_toNat_eq (by simp [w32])

theorem w32_and_ones (n : Nat) : w32 (n &&& 0xFFFFFFFF) = w32 n := by
  have hmod : n &&& 0xFFFFFFFF = n % 2 ^ 32 := Nat.and_two_pow_sub_one_eq_mod n 32
  rw [hmod]
  exact BitVec.eq_of_toNat_eq (by simp [w32])

/-- A mask of the low bits keeps a word that fits in them. -/
theorem w32_and_of_fits {n j : Nat} (h : n % 2 ^ 32 < 2 ^ j) : w32 ((w32 n).toNat &&& (2 ^ j - 1)) = w32 n := by
  have hn : (w32 n).toNat < 2 ^ j := Nat.lt_of_le_of_lt (Nat.le_of_eq (BitVec.toNat_ofNat n 32)) h
  rw [Nat.and_two_pow_sub_one_eq_mod, Nat.mod_eq_of_lt hn, w32_toNat]

section
variable {a k : Nat} (d : Dev)

theorem Dev.timShown_frac (h : TbAt a k 0x0C) : d.timShown false a = some (w32 ((d.tb k).latch / 2 ^ 24 % 2 ^ 16)) := by
  rw [Dev.timShown, h.elem_timeBases, h.offset]
  rfl

theorem Dev.timShown_ns (h : TbAt a k 0x10) : d.timShown false a = some (w32 ((d.tb k).latch / 2 ^ 40 % 10 ^ 9)) := by
  rw [Dev.timShown, h.elem_timeBases, h.offset]
  rfl

theorem Dev.timShown_secLo (h : TbAt a k 0x14) : d.timShown false a = some (w32 ((d.tb k).latch / 2 ^ 40 / 10 ^ 9)) := by
  rw [Dev.timShown, h.elem_timeBases, h.offset]
  rfl

theorem Dev.timShown_secHi (h : TbAt a k 0x18) :
    d.timShown false a = some (w32 ((d.tb k).latch / 2 ^ 40 / 10 ^ 9 / 2 ^ 32 % 2 ^ 16)) := by
  rw [Dev.timShown, h.elem_timeBases, h.offset]
  rfl

end

/-- A read-only register of a time base shows what TIM holds, when that fits its mask of `j` bits. -/
theorem Dev.shown_of_tbAt {d : Dev} {a k o n j : Nat} {r : RegRow} (h : TbAt a k o) (hro : r.ty = .RO) (hwo : r.wo = 0)
    (hmask : r.mask = 2 ^ j - 1) (htim : d.timShown false a = some (w32 n)) (hfits : n % 2 ^ 32 < 2 ^ j) :
    d.shown false r a = w32 n := by
  rw [Dev.shown, hro, hwo, h.hiOf, h.loOf, hmask]
  dsimp only
  rw [if_pos h.region, htim, Option.getD_some]
  exact (w32_and_ones _).trans (w32_and_of_fits hfits)

/-! ### Reads by SD0 of the live values -/

theorem Dev.accessAt_of_access {d : Dev} {q : Requester} {x : Access} (hq : q ≠ .debug) (hx : d.access q = some x) (a : Nat)
    (write : Bool) : d.accessAt q a write = some x := by
  cases q with
  | debug => exact absurd rfl hq
  | fn n => exact hx
  | core n => exact hx
  | ring n => exact hx

theorem Holder.readMask_of_sd0 (h : Holder) : h.readMask 0 = 0xFFFFFFFF := rfl

/-- An access whose SWT_VIEW is 0 reads the live value, after what its read latches. -/
theorem Dev.readActive_of_tbAt {d : Dev} {q : Requester} {x : Access} {r : RegRow} {a k o : Nat} (h : TbAt a k o)
    (hview : tat 0 d.swt.view x.bank = 0) :
    d.readActive q x r a 0xFFFFFFFF = ((readFirst q a d).shown false r a, readFirst q a d) := by
  have hrefused : d.readRefused a = false := by rw [Dev.readRefused, h.region]; rfl
  have hlast : readLast a (readFirst q a d) = readFirst q a d := by rw [readLast, h.elem_ports]
  rw [Dev.readActive, hview]
  dsimp only
  rw [if_neg (by simp), if_neg (by simp [hrefused]), hlast, Dev.viewed, if_pos (.inl rfl), w32_and_ones, w32_toNat]

theorem readAny_of_tbAt {d : Dev} {q : Requester} {x : Access} {r : RegRow} {a k o : Nat} (h : TbAt a k o) (hq : q ≠ .debug)
    (hx : d.access q = some x) (hdom : x.dom = 0) (hon : d.regionOff 3 = false) (hview : tat 0 d.swt.view x.bank = 0)
    (hrow : regRow a = some r) : readAny q a d = ((readFirst q a d).shown false r a, readFirst q a d) := by
  rw [readAny, if_neg (by simp [h.inMsix]), Dev.accessAt_of_access hq hx]
  dsimp only
  rw [if_neg (by simp [h.region, hon]), Dev.readReg, h.activeOf, if_neg (h.ne (by decide)), if_neg (by simp [h.inXp]), hrow]
  dsimp only
  rw [if_neg (by simp [h.inShadow, h.noUnit]), hdom, Holder.readMask_of_sd0, if_neg (by decide), if_neg (by simp [h.region]),
    if_neg (by simp [h.inShadow]), Dev.readActive_of_tbAt h hview]

theorem Dev.tbLatch_latch (d : Dev) (k : Nat) : ((d.tbLatch k).tb k).latch = (d.tb k).time := congrArg TimeBase.latch (d.setTb_tb_self k _)

/-- A read of FRAC latches its time base (R47). -/
theorem readFirst_of_frac {a k : Nat} (h : TbAt a k 0x0C) (q : Requester) (d : Dev) : readFirst q a d = d.tbLatch k := by
  have hfrac : (a == Reg.TIM_TB_FRAC k) = true := by
    rw [beq_iff_eq, h.addr]
    simp only [Reg.TIM_TB_FRAC]
    omega
  rw [readFirst, if_neg (h.ne (by decide)), h.elem_timeBases, if_pos ⟨h.region, hfrac⟩, h.base]

/-- A read of another register of a time base latches nothing. -/
theorem readFirst_of_notFrac {a k o : Nat} (h : TbAt a k o) (ho : o ≠ 0x0C) (q : Requester) (d : Dev) : readFirst q a d = d := by
  have hfrac : (a == Reg.TIM_TB_FRAC k) = false := by
    rw [beq_eq_false_iff_ne, h.addr]
    simp only [Reg.TIM_TB_FRAC]
    omega
  rw [readFirst, if_neg (h.ne (by decide)), h.elem_timeBases, if_neg (by simp [hfrac]), h.region, if_neg (by decide),
    h.hiOf]
  rfl

/-! ### The rows of the register description -/

/-- A read-only register of the eight time bases, with a mask of `j` bits. -/
def tbRow (name : String) (base j : Nat) : RegRow := ⟨name, base, [(8, 0x100)], .RO, false, 0, 2 ^ j - 1, 0, 0, 0⟩

theorem regRow_frac : ∀ k : Fin 8, regRow (Reg.TIM_TB_FRAC k) = some (tbRow "TIM_TB_FRAC" 0x30100C 16) := by decide
theorem regRow_ns : ∀ k : Fin 8, regRow (Reg.TIM_TB_NS k) = some (tbRow "TIM_TB_NS" 0x301010 30) := by decide
theorem regRow_secLo : ∀ k : Fin 8, regRow (Reg.TIM_TB_SEC_LO k) = some (tbRow "TIM_TB_SEC_LO" 0x301014 32) := by decide
theorem regRow_secHi : ∀ k : Fin 8, regRow (Reg.TIM_TB_SEC_HI k) = some (tbRow "TIM_TB_SEC_HI" 0x301018 16) := by decide

theorem tbAt_frac (k : Fin 8) : TbAt (Reg.TIM_TB_FRAC k) k 0x0C := ⟨k.isLt, by decide, by simp only [Reg.TIM_TB_FRAC]; omega⟩
theorem tbAt_ns (k : Fin 8) : TbAt (Reg.TIM_TB_NS k) k 0x10 := ⟨k.isLt, by decide, by simp only [Reg.TIM_TB_NS]; omega⟩
theorem tbAt_secLo (k : Fin 8) : TbAt (Reg.TIM_TB_SEC_LO k) k 0x14 := ⟨k.isLt, by decide, by simp only [Reg.TIM_TB_SEC_LO]; omega⟩
theorem tbAt_secHi (k : Fin 8) : TbAt (Reg.TIM_TB_SEC_HI k) k 0x18 := ⟨k.isLt, by decide, by simp only [Reg.TIM_TB_SEC_HI]; omega⟩

/-- A read of NS or SEC by SD0 shows what TIM holds. -/
theorem readAny_of_notFrac {d : Dev} {q : Requester} {x : Access} {name : String} {a k o base n j : Nat} (h : TbAt a k o) (ho : o ≠ 0x0C)
    (hq : q ≠ .debug) (hx : d.access q = some x) (hdom : x.dom = 0) (hon : d.regionOff 3 = false)
    (hview : tat 0 d.swt.view x.bank = 0) (hrow : regRow a = some (tbRow name base j)) (htim : d.timShown false a = some (w32 n))
    (hfits : n % 2 ^ 32 < 2 ^ j) : (readAny q a d).1 = w32 n := by
  rw [readAny_of_tbAt h hq hx hdom hon hview hrow, readFirst_of_notFrac h ho]
  exact Dev.shown_of_tbAt (r := tbRow name base j) h rfl rfl rfl htim hfits

/-- A read of FRAC by SD0 latches the time base and shows the fraction of what it latched. -/
theorem readAny_frac {d : Dev} {q : Requester} {x : Access} (k : Fin 8) (hq : q ≠ .debug) (hx : d.access q = some x) (hdom : x.dom = 0)
    (hon : d.regionOff 3 = false) (hview : tat 0 d.swt.view x.bank = 0) :
    readAny q (Reg.TIM_TB_FRAC k) d = (w32 ((d.tb k).time / 2 ^ 24 % 2 ^ 16), d.tbLatch k) := by
  have hshown := (d.tbLatch k).timShown_frac (tbAt_frac k)
  rw [d.tbLatch_latch] at hshown
  rw [readAny_of_tbAt (tbAt_frac k) hq hx hdom hon hview (regRow_frac k), readFirst_of_frac (tbAt_frac k),
    Dev.shown_of_tbAt (tbAt_frac k) rfl rfl rfl hshown (by omega)]

/-- Settles O10: the read of FRAC is `readAny_frac`; the reads that follow show the latch. -/
theorem latchedTime : Obligations.LatchedTime := by
  rintro s q x k _ hq hx hdom hon hview rfl
  have hread := readAny_frac k hq hx hdom hon hview
  have hopens : Opens s.dev q 3 0 x := ⟨hx, by simp [Access.mayUse, hdom], hon⟩
  refine ⟨by rw [hread], s.dev.tbLatch k, ?_, by rw [hread], s.dev.tbLatch_latch k, fun d hlatch hx' hon' hview' => ?_⟩
  · exact answers_of_effect (tbLatchReadEffect q k) rfl (Dev.sd0_of_opens hopens _)
  rw [← hlatch]
  refine ⟨?_, ?_, ?_⟩
  · exact readAny_of_notFrac (tbAt_ns k) (by decide) hq hx' hdom hon' hview' (regRow_ns k) (d.timShown_ns (tbAt_ns k)) (by omega)
  · exact readAny_of_notFrac (tbAt_secLo k) (by decide) hq hx' hdom hon' hview' (regRow_secLo k) (d.timShown_secLo (tbAt_secLo k))
      (by omega)
  · exact readAny_of_notFrac (tbAt_secHi k) (by decide) hq hx' hdom hon' hview' (regRow_secHi k) (d.timShown_secHi (tbAt_secHi k))
      (by omega)

end Sys2Proof.Machine

/-! ## Ports: what a port command leaves of a port's registers (R68 to R70, Table 04-2) -/

namespace Sys2Proof.Machine

theorem tat_tset_self {α : Type} [DecidableEq α] (dflt : α) (m : Tbl α) (k : Nat) (v : α) : tat dflt (tset dflt m k v) k = v :=
  tget_tput_self (fun _ => dflt) m k v

theorem tat_tset_of_ne {α : Type} [DecidableEq α] (dflt : α) (m : Tbl α) {j k : Nat} (h : j ≠ k) (v : α) :
    tat dflt (tset dflt m k v) j = tat dflt m j := tget_tput_ne (fun _ => dflt) m k j v h

theorem satAdd_zero (w : Word) : satAdd w 0 = w := by
  rw [satAdd, Nat.add_zero, Nat.min_eq_left (by omega), w32_toNat]

theorem Dev.setBit_reg_of_ne (d : Dev) {a b : Nat} (h : b ≠ a) (i : Nat) (x : Bool) : (d.setBit a i x).reg b = d.reg b :=
  d.setFld_reg_of_ne h _ _ _

theorem Dev.count_reg_self (d : Dev) (a k : Nat) : (d.count a k).reg a = satAdd (d.reg a) k := d.setReg_reg_self _ _

theorem Dev.count_reg_of_ne (d : Dev) {a b : Nat} (h : b ≠ a) (k : Nat) : (d.count a k).reg b = d.reg b := d.setReg_reg_of_ne h _

/-- A command on a port that the lane mode forms, made by SD0 while NET has power, acts on the port. -/
theorem Dev.portBy_of_opens {d : Dev} {q : Requester} {p : Nat} {a : Access} (h : Opens d q 8 0 a) (hformed : d.portAbsent p = false)
    (f : Dev → Dev) : d.portBy q p f = f d := by
  rw [Dev.portBy, Dev.sd0_of_opens h, if_neg (by simp [hformed])]

/-! ### A port leaves UP -/

/-- A counter raised by one when `c` holds. -/
def Dev.countIf (d : Dev) (c : Bool) (a : Nat) : Dev := if c then d.count a else d

theorem Dev.countIf_reg_self (d : Dev) (c : Bool) (a : Nat) : (d.countIf c a).reg a = satAdd (d.reg a) c.toNat := by
  cases c with
  | false => exact (satAdd_zero _).symm
  | true => exact d.count_reg_self a 1

theorem Dev.countIf_reg_of_ne (d : Dev) (c : Bool) {a b : Nat} (h : b ≠ a) : (d.countIf c a).reg b = d.reg b := by
  cases c with
  | false => rfl
  | true => exact d.count_reg_of_ne h 1

/-- What no register write changes, a count keeps. -/
theorem Dev.countIf_keeps {β : Type} (g : Dev → β) (hg : ∀ d a v, g (d.setReg a v) = g d) (d : Dev) (c : Bool) (a : Nat) :
    g (d.countIf c a) = g d := by
  cases c with
  | false => rfl
  | true => exact hg d a _

/-- What EGS's state has no part in, a frame that is cut keeps. -/
theorem Dev.cutTx_keeps {β : Type} (g : Dev → β) (hg : ∀ (d : Dev) (x : Egs), g { d with egs := x } = g d) (d : Dev) (p : Nat) :
    g (d.cutTx p) = g d := by
  rw [Dev.cutTx]
  split
  · exact hg d _
  · rfl

theorem Dev.cutTx_reg (d : Dev) (p a : Nat) : (d.cutTx p).reg a = d.reg a := Dev.cutTx_keeps (Dev.reg · a) (fun _ _ => rfl) d p

theorem Dev.cutTx_egs_congr {d e : Dev} (h : e.egs = d.egs) (p : Nat) : (e.cutTx p).egs = (d.cutTx p).egs := by
  rw [Dev.cutTx, Dev.cutTx, h]
  split
  · rfl
  · exact h

/-- The frame that a port sends is ended as bad (Table 04-2). -/
theorem Dev.cutTx_tx_self (d : Dev) (p : Nat) :
    tat none (d.cutTx p).egs.tx p = (tat none d.egs.tx p).map (fun t => { t with bad := true }) := by
  rw [Dev.cutTx]
  split
  · next h => rw [tat_tset_self, h, Option.map_some]
  · next h => rw [h, Option.map_none]

theorem Dev.cutTx_tx_of_ne (d : Dev) {p r : Nat} (h : r ≠ p) : tat none (d.cutTx p).egs.tx r = tat none d.egs.tx r := by
  rw [Dev.cutTx]
  split
  · next t _ => exact tat_tset_of_ne none d.egs.tx h (some { t with bad := true })
  · rfl

theorem Dev.cutTx_of_idle {d : Dev} {p : Nat} (h : tat none d.egs.tx p = none) : d.cutTx p = d := by
  rw [Dev.cutTx, h]

/-- A port that sends and receives no frame when it leaves UP or RFAULT changes its state and reports it. -/
theorem Dev.linkLost_of_idle {d : Dev} {p : Nat} (hidle : d.portState p = 3 → tat none d.egs.tx p = none) (state : Nat) :
    d.linkLost p state false = ((d.setPort p state).setBit (Reg.NET_PORT_STAT p) 7 false).raise Ev.LINK_DOWN p := by
  rw [Dev.linkLost]
  simp only [Bool.false_eq_true, false_and, if_false]
  split
  · next hup => rw [Dev.cutTx_of_idle (hidle hup)]
  · rfl

/-- A port in UP with its lock and fault bits as given has left UP for DOWN, before that is reported: what it received and sent is
broken off (Table 04-2). -/
def Dev.portDown (d : Dev) (p locks : Nat) (fault receiving : Bool) : Dev :=
  let e := (d.setFld (Reg.NET_PORT_STAT p) 6 3 (locks + 8 * fault.toNat)).countIf (locks != 7) (Reg.NET_LOCK_LOSS p)
  (((e.countIf receiving (Reg.NET_RX_FCS_ERR p)).cutTx p).setPort p 2).setBit (Reg.NET_PORT_STAT p) 7 false

theorem netPortStat_ne_lockLoss (p r : Nat) : Reg.NET_PORT_STAT p ≠ Reg.NET_LOCK_LOSS r := by
  simp only [Reg.NET_PORT_STAT, Reg.NET_LOCK_LOSS]
  omega

theorem netPortStat_ne_fcsErr (p r : Nat) : Reg.NET_PORT_STAT p ≠ Reg.NET_RX_FCS_ERR r := by
  simp only [Reg.NET_PORT_STAT, Reg.NET_RX_FCS_ERR]
  omega

theorem netLockLoss_ne_fcsErr (p r : Nat) : Reg.NET_LOCK_LOSS p ≠ Reg.NET_RX_FCS_ERR r := by
  simp only [Reg.NET_LOCK_LOSS, Reg.NET_RX_FCS_ERR]
  omega

theorem netPortStat_ne {p r : Nat} (h : r ≠ p) : Reg.NET_PORT_STAT r ≠ Reg.NET_PORT_STAT p := by
  simp only [Reg.NET_PORT_STAT]
  omega

section
variable (d : Dev) (p locks : Nat) (fault receiving : Bool)

/-- Registers other than the port's status: what the two counters leave. -/
theorem Dev.portDown_reg_of_ne {a : Nat} (h : a ≠ Reg.NET_PORT_STAT p) :
    (d.portDown p locks fault receiving).reg a =
      (((d.setFld (Reg.NET_PORT_STAT p) 6 3 (locks + 8 * fault.toNat)).countIf (locks != 7) (Reg.NET_LOCK_LOSS p)).countIf receiving
        (Reg.NET_RX_FCS_ERR p)).reg a := by
  rw [Dev.portDown, Dev.setBit_reg_of_ne _ h, Dev.setPort, Dev.setFld_reg_of_ne _ h, Dev.cutTx_reg]

theorem Dev.portDown_lockLoss : (d.portDown p locks fault receiving).reg (Reg.NET_LOCK_LOSS p) =
    satAdd (d.reg (Reg.NET_LOCK_LOSS p)) (locks != 7).toNat := by
  have hstat := (netPortStat_ne_lockLoss p p).symm
  rw [Dev.portDown_reg_of_ne _ _ _ _ _ hstat, Dev.countIf_reg_of_ne _ _ (netLockLoss_ne_fcsErr p p), Dev.countIf_reg_self,
    Dev.setFld_reg_of_ne _ hstat]

theorem Dev.portDown_fcsErr : (d.portDown p locks fault receiving).reg (Reg.NET_RX_FCS_ERR p) =
    satAdd (d.reg (Reg.NET_RX_FCS_ERR p)) receiving.toNat := by
  have hstat := (netPortStat_ne_fcsErr p p).symm
  rw [Dev.portDown_reg_of_ne _ _ _ _ _ hstat, Dev.countIf_reg_self, Dev.countIf_reg_of_ne _ _ (netLockLoss_ne_fcsErr p p).symm,
    Dev.setFld_reg_of_ne _ hstat]

theorem Dev.portDown_portState_self : (d.portDown p locks fault receiving).portState p = 2 := by
  rw [Dev.portState, Dev.portDown, Dev.setBit, Dev.setFld_fld_of_disjoint _ _ _ _ _ _ _ (by decide) (by decide), Dev.setPort]
  exact Dev.setFld_fld_self _ _ _ _ _ (by decide)

theorem Dev.portDown_portState_of_ne {r : Nat} (h : r ≠ p) : (d.portDown p locks fault receiving).portState r = d.portState r := by
  rw [Dev.portState, Dev.fld, Dev.portDown_reg_of_ne _ _ _ _ _ (netPortStat_ne h),
    Dev.countIf_reg_of_ne _ _ (netPortStat_ne_fcsErr r p), Dev.countIf_reg_of_ne _ _ (netPortStat_ne_lockLoss r p),
    Dev.setFld_reg_of_ne _ (netPortStat_ne h), Dev.portState, Dev.fld]

/-- The lock bits and the local fault follow the lanes. -/
theorem Dev.portDown_locks (hlocks : locks < 8) :
    (d.portDown p locks fault receiving).fld (Reg.NET_PORT_STAT p) 6 3 = locks + 8 * fault.toNat := by
  have hfault := fault.toNat_le
  rw [Dev.portDown, Dev.setBit, Dev.setFld_fld_of_disjoint _ _ _ _ _ _ _ (by decide) (by decide), Dev.setPort,
    Dev.setFld_fld_of_disjoint _ _ _ _ _ _ _ (by decide) (by decide), Dev.fld, Dev.cutTx_reg,
    Dev.countIf_reg_of_ne _ _ (netPortStat_ne_fcsErr p p), Dev.countIf_reg_of_ne _ _ (netPortStat_ne_lockLoss p p), ← Dev.fld,
    Dev.setFld_fld_self _ _ _ _ _ (by decide)]
  omega

theorem Dev.portDown_egs : (d.portDown p locks fault receiving).egs = (d.cutTx p).egs := by
  rw [Dev.portDown, Dev.setBit_egs, Dev.setPort, Dev.setFld_egs]
  refine Dev.cutTx_egs_congr ?_ p
  rw [Dev.countIf_keeps Dev.egs (fun _ _ _ => rfl), Dev.countIf_keeps Dev.egs (fun _ _ _ => rfl), Dev.setFld_egs]

/-- What neither a register write nor EGS's state changes is kept. -/
theorem Dev.portDown_keeps {β : Type} (g : Dev → β) (hreg : ∀ d a v, g (d.setReg a v) = g d)
    (hegs : ∀ (d : Dev) (x : Egs), g { d with egs := x } = g d) : g (d.portDown p locks fault receiving) = g d := by
  rw [Dev.portDown, Dev.setBit, Dev.setFld, hreg, Dev.setPort, Dev.setFld, hreg, Dev.cutTx_keeps g hegs, Dev.countIf_keeps g hreg,
    Dev.countIf_keeps g hreg, Dev.setFld, hreg]

end

/-- Lock lost, or a local fault, takes a port in UP to DOWN with LINK_DOWN (Table 04-2). -/
theorem linkDownEffect_of_up {d : Dev} {p locks : Nat} {fault : Bool} (receiving : Bool) (hup : d.portState p = 3)
    (hlost : locks ≠ 7 ∨ fault = true) :
    linkDownEffect p locks fault receiving d = (d.portDown p locks fault receiving).raise Ev.LINK_DOWN p := by
  have hstate : ((d.setFld (Reg.NET_PORT_STAT p) 6 3 (locks + 8 * fault.toNat)).countIf (locks != 7)
      (Reg.NET_LOCK_LOSS p)).portState p = 3 := by
    rw [Dev.portState, Dev.fld, Dev.countIf_reg_of_ne _ _ (netPortStat_ne_lockLoss p p), ← Dev.fld,
      Dev.setFld_fld_of_disjoint _ _ _ _ _ _ _ (by decide) (by decide)]
    exact hup
  have hleaves : (3 = 3 ∧ ((locks != 7) = true ∨ fault = true)) ∨ (3 = 4 ∧ (locks != 7) = true) := by simpa using hlost
  rw [linkDownEffect, hup, if_neg (by decide)]
  refine (if_pos hleaves).trans ?_
  change Dev.linkLost (Dev.countIf _ _ _) p 2 receiving = _
  rw [Dev.linkLost, hstate]
  simp only [and_true]
  rfl

/-- Settles O15: what the port's registers hold is read from `Dev.portDown`, and the frame that it sends from `Dev.cutTx`. -/
theorem linkDown : Obligations.LinkDown := by
  intro s p locks fault receiving hup hlost
  have hlocks : locks.toNat ≠ 7 ↔ locks ≠ 7 := by
    rw [ne_eq, ne_eq, ← BitVec.toNat_inj]
    rfl
  refine ⟨s.dev.portDown p locks.toNat fault receiving,
    answers_of_effect (linkDownEffect p locks.toNat fault receiving) rfl
      (linkDownEffect_of_up receiving hup (hlost.imp_left hlocks.mpr)),
    Dev.portDown_portState_self _ _ _ _ _, Dev.portDown_locks _ _ _ _ _ locks.isLt, Dev.setBit_bit_self _ _ _ _ (by decide), ?_, ?_, ?_,
    fun r hr => ?_, ?_⟩
  · rw [Dev.portDown_lockLoss]
    by_cases h : locks = 7
    · subst h
      rfl
    · rw [if_neg h, bne_iff_ne.mpr (hlocks.mpr h)]
      rfl
  · rw [Dev.portDown_fcsErr]
    cases receiving with
    | false => rfl
    | true => rfl
  · rw [Dev.portDown_egs]
    exact s.dev.cutTx_tx_self p
  · have hr' : r.val ≠ p.val := fun h => hr (Fin.ext h)
    refine ⟨?_, Dev.portDown_portState_of_ne _ _ _ _ _ hr'⟩
    rw [Dev.portDown_egs]
    exact s.dev.cutTx_tx_of_ne hr'
  · exact ⟨Dev.portDown_keeps _ _ _ _ _ Dev.dram (fun _ _ _ => rfl) (fun _ _ => rfl),
      Dev.portDown_keeps _ _ _ _ _ Dev.bpm (fun _ _ _ => rfl) (fun _ _ => rfl),
      Dev.portDown_keeps _ _ _ _ _ Dev.cnt (fun _ _ _ => rfl) (fun _ _ => rfl)⟩

end Sys2Proof.Machine

/-! ## The port commands, row by row (Table 04-2) -/

namespace Sys2Proof.Machine

section
variable {d : Dev} {p : Nat}

theorem Dev.setBit_portCtl_portState (b : Bool) : (d.setBit (Reg.NET_PORT_CTL p) 0 b).portState p = d.portState p :=
  d.setFld_fld_of_ne (by simp only [Reg.NET_PORT_STAT, Reg.NET_PORT_CTL]; omega) _ _ _ _ _

theorem Dev.portOn_of_off (hlife : d.retired = false) (hoff : d.bit (Reg.NET_PORT_CTL p) 0 = false) :
    d.portOn p = (d.setBit (Reg.NET_PORT_CTL p) 0 true).setPort p (if d.trains p then 1 else 2) := by
  rw [Dev.portOn, if_neg (by simp [hlife, hoff])]

/-- A port that is not linked is disabled in silence. -/
theorem Dev.portOff_of_unlinked (h : d.portState p < 3) :
    d.portOff p = (d.setBit (Reg.NET_PORT_CTL p) 0 false).setPort p 0 := by
  rw [Dev.portOff]
  exact if_neg (by rw [Dev.setBit_portCtl_portState]; omega)

/-- A linked port with no frame on its wire is disabled with LINK_DOWN. -/
theorem Dev.portOff_of_linked (h : 3 ≤ d.portState p) (hidle : d.portState p = 3 → tat none d.egs.tx p = none) :
    d.portOff p =
      (((d.setBit (Reg.NET_PORT_CTL p) 0 false).setPort p 0).setBit (Reg.NET_PORT_STAT p) 7 false).raise Ev.LINK_DOWN p := by
  have hstate := Dev.setBit_portCtl_portState (d := d) (p := p) false
  rw [Dev.portOff]
  refine (if_pos (by rw [hstate]; exact h)).trans (Dev.linkLost_of_idle (fun hup => ?_) 0)
  rw [Dev.setBit_egs]
  exact hidle (hstate.symm.trans hup)

end

/-- Settles O14, clause by clause in the order of the statement. -/
theorem portCommandsComplete : Obligations.PortCommandsComplete := by
  refine ⟨?_, ?_, ?_, ?_, ?_, ?_, ?_, ?_, ?_, ?_⟩
  · intro s q a p hopens hformed hlife hoff
    exact answers_of_effect (portEnableEffect q p) rfl ((Dev.portBy_of_opens hopens hformed _).trans (Dev.portOn_of_off hlife hoff))
  · intro s q a p hopens hformed hstate
    exact answers_of_effect (portDisableEffect q p) rfl
      ((Dev.portBy_of_opens hopens hformed _).trans (Dev.portOff_of_unlinked hstate))
  · intro s q a p hopens hformed hstate
    exact answers_of_effect (portDisableEffect q p) rfl
      ((Dev.portBy_of_opens hopens hformed _).trans (Dev.portOff_of_linked (by omega) (fun hup => by omega)))
  · intro s q a p hopens hformed hstate hidle
    exact answers_of_effect (portDisableEffect q p) rfl
      ((Dev.portBy_of_opens hopens hformed _).trans (Dev.portOff_of_linked (by omega) (fun _ => hidle)))
  · intro s q a p hopens hformed
    exact answers_of_effect (retrainEffect q p) rfl (Dev.portBy_of_opens hopens hformed _)
  · intro s p hstate
    exact ⟨answers_of_effect (trainingCompleteEffect p) rfl (if_pos hstate),
      answers_of_effect (trainFailEffect p) rfl (if_pos hstate)⟩
  · intro s p hstate
    exact answers_of_effect (linkUpEffect p) rfl (if_pos hstate)
  · intro s p hstate htrains
    exact answers_of_effect (noLockTimeoutEffect p) rfl (if_pos ⟨hstate, htrains⟩)
  · intro s p hstate
    exact answers_of_effect (remoteFaultEffect p) rfl (if_pos hstate)
  · intro s p hstate
    exact answers_of_effect (remoteFaultClearEffect p) rfl (if_pos hstate)

end Sys2Proof.Machine

/-! ## The flow store: where a record is placed and found (R77 to R83) -/

namespace Sys2Proof.Machine

variable {d : Dev}

/-! ### What finding a record rests on -/

theorem Dev.slots_congr {e : Dev} (h : e.cls.key = d.cls.key) (key : List Byte) : e.slots key = d.slots key := by
  rw [Dev.slots, Dev.flowHash, h, Dev.slots, Dev.flowHash]

theorem Dev.wayRec_congr {e : Dev} (h : e.cls = d.cls) (i : Nat) : e.wayRec i = d.wayRec i := by
  rw [Dev.wayRec, h, Dev.wayRec]

theorem Dev.flowRec_congr {e : Dev} (h : e.cls = d.cls) : e.flowRec = d.flowRec := by
  funext x
  cases x with
  | way i => exact Dev.wayRec_congr h i
  | cam i => rw [Dev.flowRec, Dev.flowRec, h]

/-- A lookup rests on the store and its key alone. -/
theorem Dev.flowLookup_congr {e : Dev} (h : e.cls = d.cls) (key : List Byte) : e.flowLookup key = d.flowLookup key := by
  have hfind : e.flowFind key = d.flowFind key := by
    simp only [Dev.flowFind, Dev.slots_congr (congrArg Cls.key h), Dev.wayRec_congr h, h]
  rw [Dev.flowLookup, hfind, Dev.flowRec_congr h, Dev.flowLookup]

/-- The counts of the store are registers and events. -/
theorem Dev.flowCount_cls (w : Nat) : (d.flowCount w).cls = d.cls := by
  rw [Dev.flowCount]
  split
  · rw [Dev.raise_cls]
    split <;> rfl
  · split <;> rfl

theorem Dev.flowResult_cls (w res : Nat) (x : Option FlowAt) : (d.flowResult w res x).cls = d.cls := d.setReg_cls _ _

/-! ### A record in a slot of the ways -/

theorem Dev.flowPut_way_slots (i r : Nat) (key : List Byte) : (d.flowPut (.way i) r).slots key = d.slots key :=
  Dev.slots_congr rfl key

theorem Dev.flowPut_way_wayRec_self (i r : Nat) : (d.flowPut (.way i) r).wayRec i = r := tat_tset_self 0 d.cls.ways i r

theorem Dev.flowPut_way_wayRec_of_ne {i j : Nat} (h : j ≠ i) (r : Nat) : (d.flowPut (.way i) r).wayRec j = d.wayRec j :=
  tat_tset_of_ne 0 d.cls.ways h r

theorem Dev.flowPut_way_cam (i r : Nat) : (d.flowPut (.way i) r).cls.cam = d.cls.cam := rfl

theorem Dev.flowPut_way_key (i r : Nat) : (d.flowPut (.way i) r).cls.key = d.cls.key := rfl

/-- A key's candidates begin with that of way 0. -/
theorem Dev.slots_eq_cons (key : List Byte) : d.slots key = (d.slots key).headD 0 :: (d.slots key).tail := by
  have hlength : (d.slots key).length = 4 := by rw [Dev.slots, List.length_map, List.length_range]
  cases hslots : d.slots key with
  | nil => simp [hslots] at hlength
  | cons i t => rfl

/-- No record is empty. -/
theorem ne_zero_of_recOk {r : Nat} {whole : Bool} (h : recOk r whole = true) : r ≠ 0 := by
  rintro rfl
  cases whole with
  | false => exact absurd h (by decide)
  | true => exact absurd h (by decide)

/-- The search of R81 ends at its first path when that path's slot is free. -/
theorem Dev.flowSearch_of_free {i : Nat} (h : d.wayRec i = 0) (fuel : Nat) (queue : List (List Nat)) (seen : List Nat) :
    d.flowSearch (fuel + 1) ([i] :: queue) seen = some [i] := if_pos h

/-- A record in the first candidate of its key is what a lookup of that key finds. -/
theorem Dev.flowLookup_of_first {r : Nat} (hr : r ≠ 0) (h : d.wayRec ((d.slots (recKey r)).headD 0) = r) :
    d.flowLookup (recKey r) = some r := by
  have hfind : d.flowFind (recKey r) = some (.way ((d.slots (recKey r)).headD 0)) := by
    have hfirst : (d.slots (recKey r)).find? (fun i => d.wayRec i != 0 && recKey (d.wayRec i) == recKey r) =
        some ((d.slots (recKey r)).headD 0) := by
      rw [Dev.slots_eq_cons]
      refine List.find?_cons_of_pos ?_
      rw [h]
      simpa using hr
    rw [Dev.flowFind, hfirst]
  rw [Dev.flowLookup, hfind, Option.map_some, Dev.flowRec, h]

/-! ### INSERT -/

section
variable {q : Requester} {a : Access} {w : Nat} (hopens : Opens d q 10 w a)
include hopens

/-- An admitted record that no place holds yet is placed (R80 to R82). -/
theorem clsInsertEffect_of_new (hok : recOk (d.staged w) true = true) (hmine : d.recAllowed w (d.staged w) = true)
    (hnew : d.flowFind (recKey (d.staged w)) = none) : clsInsertEffect q w d = d.flowPlace w (d.staged w) := by
  rw [clsInsertEffect, Dev.window_of_opens hopens, Dev.flowInsert]
  rw [if_neg (by simp [hok]), if_neg (by simp [hmine]), if_neg (by simp [hnew])]

end

section
variable {w r : Nat} (hroom : d.flowOcc ≠ 1048576 + 4096)
include hroom

/-- A record is placed along the path that the search finds (R81). -/
theorem Dev.flowPlace_of_path {path : List Nat}
    (hpath : d.flowSearch 256 ((d.slots (recKey r)).map (fun x => [x])) (d.slots (recKey r)) = some path) :
    d.flowPlace w r = ((d.flowShift r path).flowCount w).flowResult w 0 (some (.way (path.getLastD 0))) := by
  rw [Dev.flowPlace, if_neg hroom]
  dsimp only
  rw [hpath]

/-- Without a path the record goes to the lowest free CAM entry (R81). -/
theorem Dev.flowPlace_of_cam
    (hpath : d.flowSearch 256 ((d.slots (recKey r)).map (fun x => [x])) (d.slots (recKey r)) = none) (hfree : d.camFree < 4096) :
    d.flowPlace w r = ((d.flowPut (.cam d.camFree) r).flowCount w).flowResult w 0 (some (.cam d.camFree)) := by
  rw [Dev.flowPlace, if_neg hroom]
  dsimp only
  rw [hpath]
  exact if_pos hfree

/-- A record whose first candidate is free is placed there. -/
theorem Dev.flowPlace_of_first_free (hfree : d.wayRec ((d.slots (recKey r)).headD 0) = 0) :
    d.flowPlace w r = ((d.flowPut (.way ((d.slots (recKey r)).headD 0)) r).flowCount w).flowResult w 0
      (some (.way ((d.slots (recKey r)).headD 0))) :=
  Dev.flowPlace_of_path (path := [(d.slots (recKey r)).headD 0]) hroom (by
    rw [Dev.slots_eq_cons, List.map_cons]
    exact Dev.flowSearch_of_free hfree _ _ _)

end

/-- Settles O18: the record's first candidate takes it, and the counts and the result touch no part of the store. -/
theorem insertedRecordIsFound : Obligations.InsertedRecordIsFound := by
  intro s q a w hopens hok hmine hnew hroom hfree
  have hcls : ∀ i, (((s.dev.flowPut (.way i) (s.dev.staged w)).flowCount w).flowResult w 0 (some (.way i))).cls =
      (s.dev.flowPut (.way i) (s.dev.staged w)).cls := fun i => (Dev.flowResult_cls _ _ _).trans (Dev.flowCount_cls _)
  refine ⟨_, answers_of_effect (clsInsertEffect q w) rfl
    ((clsInsertEffect_of_new hopens hok hmine hnew).trans (Dev.flowPlace_of_first_free hroom hfree)), ?_, ?_, fun i hi => ?_, ?_, ?_⟩
  · rw [Dev.flowLookup_congr (hcls _)]
    exact Dev.flowLookup_of_first (ne_zero_of_recOk hok)
      (by rw [Dev.flowPut_way_slots, Dev.flowPut_way_wayRec_self])
  · rw [Dev.wayRec_congr (hcls _)]
    exact Dev.flowPut_way_wayRec_self _ _
  · rw [Dev.wayRec_congr (hcls _)]
    exact Dev.flowPut_way_wayRec_of_ne hi _
  · rw [hcls, Dev.flowPut_way_cam]
  · rw [hcls, Dev.flowPut_way_key]

/-! ### DELETE, REPLACE and LOOKUP -/

section
variable {q : Requester} {a : Access} {w : Nat} {x : FlowAt} (hopens : Opens d q 10 w a)
  (hfound : d.flowFind (recKey (d.staged w)) = some x) (hmine : d.recAllowed w (d.flowRec x) = true)
include hopens hfound hmine

/-- DELETE empties the record's place, and a freed slot of the ways is refilled (R80, R81). -/
theorem clsDeleteEffect_of_found (hok : recOk (d.staged w) false = true) :
    clsDeleteEffect q w d =
      ((match x with
        | .way i => (d.flowPut x 0).flowRefill i
        | .cam _ => d.flowPut x 0).flowCount w).flowResult w 0 := by
  rw [clsDeleteEffect, Dev.window_of_opens hopens, Dev.flowDelete]
  rw [if_neg (by simp [hok]), hfound]
  cases x with
  | way i => exact if_neg (by simp [hmine])
  | cam i => exact if_neg (by simp [hmine])

/-- REPLACE writes the staged record at the place of the stored one (R80). -/
theorem clsReplaceEffect_of_found (hok : recOk (d.staged w) true = true) (hstaged : d.recAllowed w (d.staged w) = true) :
    clsReplaceEffect q w d = (d.flowPut x (d.staged w)).flowResult w 0 (some x) := by
  rw [clsReplaceEffect, Dev.window_of_opens hopens, Dev.flowReplace]
  rw [if_neg (by simp [hok]), if_neg (by simp [hstaged]), hfound]
  exact if_neg (by simp [hmine])

/-- LOOKUP copies a record of the window's domain into the window (R80). -/
theorem clsLookupEffect_of_found (hok : recOk (d.staged w) false = true) (hdom : w = 0 ∨ recDom (d.flowRec x) = w) :
    clsLookupEffect q w d = (d.setRegsNat (Reg.CLS_CMD_REC w 0) (d.flowRec x) 8).flowResult w 0 (some x) := by
  rw [clsLookupEffect, Dev.window_of_opens hopens, Dev.flowRead]
  rw [if_neg (by simp [hok]), hfound]
  dsimp only
  rw [if_neg (by omega), if_neg (by simp [hmine])]

end

/-- Settles O17, clause by clause in the order of the statement. -/
theorem flowCommandsComplete : Obligations.FlowCommandsComplete := by
  refine ⟨?_, ?_, ?_, ?_, ?_⟩
  · intro s q a w path hopens hok hmine hnew hroom hpath
    exact answers_of_effect (clsInsertEffect q w) rfl
      ((clsInsertEffect_of_new hopens hok hmine hnew).trans (Dev.flowPlace_of_path hroom hpath))
  · intro s q a w hopens hok hmine hnew hroom hpath hfree
    exact answers_of_effect (clsInsertEffect q w) rfl
      ((clsInsertEffect_of_new hopens hok hmine hnew).trans (Dev.flowPlace_of_cam hroom hpath hfree))
  · intro s q a w x hopens hok hfound hmine
    exact answers_of_effect (clsDeleteEffect q w) rfl (clsDeleteEffect_of_found hopens hfound hmine hok)
  · intro s q a w x hopens hok hstaged hfound hmine
    exact answers_of_effect (clsReplaceEffect q w) rfl (clsReplaceEffect_of_found hopens hfound hmine hok hstaged)
  · intro s q a w x hopens hok hfound hdom hmine
    exact answers_of_effect (clsLookupEffect q w) rfl
      (clsLookupEffect_of_found hopens hfound hmine hok hdom)

end Sys2Proof.Machine

/-! ## The hash key: written while the store is empty, drawn at cast-on (R83) -/

namespace Sys2Proof.Machine

variable (d : Dev)

/-- What every change of a list's fold keeps, the fold keeps. -/
theorem Dev.forEach_keeps {α β : Type} (g : Dev → β) {f : Dev → α → Dev} {l : List α}
    (hf : ∀ d, ∀ x ∈ l, g (f d x) = g d) : g (d.forEach l f) = g d := by
  induction l generalizing d with
  | nil => rfl
  | cons x t ih =>
    exact (ih (f d x) fun d y hy => hf d y (List.mem_cons_of_mem x hy)).trans (hf d x List.mem_cons_self)

theorem hashKeyWriteEffect_of_opens {d : Dev} {q : Requester} {a : Access} (h : Opens d q 10 0 a) (i : Nat) (v : Word) :
    hashKeyWriteEffect q i v d = d.hashKeyWord i v := by
  rw [hashKeyWriteEffect, Dev.sd0_of_opens h]

/-! ### Cast-on's last step leaves the key that it was given -/

theorem Dev.random_cls (n : Nat) : (d.random n).2.cls = d.cls := by
  induction n generalizing d with
  | zero => rfl
  | succ n ih => exact (ih d.draw.2).trans d.draw_cls

theorem Dev.secretsDraw_cls : d.secretsDraw.cls = d.cls := Dev.forEach_keeps d Dev.cls fun d _ _ => d.random_cls 16

theorem Dev.tightCheck_cls : d.tightCheck.cls = d.cls := by
  rw [Dev.tightCheck]
  split
  · rfl
  · split <;> rfl

theorem Dev.relevel_cls (p : Nat) : (d.relevel p).cls = d.cls := by
  rw [Dev.relevel]
  split
  · rfl
  · rw [Dev.tightCheck_cls]
    split <;> exact Dev.forEach_keeps _ Dev.cls fun _ _ _ => rfl

theorem Dev.poolsBuild_cls : d.poolsBuild.cls = d.cls := by
  rw [Dev.poolsBuild, Dev.forEach_keeps _ Dev.cls, Dev.forEach_keeps _ Dev.cls]
  · exact fun _ _ _ => Dev.forEach_keeps _ Dev.cls fun _ _ _ => rfl
  · intro d p _
    rw [Dev.relevel_cls, Dev.setFld_cls, Dev.setFld_cls, Dev.setFld_cls]
    rfl

theorem Dev.issue_cls (n : Nat) : (d.issue n).cls = d.cls := (d.issue_reported n).cls

theorem Dev.earlyIssue_cls : d.earlyIssue.cls = d.cls := by
  rw [Dev.earlyIssue, Dev.issue_cls]

theorem Dev.readyReports_cls : d.readyReports.cls = d.cls := by
  rw [Dev.readyReports]
  dsimp only
  rw [apply_ite Dev.cls, Dev.raise_cls, ite_self, apply_ite Dev.cls, Dev.raise_cls, ite_self]
  split <;> rfl

theorem Dev.makeReady_key (env : BootEnv) : (d.makeReady env).cls.key = env.hashKey.toNat := by
  rw [Dev.makeReady, Dev.readyReports_cls, Dev.setBit_cls, Dev.stepEnd, Dev.setReg_cls, Dev.setFld_cls, Dev.earlyIssue_cls,
    Dev.poolsBuild_cls, Dev.secretsDraw_cls]

/-- Settles O19: a write of the key is decided by CLS_OCC, and no step of cast-on after the draw touches the key. -/
theorem hashKeyOnlyWhileEmpty : Obligations.HashKeyOnlyWhileEmpty := by
  refine ⟨fun s q a i v hopens hempty => ?_, fun s q a i v hopens hfull => ⟨leBytes 4 (4 * i), ?_⟩, Dev.makeReady_key⟩
  · exact answers_of_effect (hashKeyWriteEffect q i v) rfl ((hashKeyWriteEffect_of_opens hopens i v).trans (if_pos hempty))
  · exact answers_of_effect (hashKeyWriteEffect q i v) rfl ((hashKeyWriteEffect_of_opens hopens i v).trans (if_neg hfull))

end Sys2Proof.Machine

/-! ## The policer window (R84, R89) -/

namespace Sys2Proof.Machine

section
variable {d : Dev} {q : Requester} {a : Access} {w : Nat} {v : Word} (hopens : Opens d q 15 w a) (f : Nat → Dev → Dev)
include hopens

/-- A command on a policer of the window takes effect and answers 0. -/
theorem Dev.polWindow_of_allowed (hmine : d.polAllowed w (wfld v 15 0) = true) :
    d.polWindow q w v f = (f (wfld v 15 0) d).setReg (Reg.ING_POL_STAT w) 0 := by
  rw [Dev.polWindow, Dev.window_of_opens hopens, if_neg (by simp [hmine])]

/-- A command on another domain's policer is refused with POL_RANGE. -/
theorem Dev.polWindow_of_foreign (hforeign : d.polAllowed w (wfld v 15 0) = false) :
    d.polWindow q w v f = (d.raise Ev.POL_RANGE w w).setReg (Reg.ING_POL_STAT w) 1 := by
  rw [Dev.polWindow, Dev.window_of_opens hopens, if_pos hforeign]

end

/-- Settles O20: the three commands share the window's answer, and differ in what they do to an admitted policer. -/
theorem policerCommandsComplete : Obligations.PolicerCommandsComplete := by
  refine ⟨fun s q a w v hopens hmine => ⟨?_, ?_, ?_⟩, fun s q a w v hopens hforeign c hc => ?_⟩
  · exact answers_of_effect (polReadEffect q w v) rfl (Dev.polWindow_of_allowed hopens _ hmine)
  · exact answers_of_effect (polWriteCfgEffect q w v) rfl (Dev.polWindow_of_allowed hopens _ hmine)
  · exact answers_of_effect (polWriteAllEffect q w v) rfl (Dev.polWindow_of_allowed hopens _ hmine)
  · simp only [List.mem_cons, List.not_mem_nil, or_false] at hc
    rcases hc with rfl | rfl | rfl
    · exact answers_of_effect (polReadEffect q w v) rfl (Dev.polWindow_of_foreign hopens _ hforeign)
    · exact answers_of_effect (polWriteCfgEffect q w v) rfl (Dev.polWindow_of_foreign hopens _ hforeign)
    · exact answers_of_effect (polWriteAllEffect q w v) rfl (Dev.polWindow_of_foreign hopens _ hforeign)

end Sys2Proof.Machine

/-! ## Pause, priority pause and received frames (R71 to R73, R112) -/

namespace Sys2Proof.Machine

variable {d : Dev} {p : Nat}

/-! ### Frames of priority pause (R73) -/

section
variable (hup : d.portUp p = true)
include hup

/-- On assertion the frame carries the quanta for every priority now asserted. -/
theorem pfcFrameSendEffect_of_asserted (hold : d.fld (Reg.NET_PFC_STAT p) 7 0 = 0) (hnew : d.xoffNow p ≠ 0) :
    pfcFrameSendEffect p d =
      (d.setFld (Reg.NET_PFC_STAT p) 7 0 (d.xoffNow p)).pfcEmit p (d.xoffNow p) (d.fld (Reg.NET_PFC_CFG p) 31 16) := by
  have hcfg : (d.setFld (Reg.NET_PFC_STAT p) 7 0 (d.xoffNow p)).fld (Reg.NET_PFC_CFG p) 31 16 = d.fld (Reg.NET_PFC_CFG p) 31 16 :=
    d.setFld_fld_of_ne (by simp only [Reg.NET_PFC_CFG, Reg.NET_PFC_STAT]; omega) _ _ _ _ _
  rw [pfcFrameSendEffect, hold, if_neg (by simp [hup, hnew.symm]), Nat.and_zero, if_pos rfl, if_neg hnew.symm, hcfg]

/-- On deassertion of every priority the frame carries quanta 0 for those that were asserted. -/
theorem pfcFrameSendEffect_of_deasserted (hold : d.fld (Reg.NET_PFC_STAT p) 7 0 ≠ 0) (hnew : d.xoffNow p = 0) :
    pfcFrameSendEffect p d = (d.setFld (Reg.NET_PFC_STAT p) 7 0 0).pfcEmit p (d.fld (Reg.NET_PFC_STAT p) 7 0) 0 := by
  rw [pfcFrameSendEffect, hnew, if_neg (by simp [hup, hold]), Nat.zero_and]
  dsimp only
  rw [if_pos rfl, if_neg hold.symm, Nat.sub_zero]

/-- While a priority stays asserted the frame is repeated. -/
theorem pfcRepeatEffect_of_asserted (hold : d.fld (Reg.NET_PFC_STAT p) 7 0 ≠ 0) :
    pfcRepeatEffect p d = d.pfcEmit p (d.fld (Reg.NET_PFC_STAT p) 7 0) (d.fld (Reg.NET_PFC_CFG p) 31 16) := by
  rw [pfcRepeatEffect]
  exact if_neg (by simp [hup, hold])

end

/-! ### LV writes that take effect change the registers they wait for -/

theorem Dev.lvTake_reg_of_not {sel : Nat → Bool} {a : Nat} (h : sel a = false) : (d.lvTake sel).reg a = d.reg a := by
  rw [Dev.lvTake, Dev.forEach_keeps _ (Dev.reg · a)]
  · rfl
  · intro e x hx
    have hsel : sel x.1 = true := (List.mem_filter.mp hx).2
    exact e.setReg_reg_of_ne (by rintro rfl; simp [h] at hsel) _

/-- The lane mode is no register of a port or of the packet blocks. -/
theorem Dev.packetUnit_laneMode : (d.packetUnit p).reg Reg.NET_LANE_MODE = d.reg Reg.NET_LANE_MODE :=
  Dev.lvTake_reg_of_not (by
    rw [Bool.or_eq_false_iff]
    exact ⟨by decide, decide_eq_false (by simp only [Reg.NET_LANE_MODE, Reg.NET_PORT_CFG]; omega)⟩)

theorem Dev.packetUnit_fecOn : (d.packetUnit p).fecOn = d.fecOn := by
  simp only [Dev.fecOn, Dev.fld, Dev.bit, Dev.packetUnit_laneMode]

/-! ### The MAC's checks (R71) -/

/-- `e` has the registers of `d` that the MAC's checks read for port `p`. -/
structure SameMac (p : Nat) (d e : Dev) : Prop where
  cfg : e.reg (Reg.NET_PORT_CFG p) = d.reg (Reg.NET_PORT_CFG p)
  macLo : e.reg (Reg.NET_PORT_MAC_LO p) = d.reg (Reg.NET_PORT_MAC_LO p)
  macHi : e.reg (Reg.NET_PORT_MAC_LO p + 4) = d.reg (Reg.NET_PORT_MAC_LO p + 4)

namespace SameMac

variable {e : Dev} (h : SameMac p d e)
include h

theorem macHit (f : List Byte) : e.macHit p f = d.macHit p f := by
  simp only [Dev.macHit, Dev.regBytes, h.macLo, h.macHi]

theorem macFault (f : List Byte) (fcsOk : Bool) (lost : Nat) : e.macFault p f fcsOk lost = d.macFault p f fcsOk lost := by
  rw [Dev.macFault, Dev.maxFrame, Dev.fld, h.cfg, h.macHit, Dev.macFault, Dev.maxFrame, Dev.fld]

theorem trans {f : Dev} (k : SameMac p e f) : SameMac p d f :=
  ⟨k.cfg.trans h.cfg, k.macLo.trans h.macLo, k.macHi.trans h.macHi⟩

end SameMac

/-- Without a lost codeword FEC only counts. -/
theorem Dev.fecCounts_of_none_lost (corrected : Nat) :
    d.fecCounts p corrected 0 = (d.count (Reg.NET_FEC_CORR p) corrected).count (Reg.NET_FEC_UNCORR p) 0 := by
  rw [Dev.fecCounts]
  exact if_pos (.inl rfl)

theorem Dev.fecCounts_sameMac (corrected : Nat) : SameMac p d (d.fecCounts p corrected 0) := by
  have hreg : ∀ a, a ≠ Reg.NET_FEC_CORR p → a ≠ Reg.NET_FEC_UNCORR p → (d.fecCounts p corrected 0).reg a = d.reg a := by
    intro a hcorr huncorr
    rw [Dev.fecCounts_of_none_lost, Dev.count_reg_of_ne _ huncorr, Dev.count_reg_of_ne _ hcorr]
  constructor <;> apply hreg <;>
    simp only [Reg.NET_PORT_CFG, Reg.NET_PORT_MAC_LO, Reg.NET_FEC_CORR, Reg.NET_FEC_UNCORR] <;> omega

theorem Dev.count64_sameMac (a k : Nat) : SameMac p d (d.count64 a k) := ⟨rfl, rfl, rfl⟩

/-! ### A frame for the port (R71, R112) -/

/-- The device when the MAC has accepted a frame on a port without FEC, and has counted it. -/
def Dev.rxCounted (d : Dev) (p : Nat) (f : List Byte) : Dev :=
  (((d.packetUnit p).fecCounts p 0 0).count64 (Reg.NET_RX_FRAMES_LO p)).count64 (Reg.NET_RX_BYTES_LO p) (f.length + 4)

/-- A frame that the MAC has accepted and counted asks for a chain: stored, stamped and classified in one that is granted. -/
def Dev.rxStore (d : Dev) (p : Nat) (f : RxFrame) : Dev :=
  match d.alloc f.pool p (min 5 (buffersFor (d.fld (Reg.BPM_POOL_CFG f.pool) 7 0) f.bytes.length)) 0 with
  | (none, e) => e.post (.packet p none)
  | (some id, e) =>
    let g := (e.storeFrame id f.bytes).post (.packet p (some id))
    (g.setDesc id { g.desc id with ts := d.ingressTime p }).classify ⟨p, d.ingressTime p, id, f.bytes, false⟩

/-- A frame that passes the MAC's checks, is for the port and is no MAC control frame. -/
theorem frameReceivedEffect_of_accepted {f : RxFrame} (hup : d.portUp p = true) (hpower : d.regionOff 8 = false)
    (hfec : d.fecOn = false) (hfault : (d.packetUnit p).macFault p f.bytes f.fcsOk 0 = none)
    (hhit : (d.packetUnit p).macHit p f.bytes = true) (hplain : beAt f.bytes 12 2 ≠ 0x8808) :
    frameReceivedEffect p f d = (d.rxCounted p f.bytes).rxStore p f := by
  have hfec' : (d.packetUnit p).fecOn = false := Dev.packetUnit_fecOn.trans hfec
  have hcounted : ((d.packetUnit p).fecCounts p 0 0).macFault p f.bytes f.fcsOk 0 = none :=
    ((Dev.fecCounts_sameMac 0).macFault _ _ _).trans hfault
  have hmac : SameMac p (d.packetUnit p) (d.rxCounted p f.bytes) :=
    (Dev.fecCounts_sameMac 0).trans ((Dev.count64_sameMac _ _).trans (Dev.count64_sameMac _ _))
  have hhit' : (d.rxCounted p f.bytes).macHit p f.bytes = true := (hmac.macHit f.bytes).trans hhit
  rw [frameReceivedEffect, if_neg (by simp [hup, hpower])]
  simp only [hfec', Bool.false_eq_true, if_false, hcounted]
  rw [← Dev.rxCounted]
  simp only [hhit', Bool.true_eq_false, if_false, if_neg hplain, Option.isSome_none]
  generalize d.rxCounted p f.bytes = e
  rfl

/-- Settles O16, clause by clause in the order of the statement. -/
theorem receiveCommandsComplete : Obligations.ReceiveCommandsComplete := by
  refine ⟨?_, ?_, ?_, ?_, ?_⟩
  · intro s p c
    exact answers_of_effect (pauseExpiryEffect p c) rfl rfl
  · intro s p hup hold hnew
    exact answers_of_effect (pfcFrameSendEffect p) rfl (pfcFrameSendEffect_of_asserted hup hold hnew)
  · intro s p hup hold hnew
    exact answers_of_effect (pfcFrameSendEffect p) rfl (pfcFrameSendEffect_of_deasserted hup hold hnew)
  · intro s p hup hold
    exact answers_of_effect (pfcRepeatEffect p) rfl (pfcRepeatEffect_of_asserted hup hold)
  · intro s p f hup hpower hfec hfault hhit hplain
    have heffect := frameReceivedEffect_of_accepted hup hpower hfec hfault hhit hplain
    refine ⟨s.dev.rxCounted p f.bytes, rfl, answers_of_effect (frameReceivedEffect p f) rfl (heffect.trans ?_)⟩
    generalize s.dev.rxCounted p f.bytes = d
    rfl

end Sys2Proof.Machine

/-! ## Records held as numbers (R2): reads after writes -/

namespace Sys2Proof.Machine

theorem two_pow_eight_mul (n : Nat) : 2 ^ (8 * n) = 256 ^ n := Nat.pow_mul 2 8 n

theorem testBit_rf (r off n i : Nat) : (rf r off n).testBit i = (decide (i < 8 * n) && r.testBit (8 * off + i)) := by
  rw [rf, ← two_pow_eight_mul, ← two_pow_eight_mul, Nat.testBit_mod_two_pow, Nat.testBit_div_two_pow, Nat.add_comm]

theorem testBit_rbits (r off hi lo i : Nat) :
    (rbits r off hi lo).testBit i = (decide (i < hi + 1 - lo) && r.testBit (8 * off + (lo + i))) := by
  rw [rbits, nfld, ← two_pow_eight_mul, Nat.testBit_mod_two_pow, Nat.testBit_shiftRight, Nat.testBit_div_two_pow, Nat.add_comm (lo + i)]

theorem rf_lt (r off n : Nat) : rf r off n < 2 ^ (8 * n) := two_pow_eight_mul n ▸ Nat.mod_lt _ (Nat.pow_pos (by decide))

/-- A record is made of what lies above some of its bytes, those bytes, and what lies below them. -/
theorem eq_record_parts (r off n : Nat) :
    r = 2 ^ (8 * off) * (2 ^ (8 * n) * (r / 2 ^ (8 * off) / 2 ^ (8 * n)) + rf r off n) + r % 2 ^ (8 * off) := by
  rw [rf, ← two_pow_eight_mul, ← two_pow_eight_mul, Nat.div_add_mod, Nat.div_add_mod]

/-- A write of bytes keeps what lies above and below them. -/
theorem rset_eq_parts (r off n v : Nat) :
    rset r off n v =
      2 ^ (8 * off) * (2 ^ (8 * n) * (r / 2 ^ (8 * off) / 2 ^ (8 * n)) + v % 2 ^ (8 * n)) + r % 2 ^ (8 * off) := by
  have hr := eq_record_parts r off n
  rw [Nat.mul_add, Nat.add_right_comm, Nat.mul_comm _ (rf r off n)] at hr
  rw [rset, ← two_pow_eight_mul, ← two_pow_eight_mul, Nat.mul_add, Nat.add_right_comm, Nat.mul_comm _ (v % _), Nat.sub_eq_of_eq_add hr]

/-- A write of bytes replaces their bits and keeps every other bit. -/
theorem testBit_rset (r off n v i : Nat) :
    (rset r off n v).testBit i = if 8 * off ≤ i ∧ i < 8 * (off + n) then v.testBit (i - 8 * off) else r.testBit i := by
  have hlow : r % 2 ^ (8 * off) < 2 ^ (8 * off) := Nat.mod_lt _ (Nat.two_pow_pos _)
  have hnew : v % 2 ^ (8 * n) < 2 ^ (8 * n) := Nat.mod_lt _ (Nat.two_pow_pos _)
  have hold : r.testBit i = _ := (congrArg (Nat.testBit · i) (eq_record_parts r off n)).trans (testBit_field_parts (rf_lt r off n) hlow i)
  rw [rset_eq_parts, testBit_field_parts hnew hlow, hold]
  by_cases hbelow : i < 8 * off
  · rw [if_pos hbelow, if_neg (by omega), if_pos hbelow]
  · rw [if_neg hbelow, if_neg hbelow]
    by_cases hin : i - 8 * off < 8 * n
    · rw [if_pos hin, if_pos (by omega), Nat.testBit_mod_two_pow, decide_eq_true hin, Bool.true_and]
    · rw [if_neg hin, if_neg (by omega), if_neg hin]

/-- Bytes read back as they were written. -/
theorem rf_rset_self (r off n v : Nat) : rf (rset r off n v) off n = v % 256 ^ n := by
  refine Nat.eq_of_testBit_eq fun i => ?_
  rw [testBit_rf, testBit_rset, ← two_pow_eight_mul, Nat.testBit_mod_two_pow]
  by_cases hin : i < 8 * n
  · rw [if_pos (by omega), Nat.add_sub_cancel_left]
  · simp [hin]

/-- A write of bytes leaves the bytes apart from them. -/
theorem rf_rset_of_apart {off n off' n' : Nat} (h : off' + n' ≤ off ∨ off + n ≤ off') (r v : Nat) :
    rf (rset r off n v) off' n' = rf r off' n' := by
  refine Nat.eq_of_testBit_eq fun i => ?_
  rw [testBit_rf, testBit_rf, testBit_rset]
  by_cases hin : i < 8 * n'
  · rw [if_neg (by omega)]
  · simp [hin]

/-- A write of bytes leaves the bits that lie below or above them. -/
theorem rbits_rset_of_apart {off n off' hi lo : Nat} (h : 8 * off' + hi < 8 * off ∨ off + n ≤ off') (r v : Nat) :
    rbits (rset r off n v) off' hi lo = rbits r off' hi lo := by
  refine Nat.eq_of_testBit_eq fun i => ?_
  rw [testBit_rbits, testBit_rbits, testBit_rset]
  by_cases hin : i < hi + 1 - lo
  · rw [if_neg (by omega)]
  · simp [hin]

end Sys2Proof.Machine

/-! ## Key slots: what derivation and RELEASE leave of a slot's record (Table 05-2, Table 05-4) -/

namespace Sys2Proof.Machine

theorem keyBytes_le (t : Nat) : keyBytes t ≤ 32 := by
  rw [keyBytes]
  split <;> decide

theorem saltBytes_le (t : Nat) : saltBytes t ≤ 14 := by
  rw [saltBytes]
  split <;> decide

/-- The session keys end at byte 196: derivation leaves what lies above them. -/
theorem testBit_sessionKeys {i : Nat} (h : 8 * 196 ≤ i) (r : Nat) : (sessionKeys r).testBit i = r.testBit i := by
  have hkey := keyBytes_le (slotTransform r)
  have hsalt := saltBytes_le (slotTransform r)
  have hauth : (if 5 ≤ slotTransform r then 0 else 20) ≤ 20 := by split <;> decide
  rw [sessionKeys]
  dsimp only
  iterate 6 rw [testBit_rset, if_neg (by omega)]

theorem rf_sessionKeys {off : Nat} (h : 196 ≤ off) (r n : Nat) : rf (sessionKeys r) off n = rf r off n := by
  refine Nat.eq_of_testBit_eq fun i => ?_
  rw [testBit_rf, testBit_rf, testBit_sessionKeys (by omega)]

theorem rbits_sessionKeys {off : Nat} (h : 196 ≤ off) (r hi lo : Nat) : rbits (sessionKeys r) off hi lo = rbits r off hi lo := by
  refine Nat.eq_of_testBit_eq fun i => ?_
  rw [testBit_rbits, testBit_rbits, testBit_sessionKeys (by omega)]

/-- The record that derivation makes of a slot (R97). -/
def derived (r : Nat) : Nat := rset (rset (rset (sessionKeys r) 212 1 2) 214 2 0) 216 4 0

/-- The record that RELEASE makes of a slot (R102). -/
def released (r : Nat) : Nat := rset (rset r 212 1 2) 214 2 0

variable (r : Nat)

theorem slotState_zero : slotState 0 = 0 := by rw [slotState, rf, Nat.zero_div, Nat.zero_mod]

theorem slotState_derived : slotState (derived r) = 2 := by
  rw [slotState, derived, rf_rset_of_apart (by omega), rf_rset_of_apart (by omega), rf_rset_self, Nat.pow_one]

theorem failRun_derived : rf (derived r) 214 2 = 0 := by rw [derived, rf_rset_of_apart (by omega), rf_rset_self, Nat.zero_mod]

theorem failTotal_derived : rf (derived r) 216 4 = 0 := by rw [derived, rf_rset_self, Nat.zero_mod]

/-- Derivation writes nothing between the session keys and STATE. -/
theorem rbits_derived {off hi : Nat} (hlow : 196 ≤ off) (hhigh : 8 * off + hi < 8 * 212) (lo : Nat) :
    rbits (derived r) off hi lo = rbits r off hi lo := by
  rw [derived, rbits_rset_of_apart (by omega), rbits_rset_of_apart (by omega), rbits_rset_of_apart (by omega), rbits_sessionKeys hlow]

theorem slotTransform_derived : slotTransform (derived r) = slotTransform r := rbits_derived r (by decide) (by decide) 0

theorem slotDir_derived : slotDir (derived r) = slotDir r := rbits_derived r (by decide) (by decide) 0

theorem slotLeg_derived : slotLeg (derived r) = slotLeg r := rbits_derived r (by decide) (by decide) 0

theorem slotSerial_derived : slotSerial (derived r) = slotSerial r := by
  rw [slotSerial, derived, rf_rset_of_apart (by omega), rf_rset_of_apart (by omega), rf_rset_of_apart (by omega),
    rf_sessionKeys (by omega), slotSerial]

theorem slotState_released : slotState (released r) = 2 := by
  rw [slotState, released, rf_rset_of_apart (by omega), rf_rset_self, Nat.pow_one]

theorem failRun_released : rf (released r) 214 2 = 0 := by rw [released, rf_rset_self, Nat.zero_mod]

theorem failTotal_released : rf (released r) 216 4 = rf r 216 4 := by
  rw [released, rf_rset_of_apart (by omega), rf_rset_of_apart (by omega)]

end Sys2Proof.Machine

/-! ## The key window: its answer, and what its commands leave of the slots (R94 to R97, R102, R103) -/

namespace Sys2Proof.Machine

variable {d e : Dev}

/-- Of the key slots, the index records and DRAM, `e` differs from `d` in slot `k` alone, which holds `r`. -/
structure WritesSlot (d e : Dev) (k r : Nat) : Prop where
  slots : e.cip.slots = tset 0 d.cip.slots k r
  index : e.cip.index = d.cip.index
  dram : e.dram = d.dram

namespace WritesSlot

variable {k r : Nat} (h : WritesSlot d e k r)
include h

theorem slot_self : e.slot k = r := by
  rw [Dev.slot, h.slots, tat_tset_self]

theorem slot_of_ne {j : Nat} (hj : j ≠ k) : e.slot j = d.slot j := by
  rw [Dev.slot, h.slots, tat_tset_of_ne _ _ hj, Dev.slot]

/-- Every slot but `k`, every index record and DRAM keep their values. -/
theorem frame : (∀ j : Nat, j ≠ k → e.slot j = d.slot j) ∧ e.cip.index = d.cip.index ∧ e.dram = d.dram :=
  ⟨fun _ hj => h.slot_of_ne hj, h.index, h.dram⟩

/-- A change elsewhere in the device leaves what a slot's write has made. -/
theorem of_kept {f : Dev} (hcip : f.cip = e.cip) (hdram : f.dram = e.dram) : WritesSlot d f k r :=
  ⟨hcip ▸ h.slots, hcip ▸ h.index, hdram.trans h.dram⟩

/-- The end of a window's command clears its staging and shows its result. -/
theorem cipResult (w res : Nat) : WritesSlot d (e.cipResult w res) k r := ⟨h.slots, h.index, h.dram⟩

end WritesSlot

theorem Dev.setSlot_writesSlot (k r : Nat) : WritesSlot d (d.setSlot k r) k r := ⟨rfl, rfl, rfl⟩

theorem Dev.setLegState_cip (l v : Nat) : (d.setLegState l v).cip = d.cip := by
  rw [Dev.setLegState]
  split <;> rfl

theorem Dev.setLegState_dram (l v : Nat) : (d.setLegState l v).dram = d.dram := by
  rw [Dev.setLegState]
  split <;> rfl

theorem Dev.legRelease_cip (l : Nat) : (d.legRelease l).cip = d.cip := by
  rw [Dev.legRelease]
  split
  · exact Dev.setLegState_cip l 1
  · rfl

theorem Dev.legRelease_dram (l : Nat) : (d.legRelease l).dram = d.dram := by
  rw [Dev.legRelease]
  split
  · exact Dev.setLegState_dram l 1
  · rfl

/-! ### The window's answer -/

section
variable {q : Requester} {a : Access} {w : Nat} {v : Word} (hopens : Opens d q 12 w a)
include hopens

/-- A command whose slot, where it names one, lies on a page of the window's domain answers what it does. -/
theorem Dev.cipWindow_of_own {names : Bool} {f : Nat → Dev → Dev × Nat} {res : Nat}
    (hown : names = true → d.slotDom (wfld v 14 0) = w) (hf : f (wfld v 14 0) d = (e, res)) :
    d.cipWindow q w v names f = e.cipResult w res := by
  rw [Dev.cipWindow, Dev.window_of_opens hopens, if_neg (by simpa using hown), hf]

section
variable (hpage : d.slotDom (wfld v 14 0) = w)
include hpage

theorem keyEraseEffect_of_own : keyEraseEffect q w v d = (d.setSlot (wfld v 14 0) 0).cipResult w 0 :=
  Dev.cipWindow_of_own hopens (fun _ => hpage) rfl

theorem keyReadStatEffect_of_own : keyReadStatEffect q w v d = (d.showSlot w (wfld v 14 0)).cipResult w 0 :=
  Dev.cipWindow_of_own hopens (fun _ => hpage) rfl

/-- RELEASE returns a QUARANTINED slot to LIVE, and its leg to ACTIVE (R102). -/
theorem keyReleaseEffect_of_quarantined (hstate : slotState (d.slot (wfld v 14 0)) = 3) :
    keyReleaseEffect q w v d =
      ((d.setSlot (wfld v 14 0) (released (d.slot (wfld v 14 0)))).legRelease (slotLeg (d.slot (wfld v 14 0)))).cipResult w 0 := by
  refine Dev.cipWindow_of_own hopens (fun _ => hpage) ?_
  rw [Dev.slotRelease, if_neg (by simp [hstate]), if_pos hstate, ← released]

end

end

/-- Derivation ends in a DERIVING slot (R97). -/
theorem derivationDoneEffect_of_deriving {k : Nat} (hstate : slotState (d.slot k) = 1) :
    derivationDoneEffect k d = d.setSlot k (derived (d.slot k)) := if_pos hstate

/-- Settles O23: each command's record is read by what it wrote and what it left, and its slot is the only one written. -/
theorem keySlotStates : Obligations.KeySlotStates := by
  refine ⟨?_, ?_, ?_⟩
  · intro s q a w v hopens hpage
    have hwrites := (s.dev.setSlot_writesSlot (wfld v 14 0) 0).cipResult w 0
    refine ⟨_, answers_of_effect (keyEraseEffect q w v) rfl (keyEraseEffect_of_own hopens hpage), hwrites.slot_self, ?_, hwrites.frame⟩
    rw [hwrites.slot_self, slotState_zero]
  · intro s k hstate
    have hwrites := s.dev.setSlot_writesSlot k (derived (s.dev.slot k))
    refine ⟨_, answers_of_effect (derivationDoneEffect k) rfl (derivationDoneEffect_of_deriving hstate), ?_⟩
    rw [hwrites.slot_self]
    exact ⟨slotState_derived _, failRun_derived _, failTotal_derived _, slotTransform_derived _, slotDir_derived _,
      slotLeg_derived _, slotSerial_derived _, hwrites.frame⟩
  · intro s q a w v hopens hpage hstate
    have hwrites := ((s.dev.setSlot_writesSlot (wfld v 14 0) (released (s.dev.slot (wfld v 14 0)))).of_kept
      (Dev.legRelease_cip (slotLeg (s.dev.slot (wfld v 14 0)))) (Dev.legRelease_dram _)).cipResult w 0
    refine ⟨_, answers_of_effect (keyReleaseEffect q w v) rfl (keyReleaseEffect_of_quarantined hopens hpage hstate), ?_⟩
    rw [hwrites.slot_self]
    exact ⟨slotState_released _, failRun_released _, failTotal_released _, hwrites.frame⟩

/-! ### INSTALL and the index commands -/

/-- INSTALL of an admitted key into an EMPTY slot writes it with the next SERIAL (R96). -/
theorem Dev.install_of_admitted {w k t stage : Nat} (ht : d.fld (Reg.CIP_KEY_CFG w) 2 0 = t) (hstage : tat 0 d.cip.stage w = stage)
    (hretired : d.retired = false) (hlow : 1 ≤ t) (hhigh : t ≤ 6) (hkey : rf stage (keyBytes t) (32 - keyBytes t) = 0)
    (hsalt : rf stage (32 + saltBytes t) (14 - saltBytes t) = 0) (hleg : d.mayLeg w (d.cfgLeg w) = true)
    (hempty : slotState (d.slot k) = 0)
    (hfresh : d.fld (Reg.CIP_KEY_CFG w) 8 8 = 1 → d.freshPair w (d.fingerprint w t stage) = true) :
    d.install w k =
      (({ d with cip := { d.cip with serial := (d.cip.serial + 1) % 2 ^ 32 } } : Dev).setSlot k
        (installed t (d.fld (Reg.CIP_KEY_CFG w) 8 8) (d.cfgLeg w) stage (d.fingerprint w t stage) ((d.cip.serial + 1) % 2 ^ 32)), 0) := by
  have hduplicate : ¬ (d.fld (Reg.CIP_KEY_CFG w) 8 8 = 1 ∧ d.freshPair w (d.fingerprint w t stage) = false) :=
    fun ⟨hdir, hsame⟩ => Bool.noConfusion (hsame.symm.trans (hfresh hdir))
  rw [Dev.install, ← Dev.fld, ← Dev.fld, ← Dev.fld, ← Dev.cfgLeg, ht, hstage]
  rw [if_neg (by simp [hretired, hkey, hsalt]; omega), if_neg (by simp [hleg]), if_neg (by simp [hempty]), if_neg hduplicate]

/-- A command on an index record of a leg of the window reaches it (R95). -/
theorem Dev.indexTarget_of_own {w : Nat} {v : Word} (hleg : d.mayLeg w (d.cfgLeg w) = true) (hidx : wfld v 22 16 ≤ 39)
    (f : Nat → Dev → Dev × Nat) : d.indexTarget w v f = f (40 * d.cfgLeg w + wfld v 22 16) d := by
  rw [Dev.indexTarget, if_neg (by simp [hleg]), if_neg (by omega)]

/-- INDEX_SET writes a record of which no part is EXHAUSTED, and any record under a LIVE slot of its leg that is newer (R103). -/
theorem Dev.indexSet_of_admitted {w k i : Nat} (hslot : slotState (d.slot k) ≠ 0)
    (hready : rbits (d.index i) 6 1 0 ≠ 2 ∧ rbits (d.index i) 6 3 2 ≠ 2 ∨
      slotState (d.slot k) = 2 ∧ slotLeg (d.slot k) = d.cfgLeg w ∧ slotSerial (d.slot k) ≠ rf (d.index i) 24 4) :
    d.indexSet w k i = (d.setIndex i (indexNew (d.index i) (d.regsNat (Reg.CIP_IDX_REC w 0) 8)), 0) := by
  rw [Dev.indexSet, if_neg hslot, if_neg (by omega)]

/-- Settles O22, clause by clause in the order of the statement. -/
theorem keyCommandsComplete : Obligations.KeyCommandsComplete := by
  refine ⟨?_, ?_, ?_, ?_, ?_⟩
  · intro s q a w v hopens hpage hretired hlow hhigh hkey hsalt hleg hempty hfresh
    exact answers_of_effect (keyInstallEffect q w v) rfl (Dev.cipWindow_of_own hopens (fun _ => hpage)
      (Dev.install_of_admitted rfl rfl hretired hlow hhigh hkey hsalt hleg hempty hfresh))
  · intro s q a w v hopens hpage
    refine ⟨?_, ?_, fun hstate => ?_⟩
    · exact answers_of_effect (keyEraseEffect q w v) rfl (keyEraseEffect_of_own hopens hpage)
    · exact answers_of_effect (keyReadStatEffect q w v) rfl (keyReadStatEffect_of_own hopens hpage)
    · exact answers_of_effect (keyReleaseEffect q w v) rfl (keyReleaseEffect_of_quarantined hopens hpage hstate)
  · intro s q a w v hopens hleg hidx
    exact answers_of_effect (indexReadEffect q w v) rfl
      (Dev.cipWindow_of_own hopens (fun h => nomatch h) (Dev.indexTarget_of_own hleg hidx _))
  · intro s q a w v hopens hpage hleg hidx hslot hready
    exact answers_of_effect (indexSetEffect q w v) rfl (Dev.cipWindow_of_own hopens (fun _ => hpage)
      ((Dev.indexTarget_of_own hleg hidx _).trans (Dev.indexSet_of_admitted hslot hready)))
  · intro s k hstate
    exact answers_of_effect (derivationDoneEffect k) rfl (derivationDoneEffect_of_deriving hstate)

end Sys2Proof.Machine

/-! ## Verdicts, late frame ends and walks that waited (R99, R100, R275) -/

namespace Sys2Proof.Machine

variable {d : Dev}

/-- The verdict takes its packet out of flight, and passes unless the tag or the MAC failed (R99). -/
theorem Dev.verdict_of_packetAt {chain : Nat} {x : Packet} (hx : d.packetAt chain = some x) (ok : Bool) :
    d.verdict chain ok =
      if ok && !x.macBad then
        ({ d with fwd := { d.fwd with flight := d.fwd.flight.filter (fun y => y.chain != chain) } } : Dev).verdictPass x
      else
        ({ d with fwd := { d.fwd with flight := d.fwd.flight.filter (fun y => y.chain != chain) } } : Dev).verdictFail x := by
  rw [Dev.verdict, hx]

/-- A sound replica whose packet is in flight ends as its FCS falls due (R100). -/
theorem lateVerdictEffect_of_due {p : Nat} {t : TxFrame} (htx : tat none d.egs.tx p = some t) (hsound : t.bad = false)
    (hdue : t.frame.cutOf.any d.inFlight = true) : lateVerdictEffect p d = d.lateEnd p t := by
  rw [lateVerdictEffect, htx]
  exact if_neg (by simp [hsound, hdue])

/-- A forwarded packet that is still to be walked, and that nothing holds back, is walked (R275). -/
theorem fwdWalkResumeEffect_of_ready {chain : Nat} {x : Packet} (hx : d.packetAt chain = some x) (hfwd : x.fwd = true)
    (hmedia : x.rtcp = false) (hwalk : x.walked = false) (hfree : d.walkBlocked x = false) :
    fwdWalkResumeEffect chain d =
      ((d.walkPacket x).1.cutAhead (d.walkPacket x).2).1.setPacket ((d.walkPacket x).1.cutAhead (d.walkPacket x).2).2 := by
  rw [fwdWalkResumeEffect, hx]
  exact if_neg (by simp [hfwd, hmedia, hwalk, hfree])

/-- Settles O24, clause by clause in the order of the statement. -/
theorem verdictCommandsComplete : Obligations.VerdictCommandsComplete := by
  refine ⟨?_, ?_, ?_⟩
  · intro s chain ok x hx
    exact ⟨_, rfl, answers_of_effect (tagVerdictEffect chain.toNat ok) rfl (Dev.verdict_of_packetAt hx ok)⟩
  · intro s p t htx hsound hdue
    exact ⟨_, rfl, answers_of_effect (lateVerdictEffect p) rfl (lateVerdictEffect_of_due htx hsound hdue)⟩
  · intro s chain x hx hfwd hmedia hwalk hfree
    exact answers_of_effect (fwdWalkResumeEffect chain.toNat) rfl (fwdWalkResumeEffect_of_ready hx hfwd hmedia hwalk hfree)

end Sys2Proof.Machine

/-! ## Buffer pools: what a change of FREE leaves of the device (R88, R110) -/

namespace Sys2Proof.Machine

/-- The registers that a new level of a pool may write: the level and ING_STAT (R88, R110). -/
def levelRegs (p : Nat) : List Nat := [Reg.BPM_LEVEL p, Reg.ING_STAT]

/-- The registers that a change of a pool's FREE may write: its count and minimum, and those of its level. -/
def freeRegs (p : Nat) : List Nat := Reg.BPM_FREE p :: Reg.BPM_MIN_FREE p :: levelRegs p

section
variable {β : Type} {g : Dev → β} {p : Nat} (d : Dev)
  (hraise : ∀ d code inst dom args, g (Dev.raise d code inst dom args) = g d)
include hraise

/-- What writes of ING_STAT and events keep, the tightening of policers keeps. -/
theorem Dev.tightCheck_keeps (hset : ∀ d v, g (Dev.setReg d Reg.ING_STAT v) = g d) : g d.tightCheck = g d := by
  have hstat : ∀ b, g (d.setBit Reg.ING_STAT 0 b) = g d := fun b => hset d _
  rw [Dev.tightCheck]
  split
  · rw [hraise, hstat]
  · split
    · rw [hraise, hstat]
    · rfl

/-- What writes of the registers of `levelRegs` and events keep, a new level keeps. -/
theorem Dev.relevel_keeps (hset : ∀ d, ∀ a ∈ levelRegs p, ∀ v, g (d.setReg a v) = g d) : g (d.relevel p) = g d := by
  have hlevel : ∀ v, g (d.setFld (Reg.BPM_LEVEL p) 1 0 v) = g d := fun v => hset d _ List.mem_cons_self _
  rw [Dev.relevel]
  split
  · rfl
  · rw [Dev.tightCheck_keeps _ hraise fun d => hset d _ (List.mem_cons_of_mem _ List.mem_cons_self)]
    split
    · rw [hraise, Dev.forEach_keeps _ g fun _ _ _ => hraise _ _ _ _ _, hlevel]
    · rw [Dev.forEach_keeps _ g fun _ _ _ => hraise _ _ _ _ _, hlevel]

/-- What writes of the registers of `freeRegs` and events keep, a change of FREE keeps. -/
theorem Dev.setFree_keeps (hset : ∀ d, ∀ a ∈ freeRegs p, ∀ v, g (d.setReg a v) = g d) (n : Nat) : g (d.setFree p n) = g d := by
  have hfree : ∀ e : Dev, g (e.setFld (Reg.BPM_FREE p) 22 0 n) = g e := fun e => hset e _ List.mem_cons_self _
  have hmin : ∀ e : Dev, g (e.setFld (Reg.BPM_MIN_FREE p) 22 0 n) = g e := fun e =>
    hset e _ (List.mem_cons_of_mem _ List.mem_cons_self) _
  rw [Dev.setFree, Dev.relevel_keeps _ hraise fun d a ha => hset d a (List.mem_cons_of_mem _ (List.mem_cons_of_mem _ ha))]
  split
  · rw [hmin, hfree]
  · rw [hfree]

end

variable (d : Dev) {p : Nat} (n : Nat)

@[simp] theorem Dev.setFree_bpm : (d.setFree p n).bpm = d.bpm :=
  d.setFree_keeps Dev.raise_bpm (fun d a _ => d.setReg_bpm a) n

theorem Dev.setFree_pool (x : Nat) : (d.setFree p n).pool x = d.pool x := by rw [Dev.pool, Dev.setFree_bpm, Dev.pool]

theorem Dev.setFree_desc (id : Nat) : (d.setFree p n).desc id = d.desc id := by rw [Dev.desc, Dev.setFree_bpm, Dev.desc]

theorem Dev.relevel_reg_of_notMem {a : Nat} (h : a ∉ levelRegs p) : (d.relevel p).reg a = d.reg a :=
  d.relevel_keeps (g := (Dev.reg · a)) (fun d code inst dom args => d.raise_reg code inst dom args a)
    (fun d _ hb => d.setReg_reg_of_ne fun hab => h (hab ▸ hb))

theorem Dev.setFree_reg_of_notMem {a : Nat} (h : a ∉ freeRegs p) : (d.setFree p n).reg a = d.reg a :=
  d.setFree_keeps (g := (Dev.reg · a)) (fun d code inst dom args => d.raise_reg code inst dom args a)
    (fun d _ hb => d.setReg_reg_of_ne fun hab => h (hab ▸ hb)) n

theorem mem_freeRegs {a p : Nat} :
    a ∈ freeRegs p ↔ a = Reg.BPM_FREE p ∨ a = Reg.BPM_MIN_FREE p ∨ a = Reg.BPM_LEVEL p ∨ a = Reg.ING_STAT := by
  simp only [freeRegs, levelRegs, List.mem_cons, List.not_mem_nil, or_false]

/-- FREE shows what it was changed to. -/
theorem Dev.setFree_free_self (hp : p < 8) (hn : n < 2 ^ 23) : (d.setFree p n).free p = n := by
  have hlevel : Reg.BPM_FREE p ∉ levelRegs p := by
    simp only [levelRegs, List.mem_cons, List.not_mem_nil, or_false, Reg.BPM_FREE, Reg.BPM_LEVEL, Reg.ING_STAT]
    omega
  have hmin : Reg.BPM_FREE p ≠ Reg.BPM_MIN_FREE p := by simp only [Reg.BPM_FREE, Reg.BPM_MIN_FREE]; omega
  have hfree : (d.setFld (Reg.BPM_FREE p) 22 0 n).fld (Reg.BPM_FREE p) 22 0 = n := by
    rw [Dev.setFld_fld_self _ _ _ _ _ (by decide), Nat.mod_eq_of_lt hn]
  rw [Dev.setFree, Dev.free, Dev.fld, Dev.relevel_reg_of_notMem _ hlevel, ← Dev.fld]
  split
  · rw [Dev.setFld_fld_of_ne _ hmin, hfree]
  · exact hfree

/-- Another pool's FREE is left alone. -/
theorem Dev.setFree_free_of_ne {x : Nat} (hx : x < 8) (h : x ≠ p) : (d.setFree p n).free x = d.free x := by
  rw [Dev.free, Dev.fld, Dev.setFree_reg_of_notMem, ← Dev.fld, Dev.free]
  simp only [mem_freeRegs, Reg.BPM_FREE, Reg.BPM_MIN_FREE, Reg.BPM_LEVEL, Reg.ING_STAT]
  omega

/-- What the domains hold is left alone. -/
theorem Dev.setFree_held {dom x : Nat} (hx : x < 8) :
    (d.setFree p n).fld (Reg.BPM_HELD dom x) 22 0 = d.fld (Reg.BPM_HELD dom x) 22 0 := by
  rw [Dev.fld, Dev.setFree_reg_of_notMem, ← Dev.fld]
  simp only [mem_freeRegs, Reg.BPM_HELD, Reg.BPM_FREE, Reg.BPM_MIN_FREE, Reg.BPM_LEVEL, Reg.ING_STAT]
  omega

end Sys2Proof.Machine

/-! ## Buffer pools: the rotation, NONE and the grant (R106, R107, R112) -/

namespace Sys2Proof.Machine

variable (d : Dev) {p : Nat}

/-! ### Pools, descriptors and replies after a write -/

@[simp] theorem Dev.setPool_pool_self (x : Pool) : (d.setPool p x).pool p = x := tat_tset_self _ _ _ _

theorem Dev.setDesc_desc_self (id : Nat) (x : Desc) : (d.setDesc id x).desc id = x := tat_tset_self _ _ _ _

theorem Dev.setDesc_desc_of_ne {id j : Nat} (h : j ≠ id) (x : Desc) : (d.setDesc id x).desc j = d.desc j := tat_tset_of_ne _ _ h _

theorem Dev.reply_self (a : Nat) (r : Option Nat) : tat none (d.reply a r).bpm.replies a = some r :=
  tat_tset_self none d.bpm.replies a (some r)

/-! ### The rotation -/

/-- A turn that no request stands at passes. -/
theorem Dev.allocLoop_of_absent {start k granted : Nat} {reqs : List AllocReq}
    (h : ∀ j < k, ∀ r ∈ reqs, r.agent.val ≠ (start + (63 - j)) % 64) : d.allocLoop p start reqs k granted = (d, granted, []) := by
  induction k with
  | zero => rfl
  | succ k ih =>
    have hnone : reqs.find? (fun r => r.agent.val == (start + (63 - k)) % 64) = none :=
      List.find?_eq_none.mpr fun r hr => by simpa using h k (Nat.lt_succ_self k) r hr
    rw [Dev.allocLoop]
    simp only [hnone]
    exact ih fun j hj => h j (Nat.lt_succ_of_lt hj)

/-- A lone request has the one turn of its agent, wherever the rotation starts. -/
theorem Dev.allocLoop_lone {start k granted : Nat} {r : AllocReq} (hk : k ≤ 64) (h : ∃ j < k, r.agent.val = (start + (63 - j)) % 64) :
    d.allocLoop p start [r] k granted =
      ((d.allocTurn p granted r).1, (d.allocTurn p granted r).2.1, (d.allocTurn p granted r).2.2.toList) := by
  induction k with
  | zero => obtain ⟨j, hj, -⟩ := h; omega
  | succ k ih =>
    rw [Dev.allocLoop]
    by_cases hturn : r.agent.val = (start + (63 - k)) % 64
    · have hlater : ∀ j < k, ∀ x ∈ [r], x.agent.val ≠ (start + (63 - j)) % 64 := by
        intro j hj x hx
        rw [List.mem_singleton.mp hx]
        omega
      simp only [List.find?_singleton, hturn, beq_self_eq_true, if_true, Dev.allocLoop_of_absent _ hlater, List.append_nil]
    · simp only [List.find?_singleton, beq_eq_false_iff_ne.mpr hturn, Bool.false_eq_true, if_false]
      refine ih (by omega) ?_
      obtain ⟨j, hj, hagent⟩ := h
      exact ⟨j, by have : j ≠ k := fun hjk => hturn (hjk ▸ hagent); omega, hagent⟩

/-- The pool as a clock in which requests stand at it begins: the rotation steps on, and nothing waits yet. -/
def Dev.rotated (d : Dev) (p : Nat) : Dev := d.setPool p { d.pool p with rr := ((d.pool p).rr + 1) % 64, waiting := [] }

theorem Dev.rotated_pool : (d.rotated p).pool p = { d.pool p with rr := ((d.pool p).rr + 1) % 64, waiting := [] } :=
  Dev.setPool_pool_self _ _

theorem Dev.rotated_pool_free : ((d.rotated p).pool p).free = (d.pool p).free := by rw [Dev.rotated_pool]

theorem Dev.rotated_pool_cached : ((d.rotated p).pool p).cached = (d.pool p).cached := by rw [Dev.rotated_pool]

variable {r : AllocReq}

/-- A clock in which a well-formed request stands alone at its pool is its agent's turn; FREE falls by what was granted. -/
theorem Dev.allocClock_lone (hwait : (d.pool p).waiting = []) (hagent : reservedAgent r.agent = false)
    (hone : 1 ≤ r.nbuf.val) (hfive : r.nbuf.val ≤ 5) :
    d.allocClock p [r] =
      let t := (d.rotated p).allocTurn p 0 r
      let e := t.1.setPool p { t.1.pool p with waiting := t.2.2.toList }
      if t.2.1 = 0 then e else e.setFree p (e.free p - t.2.1) := by
  have hturn : ∃ j < 64, r.agent.val = ((d.pool p).rr + (63 - j)) % 64 :=
    ⟨63 - (r.agent.val + 64 - (d.pool p).rr % 64) % 64, by omega, by omega⟩
  rw [Dev.allocClock]
  simp only [hwait, List.any_nil, Bool.not_false, hagent, hone, hfive, and_self, decide_true, Bool.and_self, List.filter_cons,
    if_true, List.filter_nil, List.nil_append, List.cons_ne_nil, if_false, Dev.allocLoop_lone _ (Nat.le_refl 64) hturn]
  rfl

/-- A clock in which nothing stands at the pool changes nothing. -/
theorem Dev.allocClock_nil (hwait : (d.pool p).waiting = []) : d.allocClock p [] = d := by
  rw [Dev.allocClock]
  simp [hwait]

/-! ### NONE -/

/-- A refusal is counted, and changes no other register. -/
theorem Dev.allocNone_reg (a b : Nat) : (d.allocNone p a).reg b = (d.count (Reg.BPM_NONE_CNT p)).reg b := by
  rw [Dev.allocNone]
  split <;> rfl

/-- A refusal changes no descriptor. -/
theorem Dev.allocNone_descs (a : Nat) : (d.allocNone p a).bpm.descs = d.bpm.descs := by
  rw [Dev.allocNone]
  split <;> rfl

/-- A refusal takes no buffer. -/
theorem Dev.allocNone_pool_free (a : Nat) : ((d.allocNone p a).pool p).free = (d.pool p).free := by
  rw [Dev.allocNone]
  split
  · rfl
  · exact (congrArg Pool.free (Dev.setPool_pool_self (d.count (Reg.BPM_NONE_CNT p)) _)).trans rfl

/-- A request that must be refused gets NONE in its turn. -/
theorem Dev.allocTurn_of_refused {granted : Nat} (h : d.mustRefuse p granted r.agent r.nbuf r.dom r.de = true) :
    d.allocTurn p granted r = ((d.allocNone p r.agent).reply r.agent none, granted, none) := by
  rw [Dev.allocTurn]
  exact if_pos h

/-! ### The grant -/

/-- Descriptors replaced one after another. -/
def Dev.setDescs (d : Dev) (l : List (Nat × Desc)) : Dev := d.forEach l (fun d e => d.setDesc e.1 e.2)

theorem Dev.setDescs_reg (l : List (Nat × Desc)) (a : Nat) : (d.setDescs l).reg a = d.reg a :=
  Dev.forEach_keeps d (Dev.reg · a) fun _ _ _ => rfl

theorem Dev.setDescs_pool (l : List (Nat × Desc)) (x : Nat) : (d.setDescs l).pool x = d.pool x :=
  Dev.forEach_keeps d (Dev.pool · x) fun _ _ _ => rfl

/-- The first descriptor replaced stands when none after it is at its ID. -/
theorem Dev.setDescs_desc_head (id : Nat) (x : Desc) {l : List (Nat × Desc)} (h : ∀ e ∈ l, e.1 ≠ id) :
    (d.setDescs ((id, x) :: l)).desc id = x :=
  (Dev.forEach_keeps _ (Dev.desc · id) fun d e he => d.setDesc_desc_of_ne (h e he).symm e.2).trans (d.setDesc_desc_self id x)

/-- The descriptors of a chain stand at its IDs. -/
theorem fst_mem_of_mem_chainDescs {agent dom nbuf : Nat} {head : Bool} {headroom : Nat} {ids : List Nat} {e : Nat × Desc}
    (h : e ∈ chainDescs agent dom nbuf head headroom ids) : e.1 ∈ ids := by
  induction ids generalizing head with
  | nil => exact absurd h List.not_mem_nil
  | cons id t ih =>
    rcases List.mem_cons.mp h with rfl | ht
    · exact List.mem_cons_self
    · exact List.mem_cons_of_mem _ (ih ht)

/-- The head's descriptor of a chain just granted: HELD, with the requester as only owner and last owner (R106). -/
def headDesc (agent dom nbuf headroom : Nat) (rest : List Nat) : Desc :=
  { next := rest.headD 0, more := !rest.isEmpty, dataOff := headroom, head := true, nbuf := nbuf, state := 1, owners := 2 ^ agent,
    last := agent, shares := 1, dom := dom }

variable (a n dom : Nat)

/-- A grant takes its buffers from the head of the free list and from the ID cache, and nothing else of the pool. -/
theorem Dev.grant_pool : (d.grant p a n dom).2.pool p =
    { d.pool p with free := (takeFree n (d.pool p).free).2, cached := (d.pool p).cached - n } :=
  (Dev.setDescs_pool _ _ p).trans (Dev.setPool_pool_self _ _)

theorem Dev.grant_reg_of_ne {b : Nat} (h : b ≠ Reg.BPM_HELD dom p) : (d.grant p a n dom).2.reg b = d.reg b :=
  (Dev.setFld_reg_of_ne _ h _ _ _).trans (Dev.setDescs_reg _ _ b)

/-- A grant charges its domain. -/
theorem Dev.grant_held (h : d.fld (Reg.BPM_HELD dom p) 22 0 + n < 2 ^ 23) :
    (d.grant p a n dom).2.fld (Reg.BPM_HELD dom p) 22 0 = d.fld (Reg.BPM_HELD dom p) 22 0 + n := by
  have hheld : ∀ (x : Pool) l, ((d.setPool p x).setDescs l).fld (Reg.BPM_HELD dom p) 22 0 = d.fld (Reg.BPM_HELD dom p) 22 0 :=
    fun x l => congrArg (wfld · 22 0) (Dev.setDescs_reg _ l _)
  refine (Dev.setFld_fld_self _ _ _ _ _ (by decide)).trans ?_
  rw [← Dev.setDescs, hheld, Nat.mod_eq_of_lt h]

variable {a n dom} {i : Nat} {rest : List Nat}

/-- A grant answers with the ID of the head of the free list. -/
theorem Dev.grant_id (hfree : (takeFree n (d.pool p).free).1 = i :: rest) : (d.grant p a n dom).1 = p * 2 ^ 22 + i := by
  rw [Dev.grant, hfree]
  rfl

/-- The first buffer of a grant becomes the head of the chain. -/
theorem Dev.grant_desc_head (hfree : (takeFree n (d.pool p).free).1 = i :: rest) (hrest : ∀ j ∈ rest, j ≠ i) :
    (d.grant p a n dom).2.desc (p * 2 ^ 22 + i) =
      headDesc a dom n (d.fld (Reg.BPM_POOL_CFG p) 7 0) (rest.map (fun j => p * 2 ^ 22 + j)) := by
  rw [Dev.grant, hfree]
  refine Dev.setDescs_desc_head _ (p * 2 ^ 22 + i) _ fun e he => ?_
  obtain ⟨j, hj, hid⟩ := List.mem_map.mp (fst_mem_of_mem_chainDescs he)
  have hne := hrest j hj
  omega

/-- A request that the free list and the ID cache can serve is granted in its turn. -/
theorem Dev.allocTurn_of_served {granted : Nat} (hok : d.mustRefuse p granted r.agent r.nbuf r.dom r.de = false)
    (hfit : granted + r.nbuf.val ≤ 8) (hcached : p = 0 ∨ r.nbuf.val ≤ (d.pool p).cached) :
    d.allocTurn p granted r =
      ((d.grant p r.agent r.nbuf r.dom).2.reply r.agent (some (d.grant p r.agent r.nbuf r.dom).1), granted + r.nbuf.val, none) := by
  rw [Dev.allocTurn]
  dsimp only
  rw [if_neg (by simp [hok]), if_neg (by omega)]

/-- What a request that is not refused leaves room for: the buffers that are free, and its domain's quota (R111). -/
theorem Dev.room_of_mustRefuse_eq_false {granted : Nat} {de : Bool} (h : d.mustRefuse p granted a n dom de = false) :
    granted + n ≤ d.free p ∧ d.fld (Reg.BPM_HELD dom p) 22 0 + n < 2 ^ 23 := by
  have hquota : d.fld (Reg.BPM_QUOTA dom p) 22 0 < 2 ^ 23 := wfld_lt _ _ _
  simp only [Dev.mustRefuse, Bool.or_eq_false_iff, decide_eq_false_iff_not] at h
  omega

/-- The device before FREE falls, when a lone request has been granted in its clock: the chain, the reply, and nothing waits. -/
def Dev.granted (d : Dev) (p : Nat) (r : AllocReq) : Dev :=
  let g := (d.rotated p).grant p r.agent r.nbuf r.dom
  let e := g.2.reply r.agent (some g.1)
  e.setPool p { e.pool p with waiting := [] }

theorem Dev.granted_reg_of_ne {b : Nat} (h : b ≠ Reg.BPM_HELD r.dom p) : (d.granted p r).reg b = d.reg b :=
  Dev.grant_reg_of_ne (d.rotated p) _ _ _ h

theorem Dev.granted_free {x : Nat} (hx : x < 8) : (d.granted p r).free x = d.free x := by
  have hne : Reg.BPM_FREE x ≠ Reg.BPM_HELD r.dom p := by simp only [Reg.BPM_FREE, Reg.BPM_HELD]; omega
  rw [Dev.free, Dev.fld, Dev.granted_reg_of_ne d hne, ← Dev.fld, Dev.free]

theorem Dev.granted_pool : (d.granted p r).pool p =
    { d.pool p with
      free := (takeFree r.nbuf (d.pool p).free).2, cached := (d.pool p).cached - r.nbuf
      rr := ((d.pool p).rr + 1) % 64, waiting := [] } := by
  have hgrant := Dev.grant_pool (p := p) (d.rotated p) r.agent r.nbuf r.dom
  rw [Dev.rotated_pool] at hgrant
  exact (Dev.setPool_pool_self _ _).trans (congrArg (fun x : Pool => { x with waiting := [] }) hgrant)

theorem Dev.granted_reply (hfree : (takeFree r.nbuf (d.pool p).free).1 = i :: rest) :
    tat none (d.granted p r).bpm.replies r.agent = some (some (p * 2 ^ 22 + i)) := by
  rw [← d.rotated_pool_free] at hfree
  exact (Dev.reply_self _ _ _).trans (congrArg (some ∘ some) (Dev.grant_id _ hfree))

theorem Dev.granted_desc_head (hfree : (takeFree r.nbuf (d.pool p).free).1 = i :: rest) (hrest : ∀ j ∈ rest, j ≠ i) :
    (d.granted p r).desc (p * 2 ^ 22 + i) =
      headDesc r.agent r.dom r.nbuf (d.fld (Reg.BPM_POOL_CFG p) 7 0) (rest.map (fun j => p * 2 ^ 22 + j)) := by
  rw [← d.rotated_pool_free] at hfree
  exact Dev.grant_desc_head _ hfree hrest

/-- A lone request that the free list and the ID cache can serve is granted in its clock, and FREE falls by its buffers. -/
theorem Dev.allocClock_of_served (hwait : (d.pool p).waiting = []) (hagent : reservedAgent r.agent = false)
    (hone : 1 ≤ r.nbuf.val) (hfive : r.nbuf.val ≤ 5) (hok : d.mustRefuse p 0 r.agent r.nbuf r.dom r.de = false)
    (hcached : p = 0 ∨ r.nbuf.val ≤ (d.pool p).cached) (hp : p < 8) :
    d.allocClock p [r] = (d.granted p r).setFree p (d.free p - r.nbuf) := by
  rw [← d.rotated_pool_cached] at hcached
  rw [Dev.allocClock_lone _ hwait hagent hone hfive, Dev.allocTurn_of_served (d.rotated p) hok (by omega) hcached]
  dsimp only
  rw [if_neg (by omega), Nat.zero_add, ← d.granted_free hp (p := p) (r := r)]
  rfl

/-- Settles O25: the clock is the grant followed by the fall of FREE, which touches none of the grant's own fields. -/
theorem allocationGranted : Obligations.AllocationGranted := by
  intro s p r i rest hwait hagent hone hfive hok hcached hfree hrest
  obtain ⟨hroom, hquota⟩ := s.dev.room_of_mustRefuse_eq_false hok
  refine ⟨(s.dev.granted p r).setFree p (s.dev.free p - r.nbuf), ?_, ?_, ?_, ?_, ?_, ?_, ?_⟩
  · exact answers_of_effect (allocRequestEffect p [r]) rfl
      (s.dev.allocClock_of_served hwait hagent hone hfive hok hcached p.isLt)
  · rw [Dev.setFree_bpm, s.dev.granted_reply hfree]
  · have hlt : s.dev.free p < 2 ^ 23 := wfld_lt _ _ _
    exact Dev.setFree_free_self _ _ p.isLt (by omega)
  · rw [Dev.setFree_held _ _ p.isLt]
    exact Dev.grant_held (s.dev.rotated p) _ _ _ hquota
  · rw [Dev.setFree_pool, Dev.granted_pool]
  · rw [Dev.setFree_pool, Dev.granted_pool]
  · rw [Dev.setFree_desc, s.dev.granted_desc_head hfree hrest]
    exact ⟨rfl, rfl, rfl, rfl, rfl, rfl, fun x hx =>
      (Dev.setFree_free_of_ne _ _ x.isLt (Fin.val_ne_of_ne hx)).trans (s.dev.granted_free x.isLt)⟩

end Sys2Proof.Machine

/-! ## Buffer pools: refusals, refills and the command windows (R108, R112, R115) -/

namespace Sys2Proof.Machine

variable (d : Dev) {p : Nat} {r : AllocReq}

/-- The device when a lone request has been refused in its clock: NONE is counted and answered, and nothing waits. -/
def Dev.refused (d : Dev) (p : Nat) (r : AllocReq) : Dev :=
  let e := ((d.rotated p).allocNone p r.agent).reply r.agent none
  e.setPool p { e.pool p with waiting := [] }

/-- A lone request that must be refused is refused in its clock, and FREE stays. -/
theorem Dev.allocClock_of_refused (hwait : (d.pool p).waiting = []) (hagent : reservedAgent r.agent = false)
    (hone : 1 ≤ r.nbuf.val) (hfive : r.nbuf.val ≤ 5) (hrefuse : d.mustRefuse p 0 r.agent r.nbuf r.dom r.de = true) :
    d.allocClock p [r] = d.refused p r := by
  rw [Dev.allocClock_lone _ hwait hagent hone hfive, Dev.allocTurn_of_refused (d.rotated p) hrefuse]
  rfl

theorem Dev.refused_reg (b : Nat) : (d.refused p r).reg b = (d.count (Reg.BPM_NONE_CNT p)).reg b :=
  Dev.allocNone_reg (d.rotated p) r.agent b

theorem Dev.refused_free : (d.refused p r).free p = d.free p := by
  have hne : Reg.BPM_FREE p ≠ Reg.BPM_NONE_CNT p := by simp only [Reg.BPM_FREE, Reg.BPM_NONE_CNT]; omega
  rw [Dev.free, Dev.fld, Dev.refused_reg, Dev.count_reg_of_ne _ hne, ← Dev.fld, Dev.free]

theorem Dev.refused_pool_free : ((d.refused p r).pool p).free = (d.pool p).free := by
  rw [Dev.refused, Dev.setPool_pool_self]
  exact (Dev.allocNone_pool_free (d.rotated p) _).trans d.rotated_pool_free

theorem Dev.refused_descs : (d.refused p r).bpm.descs = d.bpm.descs := Dev.allocNone_descs (d.rotated p) _

/-- A refill of a pool at which nothing waits fills its ID cache, and no more. -/
theorem cacheRefillEffect_of_quiet (hwait : (d.pool p).waiting = []) : cacheRefillEffect p d = d.refill p :=
  Dev.allocClock_nil _ (by rw [Dev.refill, Dev.setPool_pool_self]; exact hwait)

/-! ### The command windows -/

section
variable {d} {q : Requester} {a : Access} {w : Nat}

/-- A buffer window that opens performs its command. -/
theorem Dev.bpmWindow_of_opens (h : Opens d q 14 w a) (f : Access → Dev → Dev) : d.bpmWindow q w f = f a d := by
  obtain ⟨haccess, hmay, hpower⟩ := h
  rw [Dev.bpmWindow, Dev.by_of_access haccess, if_neg (by simp [hpower]), if_pos hmay]

/-- A command on a chain of the window, any chain for SD0's, shows its result. -/
theorem Dev.bpmTarget_of_own {id : Nat} (hid : id = d.fld (Reg.BPM_CMD_ID w) 24 0) (hown : w = 0 ∨ (d.desc id).dom = w)
    (f : Nat → Dev → Dev × Nat) : d.bpmTarget w f = (f id d).1.bpmResult w (f id d).2 := by
  subst hid
  exact if_neg (by omega)

/-- A command on another domain's chain is refused with DOMAIN. -/
theorem Dev.bpmTarget_of_foreign (hw : w ≠ 0) (hforeign : (d.desc (d.fld (Reg.BPM_CMD_ID w) 24 0)).dom ≠ w)
    (f : Nat → Dev → Dev × Nat) : d.bpmTarget w f = d.bpmResult w 6 := if_pos ⟨hw, hforeign⟩

/-- ALLOC of an allowed number of buffers shows the chain granted. -/
theorem bpmCmdAllocEffect_of_granted {v : Word} {id : Nat} {e : Dev} (h : Opens d q 14 w a) (hone : 1 ≤ wfld v 24 22)
    (hfive : wfld v 24 22 ≤ 5) (halloc : d.alloc (wfld v 27 25) a.agent (wfld v 24 22) w = (some id, e)) :
    bpmCmdAllocEffect q w v d = (e.setReg (Reg.BPM_CMD_ID w) (w32 id)).bpmResult w 0 := by
  rw [bpmCmdAllocEffect, Dev.bpmWindow_of_opens h]
  dsimp only
  rw [if_neg (by omega), halloc]

section
variable (hopens : Opens d q 14 w a) {f : Access → Nat → Dev → Dev × Nat}
include hopens

/-- A window's command that succeeds on a chain of the window answers 0. -/
theorem Dev.bpmCommand_of_own {id : Nat} (hid : id = d.fld (Reg.BPM_CMD_ID w) 24 0) (hown : w = 0 ∨ (d.desc id).dom = w)
    (hdone : (f a id d).2 = 0) : d.bpmWindow q w (fun a d => d.bpmTarget w (f a)) = (f a id d).1.bpmResult w 0 := by
  rw [Dev.bpmWindow_of_opens hopens, Dev.bpmTarget_of_own hid hown, hdone]

/-- A window's command on another domain's chain answers DOMAIN and does nothing else. -/
theorem Dev.bpmCommand_of_foreign (hw : w ≠ 0) (hforeign : (d.desc (d.fld (Reg.BPM_CMD_ID w) 24 0)).dom ≠ w) :
    d.bpmWindow q w (fun a d => d.bpmTarget w (f a)) = d.bpmResult w 6 := by
  rw [Dev.bpmWindow_of_opens hopens, Dev.bpmTarget_of_foreign hw hforeign]

/-- READ of a head shows its descriptor. -/
theorem bpmCmdReadEffect_of_head {id : Nat} (hid : id = d.fld (Reg.BPM_CMD_ID w) 24 0) (hown : w = 0 ∨ (d.desc id).dom = w)
    (hhead : (d.desc id).head = true) :
    bpmCmdReadEffect q w d = (d.setRegsNat (Reg.BPM_DESC w 0) (descNat (d.desc id)) 16).bpmResult w 0 := by
  rw [bpmCmdReadEffect, Dev.bpmWindow_of_opens hopens, Dev.bpmTarget_of_own hid hown]
  dsimp only
  rw [if_neg (by simp [hhead])]

end

end

/-- Settles O26, clause by clause in the order of the statement. -/
theorem bufferCommandsComplete : Obligations.BufferCommandsComplete := by
  refine ⟨?_, ?_, ?_, ?_, ?_, ?_⟩
  · intro s p r hwait hagent hone hfive hrefuse
    exact ⟨s.dev.refused p r,
      answers_of_effect (allocRequestEffect p [r]) rfl (s.dev.allocClock_of_refused hwait hagent hone hfive hrefuse),
      Dev.reply_self _ _ _, s.dev.refused_free, (s.dev.refused_reg _).trans (Dev.count_reg_self _ _ _),
      s.dev.refused_pool_free, s.dev.refused_descs⟩
  · intro s p hwait
    exact answers_of_effect (cacheRefillEffect p) rfl (cacheRefillEffect_of_quiet _ hwait)
  · intro s p
    exact answers_of_effect (cacheRefillEffect p) rfl rfl
  · intro s q a w v id e hopens hone hfive halloc
    exact answers_of_effect (bpmCmdAllocEffect q w v) rfl (bpmCmdAllocEffect_of_granted hopens hone hfive halloc)
  · intro s q a w v id hopens hid hown
    refine ⟨fun hdone => ?_, fun hdone => ?_, fun hdone => ?_, fun hhead => ?_⟩
    · exact answers_of_effect (bpmCmdShareEffect q w v) rfl (Dev.bpmCommand_of_own hopens hid hown hdone)
    · exact answers_of_effect (bpmCmdDropEffect q w) rfl (Dev.bpmCommand_of_own hopens hid hown hdone)
    · exact answers_of_effect (bpmCmdFreeEffect q w) rfl (Dev.bpmCommand_of_own hopens hid hown hdone)
    · exact answers_of_effect (bpmCmdReadEffect q w) rfl (bpmCmdReadEffect_of_head hopens hid hown hhead)
  · intro s q a w v hopens hw hforeign c hc
    simp only [List.mem_cons, List.not_mem_nil, or_false] at hc
    rcases hc with rfl | rfl | rfl | rfl
    · exact answers_of_effect (bpmCmdShareEffect q w v) rfl (Dev.bpmCommand_of_foreign hopens hw hforeign)
    · exact answers_of_effect (bpmCmdDropEffect q w) rfl (Dev.bpmCommand_of_foreign hopens hw hforeign)
    · exact answers_of_effect (bpmCmdFreeEffect q w) rfl (Dev.bpmCommand_of_foreign hopens hw hforeign)
    · exact answers_of_effect (bpmCmdReadEffect q w) rfl (Dev.bpmCommand_of_foreign hopens hw hforeign)

end Sys2Proof.Machine

/-! ## Chains: sharing and release (R113, R114, Table 06-4) -/

namespace Sys2Proof.Machine

variable (d : Dev) {agent id mask last op : Nat} (inst : Nat)

/-! ### SHARE -/

/-- A SHARE of a HELD chain's head by its last owner, with an admitted mask, hands the chain to the mask's agents. -/
theorem Dev.share_of_admitted (hhead : (d.desc id).head = true) (hheld : (d.desc id).state = 1) (howner : agent = (d.desc id).last)
    (hlast : mask.testBit last = true) (hmask : mask < 2 ^ 64) (hagents : (maskAgents mask).all (fun a => !reservedAgent a) = true) :
    d.share agent id mask last inst =
      (d.setDesc id { d.desc id with
        owners := mask, last := last, shares := (maskAgents mask).length
        state := if (maskAgents mask).length = 1 then 1 else 2 }, 0) := by
  rw [Dev.share]
  exact (if_neg (by simp [hhead])).trans (if_pos ⟨hheld, howner, hlast, hmask, hagents⟩)

/-- Any other SHARE of a head is refused. -/
theorem Dev.share_of_refused (hhead : (d.desc id).head = true)
    (hfault : (d.desc id).state ≠ 1 ∨ agent ≠ (d.desc id).last ∨ mask.testBit last = false ∨ (maskAgents mask).any reservedAgent = true) :
    d.share agent id mask last inst =
      (d.raise Ev.SHARE_REFUSED inst (d.desc id).dom (bpmArgs id agent (d.desc id).last 2), 5) := by
  rw [Dev.share]
  refine (if_neg (by simp [hhead])).trans (if_neg ?_)
  rintro ⟨hheld, howner, hlast, -, hagents⟩
  rcases hfault with h | h | h | h
  · exact h hheld
  · exact h howner
  · simp [hlast] at h
  · obtain ⟨x, hx, hreserved⟩ := List.any_eq_true.mp h
    simpa [hreserved] using List.all_eq_true.mp hagents x hx

/-! ### DROP and FREE -/

/-- What a release leaves of a chain whose head's descriptor it has made `h`: a chain with a share left stays with its owners, and
one with none returns to its free list (Table 06-4). -/
def Dev.shareTaken (d : Dev) (id : Nat) (h : Desc) : Dev :=
  if h.shares = 0 then (d.setDesc id h).returnChain id
  else d.setDesc id { h with state := if h.lastDone then 3 else if h.shares = 1 then 1 else 2 }

/-- A release of a free chain, or a second FREE by the last owner, is a DOUBLE_FREE. -/
theorem Dev.release_doubleFree (h : (d.desc id).state = 0 ∨ (op = 4 ∧ agent = (d.desc id).last ∧ (d.desc id).lastDone = true)) :
    d.release agent op id inst = (d.raise Ev.DOUBLE_FREE inst (d.desc id).dom (bpmArgs id agent (d.desc id).last op), 2) := by
  rw [Dev.release]
  exact if_pos h

section
variable {d} (hhead : (d.desc id).head = true) (hlive : (d.desc id).state ≠ 0)
include hhead hlive

/-- A DROP by the last owner, or by an agent that is not listed, is one by a WRONG_OWNER. -/
theorem Dev.drop_wrongOwner (h : agent = (d.desc id).last ∨ (d.desc id).owners.testBit agent = false) :
    d.release agent 3 id inst = (d.raise Ev.WRONG_OWNER inst (d.desc id).dom (bpmArgs id agent (d.desc id).last 3), 3) := by
  rw [Dev.release]
  dsimp only
  rw [if_neg (by simp [hlive]), if_neg (by simp [hhead]), if_pos ⟨rfl, h⟩]

/-- A FREE by any agent but the last owner is one by a WRONG_OWNER. -/
theorem Dev.free_wrongOwner (h : agent ≠ (d.desc id).last) :
    d.release agent 4 id inst = (d.raise Ev.WRONG_OWNER inst (d.desc id).dom (bpmArgs id agent (d.desc id).last 4), 3) := by
  rw [Dev.release]
  dsimp only
  rw [if_neg (by simp [hlive, h]), if_neg (by simp [hhead]), if_neg (by simp), if_pos ⟨rfl, h⟩]

/-- A release that nothing stops takes its share: DROP the agent's bit with it, FREE sets LAST_DONE. -/
theorem Dev.release_of_admitted (hfirst : ¬ (op = 4 ∧ agent = (d.desc id).last ∧ (d.desc id).lastDone = true))
    (hdrop : ¬ (op = 3 ∧ (agent = (d.desc id).last ∨ (d.desc id).owners.testBit agent = false)))
    (hfree : ¬ (op = 4 ∧ agent ≠ (d.desc id).last)) :
    (d.release agent op id inst).1 = d.shareTaken id
      (if op = 3 then { d.desc id with owners := (d.desc id).owners - 2 ^ agent, shares := (d.desc id).shares - 1 }
      else { d.desc id with lastDone := true, shares := (d.desc id).shares - 1 }) := by
  have hchain : ¬ (d.desc id).head = false := by simp [hhead]
  rw [Dev.release]
  exact (congrArg Prod.fst ((if_neg (not_or.mpr ⟨hlive, hfirst⟩)).trans
    ((if_neg hchain).trans ((if_neg hdrop).trans (if_neg hfree))))).trans (apply_ite Prod.fst _ _ _)

/-- A DROP by a listed owner that is not the last owner takes its bit and its share. -/
theorem Dev.drop_of_listed (hnotLast : agent ≠ (d.desc id).last) (hlisted : (d.desc id).owners.testBit agent = true) :
    (d.release agent 3 id inst).1 = d.shareTaken id { d.desc id with
      owners := (d.desc id).owners - 2 ^ agent, shares := (d.desc id).shares - 1 } := by
  rw [Dev.release_of_admitted inst hhead hlive (by simp) (by simp [hnotLast, hlisted]) (by simp), if_pos rfl]

/-- The last owner's first FREE sets LAST_DONE and takes its share. -/
theorem Dev.free_of_lastOwner (hlast : agent = (d.desc id).last) (hfirst : (d.desc id).lastDone = false) :
    (d.release agent 4 id inst).1 = d.shareTaken id { d.desc id with lastDone := true, shares := (d.desc id).shares - 1 } := by
  rw [Dev.release_of_admitted inst hhead hlive (by simp [hfirst]) (by simp) (by simp [hlast]), if_neg (by decide)]

end

/-- Settles O27, clause by clause in the order of the statement. -/
theorem chainOwnerCommandsComplete : Obligations.ChainOwnerCommandsComplete := by
  refine ⟨?_, ?_, ?_, ?_, ?_⟩
  · intro s agent last id mask hhead hheld howner hlast hagents
    exact answers_of_effect (chainShareEffect agent id.toNat mask.toNat last) rfl
      (congrArg Prod.fst (s.dev.share_of_admitted _ hhead hheld howner hlast mask.isLt hagents))
  · intro s agent last id mask hhead hfault
    exact ⟨_, answers_of_effect (chainShareEffect agent id.toNat mask.toNat last) rfl
      (congrArg Prod.fst (s.dev.share_of_refused _ hhead hfault))⟩
  · rintro s agent id h rfl hhead hlive hnotLast hlisted
    exact answers_of_effect (chainDropEffect agent id.toNat) rfl (Dev.drop_of_listed _ hhead hlive hnotLast hlisted)
  · rintro s agent id h rfl hhead hlive hlast hfirst
    exact answers_of_effect (chainFreeEffect agent id.toNat) rfl (Dev.free_of_lastOwner _ hhead hlive hlast hfirst)
  · rintro s agent id h rfl
    have hdrop : ∀ {e : Dev} {code}, s.dev.release agent 3 id.toNat (id.toNat / 2 ^ 22) = (e, code) → Answers (.chainDrop agent id) s e :=
      fun he => answers_of_effect (chainDropEffect agent id.toNat) rfl (congrArg Prod.fst he)
    have hfree : ∀ {e : Dev} {code}, s.dev.release agent 4 id.toNat (id.toNat / 2 ^ 22) = (e, code) → Answers (.chainFree agent id) s e :=
      fun he => answers_of_effect (chainFreeEffect agent id.toNat) rfl (congrArg Prod.fst he)
    refine ⟨fun hidle => ?_, fun hlast hdone => ?_, fun hhead hlive hwrong => ?_, fun hhead hlive hwrong => ?_⟩
    · exact ⟨_, hdrop (s.dev.release_doubleFree _ (.inl hidle)), _, hfree (s.dev.release_doubleFree _ (.inl hidle))⟩
    · exact ⟨_, hfree (s.dev.release_doubleFree _ (.inr ⟨rfl, hlast, hdone⟩))⟩
    · exact ⟨_, hdrop (Dev.drop_wrongOwner _ hhead hlive hwrong)⟩
    · exact ⟨_, hfree (Dev.free_wrongOwner _ hhead hlive hwrong)⟩

end Sys2Proof.Machine

/-! ## Words of the ADSP cores: what issues is performed (R130, R144, R153) -/

namespace Sys2Proof.Machine

variable {s : State} {n : Fin 96} {ops : List SlotOp}

/-- A word that its core issues is performed. -/
theorem Dev.issueWord_of_issues {d : Dev} (h : Issues d n ops) : d.issueWord n ops = d.perform n ops := by
  obtain ⟨hpower, hstate, hending, hbreak, haligned, hlegal, haccess, hloop⟩ := h
  rw [Dev.issueWord]
  rw [if_neg (by simp [hpower, hstate, hending]), if_neg (by rintro ⟨hskip, hhere⟩; simp [hskip, hhere] at hbreak),
    if_neg (by simp [haligned]), if_neg (by simp [hlegal]), haccess]
  exact if_neg (by rintro ⟨hhas, hfull⟩; simp [hhas] at hloop; omega)

/-- A command that names a word answers with the word performed, when its core issues it. -/
theorem answers_of_issues {c : Instr} (hc : exec c s = s.run (fun d => d.issueWord n ops)) (h : Issues s.dev n ops) :
    Answers c s (s.dev.perform n ops) :=
  answers_of_effect _ hc (Dev.issueWord_of_issues h)

/-- Settles O29: each command's meaning is the issue of the word it names. -/
theorem wordsComplete : Obligations.WordsComplete := by
  refine ⟨fun s n rest => ⟨?_, ?_, ?_, ?_⟩, fun s n => ⟨?_, ?_⟩⟩
  · intro form acc x y
    exact ⟨answers_of_issues rfl, answers_of_issues rfl, answers_of_issues rfl⟩
  · intro acc src amount
    exact ⟨answers_of_issues rfl, answers_of_issues rfl, answers_of_issues rfl⟩
  · intro k x y
    exact ⟨answers_of_issues rfl, answers_of_issues rfl, answers_of_issues rfl, answers_of_issues rfl, answers_of_issues rfl,
      answers_of_issues rfl, answers_of_issues rfl, answers_of_issues rfl, answers_of_issues rfl, answers_of_issues rfl,
      answers_of_issues rfl, answers_of_issues rfl⟩
  · intro k x e amount arith acc j
    exact ⟨answers_of_issues rfl, answers_of_issues rfl, answers_of_issues rfl, answers_of_issues rfl, answers_of_issues rfl,
      answers_of_issues rfl⟩
  · intro y size r src an st v toB2 fromB2 k x rest
    exact ⟨answers_of_issues rfl, answers_of_issues rfl, answers_of_issues rfl, answers_of_issues rfl, answers_of_issues rfl,
      answers_of_issues rfl, answers_of_issues rfl⟩
  · intro t cond count desc
    exact ⟨answers_of_issues rfl, answers_of_issues rfl, answers_of_issues rfl, answers_of_issues rfl, answers_of_issues rfl,
      answers_of_issues rfl, answers_of_issues rfl, answers_of_issues rfl, answers_of_issues rfl, answers_of_issues rfl,
      answers_of_issues rfl⟩

end Sys2Proof.Machine

/-! ## Changes of one core: its memory, registers and cycles, and nothing of the other cores (R130, R149) -/

namespace Sys2Proof.Machine

/-- `e` is `d` with core `n` made `c`, as far as the cores, the shared memories and device DRAM go. -/
structure CoreMade (d : Dev) (n : Nat) (c : Core) (e : Dev) : Prop where
  self : e.core n = c
  others : ∀ m : Nat, m ≠ n → e.core m = d.core m
  shm : e.dsp.shm = d.dsp.shm
  dram : e.dram = d.dram

/-- Of two changes of one core the later one stands. -/
theorem CoreMade.trans {d e f : Dev} {n : Nat} {b c : Core} (h : CoreMade d n b e) (g : CoreMade e n c f) : CoreMade d n c f where
  self := g.self
  others m hm := (g.others m hm).trans (h.others m hm)
  shm := g.shm.trans h.shm
  dram := g.dram.trans h.dram

/-- A count in a 64-bit counter is no change of a core. -/
theorem CoreMade.count64 {d e : Dev} {n : Nat} {c : Core} (h : CoreMade d n c e) (lo k : Nat) : CoreMade d n c (e.count64 lo k) :=
  ⟨h.self, h.others, h.shm, h.dram⟩

theorem Dev.setCore_made (d : Dev) (n : Nat) (c : Core) : CoreMade d n c (d.setCore n c) where
  self := tat_tset_self _ _ _ _
  others _ hm := tat_tset_of_ne _ _ hm _
  shm := rfl
  dram := rfl

@[simp] theorem Dev.setCore_core_self (d : Dev) (n : Nat) (c : Core) : (d.setCore n c).core n = c := (d.setCore_made n c).self

/-! ### Cycles -/

/-- CYC_LO of a core that spends `k` cycles passes CYCCMP (R149). -/
abbrev Core.cycHit (c : Core) (k : Nat) : Prop :=
  c.b2 0x15 ≠ 0 ∧ (c.b2 0x15 + 2 ^ 32 - (c.cyc + 1) % 2 ^ 32) % 2 ^ 32 < k

/-- A core that has spent `k` cycles: source 0 is pending when CYC_LO passed CYCCMP. -/
def Core.spent (c : Core) (k : Nat) : Core :=
  { c with cyc := (c.cyc + k) % 2 ^ 64, bank2 := if c.cycHit k then tset 0 c.bank2 0x11 (c.b2 0x11 ||| 1) else c.bank2 }

/-- Cycles spent leave every bank-2 register but the pending sources. -/
theorem Core.spent_b2_of_ne (c : Core) (k : Nat) {j : Nat} (hj : j ≠ 0x11) : (c.spent k).b2 j = c.b2 j := by
  rw [Core.b2, Core.spent]
  split
  · exact tat_tset_of_ne _ _ hj _
  · rfl

/-- Cycles are spent by the core, and counted when it holds a task. -/
theorem Dev.spend_eq (d : Dev) (n k : Nat) :
    d.spend n k = if (d.core n).task.isSome then
        (d.setCore n ((d.core n).spent k)).count64 (Reg.DSP_CORE_BUSY_LO (n / 16) (n % 16)) k
      else d.setCore n ((d.core n).spent k) := by
  by_cases hhit : (d.core n).cycHit k
  · rw [Dev.spend, Core.spent, if_pos hhit, if_pos hhit]
    rfl
  · rw [Dev.spend, Core.spent, if_neg hhit, if_neg hhit]

theorem Dev.spend_made (d : Dev) (n k : Nat) : CoreMade d n ((d.core n).spent k) (d.spend n k) := by
  rw [Dev.spend_eq]
  split
  · exact (d.setCore_made n _).count64 _ _
  · exact d.setCore_made n _

/-! ### What lands at the end of a word (R137) -/

variable {c : Core}

/-- With nothing on its way, nothing lands. -/
theorem Core.land_of_pipe_nil (h : c.pipe = []) : c.land = c := by
  cases c
  subst h
  rfl

/-- A result without delay slots lands at the end of its own word, when nothing else is on its way. -/
theorem Core.land_push_reg (h : c.pipe = []) (k v : Nat) : (c.push (.reg k) v 0).land = c.landReg k v := by
  cases c
  subst h
  rfl

/-- A D register takes the low 32 bits of its result. -/
theorem Core.landReg_of_lt {k : Nat} (hk : k < 0x10) (v : Nat) : c.landReg k v = { c with regs := tset 0 c.regs k (v % 2 ^ 32) } := by
  rw [Core.landReg, if_neg (by omega), if_neg (by omega), if_neg (by omega), if_neg (by omega)]

/-! ### A lone operation that is no flow operation -/

variable {op : SlotOp}

theorem Core.flow_of_slot_ne (hop : issueSlot op ≠ 4) (next : Nat) (taken : Bool) : c.flow next taken op = c := by
  cases op with
  | jmp | call | ret | br | loop | lpop | rti | take | give | giveY | post | fence | cinv => exact (hop rfl).elim
  | _ => rfl

theorem Dev.flowEffect_of_slot_ne (d : Dev) (n : Nat) (hop : issueSlot op ≠ 4) : d.flowEffect n op = d := by
  cases op with
  | jmp | call | ret | br | loop | lpop | rti | take | give | giveY | post | fence | cinv => exact (hop rfl).elim
  | _ => rfl

/-- A core at the next word behind one of `size` bytes, with what is due landed. -/
def Core.passed (c : Core) (size : Nat) : Core := { c.land with pc := (c.pc + size) % 2 ^ 16 }

/-- Outside branches and loops a core goes on behind its word. -/
theorem Core.sequence_of_straight (hop : issueSlot op ≠ 4) (hbranch : c.branch = none) (hloop : c.b2 3 = 0) (size : Nat) (taken : Bool) :
    c.sequence size taken [op] = (c.passed size, 0) := by
  rw [Core.sequence]
  dsimp only [List.foldl]
  rw [Core.flow_of_slot_ne hop, hbranch, hloop]
  rfl

/-- A core as the slots of its word find it: MAC results and FLG are seen one word late (R137). -/
def Core.issuing (c : Core) : Core := { c with accOld := c.acc, flgOld := c.flg, skip := false }

/-- A lone operation: its slot, what lands, the cycles and Hook, one after another. -/
theorem Dev.perform_lone (d : Dev) (n : Nat) (op : SlotOp) :
    d.perform n [op] =
      let p := Dev.slotOp n (d.core n) (d.setCore n (d.core n).issuing, 0) op
      let q := (p.1.core n).sequence 4 (d.takenIn n (d.core n) [op]) [op]
      let e := ((p.1.setCore n q.1).spend n (1 + p.2 + q.2)).flowEffect n op
      if (e.core n).step then e.haltCore n 3 else e := rfl

/-- A lone operation that makes its core `c` at no cost of cycles: what is due lands, the core goes on behind its word and spends one
cycle. -/
theorem Dev.perform_made {d : Dev} {n : Nat} (hslot : issueSlot op ≠ 4) (hbranch : c.branch = none) (hloop : c.b2 3 = 0)
    (hstep : c.land.step = false)
    (hop : Dev.slotOp n (d.core n) (d.setCore n (d.core n).issuing, 0) op = ((d.setCore n (d.core n).issuing).setCore n c, 0)) :
    CoreMade d n ((c.passed 4).spent 1) (d.perform n [op]) := by
  have hmade := (((d.setCore_made n (d.core n).issuing).trans (Dev.setCore_made _ n c)).trans
    (Dev.setCore_made _ n (c.passed 4))).trans (Dev.spend_made _ n 1)
  rw [Dev.setCore_core_self] at hmade
  rw [Dev.perform_lone, hop]
  dsimp only
  rw [Dev.setCore_core_self, Core.sequence_of_straight hslot hbranch hloop]
  dsimp only
  have hgo : ¬ ((c.passed 4).spent 1).step = true := ne_true_of_eq_false hstep
  rwa [Dev.flowEffect_of_slot_ne _ _ hslot, if_neg (hmade.self ▸ hgo)]

end Sys2Proof.Machine

/-! ## The ALU: an operation alone in its word (Table 08-2, R137) -/

namespace Sys2Proof.Machine

variable {c : Core} {d : Dev} {op : AluOp} {n k x y : Nat}

/-- Result and FLG of an ALU operation on a core's D registers. -/
def Core.alu (c : Core) (op : AluOp) (x y : Nat) : Nat × Nat := aluOp op c.aluSat c.flg (c.r x) (c.r y)

/-- A core whose ALU result has set out and whose FLG is set. -/
def Core.aluIssued (c : Core) (op : AluOp) (k x y : Nat) : Core :=
  { c.push (.reg k) (c.alu op x y).1 0 with flg := (c.alu op x y).2 }

/-- The ALU's slot sends the result out and sets FLG. -/
theorem Dev.slotOp_alu (hop : op ≠ .compare) (k x y : Fin 16) :
    Dev.slotOp n (d.core n) (d.setCore n (d.core n).issuing, 0) (.alu op k x y) =
      ((d.setCore n (d.core n).issuing).setCore n ((d.core n).issuing.aluIssued op k x y), 0) := by
  rw [Dev.slotOp]
  dsimp only
  rw [if_neg hop, Dev.aluResult, Dev.modCore, Dev.setCore_core_self]
  rfl

/-- An ALU result lands in its D register at the end of its word. -/
theorem Core.aluIssued_land (hpipe : c.pipe = []) (hk : k < 0x10) :
    (c.issuing.aluIssued op k x y).land =
      { c.issuing with regs := tset 0 c.regs k ((c.alu op x y).1 % 2 ^ 32), flg := (c.alu op x y).2 } :=
  (Core.land_push_reg (c := { c.issuing with flg := (c.alu op x y).2 }) hpipe k _).trans (Core.landReg_of_lt hk _)

/-- An ALU operation alone in its word makes one core: its result lands, and it goes on behind the word after one cycle. -/
theorem Dev.perform_alu (hpipe : (d.core n).pipe = []) (hbranch : (d.core n).branch = none) (hloop : (d.core n).b2 3 = 0)
    (hstep : (d.core n).step = false) (hop : op ≠ .compare) (k x y : Fin 16) :
    CoreMade d n ((((d.core n).issuing.aluIssued op k x y).passed 4).spent 1) (d.perform n [.alu op k x y]) := by
  refine Dev.perform_made (by simp [issueSlot]) hbranch hloop ?_ (Dev.slotOp_alu hop k x y)
  rw [Core.aluIssued_land hpipe k.isLt]
  exact hstep

/-- Settles O30: the word makes one core, in which the ALU's result has landed. -/
theorem aluResultAndFrame : Obligations.AluResultAndFrame := by
  intro s n c op k x y hissues hpipe hbranch hloop hstep hc
  have hanswers : Answers c s (s.dev.perform n [.alu op k x y]) := by
    simp only [List.mem_cons, List.not_mem_nil, or_false, Prod.mk.injEq] at hc
    rcases hc with h | h | h | h | h | h | h | h | h
    all_goals
      obtain ⟨rfl, rfl⟩ := h
      exact answers_of_issues rfl hissues
  have hop : op ≠ .compare := by
    rintro rfl
    simp at hc
  obtain ⟨hself, hothers, hshm, hdram⟩ := Dev.perform_alu hpipe hbranch hloop hstep hop k x y
  rw [Core.passed, Core.aluIssued_land hpipe k.isLt] at hself
  obtain ⟨-, hrunning, -⟩ := hissues
  refine ⟨_, hanswers, ?_⟩
  rw [hself]
  exact ⟨tat_tset_self _ _ _ _, rfl, fun j hj => tat_tset_of_ne _ _ hj _, fun j hj => Core.spent_b2_of_ne _ _ hj, rfl, rfl,
    hrunning, rfl, rfl, rfl, hothers, hshm, hdram⟩

end Sys2Proof.Machine

/-! ## MAC words: a product, alone in its word (Table 08-3, R133, R134) -/

namespace Sys2Proof.Machine

variable {c : Core} {d : Dev} {n form acc x y : Nat}

/-- The signed product of a word in fractional (0) or integer (1) form; the fractional form doubles it. -/
def formProduct (form x y : Nat) : Int := sInt 32 x * sInt 32 y * (if form = 0 then 2 else 1)

/-- A word in fractional or integer form has one product, for its own accumulator. -/
theorem products_of_form_lt (hform : form < 2) : products form acc x y = [(acc, formProduct form x y)] := by
  rw [formProduct]
  obtain rfl | rfl : form = 0 ∨ form = 1 := by omega
  · rfl
  · rw [if_neg (by decide), Int.mul_one]
    rfl

/-- Without saturation an accumulator wraps. -/
theorem accKeep_wraps (v : Int) : (accKeep false v).1 = uNat 72 v := by
  rw [accKeep]
  split
  · rfl
  · rfl

/-- What an accumulator takes from MPY (0), MAC (1) or MSU (2) with product `v`, and whether it overflowed. -/
def Core.macKept (c : Core) (op acc : Nat) (v : Int) : Nat × Bool :=
  if op = 0 then accKeep false v else accKeep c.accSat (macValue op (c.accNow acc) v)

/-- What an accumulator takes wraps for MPY, and is kept as ACCSAT says for MAC and MSU (R134). -/
theorem Core.macKept_fst (c : Core) (op acc : Nat) (v : Int) :
    (c.macKept op acc v).1 =
      if op = 0 then uNat 72 v else (accKeep c.accSat (macValue op (sInt 72 (tat 0 c.acc acc)) v)).1 := by
  rw [Core.macKept, apply_ite Prod.fst, accKeep_wraps, Core.accNow]

/-- A core whose accumulator has taken a result. -/
def Core.accTaken (c : Core) (acc : Nat) (r : Nat × Bool) : Core :=
  { c with acc := tset 0 c.acc acc r.1, flg := accFlags c.flg acc r.2 }

/-- A result in an accumulator is not on its way: nothing lands at the end of its word. -/
theorem Core.accTaken_land (hpipe : c.pipe = []) (acc : Nat) (r : Nat × Bool) :
    (c.issuing.accTaken acc r).land = c.issuing.accTaken acc r := Core.land_of_pipe_nil hpipe

/-- The MAC slot of a word in fractional or integer form changes its accumulator and FLG. -/
theorem Dev.slotOp_product {op : Fin 3} {form acc : Fin 4} {x y : Fin 16} (hform : form.val < 2) :
    Dev.slotOp n (d.core n) (d.setCore n (d.core n).issuing, 0) (.product op form acc x y) =
      ((d.setCore n (d.core n).issuing).setCore n ((d.core n).issuing.accTaken acc ((d.core n).macKept op acc
        (formProduct form ((d.core n).r x) ((d.core n).r y)))), 0) := by
  rw [Dev.slotOp]
  dsimp only
  rw [products_of_form_lt hform, List.foldl_cons, List.foldl_nil, Core.macKept]
  split
  · rw [Dev.accResult, Dev.modCore, Dev.setCore_core_self]
    rfl
  · rw [Dev.accResult, Dev.modCore, Dev.setCore_core_self]
    rfl

/-- A product alone in its word makes one core: its accumulator takes the result, and it goes on behind the word after one cycle. -/
theorem Dev.perform_product {op : Fin 3} {form acc : Fin 4} {x y : Fin 16} (hpipe : (d.core n).pipe = [])
    (hbranch : (d.core n).branch = none) (hloop : (d.core n).b2 3 = 0) (hstep : (d.core n).step = false) (hform : form.val < 2) :
    CoreMade d n ((((d.core n).issuing.accTaken acc ((d.core n).macKept op acc (formProduct form ((d.core n).r x)
      ((d.core n).r y)))).passed 4).spent 1) (d.perform n [.product op form acc x y]) := by
  refine Dev.perform_made (by simp [issueSlot]) hbranch hloop ?_ (Dev.slotOp_product hform)
  rw [Core.accTaken_land hpipe]
  exact hstep

/-- Settles O31: the word makes one core, whose accumulator has taken the result; nothing lands. -/
theorem productResultAndFrame : Obligations.ProductResultAndFrame := by
  intro s n c op form acc x y hissues hpipe hbranch hloop hstep hform hc
  have hanswers : Answers c s (s.dev.perform n [.product op form acc x y]) := by
    simp only [List.mem_cons, List.not_mem_nil, or_false, Prod.mk.injEq] at hc
    rcases hc with h | h | h
    all_goals
      obtain ⟨rfl, rfl⟩ := h
      exact answers_of_issues rfl hissues
  obtain ⟨hself, hothers, -, hdram⟩ :=
    Dev.perform_product (op := op) (acc := acc) (x := x) (y := y) hpipe hbranch hloop hstep hform
  rw [Core.passed, Core.accTaken_land hpipe] at hself
  refine ⟨_, formProduct form ((s.dev.core n).r x) ((s.dev.core n).r y), hanswers, rfl, ?_⟩
  rw [hself]
  exact ⟨(tat_tset_self _ _ _ _).trans (Core.macKept_fst _ _ _ _), fun j hj => tat_tset_of_ne _ _ hj _, fun j => rfl, rfl, rfl, rfl,
    hothers, hdram⟩

end Sys2Proof.Machine

/-! ## Interrupt entry, the cycle match and breakpoints of a core (R149, Table 09-7) -/

namespace Sys2Proof.Machine

variable {c : Core} {d : Dev} {n k j : Nat}

/-! ### Bank-2 registers and what interrupt entry leaves in them -/

@[simp] theorem Core.setB2_b2_self (c : Core) (k v : Nat) : (c.setB2 k v).b2 k = v := tat_tset_self _ _ _ _

theorem Core.setB2_b2_of_ne (c : Core) (h : j ≠ k) (v : Nat) : (c.setB2 k v).b2 j = c.b2 j := tat_tset_of_ne _ _ h _

/-- Interrupt entry writes four bank-2 registers, IRA, IFLG, IEN and IRQP; what the drained core holds does not matter. -/
theorem Core.enter_b2 (c : Core) (k j : Nat) :
    (c.enter k).b2 j = ((((c.drain.setB2 0x12 c.drain.pc).setB2 0x13 c.drain.flg).setB2 0x10 (c.drain.b2 0x10 &&& 0xF)).setB2 0x11
      (mix (2 ^ k) (c.drain.b2 0x11) 0)).b2 j := by
  rw [Core.enter]
  generalize c.drain = e
  rfl

theorem Core.enter_b2_of_apart (h : j < 0x10 ∨ 0x13 < j) : (c.enter k).b2 j = c.drain.b2 j := by
  rw [Core.enter_b2]
  iterate 4 rw [Core.setB2_b2_of_ne _ (by omega)]

theorem Core.enter_ira : (c.enter k).b2 0x12 = c.drain.pc := by
  rw [Core.enter_b2, Core.setB2_b2_of_ne _ (by decide), Core.setB2_b2_of_ne _ (by decide), Core.setB2_b2_of_ne _ (by decide),
    Core.setB2_b2_self]

theorem Core.enter_iflg : (c.enter k).b2 0x13 = c.drain.flg := by
  rw [Core.enter_b2, Core.setB2_b2_of_ne _ (by decide), Core.setB2_b2_of_ne _ (by decide), Core.setB2_b2_self]

/-- The handler's first word stands in the vector table at the source's place. -/
theorem Core.enter_pc : (c.enter k).pc = (c.drain.b2 0x14 + 32 * k) % 2 ^ 16 := by
  rw [← Core.enter_b2_of_apart (c := c) (k := k) (.inr (by decide)), Core.enter]
  generalize c.drain = e
  rfl

/-! ### The commands -/

theorem interruptEntryEffect_of_source (hpower : d.regionOff (24 + n / 16) = false) (hsource : (d.core n).source = some k)
    (hready : (d.core n).interruptible = true) : interruptEntryEffect n d = (d.setCore n ((d.core n).enter k)).spend n 4 := by
  rw [interruptEntryEffect, hsource]
  exact if_pos ⟨hpower, hready⟩

theorem cycMatchEffect_of_running (hpower : d.regionOff (24 + n / 16) = false) (hrunning : (d.core n).state = 1)
    (hcmp : (d.core n).b2 0x15 ≠ 0) :
    cycMatchEffect n d = d.spend n (((d.core n).b2 0x15 + 2 ^ 32 - ((d.core n).cyc + 1) % 2 ^ 32) % 2 ^ 32 + 1) :=
  if_neg (by simp [hpower, hrunning, hcmp])

theorem dspBreakEffect_of_breakHere (hrunning : (d.core n).state = 1) (hending : (d.core n).ending = 0)
    (hskip : (d.core n).skip = false) (hhere : d.breakHere n = true) : dspBreakEffect n d = d.breakCore n :=
  if_pos ⟨hrunning, hending, hskip, hhere⟩

end Sys2Proof.Machine

/-! ## Commands of a core to the units of its skein (R158 to R160) -/

namespace Sys2Proof.Machine

variable {s : State} {d : Dev} {n unit op : Nat} {u : UnitCmd}

/-- A core's slot of a unit once its program has written a command's operands. -/
def Dev.slotFilled (d : Dev) (n unit op : Nat) (u : UnitCmd) : Dev :=
  d.setUnitSlot n unit (mix slotMask (d.unitSlot n unit)
    (op + (if u.irq then 2 ^ 30 else 0) + u.src.toNat * 256 ^ 8 + u.dst.toNat * 256 ^ 12 + u.len.toNat * 256 ^ 16 +
      u.param0.toNat * 256 ^ 20 + u.param1.toNat * 256 ^ 24))

/-- A running core's command fills its slot and sets GO. -/
theorem Dev.unitCommand_of_running (hpower : d.regionOff (24 + n / 16) = false) (hrunning : (d.core n).state = 1)
    (hending : (d.core n).ending = 0) : d.unitCommand n unit op u = (d.slotFilled n unit op u).slotGo n unit :=
  if_neg (by simp [hpower, hrunning, hending])

/-- A command to a unit answers with its slot filled and GO set, when its core runs. -/
theorem answers_of_unitCommand {c : Instr} (hc : exec c s = s.run (fun d => d.unitCommand n unit op u))
    (hpower : s.dev.regionOff (24 + n / 16) = false) (hrunning : (s.dev.core n).state = 1) (hending : (s.dev.core n).ending = 0) :
    Answers c s ((s.dev.slotFilled n unit op u).slotGo n unit) :=
  answers_of_effect _ hc (Dev.unitCommand_of_running hpower hrunning hending)

/-- The oldest command of a unit with power leaves its queue and is published. -/
theorem unitDoneEffect_of_oldest {sk slot : Nat} {rest : List (Nat × Nat)} (hqueue : d.unitQueue sk unit = (n, slot) :: rest)
    (hpower : d.regionOff (24 + sk) = false) {e : Dev} (he : e = d.setUnitQueue sk unit rest) :
    unitDoneEffect sk unit d =
      e.unitPublish n unit slot (if unit = 0 then e.assist n slot else if unit = 1 then e.asrcRun n slot else e.copyRun n slot) := by
  rw [unitDoneEffect, hqueue, he]
  exact if_neg (by simp [hpower])

end Sys2Proof.Machine

/-! ## Control and debug commands of a core (R161, R369) -/

namespace Sys2Proof.Machine

variable {d : Dev} {q : Requester} {a : Access} {n : Nat} {v : Word}

/-! ### Who reaches a core's registers -/

/-- A requester other than the debug port reaches a core's registers through its skein's window. -/
theorem Dev.coreAccess_of_opens (hq : q ≠ .debug) (hopens : Opens d q (24 + n / 16) (d.coreDomain n) a) (f : Access → Dev → Dev) :
    d.coreAccess q n f = f a d := by
  cases q with
  | debug => exact (hq rfl).elim
  | fn _ | core _ | ring _ => exact Dev.window_of_opens hopens none f

theorem Dev.haltClass_of_level (hlevel : d.haltLevel = true) (n : Nat) (f : Dev → Dev) : d.haltClass n f = f d := if_pos hlevel

theorem Dev.haltClass_of_no_level (hlevel : d.haltLevel = false) (n : Nat) (f : Dev → Dev) :
    d.haltClass n f = d.raise Ev.DSP_DEBUG_DENIED n (d.coreDomain n) := if_neg (by simp [hlevel])

/-- A core halted by debug goes on: in TAKE without a step when it was asleep, in its task otherwise. -/
theorem Dev.resumeCore_of_debugHalted (hhalted : d.debugHalted n = true) (step : Bool) :
    d.resumeCore n step = (d.setCore n { d.core n with
      state := if (d.core n).asleep then 0 else 1, skip := true, step := step && !(d.core n).asleep }).hookRun :=
  if_neg (by simp [hhalted])

/-! ### The commands -/

section
variable (hq : q ≠ .debug) (hopens : Opens d q (24 + n / 16) (d.coreDomain n) a)
include hq hopens

/-- A halt of a core with power is a halt-class access. -/
theorem coreHaltEffect_of_opens (hv : wbit v 1 = true) :
    coreHaltEffect q n v d = d.haltClass n (fun d => if (d.core n).state = 2 then d else d.haltCore n 1) := by
  have ⟨_, _, hpower⟩ := hopens
  rw [coreHaltEffect, if_neg (by simp [hpower]), Dev.coreAccess_of_opens hq hopens]
  exact if_neg (by simp [hv])

theorem coreReleaseEffect_of_opens (hv : wbit v 0 = true) : coreReleaseEffect q n v d = d.releaseCore n := by
  rw [coreReleaseEffect, Dev.coreAccess_of_opens hq hopens, if_pos hv]

theorem coreHaltEffect_of_no_level (hlevel : d.haltLevel = false) (hv : wbit v 1 = true) :
    coreHaltEffect q n v d = d.raise Ev.DSP_DEBUG_DENIED n (d.coreDomain n) := by
  rw [coreHaltEffect_of_opens hq hopens hv, Dev.haltClass_of_no_level hlevel]

section
variable (hlevel : d.haltLevel = true)
include hlevel

theorem coreHaltEffect_of_level (hv : wbit v 1 = true) (hstate : (d.core n).state ≠ 2) :
    coreHaltEffect q n v d = d.haltCore n 1 := by
  rw [coreHaltEffect_of_opens hq hopens hv, Dev.haltClass_of_level hlevel, if_neg hstate]

theorem coreResumeEffect_of_level (hv : wbit v 2 = true) (hhalted : d.debugHalted n = true) :
    coreResumeEffect q n v d =
      (d.setCore n { d.core n with state := if (d.core n).asleep then 0 else 1, skip := true, step := false }).hookRun := by
  rw [coreResumeEffect, Dev.coreAccess_of_opens hq hopens, if_pos hv, Dev.haltClass_of_level hlevel,
    Dev.resumeCore_of_debugHalted hhalted, Bool.false_and]

theorem coreStepEffect_of_level (hv : wbit v 3 = true) (hhalted : d.debugHalted n = true) (hawake : (d.core n).asleep = false) :
    coreStepEffect q n v d = (d.setCore n { d.core n with state := 1, skip := true, step := true }).hookRun := by
  rw [coreStepEffect, Dev.coreAccess_of_opens hq hopens, if_pos hv, Dev.haltClass_of_level hlevel]
  have hstep : (true && !(d.core n).asleep) = true := by rw [hawake, Bool.not_false, Bool.and_self]
  dsimp only
  rw [if_neg (ne_true_of_eq_false hawake), Dev.resumeCore_of_debugHalted hhalted, hstep, if_neg (ne_true_of_eq_false hawake)]

theorem regdataAccessEffect_read : regdataAccessEffect q n none d = d.regDataRead n := by
  rw [regdataAccessEffect, Dev.coreAccess_of_opens hq hopens, Dev.haltClass_of_level hlevel]

theorem memDataAccessEffect_read : memDataAccessEffect q n none d = d.memDataRead n := by
  rw [memDataAccessEffect, Dev.coreAccess_of_opens hq hopens]
  exact Dev.haltClass_of_level hlevel n _

theorem regdataAccessEffect_write (hstate : (d.core n).state = 2) :
    regdataAccessEffect q n (some v) d = d.modCore n (fun c =>
      (if (d.regSel n).1 then c.landB2 (d.regSel n).2 v.toNat else c.landReg (d.regSel n).2 v.toNat).drain) := by
  rw [regdataAccessEffect, Dev.coreAccess_of_opens hq hopens, Dev.haltClass_of_level hlevel]
  exact if_neg (by simp [hstate])

/-- Of a halted core each memory is written, P memory by SD0's right and every memory by the level's. -/
theorem memDataAccessEffect_write (hstate : (d.core n).state = 2) : memDataAccessEffect q n (some v) d = d.memDataWrite n v := by
  rw [memDataAccessEffect, Dev.coreAccess_of_opens hq hopens]
  dsimp only
  rw [Dev.haltClass_of_level hlevel, ite_self, if_neg (by simp [hstate])]

end

end

/-- Settles O34: each command's effect, on the branch that its hypotheses choose. -/
theorem coreCommandsComplete : Obligations.CoreCommandsComplete := by
  refine ⟨?_, ?_, ?_, ?_, ?_, ?_, ?_, ?_⟩
  · intro s n k hsource hpower hready
    exact ⟨answers_of_effect (interruptEntryEffect n) rfl (interruptEntryEffect_of_source hpower hsource hready),
      Core.enter_pc, rfl, Core.enter_ira, Core.enter_iflg⟩
  · intro s n hpower hrunning hcmp
    exact answers_of_effect (cycMatchEffect n) rfl (cycMatchEffect_of_running hpower hrunning hcmp)
  · intro s n u c unit op hpower hrunning hending hc
    refine ⟨s.dev.slotFilled n unit op u, rfl, ?_⟩
    simp only [List.mem_cons, List.not_mem_nil, or_false, Prod.mk.injEq] at hc
    rcases hc with h | h | h | h | h | h | h | h | h | h | h | h | h | h
    all_goals
      obtain ⟨rfl, rfl, rfl⟩ := h
      exact answers_of_unitCommand rfl hpower hrunning hending
  · intro s sk unit n slot rest hqueue hpower
    exact ⟨_, rfl, answers_of_effect (unitDoneEffect sk unit) rfl (unitDoneEffect_of_oldest hqueue hpower rfl)⟩
  · intro s q a n v hq hopens hlevel
    refine ⟨fun hv hstate => ?_, fun hv hhalted => ?_, fun hv hhalted hawake => ?_, fun hstate => ⟨?_, ?_, ?_, ?_⟩⟩
    · exact answers_of_effect (coreHaltEffect q n v) rfl (coreHaltEffect_of_level hq hopens hlevel hv hstate)
    · exact answers_of_effect (coreResumeEffect q n v) rfl (coreResumeEffect_of_level hq hopens hlevel hv hhalted)
    · exact answers_of_effect (coreStepEffect q n v) rfl (coreStepEffect_of_level hq hopens hlevel hv hhalted hawake)
    · exact answers_of_effect (regdataAccessEffect q n none) rfl (regdataAccessEffect_read hq hopens hlevel)
    · exact answers_of_effect (regdataAccessEffect q n (some v)) rfl (regdataAccessEffect_write hq hopens hlevel hstate)
    · exact answers_of_effect (memDataAccessEffect q n none) rfl (memDataAccessEffect_read hq hopens hlevel)
    · exact answers_of_effect (memDataAccessEffect q n (some v)) rfl (memDataAccessEffect_write hq hopens hlevel hstate)
  · intro s q a n v hq hopens hv
    exact answers_of_effect (coreReleaseEffect q n v) rfl (coreReleaseEffect_of_opens hq hopens hv)
  · intro s q a n v hq hopens hlevel hv
    exact answers_of_effect (coreHaltEffect q n v) rfl (coreHaltEffect_of_no_level hq hopens hlevel hv)
  · intro s n hrunning hending hskip hhere
    exact answers_of_effect (dspBreakEffect n) rfl (dspBreakEffect_of_breakHere hrunning hending hskip hhere)

end Sys2Proof.Machine

/-! ## The jitter buffer's command window and the cable mix's row (R176, R181) -/

namespace Sys2Proof.Machine

variable {d e : Dev} {q : Requester} {a : Access} {w : Nat} {v : Word}

/-! ### The window's answer -/

section
variable (hopens : Opens d q 34 w a)
include hopens

/-- A command on a record of the window's domain answers what it does. -/
theorem Dev.jbfWindow_of_own {f : Nat → Dev → Dev × Nat} {res : Nat}
    (hown : if wbit v 27 then wfld v 12 0 ≤ 2047 ∧ (w = 0 ∨ d.encDomain (wfld v 12 0) = w) else d.mayLeg w (wfld v 12 0) = true)
    (hf : f (wfld v 12 0) d = (e, res)) : d.jbfWindow q w v f = e.setReg (Reg.JBF_CMD_STAT w) (w32 res) := by
  rw [Dev.jbfWindow, Dev.window_of_opens hopens]
  dsimp only
  by_cases hgroup : wbit v 27 = true
  · rw [if_pos hgroup] at hown ⊢
    obtain ⟨hexists, hdomain⟩ := hown
    rw [if_neg (by omega), if_neg (fun ⟨hwindow, hother⟩ => hdomain.elim hwindow hother), hf]
  · rw [if_neg hgroup] at hown ⊢
    rw [if_neg (by simp [hown]), hf]

/-- A command on a leg outside the window's domain answers DOMAIN and is not performed. -/
theorem Dev.jbfWindow_of_foreign_leg (hleg : wbit v 27 = false) (hforeign : d.mayLeg w (wfld v 12 0) = false)
    (f : Nat → Dev → Dev × Nat) : d.jbfWindow q w v f = d.setReg (Reg.JBF_CMD_STAT w) 1 := by
  rw [Dev.jbfWindow, Dev.window_of_opens hopens]
  dsimp only
  rw [if_neg (by simp [hleg]), if_pos hforeign]
  rfl

end

/-- A command of the window answers with the device `f` makes of a record of its domain, and result 0. -/
theorem answers_of_jbfWindow {c : Instr} {s : State} {f : Nat → Dev → Dev × Nat} (hopens : Opens s.dev q 34 w a)
    (hown : if wbit v 27 then wfld v 12 0 ≤ 2047 ∧ (w = 0 ∨ s.dev.encDomain (wfld v 12 0) = w)
      else s.dev.mayLeg w (wfld v 12 0) = true)
    (hc : exec c s = s.run (fun d => d.jbfWindow q w v f)) (hf : f (wfld v 12 0) s.dev = (e, 0)) :
    Answers c s (e.setReg (Reg.JBF_CMD_STAT w) 0) :=
  answers_of_effect _ hc (Dev.jbfWindow_of_own hopens hown hf)

/-! ### What a command does to a leg -/

/-- WRITE_LIVE of a leg clamps TARGET to the leg's bounds. -/
theorem Dev.jbfWriteLive_of_leg (hleg : wbit v 27 = false) (i : Nat) :
    d.jbfWriteLive w v i = (d.setJrec i (rset (d.jrec i) 48 2
      (max (rf (d.jrec i) 4 2) (min (rf (d.jbfStaged w v) 48 2) (rf (d.jrec i) 6 2)))), 0) :=
  if_neg (by simp [hleg])

/-! ### The mix of a row -/

/-- A row's mix is done once: it is not due again. -/
theorem Dev.mixRow_due (budget : Nat) : (d.mixRow budget).cab.due = false := rfl

theorem cableMixStartEffect_of_due (hdue : d.cab.due = true) (hpower : d.power < 2) :
    cableMixStartEffect d = d.mixRow ((500 - d.fld Reg.CAB_CFG2 7 0) * 40000) :=
  if_neg (by simp [hdue, hpower])

theorem cableMixStartEffect_of_not_due (hdue : d.cab.due = false) : cableMixStartEffect d = d := if_pos (Or.inl hdue)

/-- Settles O39: the window's answer inside and outside its domain, and the row's mix by whether it is due. -/
theorem jitterAndMixCommandsComplete : Obligations.JitterAndMixCommandsComplete := by
  refine ⟨?_, ?_, ?_, ?_⟩
  · rintro s q a w v i hopens rfl hown
    refine ⟨?_, ?_, fun e hcfg => ?_, fun hleg => ?_, fun e hlive => ?_, fun hleg hstate => ?_⟩
    · exact answers_of_jbfWindow hopens hown rfl rfl
    · exact answers_of_jbfWindow hopens hown rfl rfl
    · exact answers_of_jbfWindow hopens hown rfl hcfg
    · exact answers_of_jbfWindow hopens hown rfl (Dev.jbfWriteLive_of_leg hleg _)
    · exact answers_of_jbfWindow hopens hown rfl hlive
    · refine answers_of_jbfWindow hopens hown rfl ?_
      rw [if_neg (by simp [hleg, hstate])]
  · intro s q a w v hopens hleg hforeign c hc
    simp only [List.mem_cons, List.not_mem_nil, or_false] at hc
    rcases hc with rfl | rfl | rfl | rfl | rfl
    all_goals exact answers_of_effect (fun d => d.jbfWindow q w v _) rfl (Dev.jbfWindow_of_foreign_leg hopens hleg hforeign _)
  · intro s hdue hpower
    exact ⟨_, answers_of_effect cableMixStartEffect rfl (cableMixStartEffect_of_due hdue hpower), rfl, Dev.mixRow_due _⟩
  · intro s hdue
    exact answers_of_effect cableMixStartEffect rfl (cableMixStartEffect_of_not_due hdue)

end Sys2Proof.Machine

/-! ## The record windows of VDE, VEN and SQS (R236, R268) -/

namespace Sys2Proof.Machine

variable {d e : Dev} {q : Requester} {a : Access} {w : Nat} {v : Word} {f : Nat → Dev → Dev × Nat}

/-! ### A window's answer on a record of its domain -/

theorem Dev.vdeWindow_of_own (hopens : Opens d q 40 w a) (hown : w = 0 ∨ d.vdeDomain (wfld v 9 0) = w)
    (hf : f (wfld v 9 0) d = (e, 0)) : d.vdeWindow q w v f = e.setReg (Reg.VDE_CMD_STAT w) 0 := by
  rw [Dev.vdeWindow, Dev.window_of_opens hopens]
  dsimp only
  rw [if_neg (fun ⟨hwindow, hother⟩ => hown.elim hwindow hother), hf]
  rfl

theorem Dev.venWindow_of_own (hopens : Opens d q 41 w a) (hown : w = 0 ∨ d.venDomain (wfld v 8 0) = w)
    (hf : f (wfld v 8 0) d = (e, 0)) : d.venWindow q w v f = e.setReg (Reg.VEN_CMD_STAT w) 0 := by
  rw [Dev.venWindow, Dev.window_of_opens hopens]
  dsimp only
  rw [if_neg (fun ⟨hwindow, hother⟩ => hown.elim hwindow hother), hf]
  rfl

/-- The gallery that a command of the SQS window names, by itself or by one of its 256 tiles. -/
def sqsGallery (v : Word) : Nat := if wbit v 27 then wfld v 13 0 / 256 else wfld v 13 0

theorem sqsGallery_of_gallery (hgallery : wbit v 27 = false) : sqsGallery v = wfld v 13 0 := if_neg (by simp [hgallery])

theorem sqsGallery_of_tile (htile : wbit v 27 = true) : sqsGallery v = wfld v 13 0 / 256 := if_pos htile

/-- Every tile index lies in one of the 64 galleries. -/
theorem sqsGallery_lt_of_tile (htile : wbit v 27 = true) : sqsGallery v < 64 := by
  have hindex : wfld v 13 0 < 2 ^ 14 := wfld_lt v 13 0
  rw [sqsGallery_of_tile htile]
  omega

theorem Dev.sqsWindow_of_own (hopens : Opens d q 44 w a) (hexists : sqsGallery v < 64)
    (hown : w = 0 ∨ d.galDomain (sqsGallery v) = w) (hf : f (wfld v 13 0) d = (e, 0)) :
    d.sqsWindow q w v f = e.setReg (Reg.SQS_CMD_STAT w) 0 := by
  rw [sqsGallery] at hexists hown
  rw [Dev.sqsWindow, Dev.window_of_opens hopens]
  dsimp only
  rw [if_neg (by omega), if_neg (fun ⟨hwindow, hother⟩ => hown.elim hwindow hother), hf]
  rfl

section
variable {c : Instr} {s : State}

/-- A command of VDE's window answers with the device `f` makes of a record of its domain, and result 0. -/
theorem answers_of_vdeWindow (hopens : Opens s.dev q 40 w a) (hown : w = 0 ∨ s.dev.vdeDomain (wfld v 9 0) = w)
    (hc : exec c s = s.run (fun d => d.vdeWindow q w v f)) (hf : f (wfld v 9 0) s.dev = (e, 0)) :
    Answers c s (e.setReg (Reg.VDE_CMD_STAT w) 0) :=
  answers_of_effect _ hc (Dev.vdeWindow_of_own hopens hown hf)

theorem answers_of_venWindow (hopens : Opens s.dev q 41 w a) (hown : w = 0 ∨ s.dev.venDomain (wfld v 8 0) = w)
    (hc : exec c s = s.run (fun d => d.venWindow q w v f)) (hf : f (wfld v 8 0) s.dev = (e, 0)) :
    Answers c s (e.setReg (Reg.VEN_CMD_STAT w) 0) :=
  answers_of_effect _ hc (Dev.venWindow_of_own hopens hown hf)

theorem answers_of_sqsWindow (hopens : Opens s.dev q 44 w a) (hexists : sqsGallery v < 64)
    (hown : w = 0 ∨ s.dev.galDomain (sqsGallery v) = w) (hc : exec c s = s.run (fun d => d.sqsWindow q w v f))
    (hf : f (wfld v 13 0) s.dev = (e, 0)) : Answers c s (e.setReg (Reg.SQS_CMD_STAT w) 0) :=
  answers_of_effect _ hc (Dev.sqsWindow_of_own hopens hexists hown hf)

end

/-! ### What the writes take -/

variable {i r : Nat}

/-- WRITE_CFG takes a record without reserved bits and within its ranges while video is not sealed. -/
theorem Dev.vdeWriteCfg_of_good (hr : r = d.regsNat (Reg.VDE_REC w 0) 32) (hbits : vdeCfg.bad r = false)
    (hrange : vdeRange r = true) (hseal : d.sealed 40 = false) :
    d.vdeWriteCfg w i =
      ({ d with vde := { d.vde with recSh := tset 0 d.vde.recSh i (vdeCfg.take (tat 0 d.vde.recSh i) r) } }, 0) := by
  rw [Dev.vdeWriteCfg, ← hr, if_neg (by simp [hbits, hrange]), if_neg (by simp [hseal])]

theorem Dev.venWriteCfg_of_good (hr : r = d.regsNat (Reg.VEN_REC w 0) 32) (hbits : venCfg.bad r = false)
    (hrange : venRange r = true) (hseal : d.sealed 41 = false) :
    d.venWriteCfg w i =
      ({ d with ven := { d.ven with recSh := tset 0 d.ven.recSh i (venCfg.take (tat 0 d.ven.recSh i) r) } }, 0) := by
  rw [Dev.venWriteCfg, ← hr, if_neg (by simp [hbits, hrange]), if_neg (by simp [hseal])]

/-- WRITE_LIVE of an encode context that is on takes an allowed ACTIVE and a BUF_MS within its range. -/
theorem Dev.venWriteLive_of_good (hr : r = d.regsNat (Reg.VEN_REC w 0) 32) (hon : nCodec (d.nrec i) ≠ 0)
    (hbits : venLive.bad r = false) (hactive : activeOk (nCodec (d.nrec i)) (rbits r 74 2 0) = true) (hlo : 10 ≤ rf r 72 2)
    (hhi : rf r 72 2 ≤ 2000) :
    d.venWriteLive w i =
      (d.setNrec i (rsetBits (venLive.take (d.nrec i) r) 75 2 0 (rbits (d.nrec i) 75 2 0 ||| rbits r 75 2 0)), 0) := by
  rw [Dev.venWriteLive, ← hr, if_neg hon, if_neg (by simp [hbits, hactive, hlo, hhi])]

/-- A record is apart from the rest of its context. -/
@[simp] theorem Dev.setNrec_nctx (j : Nat) : (d.setNrec i r).nctx j = d.nctx j := rfl

/-! ### The commands of a gallery and of a tile entry -/

section
variable (hgallery : wbit v 27 = false)
include hgallery

theorem sqsWords_of_gallery : sqsWords v = 16 := if_neg (by simp [hgallery])

theorem sqsCfg_of_gallery : sqsCfg v = galCfg := if_neg (by simp [hgallery])

theorem Dev.sqsActive_of_gallery : d.sqsActive v i = d.gal i := if_neg (by simp [hgallery])

end

section
variable (htile : wbit v 27 = true)
include htile

theorem sqsWords_of_tile : sqsWords v = 4 := if_pos htile

theorem sqsCfg_of_tile : sqsCfg v = tileCfg := if_pos htile

theorem Dev.sqsActive_of_tile : d.sqsActive v i = d.tile i := if_pos htile

end

theorem Dev.sqsWriteCfg_of_gallery (hgallery : wbit v 27 = false) (hr : r = d.regsNat (Reg.SQS_REC w 0) 16)
    (hbits : galCfg.bad r = false) (hrange : galRange r = true) (hseal : d.sealed 44 = false) :
    d.sqsWriteCfg w v i =
      ({ d with sqs := { d.sqs with galSh := tset 0 d.sqs.galSh i (galCfg.take (tat 0 d.sqs.galSh i) r) } }, 0) := by
  rw [Dev.sqsWriteCfg, sqsWords_of_gallery hgallery, sqsCfg_of_gallery hgallery, ← hr]
  dsimp only
  rw [if_neg (by simp [hgallery, hbits, hrange]), if_neg (by simp [hseal]), if_neg (by simp [hgallery])]

theorem Dev.sqsWriteCfg_of_tile (htile : wbit v 27 = true) (hr : r = d.regsNat (Reg.SQS_REC w 0) 4)
    (hbits : tileCfg.bad r = false) (hrange : tileRange r = true) (hseal : d.sealed 44 = false) :
    d.sqsWriteCfg w v i =
      ({ d with sqs := { d.sqs with tileSh := tset 0 d.sqs.tileSh i (tileCfg.take (tat 0 d.sqs.tileSh i) r) } }, 0) := by
  rw [Dev.sqsWriteCfg, sqsWords_of_tile htile, sqsCfg_of_tile htile, ← hr]
  dsimp only
  rw [if_neg (by simp [htile, hbits, hrange]), if_neg (by simp [hseal]), if_pos htile]

/-- Settles O41: each window's answer on a record of its domain, and what the command makes of the record. -/
theorem videoRecordCommandsComplete : Obligations.VideoRecordCommandsComplete := by
  refine ⟨?_, ?_, ?_, ?_⟩
  · intro s q a w v i r hopens hi hr hown
    subst hi
    refine ⟨?_, ?_, fun hbits hrange hseal => ?_, fun hbits => ?_, ⟨_, rfl, ?_⟩⟩
    · exact answers_of_vdeWindow hopens hown rfl rfl
    · exact answers_of_vdeWindow hopens hown rfl rfl
    · exact answers_of_vdeWindow hopens hown rfl (Dev.vdeWriteCfg_of_good hr hbits hrange hseal)
    · refine answers_of_vdeWindow hopens hown rfl ?_
      dsimp only
      rw [← hr, if_neg (by simp [hbits])]
    · exact answers_of_vdeWindow hopens hown rfl rfl
  · intro s q a w v i r hopens hi hr hown
    subst hi
    refine ⟨?_, ?_, fun hbits hrange hseal => ?_, fun hon hbits hactive hlo hhi => ?_, ⟨_, rfl, ?_⟩⟩
    · exact answers_of_venWindow hopens hown rfl rfl
    · exact answers_of_venWindow hopens hown rfl rfl
    · exact answers_of_venWindow hopens hown rfl (Dev.venWriteCfg_of_good hr hbits hrange hseal)
    · exact answers_of_venWindow hopens hown rfl (Dev.venWriteLive_of_good hr hon hbits hactive hlo hhi)
    · refine answers_of_venWindow hopens hown rfl ?_
      rw [Dev.setNrec_nctx]
  · intro s q a w v g r hopens hgallery hg hexists hr hown
    subst hg
    rw [← sqsGallery_of_gallery hgallery] at hexists hown
    refine ⟨?_, ?_, fun hbits hrange hseal => ?_, fun hbits => ?_, ⟨_, rfl, ?_⟩⟩
    · refine answers_of_sqsWindow hopens hexists hown rfl ?_
      rw [sqsWords_of_gallery hgallery, Dev.sqsActive_of_gallery hgallery]
    · refine answers_of_sqsWindow hopens hexists hown rfl ?_
      dsimp only
      rw [sqsWords_of_gallery hgallery, sqsCfg_of_gallery hgallery, Dev.sqsActive_of_gallery hgallery, if_neg (by simp [hgallery])]
    · exact answers_of_sqsWindow hopens hexists hown rfl (Dev.sqsWriteCfg_of_gallery hgallery hr hbits hrange hseal)
    · refine answers_of_sqsWindow hopens hexists hown rfl ?_
      dsimp only
      rw [sqsWords_of_gallery hgallery, ← hr, if_neg (by simp [hgallery]), if_neg (by simp [hbits])]
    · refine answers_of_sqsWindow hopens hexists hown rfl ?_
      dsimp only
      rw [if_neg (by simp [hgallery]), ite_not]
  · intro s q a w v t r hopens htile ht hr hown
    subst ht
    rw [← sqsGallery_of_tile htile] at hown
    refine ⟨?_, ?_, fun hbits hrange hseal => ?_, ⟨_, rfl, ?_⟩⟩
    · refine answers_of_sqsWindow hopens (sqsGallery_lt_of_tile htile) hown rfl ?_
      rw [sqsWords_of_tile htile, Dev.sqsActive_of_tile htile]
    · refine answers_of_sqsWindow hopens (sqsGallery_lt_of_tile htile) hown rfl ?_
      dsimp only
      rw [sqsWords_of_tile htile, sqsCfg_of_tile htile, Dev.sqsActive_of_tile htile, if_pos htile]
    · exact answers_of_sqsWindow hopens (sqsGallery_lt_of_tile htile) hown rfl (Dev.sqsWriteCfg_of_tile htile hr hbits hrange hseal)
    · refine answers_of_sqsWindow hopens (sqsGallery_lt_of_tile htile) hown rfl ?_
      dsimp only
      rw [if_pos htile, ite_not]

end Sys2Proof.Machine

/-! ## Work of the video units (R220 to R225, R235, R246, R264, R266, R267) -/

namespace Sys2Proof.Machine

variable {d : Dev} {k : Nat}

/-! ### Pictures of a decode context and of a tile -/

section
variable {c : Nat} {f : Option Nat} {p : Picture} {h : Config.PicHeader}

/-- A free core takes the picture that was ready first (R220). -/
theorem decodeStartEffect_of_next (hpower : d.regionOff 40 = false) (hfree : d.coreBusy c = false) (hnext : d.vNext c = some k)
    (hstart : d.vStartable c k = some (f, p)) (hheader : d.vHeader k f p = some h) : decodeStartEffect c d = d.vStart c k p h := by
  rw [decodeStartEffect, if_neg (by simp [hpower, hfree])]
  simp only [hnext, hstart, hheader]

/-- A decode that ends with its picture whole and no line of its ring poisoned fails by its bitstream alone (R223, R224). -/
theorem decodeEndEffect_of_whole {x : VdeCtx} {j addr : Nat} {pay : List (List Byte)} {b : Dev}
    (hctx : d.vde.ctxs.find? (fun e => e.2.str.pics.any (fun p => p.core == some c)) = some (k, x))
    (hpic : x.str.expected.find? (fun e => e.2.core == some c) = some (f, p)) (hslot : p.slot = some (j, addr))
    (hheader : d.vHeader k f p = some h) (hwhole : p.whole f = true) (hsound : d.vPoisoned (d.vrec k) = false)
    (hget : d.pictureGet 2 (d.vdeDomain k) (vRing (d.vrec k)).1 (vRing (d.vrec k)).2 p.pkts = (pay, b)) :
    decodeEndEffect c d =
      let r := d.vrec k
      let e := b.draw.2.dramPut 2 (d.vdeDomain k) addr (videoBytes b.draw.1 (min (rf r 32 4) (pictureBytes h.width h.height h.ten)))
      let g := e.draw.2.dramPut 2 (d.vdeDomain k) (rf r 52 8 + if x.copy then 0 else 65536) (videoBytes e.draw.1 65536)
      if Config.bitstreamOk (vCodec r) p.z pay = false then b.vRollback k f p Ev.VDE_BITSTREAM
      else ((g.setPics k ((g.vctx k).str.pics.map (fun y => if y.ts = p.ts then { y with core := none, ended := true } else y))).rest
        (Reg.VDE_CORE_BUSY c)).vCommit k := by
  simp only [decodeEndEffect, hctx, hpic, hslot, hheader, hwhole, hsound, hget, Bool.true_eq_false, Bool.false_eq_true, if_false,
    false_or]

section
variable (hheld : (d.vctx k).str.expected.find? (fun e => e.2.hold && !e.2.dead && !e.2.ended && !e.2.whole e.1) = some (f, p))
include hheld

/-- A picture of a context whose hold has passed is lost and counted; the round has already reported the context (R225). -/
theorem vdePicLostEffect_of_marked (hmark : k ∈ (d.vCount k 96 Reg.VDE_LOST).vde.lostMark) :
    vdePicLostEffect k d = ((d.vCount k 96 Reg.VDE_LOST).vFail k f p).vReady k := by
  rw [vdePicLostEffect, hheld]
  dsimp only
  rw [if_pos hmark]

/-- The first picture of a context that is lost in a round is reported. -/
theorem vdePicLostEffect_of_not_marked {b : Dev} (hb : b = d.vCount k 96 Reg.VDE_LOST) (hmark : k ∉ b.vde.lostMark) :
    vdePicLostEffect k d = ((({ b with vde := { b.vde with lostMark := addMark b.vde.lostMark k } } : Dev).raise Ev.VDE_PIC_LOST k
      (b.vdeDomain k)).vFail k f p).vReady k := by
  rw [vdePicLostEffect, hheld, hb]
  dsimp only
  rw [if_neg (hb ▸ hmark)]

end

/-- A tile's picture whose hold has passed is lost (R264). -/
theorem tilePictureLostEffect_of_held {t : Nat}
    (hheld : (d.tst t).str.expected.find? (fun e => e.2.hold && !e.2.dead && !e.2.whole e.1) = some (f, p)) :
    tilePictureLostEffect t d = (d.tLost t p.ts 1).tReady t := by
  rw [tilePictureLostEffect, hheld]

end

/-! ### Bands of an encoded frame (R246) -/

@[simp] theorem Dev.setNctx_nctx_self (d : Dev) (k : Nat) (x : VenCtx) : (d.setNctx k x).nctx k = x := tat_tset_self _ _ _ _

@[simp] theorem Dev.setBusy_busyOf_self (d : Dev) (a : Nat) (x : Busy) : (d.setBusy a x).busyOf a = x := tat_tset_self _ _ _ _

@[simp] theorem Dev.work_busyOf_self (d : Dev) (a : Nat) : (d.work a).busyOf a = { d.busyOf a with since := some d.tim.clocks } :=
  d.setBusy_busyOf_self a _

section
variable {β : Type} {g : Dev → β} (d : Dev) (hraise : ∀ d code inst dom args, g (Dev.raise d code inst dom args) = g d)
  (hdmc : ∀ (d : Dev) x, g { d with dmc := x } = g d)
include hraise hdmc

/-- What an event and DMC's marks keep, the report of a refused request keeps. -/
theorem Dev.dramReport_keeps (kind port dom addr : Nat) : g (d.dramReport kind port dom addr) = g d := by
  rw [Dev.dramReport]
  split
  · rfl
  · rw [hraise, hdmc]

/-- What counters, events and DMC's marks keep, a read of DRAM keeps. -/
theorem Dev.dramGet_keeps (hcount : ∀ d lo n, g (Dev.count64 d lo n) = g d) (port dom addr n : Nat) :
    g (d.dramGet port dom addr n).2 = g d := by
  rw [Dev.dramGet]
  dsimp only
  split
  · rw [hdmc, Dev.countLines, Dev.forEach_keeps _ g fun _ _ _ => hcount _ _ _]
  · exact d.dramReport_keeps hraise hdmc _ _ _ _

end

/-- The device after a band's rows have been published and read. -/
def Dev.bandRows (d : Dev) (k b : Nat) (f : EncFrame) : Dev :=
  let r := d.nrec k
  let i := nSrc r
  let h := d.ciH i
  let top := b * h / nSpan r
  let rows := (b + 1) * h / nSpan r
  let own := (d.ci i).frame.any (fun c => c.running && c.round == f.round)
  let done := min h ((rows + 15) / 16 * 16)
  let d := if own ∧ d.fld (Reg.CMP_CI_STAT i) 11 0 < done then d.setFld (Reg.CMP_CI_STAT i) 11 0 done else d
  let a := d.ciSurf i (f.surf.getD 0)
  let d := d.forEach (List.range (rows - top)) (fun d y => (d.dramGet 3 (d.venDomain k) (a + (top + y) * d.ciStride i) (d.ciStride i)).2)
  d.forEach (List.range (rows / 2 - top / 2)) (fun d y =>
    (d.dramGet 3 (d.venDomain k) (a + (h + top / 2 + y) * d.ciStride i) (d.ciStride i)).2)

/-- What a band's reads leave of the device: VEN, the clocks, DRAM, the buffer pools and forwarding. -/
def Dev.besideReads (d : Dev) : Ven × Nat × List Host.Cell × Bpm × Fwd := (d.ven, d.tim.clocks, d.dram, d.bpm, d.fwd)

theorem Dev.dramGet_besideReads (d : Dev) (port dom addr n : Nat) : (d.dramGet port dom addr n).2.besideReads = d.besideReads :=
  d.dramGet_keeps (g := Dev.besideReads) (fun _ _ _ _ _ => rfl) (fun _ _ => rfl) (fun _ _ _ => rfl) _ _ _ _

theorem Dev.bandRows_besideReads (d : Dev) (k b : Nat) (f : EncFrame) : (d.bandRows k b f).besideReads = d.besideReads := by
  rw [Dev.bandRows, Dev.forEach_keeps _ Dev.besideReads fun _ _ _ => Dev.dramGet_besideReads _ _ _ _ _,
    Dev.forEach_keeps _ Dev.besideReads fun _ _ _ => Dev.dramGet_besideReads _ _ _ _ _]
  split
  · rfl
  · rfl

/-- A band whose rows have been published starts on its core, when that is free. -/
theorem encBandStartEffect_of_ready {b : Nat} {f : EncFrame} (hframe : (d.nctx k).frame = some f) (hband : b < nSpan (d.nrec k))
    (hnew : b ∉ f.bands) (hfree : nCore (d.nrec k) + b ∉ d.encCores) (hready : d.bandReady k f = true) :
    encBandStartEffect k b d =
      let e := d.bandRows k b f
      (e.setNctx k { e.nctx k with frame := some { f with bands := f.bands ++ [b] } }).work
        (Reg.VEN_CORE_BUSY (nCore (d.nrec k) + b)) := by
  have hgo : ¬(nSpan (d.nrec k) ≤ b ∨ b ∈ f.bands ∨ nCore (d.nrec k) + b ∈ d.encCores ∨ d.bandReady k f = false) := by
    simp [hband, hnew, hfree, hready]
  rw [encBandStartEffect, hframe]
  exact if_neg hgo

/-! ### The end of an encoded frame (R235) -/

/-- The device after the bands of a frame have ended: their cores rest, and the context has no frame. -/
def Dev.bandsRest (d : Dev) (k : Nat) (f : EncFrame) : Dev :=
  let r := d.nrec k
  let c := d.forEach f.bands (fun d b => d.rest (Reg.VEN_CORE_BUSY (nCore r + b)))
  c.setNctx k { c.nctx k with frame := none }

section
variable {f : EncFrame} {out : List (Nat × List Media)} {b e g : Dev} (hframe : (d.nctx k).frame = some f)
  (hbands : nSpan (d.nrec k) ≤ f.bands.length) (hmedia : (d.bandsRest k f).encMedia k f = (out, b))
  (hwritten : e = b.draw.2.dramPut 3 (d.venDomain k) (rf (d.nrec k) 24 8) (videoBytes b.draw.1 (rf (d.nrec k) 32 4)))
include hframe hbands hmedia hwritten

/-- Without buffers a frame's packets are dropped, and key frames are due (R235). -/
theorem encodeDoneEffect_of_refused
    (hchains : e.frameChains 40 (e.fld Reg.VEN_TX_POOL 2 0) (d.venDomain k) (out.flatMap (fun x => x.2)) [] = (none, g)) :
    encodeDoneEffect k d =
      (g.setNctx k { g.nctx k with due := (g.nctx k).due |||
        (if nCodec (d.nrec k) = 1 ∧ nSim (d.nrec k) = true then (f.encs.map (fun e => 2 ^ e.1)).sum else 7) }).raise Ev.VEN_NONE k
          (d.venDomain k) := by
  rw [encodeDoneEffect, hframe]
  dsimp only [Dev.bandsRest] at hmedia ⊢
  rw [if_neg (by omega), hmedia]
  dsimp only
  rw [← hwritten, hchains]

/-- With buffers a frame is counted and its packets go to the stitcher and to forwarding (R235, R260). -/
theorem encodeDoneEffect_of_granted {cs : List Nat}
    (hchains : e.frameChains 40 (e.fld Reg.VEN_TX_POOL 2 0) (d.venDomain k) (out.flatMap (fun x => x.2)) [] = (some cs, g)) :
    encodeDoneEffect k d =
      let r := d.nrec k
      let h := (g.forEach (f.encs.zip out) (fun d x => d.encDone k x.1 ((x.2.2.map (fun m => m.payload.length)).sum))).nCount k 84
        Reg.VEN_FRAMES
      let i := if f.encs.any (fun x => x.2.1) then h.nCount k 96 Reg.VEN_KEYS else h
      let j := i.setNctx k { i.nctx k with made := ((i.nctx k).made + (out.flatMap (fun x => x.2)).length) % 2 ^ 16 }
      (j.sqsFromVen k (i.nctx k).made (((out.flatMap (fun x => x.2)).map (fun m => m.ts)).headD 0)
        ((out.headD (0, [])).2.map (fun m => m.payload))).forEach ((out.flatMap (fun x => x.2.map (fun m => (x.1, m)))).zip cs)
          (fun d x => (d.produce (rbits r 10 12 0) ((rbits r 12 4 0 + x.1.1) % 32) x.1.2 x.2).giveBack 40 x.2) := by
  rw [encodeDoneEffect, hframe]
  dsimp only [Dev.bandsRest] at hmedia ⊢
  rw [if_neg (by omega), hmedia]
  dsimp only
  rw [← hwritten, hchains]

end

/-! ### The end of a gallery's frame (R266, R267) -/

/-- A gallery's running frame ends: its packets go to forwarding, or without buffers a key frame is due. -/
theorem sqsFrameDoneEffect_of_running {g : Nat} {f : GalFrame} {ok : Bool} {b : Dev} (hframe : (d.gst g).frame = some f)
    (hrunning : f.running = true)
    (hemit : d.draw.2.emitFrame 41 (d.draw.2.fld Reg.SQS_TX_POOL 2 0) (d.galDomain g) (rbits (d.gal g) 10 12 0) (rbits (d.gal g) 12 4 0)
      (codedMedia d.draw.1 (rf (d.gal g) 14 2) (gCodec (d.gal g))
        (d.draw.2.houseIndex 90000 (d.draw.2.boundary true f.round / 2 ^ 40)) 0 0 f.key true) = (ok, b)) :
    sqsFrameDoneEffect g d =
      let e := if f.key then (b.gCount g 36 Reg.SQS_FRAMES 1).setGal g (rcount ((b.gCount g 36 Reg.SQS_FRAMES 1).gal g) 40)
        else b.gCount g 36 Reg.SQS_FRAMES 1
      let i := if ok then e.setGst g { e.gst g with count := (e.gst g).count + 1 }
        else (b.setGst g { b.gst g with due := true }).raise Ev.SQS_NONE g (d.galDomain g)
      ((i.setGst g { i.gst g with frame := none }).rest (Reg.SQS_UNIT_BUSY (gUnit (d.gal g)))).unitNext (gUnit (d.gal g)) := by
  rw [sqsFrameDoneEffect, hframe]
  dsimp only
  rw [if_neg (by simp [hrunning]), hemit]

/-- Settles O42, clause by clause in the order of the statement. -/
theorem videoWorkCommandsComplete : Obligations.VideoWorkCommandsComplete := by
  refine ⟨?_, ?_, ?_, ?_, ?_, ?_, ?_⟩
  · intro s core k f p h hpower hfree hnext hstart hheader
    exact answers_of_effect (decodeStartEffect core) rfl (decodeStartEffect_of_next hpower hfree hnext hstart hheader)
  · intro s core k j addr x f p h hctx hpic hslot hheader hwhole hsound
    exact ⟨_, _, _, _, _, rfl, rfl, rfl, rfl, answers_of_effect (decodeEndEffect core) rfl
      (decodeEndEffect_of_whole hctx hpic hslot hheader hwhole hsound rfl)⟩
  · intro s k f p hheld
    exact ⟨_, rfl, fun hmark => answers_of_effect (vdePicLostEffect k) rfl (vdePicLostEffect_of_marked hheld hmark),
      fun hmark => answers_of_effect (vdePicLostEffect k) rfl (vdePicLostEffect_of_not_marked hheld rfl hmark)⟩
  · intro s t f p hheld
    exact answers_of_effect (tilePictureLostEffect t) rfl (tilePictureLostEffect_of_held hheld)
  · intro s k b f hframe hband hnew hfree hready
    have hreads := s.dev.bandRows_besideReads k b f
    simp only [Dev.besideReads, Prod.mk.injEq] at hreads
    obtain ⟨hven, hclocks, hdram, hbpm, hfwd⟩ := hreads
    refine ⟨_, answers_of_effect (encBandStartEffect k b) rfl (encBandStartEffect_of_ready hframe hband hnew hfree hready),
      ?_, ?_, (congrArg Ven.recs hven :), hdram, hbpm, hfwd⟩
    · exact congrArg VenCtx.frame (Dev.setNctx_nctx_self _ _ _)
    · exact (congrArg Busy.since (Dev.work_busyOf_self _ _)).trans (congrArg some hclocks)
  · intro s k f hframe hbands
    rcases hmedia : (s.dev.bandsRest k f).encMedia k f with ⟨out, b⟩
    refine ⟨_, _, out, _, b, _, rfl, rfl, hmedia.symm, rfl, rfl, ?_⟩
    split
    · next g hchains =>
      exact answers_of_effect (encodeDoneEffect k) rfl (encodeDoneEffect_of_refused hframe hbands hmedia rfl hchains)
    · next cs g hchains =>
      exact ⟨_, _, _, rfl, rfl, rfl,
        answers_of_effect (encodeDoneEffect k) rfl (encodeDoneEffect_of_granted hframe hbands hmedia rfl hchains)⟩
  · intro s g f hframe hrunning
    exact ⟨_, _, _, _, _, _, rfl, rfl, rfl, rfl, rfl,
      answers_of_effect (sqsFrameDoneEffect g) rfl (sqsFrameDoneEffect_of_running hframe hrunning rfl)⟩

end Sys2Proof.Machine

/-! ## Display outputs and their AUX channels (R252 to R256) -/

namespace Sys2Proof.Machine

variable {d : Dev} {q : Requester} {a : Access} {o : Nat} {v : Word}

/-! ### The register window of an output -/

theorem Dev.dpWindow_of_opens (hopens : Opens d q 45 (d.dpDomain o) a) (f : Dev → Dev) : d.dpWindow q o f = f d := by
  obtain ⟨haccess, hmay, hpower⟩ := hopens
  rw [Dev.dpWindow, Dev.by_of_access haccess, if_neg (by simp [hpower]), if_pos hmay]

/-- A command of an output's window that opens answers the device `f` makes. -/
theorem answers_of_dpWindow {c : Instr} {s : State} {e : Dev} {f : Dev → Dev} (hopens : Opens s.dev q 45 (s.dev.dpDomain o) a)
    (hc : exec c s = s.run (fun d => d.dpWindow q o f)) (hf : f s.dev = e) : Answers c s e :=
  answers_of_effect _ hc ((Dev.dpWindow_of_opens hopens f).trans hf)

/-- A DISABLED output whose timing is accepted waits for HPD (R251, R252). -/
theorem Dev.dpOn_of_accepted (hlife : d.retired = false) (hstate : d.dpState o = 0)
    (hok : (d.setBit (Reg.DPO_CTL o) 0 true).dpOk o = true) : d.dpOn o = (d.setBit (Reg.DPO_CTL o) 0 true).dpEnter o 1 := by
  rw [Dev.dpOn, if_neg (by simp [hlife, hstate])]
  exact if_pos hok

theorem Dev.dpRetrain_of_active (hstate : d.dpState o = 3) : d.dpRetrain o = (d.dpEnter o 2).count (Reg.DPO_RETRAINS o) :=
  if_pos hstate

theorem Dev.dpRetrain_of_failed (hstate : d.dpState o = 4) (hhpd : d.bit (Reg.DPO_STAT o) 4 = true) :
    d.dpRetrain o = d.dpEnter o 2 := by
  rw [Dev.dpRetrain, if_neg (by omega), if_pos ⟨hstate, hhpd⟩]

/-- HPD low for 2 ms sends an enabled output back to WAIT_HPD; out of ACTIVE the link is lost. -/
theorem hpdLowEffect_of_enabled (hstate : d.dpState o ≠ 0) :
    hpdLowEffect o d =
      let e := ((d.dpEnter o 1).setBit (Reg.DPO_STAT o) 4 false).raise Ev.DPO_HPD o (d.dpDomain o) [0]
      if d.dpState o = 3 then e.raise Ev.DPO_LINK_LOST o (e.dpDomain o) else e :=
  if_neg hstate

/-! ### Scanning (R254, R255) -/

/-- PANIC bits are registers of DMC: raising or clearing one leaves every compositor as it is. -/
theorem Dev.setPanic_ci (d : Dev) (p : Nat) (on : Bool) (i : Nat) : (d.setPanic p on).ci i = d.ci i := by
  have hbits := Dev.forEach_keeps d Dev.cmp (f := fun d k => d.setBit (Reg.DMC_PANIC_STAT k) p on) (l := List.range 8)
    fun _ _ _ => rfl
  have hkeeps : (d.setPanic p on).cmp = d.cmp := by
    rw [Dev.setPanic]
    split
    · exact hbits
    · exact hbits
  rw [Dev.ci, hkeeps, ← Dev.ci]

/-- The device after output `o`, with record `x`, has taken the newest complete frame of compositor `i`: a frame taken once more
than the divisor asks is counted as repeated, and its surface is read. -/
def Dev.frameTaken (d : Dev) (o i : Nat) (x : Dpo) : Dev :=
  let z := (d.ciNewest i, (d.reg (Reg.CMP_CI_FRAME i)).toNat)
  let n := if x.scan = some z then x.takes + 1 else 1
  let c := if n = d.ciDiv i + 1 then d.count (Reg.DPO_REPEAT o) else d
  let e := (c.setDp o { x with scan := some z, takes := n, underMark := false }).count (Reg.DPO_FRAMES o)
  (e.dramGet (6 + o) (e.dpDomain o) (e.ciSurf i z.1) (e.ciStride i * e.ciH i * 3 / 2)).2

/-- A vertical blank of an ACTIVE output takes a frame where its compositor has completed one, and scans nothing where not. -/
theorem vblankEffect_of_active (hstate : d.dpState o = 3) :
    vblankEffect o d =
      let b := d.setPanic (6 + o) false
      ((if (d.ci (d.dpSrc o)).complete then b.frameTaken o (d.dpSrc o) (d.dp o)
        else b.setDp o { d.dp o with scan := none, takes := 0, underMark := false }).pullCheck o).lockCheck o := by
  rw [vblankEffect, if_neg (by simp [hstate])]
  dsimp only
  rw [Dev.setPanic_ci]
  rfl

theorem Dev.underflow_of_scanning (hstate : d.dpState o = 3) (hscan : (d.dp o).scan ≠ none) :
    d.underflow o =
      let b := d.count (Reg.DPO_UNDERFLOW_LINES o)
      let e := if 0 < b.fld (Reg.DPO_PANIC o) 4 0 then b.setPanic (6 + o) true else b
      if (e.dp o).underMark then e
      else (e.setDp o { e.dp o with underMark := true }).raise Ev.DPO_UNDERFLOW o (e.dpDomain o) :=
  if_neg (by simp [hstate, hscan])

/-! ### AUX transactions (R256) -/

theorem Dev.auxStart_of_idle (hidle : d.bit (Reg.DPO_AUX_STAT o) 31 = false) (op : Nat) (v : Word) :
    d.auxStart o op v = (d.setReg (Reg.DPO_AUX_STAT o) (w32 (2 ^ 31))).setDp o
      { d.dp o with aux := some { op := op, addr := wfld v 19 0, len := wfld v 27 24 + 1,
                                  bytes := leBytes (wfld v 27 24 + 1) (d.regsNat (Reg.DPO_AUX_DATA o 0) 4),
                                  waiting := d.dpState o == 2 } } :=
  if_neg (by simp [hidle])

section
variable {x : Aux} (haux : (d.dp o).aux = some x)
include haux

theorem Dev.auxGo_of_pending : d.auxGo o = d.setDp o { d.dp o with aux := some { x with waiting := false } } := by
  rw [Dev.auxGo, haux, Option.map_some]

variable (hsent : x.waiting = false)
include hsent

/-- The ACK of a read puts its bytes in DPO_AUX_DATA. -/
theorem auxReplyEffect_ack_of_read (hread : x.op % 2 = 1) (bytes : List Byte) :
    auxReplyEffect o 0 bytes d = (d.setRegsNat (Reg.DPO_AUX_DATA o 0)
      (leNat (patch (leBytes 16 (d.regsNat (Reg.DPO_AUX_DATA o 0) 4)) 0 (bytes.take x.len))) 4).auxEnd o 0 := by
  rw [auxReplyEffect, haux]
  dsimp only
  rw [if_neg (by simp [hsent]), if_neg (by decide), if_pos ⟨rfl, hread⟩]

theorem auxReplyEffect_ack_of_write (hwrite : x.op % 2 = 0) (bytes : List Byte) : auxReplyEffect o 0 bytes d = d.auxEnd o 0 := by
  rw [auxReplyEffect, haux]
  dsimp only
  rw [if_neg (by simp [hsent]), if_neg (by decide), if_neg (by omega)]

theorem auxReplyEffect_nack (bytes : List Byte) : auxReplyEffect o 1 bytes d = d.auxEnd o 1 := by
  rw [auxReplyEffect, haux]
  dsimp only
  rw [if_neg (by simp [hsent]), if_neg (by decide), if_neg (by omega)]

theorem auxReplyEffect_defer (bytes : List Byte) :
    auxReplyEffect o 2 bytes d = if 7 ≤ x.defers then d.auxEnd o 2
      else d.setDp o { d.dp o with aux := some { x with defers := x.defers + 1, waiting := true } } := by
  rw [auxReplyEffect, haux]
  dsimp only
  rw [if_neg (by simp [hsent]), if_pos rfl]

theorem auxTimeoutEffect_of_sent : auxTimeoutEffect o d = d.auxEnd o 3 :=
  if_pos (by simp [haux, hsent])

end

/-- Settles O43, clause by clause in the order of the statement. -/
theorem displayCommandsComplete : Obligations.DisplayCommandsComplete := by
  refine ⟨?_, ?_, ?_, ?_, ?_, ?_, ?_, ?_, ?_, ?_, ?_, ?_⟩
  · intro s q a o hopens hlife
    refine ⟨fun hstate hok => ?_, ?_⟩
    · exact answers_of_dpWindow hopens rfl (Dev.dpOn_of_accepted hlife hstate hok)
    · exact answers_of_dpWindow hopens rfl (if_neg (by simp [hlife]))
  · intro s q a o hopens
    refine ⟨fun hstate => ?_, fun hstate hhpd => ?_⟩
    · exact answers_of_dpWindow hopens rfl (Dev.dpRetrain_of_active hstate)
    · exact answers_of_dpWindow hopens rfl (Dev.dpRetrain_of_failed hstate hhpd)
  · intro s o hstate
    exact answers_of_effect (dpoHpdEffect o) rfl (if_pos hstate)
  · intro s o hstate
    exact ⟨_, _, rfl, rfl, answers_of_effect (hpdLowEffect o) rfl (hpdLowEffect_of_enabled hstate)⟩
  · intro s o hstate
    refine ⟨fun levels => ⟨_, _, rfl, rfl, ?_⟩, fun cause => ?_⟩
    · exact answers_of_effect (dpoLinkUpEffect o levels.toNat) rfl (if_pos hstate)
    · exact answers_of_effect (dpoTrainFailEffect o cause) rfl (if_pos hstate)
  · intro s o hstate hhpd
    exact answers_of_effect (trainRetryEffect o) rfl (if_pos ⟨hstate, hhpd⟩)
  · intro s o hstate
    exact ⟨_, rfl, answers_of_effect (hpdIrqEffect o) rfl (if_pos hstate)⟩
  · rintro s o i b x hstate rfl rfl rfl
    have heffect := vblankEffect_of_active hstate
    refine ⟨_, rfl, fun hnone => ?_, fun hcomplete => ⟨_, _, _, rfl, rfl, rfl, _, rfl, ?_⟩⟩
    · rw [hnone] at heffect
      exact answers_of_effect (vblankEffect o) rfl heffect
    · rw [hcomplete] at heffect
      exact answers_of_effect (vblankEffect o) rfl heffect
  · intro s o hstate hscan
    exact ⟨_, _, rfl, rfl, answers_of_effect (dpoUnderflowEffect o) rfl (Dev.underflow_of_scanning hstate hscan)⟩
  · intro s q a o v hopens hidle c hc
    simp only [List.mem_cons, List.not_mem_nil, or_false] at hc
    rcases hc with rfl | rfl | rfl | rfl
    all_goals exact answers_of_dpWindow hopens rfl (Dev.auxStart_of_idle hidle _ v)
  · intro s o x bytes haux hsent
    refine ⟨fun hread => ?_, fun hwrite => ?_, ?_, fun hfew => ?_, fun hlast => ?_, ?_⟩
    · exact answers_of_effect (auxReplyEffect o 0 bytes) rfl (auxReplyEffect_ack_of_read haux hsent hread bytes)
    · exact answers_of_effect (auxReplyEffect o 0 bytes) rfl (auxReplyEffect_ack_of_write haux hsent hwrite bytes)
    · exact answers_of_effect (auxReplyEffect o 1 bytes) rfl (auxReplyEffect_nack haux hsent bytes)
    · exact answers_of_effect (auxReplyEffect o 2 bytes) rfl ((auxReplyEffect_defer haux hsent bytes).trans (if_neg (by omega)))
    · exact answers_of_effect (auxReplyEffect o 2 bytes) rfl ((auxReplyEffect_defer haux hsent bytes).trans (if_pos hlast))
    · exact answers_of_effect (auxTimeoutEffect o) rfl (auxTimeoutEffect_of_sent haux hsent)
  · intro s o x haux hstate
    exact answers_of_effect (auxDeferRetryEffect o) rfl ((if_neg hstate).trans (Dev.auxGo_of_pending haux))

end Sys2Proof.Machine

/-! ## The command windows of FWD and LEG (R269, R273, R287, R289) -/

namespace Sys2Proof.Machine

variable {d e : Dev} {q : Requester} {a : Access} {w : Nat} {v : Word}

/-! ### The windows' answers inside their domain -/

theorem Dev.fwdWindow_of_own {ok : Bool} {f : Dev → Dev × Nat} (hopens : Opens d q 36 w a) (hown : ok = true) (hf : f d = (e, 0)) :
    d.fwdWindow q w ok f = e.setReg (Reg.FWD_CMD_STAT w) 0 := by
  rw [Dev.fwdWindow, Dev.window_of_opens hopens, if_neg (by simp [hown]), hf]
  rfl

theorem Dev.legWindow_of_own {f : Dev → Dev × Nat} (hopens : Opens d q 35 w a) (hown : d.mayLeg w (cmdLeg v) = true)
    (hf : f d = (e, 0)) : d.legWindow q w v f = e.setReg (Reg.LEG_CMD_STAT w) 0 := by
  rw [Dev.legWindow, Dev.window_of_opens hopens, if_neg (by simp [hown]), hf]
  rfl

section
variable {c : Instr} {s : State}

/-- A command on an entry that window 0 or the entry's own domain names answers with the device `f` makes, and result 0. -/
theorem answers_of_subWindow {f : Nat → Dev → Dev × Nat} (hopens : Opens s.dev q 36 w a)
    (hown : w = 0 ∨ s.dev.subIn w (wfld v 19 0) = true) (hc : exec c s = s.run (fun d => d.subWindow q w v f))
    (hf : f (wfld v 19 0) s.dev = (e, 0)) : Answers c s (e.setReg (Reg.FWD_CMD_STAT w) 0) :=
  answers_of_effect _ hc (Dev.fwdWindow_of_own hopens (by simpa using hown) hf)

/-- A command on a source `8L + s` of a leg of the window's domain answers with the device `f` makes, and result 0. -/
theorem answers_of_srcWindow {f : Nat → Dev → Dev × Nat} (hopens : Opens s.dev q 36 w a)
    (hown : s.dev.mayLeg w (wfld v 15 0 / 8) = true) (hc : exec c s = s.run (fun d => d.srcWindow q w v f))
    (hf : f (wfld v 15 0) s.dev = (e, 0)) : Answers c s (e.setReg (Reg.FWD_CMD_STAT w) 0) :=
  answers_of_effect _ hc (Dev.fwdWindow_of_own hopens hown hf)

theorem answers_of_legWindow {f : Dev → Dev × Nat} (hopens : Opens s.dev q 35 w a) (hown : s.dev.mayLeg w (cmdLeg v) = true)
    (hc : exec c s = s.run (fun d => d.legWindow q w v f)) (hf : f s.dev = (e, 0)) :
    Answers c s (e.setReg (Reg.LEG_CMD_STAT w) 0) :=
  answers_of_effect _ hc (Dev.legWindow_of_own hopens hown hf)

end

/-! ### What the writes take -/

/-- SUB_WRITE takes a staged entry without reserved bits while the entry is disabled. -/
theorem Dev.subWrite_of_disabled {i : Nat} (hbits : d.subStaged w &&& subReserved = 0) (hdisabled : subEn (d.sub i) = false) :
    d.subWrite w i = (d.setSub i (rsetBits (rset (d.sub i) 0 4 (rf (d.subStaged w) 0 4)) 4 4 0 16), 0) := by
  rw [Dev.subWrite, if_neg (by simp [hbits]), if_neg (by simp [hdisabled])]

section
variable (hheader : wbit v 27 = false)
include hheader

/-- WRITE_CFG of a leg header without reserved bits, while nothing seals it, reaches the header's shadow. -/
theorem Dev.legCfg_of_header (hbits : hdrCfg.bad (d.legStaged w v) = false) (hseal : d.sealed 35 = false) :
    d.legCfg w v = ({ d with leg := { d.leg with
      hdrSh := tset hdrReset d.leg.hdrSh (cmdLeg v) (hdrCfg.take (d.legShadow v) (d.legStaged w v)) } }, 0) := by
  have hrecord : ¬ wbit v 27 = true := by simp [hheader]
  rw [Dev.legCfg, if_neg hrecord, if_neg (by simp [hbits]), if_neg (by simp [hseal])]
  exact congrArg (·, 0) (if_neg hrecord)

/-- WRITE_LIVE of a leg header without reserved bits also writes the rate of the leg's egress (R286). -/
theorem Dev.legLive_of_header (hbits : hdrLive.bad (d.legStaged w v) = false) :
    d.legLive w v = ((d.setHdr (cmdLeg v) (hdrLive.take (d.hdr (cmdLeg v)) (d.legStaged w v))).lvWrite
      (Reg.EGS_LEG_RATE (cmdLeg v)) (w32 (legRate (rf (d.legStaged w v) 8 4))), 0) := by
  rw [Dev.legLive, if_neg (by simp [hheader]), if_neg (by simp [hbits])]

end

section
variable (hstream : wbit v 27 = true)
include hstream

/-- WRITE_CFG of an outbound stream without reserved bits, while nothing seals it, reaches the stream's shadow. -/
theorem Dev.legCfg_of_stream (hbits : outCfg.bad (d.legStaged w v) = false) (hseal : d.sealed 35 = false) :
    d.legCfg w v = ({ d with leg := { d.leg with
      outSh := tset 0 d.leg.outSh (cmdOut v) (outCfg.take (d.legShadow v) (d.legStaged w v)) } }, 0) := by
  rw [Dev.legCfg, if_pos hstream, if_neg (by simp [hbits]), if_neg (by simp [hseal])]
  exact congrArg (·, 0) (if_pos hstream)

/-- WRITE_LIVE of an outbound stream takes a record without reserved bits while no entry owns the stream (R287). -/
theorem Dev.legLive_of_stream (hbits : outLive.bad (d.legStaged w v) = false)
    (howned : outOwned (d.outRec (cmdOut v)) = false) :
    d.legLive w v = (d.setOut (cmdOut v) (outLive.take (d.outRec (cmdOut v)) (d.legStaged w v)), 0) := by
  rw [Dev.legLive, if_pos hstream, if_neg (by simp [hbits, howned])]

end

/-- SUSPEND of a leg that receives takes it to SUSPENDED and flushes both its leaves (R289, R293). -/
theorem Dev.legSuspend_of_receives {l : Nat} (hreceives : d.legReceives l = true) :
    d.legSuspend l = (d.setLegState l 3).flushLeg l := if_pos hreceives

/-- Settles O44, window by window: each command on a record of its domain, by what it makes of the record. -/
theorem forwardingRecordCommandsComplete : Obligations.ForwardingRecordCommandsComplete := by
  refine ⟨?_, ?_, ?_⟩
  · rintro s q a w v i n hopens rfl rfl hown
    refine ⟨?_, fun hbits hdisabled => ?_, fun hbits => ?_, ⟨_, rfl, ?_⟩⟩
    · exact answers_of_subWindow hopens hown rfl rfl
    · exact answers_of_subWindow hopens hown rfl (Dev.subWrite_of_disabled hbits hdisabled)
    · exact answers_of_subWindow hopens hown rfl (if_neg (not_not_intro hbits))
    · exact answers_of_subWindow hopens hown rfl rfl
  · intro s q a w v hopens hown
    refine ⟨?_, fun hbyte => ?_⟩
    · exact answers_of_srcWindow hopens hown rfl rfl
    · exact answers_of_srcWindow hopens hown rfl (if_neg (Nat.not_le.mpr hbyte))
  · intro s q a w v hopens hown
    refine ⟨?_, ?_, ?_, ?_, fun hheader hbits => ?_, fun hstream hbits howned => ?_, fun hreceives => ?_, fun hsuspended => ?_⟩
    · exact answers_of_legWindow hopens hown rfl rfl
    · exact answers_of_legWindow hopens hown rfl rfl
    · rintro n rfl hheader hbits hseal
      exact answers_of_legWindow hopens hown rfl (Dev.legCfg_of_header hheader hbits hseal)
    · rintro n rfl hstream hbits hseal
      exact answers_of_legWindow hopens hown rfl (Dev.legCfg_of_stream hstream hbits hseal)
    · exact answers_of_legWindow hopens hown rfl (Dev.legLive_of_header hheader hbits)
    · exact answers_of_legWindow hopens hown rfl (Dev.legLive_of_stream hstream hbits howned)
    · exact answers_of_legWindow hopens hown rfl (congrArg (·, 0) (Dev.legSuspend_of_receives hreceives))
    · exact answers_of_legWindow hopens hown rfl (congrArg (·, 0) (if_pos hsuspended))

end Sys2Proof.Machine

/-! ## The queue of commands, reset, and what every step keeps (R64, R399) -/

namespace Sys2Proof.Machine

theorem step_of_cons {s : State} {c : Instr} {rest : List Instr} (h : s.pending = c :: rest) :
    step s = exec c { s with pending := rest } := by
  rw [step, h]

theorem step_of_nil {s : State} (h : s.pending = []) : step s = .next s := by
  rw [step, h]

/-- Settles O1, by whether a command waits. -/
theorem stepTakesTheFront : Obligations.StepTakesTheFront := ⟨fun _ _ _ => step_of_cons, fun _ => step_of_nil⟩

/-- Every command's meaning is an effect on the device, after which its clock ends. -/
theorem exec_eq_run (c : Instr) (s : State) : ∃ f : Dev → Dev, exec c s = s.run f := by
  cases c
  all_goals exact ⟨_, rfl⟩

/-- Settles O2: a command answers with what its effect makes. -/
theorem everyCommandAnswers : Obligations.EveryCommandAnswers := by
  intro c s
  obtain ⟨f, hf⟩ := exec_eq_run c s
  exact ⟨f s.dev, answers_of_effect f hf rfl⟩

/-! ### The early buffer (R399) -/

/-- READY is a bit of a register that reporting leaves as it is. -/
theorem Reported.ready {d e : Dev} (h : Reported d e) : e.ready = d.ready :=
  congrArg (wbit · 31) (h.reg Reg.SYS_CASTON (by decide))

/-- The end of a clock before READY empties the queue into the early buffer, which takes 64 records at most. -/
theorem Dev.settle_of_notReady {d : Dev} (old : Nat) (h : d.ready = false) :
    (d.settle old).tim.queue = [] ∧ (d.settle old).swt.early.length ≤ 64 := by
  rw [Dev.settle]
  dsimp only
  rw [if_neg (by simp [h])]
  exact ⟨rfl, List.length_take_le _ _⟩

/-- Whatever a command made, the end of its clock leaves the early buffer within its bound. -/
theorem Dev.settle_earlyOk (d : Dev) (old : Nat) : EarlyOk (d.settle old) := fun hready =>
  Dev.settle_of_notReady old ((d.settle_reported old).ready ▸ hready)

/-- Settles O3: an idle step changes nothing, and any other ends with the end of a clock. -/
theorem earlyBufferKept : Obligations.EarlyBufferKept := by
  intro s t hs ht
  cases hpending : s.pending with
  | nil =>
    rw [step_of_nil hpending] at ht
    cases ht
    exact hs
  | cons c rest =>
    obtain ⟨f, hf⟩ := exec_eq_run c { s with pending := rest }
    rw [step_of_cons hpending, hf] at ht
    cases ht
    exact Dev.settle_earlyOk _ _

/-- READY is clear in SYS_CASTON's reset value. -/
theorem reset_ready : State.reset.dev.ready = false := by decide

/-- Settles O4: nothing waits at reset. -/
theorem earlyBufferAtReset : Obligations.EarlyBufferAtReset := ⟨fun _ => ⟨rfl, Nat.zero_le 64⟩, reset_ready, rfl⟩

/-- Settles O5: a register reads as its description line says, and a table without entries as its default. -/
theorem resetValues : Obligations.ResetValues := by
  refine ⟨?_, ?_, ?_, ?_, ?_, ?_, ?_, ?_, fun _ => rfl, rfl, ?_, rfl, rfl, rfl⟩
  all_goals decide

end Sys2Proof.Machine

/-! ## Domains kept apart: what a window does for a requester that may not act in it (R340, R374) -/

namespace Sys2Proof.Machine

/-- At most one event of the requester's domain is raised, and nothing else changes. -/
def OnlyReports (a : Access) (d e : Dev) : Prop :=
  e = d ∨ ∃ (code inst : Nat) (args : List Byte), e = d.raise code inst a.dom args

namespace OnlyReports

variable {a : Access} {d e : Dev}

/-- An event touches no block's records. -/
theorem sameRecords (h : OnlyReports a d e) : SameRecords d e := by
  rcases h with rfl | ⟨code, inst, args, rfl⟩
  · exact ⟨rfl, rfl, rfl, rfl, rfl, rfl, rfl, rfl, rfl, rfl, rfl, rfl, rfl, rfl, rfl, rfl, rfl, rfl, rfl, rfl⟩
  · exact ⟨rfl, rfl, rfl, rfl, rfl, rfl, rfl, rfl, rfl, rfl, rfl, rfl, rfl, rfl, rfl, rfl, rfl, rfl, rfl, rfl⟩

theorem regs (h : OnlyReports a d e) : e.regs = d.regs := by
  rcases h with rfl | ⟨code, inst, args, rfl⟩
  · rfl
  · rfl

end OnlyReports

/-- The effect `f` of requester `q` in domain `w`'s window of region `n` does nothing but report for an access that may not act
there, and nothing at all for an unbound function. -/
structure KeepsOut (q : Requester) (n w : Nat) (f : Dev → Dev) : Prop where
  shut : ∀ (d : Dev) (a : Access), Shuts d q n w a → OnlyReports a d (f d)
  unbound : ∀ (d : Dev) (fn : Fin 16), q = .fn fn → d.fnBound fn = false → f d = d

/-- An unbound function makes no access. -/
theorem Dev.access_of_unbound {d : Dev} {fn : Fin 16} (h : d.fnBound fn = false) : d.access (.fn fn) = none := by
  rw [Dev.access, if_neg (by simp [h])]

theorem Dev.by_of_unbound {d : Dev} {q : Requester} {fn : Fin 16} (hq : q = .fn fn) (h : d.fnBound fn = false)
    (f : Access → Dev → Dev) : d.by q f = d := by
  rw [Dev.by, hq, Dev.access_of_unbound h]

/-- The debug port acts for SD0, which may act in every window. -/
theorem not_shuts_debug {d : Dev} {n w : Nat} {a : Access} : ¬ Shuts d .debug n w a := by
  rintro ⟨haccess, hmay, -⟩
  rw [Dev.access] at haccess
  split at haccess
  · cases haccess
    cases hmay
  · cases haccess

theorem Dev.secDebug_of_ne_debug {d : Dev} {q : Requester} (hq : q ≠ .debug) (f : Dev → Dev) :
    d.secDebug q f = if d.power = 3 then d else d.sd0 q 1 f := by
  cases q with
  | debug => exact (hq rfl).elim
  | fn | core | ring => rfl

namespace KeepsOut

variable {q : Requester} {n w : Nat} {f : Dev → Dev}

/-- What is done by the access made keeps out when it does so for every access that may not act in the window. -/
theorem of_by {g : Dev → Access → Dev → Dev} (hf : ∀ d, f d = d.by q (g d))
    (h : ∀ (d : Dev) (a : Access), a.mayUse w = false → d.regionOff n = false → OnlyReports a d (g d a d)) : KeepsOut q n w f where
  shut d a := by
    rintro ⟨haccess, hmay, hpower⟩
    rw [hf, Dev.by_of_access haccess]
    exact h d a hmay hpower
  unbound d fn hq hfn := (hf d).trans (Dev.by_of_unbound hq hfn _)

/-- A window of a block ignores the access, or raises the block's domain event. -/
theorem of_window {deny : Option Nat} {g : Dev → Access → Dev → Dev} (hf : ∀ d, f d = d.window q n w deny (g d)) :
    KeepsOut q n w f :=
  of_by hf fun d a hmay hpower => by
    rw [if_neg (by simp [hpower]), if_neg (by simp [hmay])]
    cases deny with
    | none => exact .inl rfl
    | some code => exact .inr ⟨code, w, [], rfl⟩

theorem of_hookWindow {g : Dev → Access → Dev → Dev} (hf : ∀ d, f d = d.hookWindow q w (g d)) : KeepsOut q 20 w f :=
  of_by hf fun d a hmay hpower => by
    rw [if_neg (by simp [hpower]), if_neg (by simp [hmay])]
    exact .inr ⟨_, _, _, rfl⟩

theorem of_bpmWindow {g : Dev → Access → Dev → Dev} (hf : ∀ d, f d = d.bpmWindow q w (g d)) : KeepsOut q 14 w f :=
  of_by hf fun d a hmay hpower => by
    rw [if_neg (by simp [hpower]), if_neg (by simp [hmay])]
    exact .inr ⟨_, _, _, rfl⟩

/-- The rings of a domain are its windows. -/
theorem of_ringWindow {k : Nat} {g : Dev → Dev → Dev} (hk : k / 16 = w) (hf : ∀ d, f d = d.ringWindow q k (g d)) : KeepsOut q 5 w f :=
  of_by hf fun d a hmay hpower => by
    rw [if_neg (by simp [hpower]), hk, if_neg (by simp [hmay])]
    exact .inr ⟨_, _, _, rfl⟩

/-- A register of EGS that no domain owns is SD0's. -/
theorem of_egsBy {addr : Nat} {g : Dev → Access → Dev → Dev} (hf : ∀ d, f d = d.egsBy q addr (fun _ => false) (g d)) :
    KeepsOut q 16 0 f :=
  of_by hf fun d a hmay hpower => by
    have hdom : (a.dom == 0) = false := (Bool.or_eq_false_iff.mp hmay).1
    rw [if_neg (by simp [hpower]), if_neg (by simp [hdom])]
    exact .inr ⟨_, _, _, rfl⟩

/-- A command that has nothing to do, or no power, does nothing. -/
theorem of_guard {p : Dev → Prop} [DecidablePred p] {g : Dev → Dev} (hf : ∀ d, f d = if p d then d else g d) (h : KeepsOut q n w g) :
    KeepsOut q n w f where
  shut d a hshut := by
    rw [hf]
    split
    · exact .inl rfl
    · exact h.shut d a hshut
  unbound d fn hq hfn := by
    rw [hf]
    split
    · rfl
    · exact h.unbound d fn hq hfn

/-- A resource of SD0 is in SD0's window. -/
theorem of_sd0 {g : Dev → Dev → Dev} (hf : ∀ d, f d = d.sd0 q n (g d)) : KeepsOut q n 0 f := of_window hf

/-- A SEC command is one of SD0's. -/
theorem of_secCmd {g : Dev → Dev × Nat} (hf : ∀ d, f d = d.secCmd q g) : KeepsOut q 1 0 f :=
  of_sd0 (g := fun _ d => if d.bit Reg.SEC_CMD_STAT 31 then d else (g d).1.secResult (g d).2) hf

/-- The debug registers are SD0's, and the debug port's own. -/
theorem of_secDebug {g : Dev → Dev} (hf : ∀ d, f d = d.secDebug q g) : KeepsOut q 1 0 f := by
  by_cases hq : q = .debug
  · subst hq
    exact ⟨fun d a hshut => (not_shuts_debug hshut).elim, fun d fn h => by cases h⟩
  · have hsd0 : KeepsOut q 1 0 (fun d => d.sd0 q 1 g) := of_window fun _ => rfl
    have hf' : ∀ d : Dev, f d = if d.power = 3 then d else d.sd0 q 1 g := fun d =>
      (hf d).trans (Dev.secDebug_of_ne_debug hq g)
    exact of_guard hf' hsd0

/-! Each block's command window is one, whatever the command does inside. -/

theorem of_portBy {p : Nat} {g : Dev → Dev} (hf : ∀ d, f d = d.portBy q p g) : KeepsOut q 8 0 f :=
  of_sd0 (g := fun _ d => if d.portAbsent p then d else g d) hf

theorem of_rstCmd {v : Word} {env : BootEnv} (hf : ∀ d, f d = d.rstCmd q v env) : KeepsOut q 0 0 f := of_sd0 hf

theorem of_powerCmd {st : Nat} (hf : ∀ d, f d = d.powerCmd q st) : KeepsOut q 0 0 f := of_sd0 hf

theorem of_logWindow {g : Dev → Dev} (hf : ∀ d, f d = d.logWindow q w g) : KeepsOut q 4 w f := of_window hf

section
variable {v : Word} {g : Nat → Dev → Dev × Nat}

theorem of_polWindow {g : Nat → Dev → Dev} (hf : ∀ d, f d = d.polWindow q w v g) : KeepsOut q 15 w f := of_window hf

theorem of_cipWindow {names : Bool} (hf : ∀ d, f d = d.cipWindow q w v names g) : KeepsOut q 12 w f := of_window hf

theorem of_jbfWindow (hf : ∀ d, f d = d.jbfWindow q w v g) : KeepsOut q 34 w f := of_window hf

theorem of_legWindow {g : Dev → Dev × Nat} (hf : ∀ d, f d = d.legWindow q w v g) : KeepsOut q 35 w f := of_window hf

theorem of_fwdWindow {ok : Dev → Bool} {g : Dev → Dev → Dev × Nat} (hf : ∀ d, f d = d.fwdWindow q w (ok d) (g d)) :
    KeepsOut q 36 w f := of_window hf

theorem of_subWindow (hf : ∀ d, f d = d.subWindow q w v g) : KeepsOut q 36 w f :=
  of_fwdWindow (ok := fun d => w == 0 || d.subIn w (wfld v 19 0)) hf

theorem of_srcWindow (hf : ∀ d, f d = d.srcWindow q w v g) : KeepsOut q 36 w f :=
  of_fwdWindow (ok := fun d => d.mayLeg w (wfld v 15 0 / 8)) hf

theorem of_vdeWindow (hf : ∀ d, f d = d.vdeWindow q w v g) : KeepsOut q 40 w f := of_window hf

theorem of_venWindow (hf : ∀ d, f d = d.venWindow q w v g) : KeepsOut q 41 w f := of_window hf

theorem of_sqsWindow (hf : ∀ d, f d = d.sqsWindow q w v g) : KeepsOut q 44 w f := of_window hf

theorem of_nfcWindow {g : Dev → Dev × Nat} (hf : ∀ d, f d = d.nfcWindow q w g) : KeepsOut q 56 w f := of_window hf

theorem of_nfcSd0 {g : Dev → Dev × Nat} (hf : ∀ d, f d = d.nfcSd0 q w g) : KeepsOut q 56 w f := of_nfcWindow hf

end

end KeepsOut

/-- Domain of a ring's key. -/
theorem ringKey_div (x : Nat) (r : Fin 16) : ringKey x r / 16 = x := by
  rw [ringKey]
  omega

/-- Every command that acts in a domain's window keeps the other domains out: by its block's window, or by the guard before it. -/
theorem exec_keepsOut {c : Instr} {q : Requester} {n w : Nat} (h : commandWindow c = some (q, n, w)) :
    ∃ f : Dev → Dev, (∀ s : State, exec c s = s.run f) ∧ KeepsOut q n w f := by
  cases c with
  | subCmdGo | cqPop => cases h; exact ⟨_, fun _ => rfl, KeepsOut.of_hookWindow fun _ => rfl⟩
  | bpmCmdAlloc | bpmCmdShare | bpmCmdDrop | bpmCmdFree | bpmCmdRead => cases h; exact ⟨_, fun _ => rfl, KeepsOut.of_bpmWindow fun _ => rfl⟩
  | ringEnWrite => cases h; exact ⟨_, fun _ => rfl, KeepsOut.of_ringWindow (ringKey_div _ _) fun _ => rfl⟩
  | gateChange => cases h; exact ⟨_, fun _ => rfl, KeepsOut.of_egsBy fun _ => rfl⟩
  | dbgChallenge | dbgUnlock | dbgSet => cases h; exact ⟨_, fun _ => rfl, KeepsOut.of_guard (fun _ => rfl) (KeepsOut.of_secDebug fun _ => rfl)⟩
  | otpRead | otpProgram | floorCmd | revoke | bindCmd =>
    cases h
    exact ⟨_, fun _ => rfl, KeepsOut.of_guard (fun _ => rfl) (KeepsOut.of_secCmd fun _ => rfl)⟩
  | clsInsert | clsDelete | clsReplace | clsLookup => cases h; exact ⟨_, fun _ => rfl, KeepsOut.of_window fun _ => rfl⟩
  | polRead | polWriteCfg | polWriteAll => cases h; exact ⟨_, fun _ => rfl, KeepsOut.of_polWindow fun _ => rfl⟩
  | keyInstall | keyErase | keyReadStat | keyRelease | indexRead | indexSet =>
    cases h
    exact ⟨_, fun _ => rfl, KeepsOut.of_cipWindow fun _ => rfl⟩
  | jbfReadActive | jbfReadShadow | jbfWriteCfg | jbfWriteLive | jbfReset =>
    cases h
    exact ⟨_, fun _ => rfl, KeepsOut.of_jbfWindow fun _ => rfl⟩
  | vdeReadActive | vdeReadShadow | vdeWriteCfg | vdeWriteLive | vdeReset =>
    cases h
    exact ⟨_, fun _ => rfl, KeepsOut.of_vdeWindow fun _ => rfl⟩
  | venReadActive | venReadShadow | venWriteCfg | venWriteLive | venReset =>
    cases h
    exact ⟨_, fun _ => rfl, KeepsOut.of_venWindow fun _ => rfl⟩
  | sqsReadActive | sqsReadShadow | sqsWriteCfg | sqsWriteLive | sqsReset =>
    cases h
    exact ⟨_, fun _ => rfl, KeepsOut.of_sqsWindow fun _ => rfl⟩
  | subRead | subWrite | subWant | subDisable => cases h; exact ⟨_, fun _ => rfl, KeepsOut.of_subWindow fun _ => rfl⟩
  | srcRead | srcWrite => cases h; exact ⟨_, fun _ => rfl, KeepsOut.of_srcWindow fun _ => rfl⟩
  | legReadActive | legReadShadow | legWriteCfg | legWriteLive | legSuspend | legResume =>
    cases h
    exact ⟨_, fun _ => rfl, KeepsOut.of_legWindow fun _ => rfl⟩
  | nfcOpen | nfcClose | readTrack | readUnit => cases h; exact ⟨_, fun _ => rfl, KeepsOut.of_nfcWindow fun _ => rfl⟩
  | appendHouse | nfcRelease | nfcFormat => cases h; exact ⟨_, fun _ => rfl, KeepsOut.of_nfcSd0 fun _ => rfl⟩
  | logRdWrite | logEnWrite => cases h; exact ⟨_, fun _ => rfl, KeepsOut.of_logWindow fun _ => rfl⟩
  | portEnable | portDisable | retrain => cases h; exact ⟨_, fun _ => rfl, KeepsOut.of_portBy fun _ => rfl⟩
  | rstCmdCold | rstCmdWarm => cases h; exact ⟨_, fun _ => rfl, KeepsOut.of_rstCmd fun _ => rfl⟩
  | pwrCmdP0 | pwrCmdP1 | pwrCmdP2 | pwrCmdP3 => cases h; exact ⟨_, fun _ => rfl, KeepsOut.of_powerCmd fun _ => rfl⟩
  | tbLatchRead | tbStep | tbPhaseWrite | lockIndWrite | tickCtlWrite | esnResvWrite | txtsPop | hashKeyWrite | loadStart
  | nfcMount | lcCmd | rngRead | swtTrig | sysPush =>
    cases h
    exact ⟨_, fun _ => rfl, KeepsOut.of_sd0 fun _ => rfl⟩
  | _ => cases h

/-- Settles O60: the command's effect keeps the access out. -/
theorem domainsKeptApart : Obligations.DomainsKeptApart := by
  constructor
  · intro c s q a n w hwindow hshut
    obtain ⟨f, hf, hkeeps⟩ := exec_keepsOut hwindow
    have honly : OnlyReports a s.dev (f s.dev) := hkeeps.shut s.dev a hshut
    exact ⟨_, answers_of_effect f (hf s) rfl, honly, honly.sameRecords, honly.regs⟩
  · intro c s fn n w hwindow hfn
    obtain ⟨f, hf, hkeeps⟩ := exec_keepsOut hwindow
    exact answers_of_effect f (hf s) (hkeeps.unbound s.dev fn rfl hfn)

end Sys2Proof.Machine

/-! ## Memories: reads after writes (R2) -/

namespace Sys2Proof.Machine

variable {α : Type}

theorem lookup_eq_none_of_keys {m : Tbl α} {j : Nat} (h : ∀ c ∈ m, c.1 ≠ j) : lookup m j = none := by
  induction m with
  | nil => rfl
  | cons c t ih =>
    rw [lookup, if_neg (h c List.mem_cons_self), ih fun x hx => h x (List.mem_cons_of_mem c hx)]

/-- Keys that a filter keeps are found as before. -/
theorem lookup_filter_of_kept {p : Nat → Bool} {j : Nat} (hp : p j = true) (m : Tbl α) :
    lookup (m.filter fun c => p c.1) j = lookup m j := by
  induction m with
  | nil => rfl
  | cons c t ih =>
    obtain ⟨k, v⟩ := c
    by_cases hk : k = j
    · subst hk
      rw [List.filter_cons, if_pos hp, lookup, lookup, if_pos rfl, if_pos rfl]
    · by_cases hkept : p k = true
      · rw [List.filter_cons, if_pos hkept, lookup, lookup, if_neg hk, if_neg hk, ih]
      · rw [List.filter_cons, if_neg hkept, ih, lookup, if_neg hk]

theorem lookup_append (m n : Tbl α) (j : Nat) : lookup (m ++ n) j = (lookup m j).or (lookup n j) := by
  induction m with
  | nil => rfl
  | cons c t ih =>
    obtain ⟨k, v⟩ := c
    rw [List.cons_append, lookup, lookup, ih]
    split
    · rfl
    · rfl

@[simp] theorem tgets_length (dflt : Nat → α) (m : Tbl α) (j n : Nat) : (tgets dflt m j n).length = n := by
  induction n generalizing j with
  | zero => rfl
  | succ n ih => rw [tgets, List.length_cons, ih]

theorem getElem_tgets (dflt : Nat → α) (m : Tbl α) (j n i : Nat) (h : i < (tgets dflt m j n).length) :
    (tgets dflt m j n)[i] = tget dflt m (j + i) := by
  induction n generalizing j i with
  | zero => exact absurd h (Nat.not_lt_zero i)
  | succ n ih =>
    cases i with
    | zero => rfl
    | succ i => exact (ih (j + 1) i (Nat.lt_of_succ_lt_succ h)).trans (by rw [Nat.add_right_comm, Nat.add_assoc])

/-- The byte of a memory at an address. -/
abbrev byteOf (m : List Host.Cell) (x : Nat) : Byte := tget (fun _ => (0 : Byte)) m x

theorem byteOf_append_of_left_none {m n : List Host.Cell} {x : Nat} (h : lookup m x = none) : byteOf (m ++ n) x = byteOf n x := by
  rw [byteOf, tget, lookup_append, h, Option.none_or, byteOf, tget]

theorem byteOf_append_of_right_none {m n : List Host.Cell} {x : Nat} (h : lookup n x = none) : byteOf (m ++ n) x = byteOf m x := by
  rw [byteOf, tget, lookup_append, h, Option.or_none, byteOf, tget]

theorem lookup_blockCells_of_apart {a x : Nat} {l : List Byte} (h : x < a ∨ a + l.length ≤ x) : lookup (blockCells a l) x = none :=
  lookup_eq_none_of_keys fun c hc => by
    have := blockCells_lt a l c hc
    omega

theorem byteOf_blockCells {a i : Nat} {l : List Byte} (h : i < l.length) : byteOf (blockCells a l) (a + i) = l[i] := by
  induction l generalizing a i with
  | nil => exact absurd h (Nat.not_lt_zero i)
  | cons b t ih =>
    cases i with
    | zero =>
      rw [blockCells]
      split
      · next hb => rw [byteOf, tget, lookup_blockCells_of_apart (.inl (by omega))]; exact hb.symm
      · exact congrArg (Option.getD · 0) (if_pos rfl)
    | succ i =>
      have hstep : a + (i + 1) = a + 1 + i := by omega
      rw [blockCells, List.getElem_cons_succ, hstep]
      split
      · exact ih _
      · rw [byteOf, tget, lookup, if_neg (by omega)]
        exact ih _

/-- A write leaves every byte outside the block. -/
theorem byteOf_memWrite_of_apart {a x : Nat} {bytes : List Byte} (h : x < a ∨ a + bytes.length ≤ x) (m : List Host.Cell) :
    byteOf (memWrite m a bytes) x = byteOf m x := by
  have hblock : lookup (blockCells a bytes) x = none := lookup_blockCells_of_apart h
  by_cases hbelow : x < a
  · have hfrom : lookup (cellsFrom m (a + bytes.length)) x = none :=
      lookup_eq_none_of_keys fun c hc => by
        have := of_decide_eq_true (List.mem_filter.mp hc).2
        omega
    rw [memWrite, byteOf_append_of_right_none hfrom, byteOf_append_of_right_none hblock]
    exact congrArg (Option.getD · 0) (lookup_filter_of_kept (p := fun k => decide (k < a)) (decide_eq_true hbelow) m)
  · have hlow : lookup (cellsBelow m a) x = none :=
      lookup_eq_none_of_keys fun c hc => by
        have := cellsBelow_lt m a c hc
        omega
    rw [memWrite, byteOf_append_of_left_none (by rw [lookup_append, hlow, hblock]; rfl)]
    exact congrArg (Option.getD · 0)
      (lookup_filter_of_kept (p := fun k => decide (a + bytes.length ≤ k)) (decide_eq_true (by omega)) m)

/-- A write puts its bytes at its addresses. -/
theorem byteOf_memWrite_of_mem {a i : Nat} {bytes : List Byte} (h : i < bytes.length) (m : List Host.Cell) :
    byteOf (memWrite m a bytes) (a + i) = bytes[i] := by
  have hlow : lookup (cellsBelow m a) (a + i) = none :=
    lookup_eq_none_of_keys fun c hc => by
      have := cellsBelow_lt m a c hc
      omega
  have hfrom : lookup (cellsFrom m (a + bytes.length)) (a + i) = none :=
    lookup_eq_none_of_keys fun c hc => by
      have := of_decide_eq_true (List.mem_filter.mp hc).2
      omega
  rw [memWrite, byteOf_append_of_right_none hfrom, byteOf_append_of_left_none hlow, byteOf_blockCells h]

/-- A block reads back as it was written. -/
theorem memRead_memWrite_self (m : List Host.Cell) (a : Nat) (bytes : List Byte) :
    memRead (memWrite m a bytes) a bytes.length = bytes :=
  List.ext_getElem (tgets_length _ _ _ _) fun _ hread hi =>
    (getElem_tgets _ _ _ _ _ hread).trans (byteOf_memWrite_of_mem hi m)

theorem memRead_memWrite_of_apart {a x : Nat} {bytes : List Byte} (h : x < a ∨ a + bytes.length ≤ x) (m : List Host.Cell) :
    memRead (memWrite m a bytes) x 1 = memRead m x 1 :=
  congrArg (fun b => [b]) (byteOf_memWrite_of_apart h m)

end Sys2Proof.Machine

/-! ## The host's window into device DRAM (R318, R340, R343) -/

namespace Sys2Proof.Machine

variable {d : Dev}

/-- A write that DRAM permits stores its bytes; the counters of its lines are no part of DRAM. -/
theorem Dev.dramPut_of_permitted {port dom a : Nat} {bytes : List Byte} (h : d.dramDeny dom a bytes.length = 0) :
    d.dramPut port dom a bytes = (d.dramWrite a bytes).countLines (fun k => Reg.DMC_WR_LO k) a bytes.length := by
  rw [Dev.dramPut]
  exact if_pos h

theorem Dev.dramPut_of_denied {port dom a : Nat} {bytes : List Byte} (h : d.dramDeny dom a bytes.length ≠ 0) :
    d.dramPut port dom a bytes = d.dramReport (d.dramDeny dom a bytes.length) port dom a := by
  rw [Dev.dramPut]
  exact if_neg h

/-- Counting lines changes 64-bit counters alone. -/
theorem Dev.countLines_keeps {β : Type} (g : Dev → β) (hg : ∀ (d : Dev) (lo n : Nat), g (d.count64 lo n) = g d) (lo : Nat → Nat)
    (a n : Nat) : g (d.countLines lo a n) = g d := by
  rw [Dev.countLines, Dev.forEach_keeps _ g fun _ _ _ => hg _ _ _]

/-- A report of a refused request marks the port and raises an event. -/
theorem Dev.dramReport_sameRecords (kind port dom a : Nat) : SameRecords d (d.dramReport kind port dom a) := by
  rw [Dev.dramReport]
  dsimp only
  split
  · exact ⟨rfl, rfl, rfl, rfl, rfl, rfl, rfl, rfl, rfl, rfl, rfl, rfl, rfl, rfl, rfl, rfl, rfl, rfl, rfl, rfl⟩
  · exact ⟨rfl, rfl, rfl, rfl, rfl, rfl, rfl, rfl, rfl, rfl, rfl, rfl, rfl, rfl, rfl, rfl, rfl, rfl, rfl, rfl⟩

theorem Dev.unpoison_of_nil (h : d.dmc.poison = []) (port a : Nat) (b : List Byte) : d.unpoison port a b = b := if_pos h

section
variable {fn : Fin 16} {off n a : Nat} (hbound : d.fnBound fn = true) (hpower : d.regionOff 5 = false) (hstaging : fn = 0 → d.stagingOpen = false)
include hbound hpower hstaging

/-- A write inside the function's window is a write of DRAM port 0 for the function's domain. -/
theorem bar2AccessEffect_of_write {b : List Byte} (hb : b ≠ []) (hin : off + b.length ≤ (d.bar2Window fn).2)
    (ha : a = (d.bar2Window fn).1 + off) : bar2AccessEffect fn (.write off b) d = d.dramPut 0 (d.fnDomain fn) a b := by
  have hno : ¬ (fn.val = 0 ∧ d.stagingOpen = true) := fun ⟨hfn, hopen⟩ => by simp [hstaging (Fin.ext hfn)] at hopen
  rw [ha, bar2AccessEffect, if_neg (by simp [hbound, hpower]), if_neg hno]
  exact if_pos ⟨hin, hb⟩

theorem bar2AccessEffect_of_read (hn : n ≠ 0) (hin : off + n ≤ (d.bar2Window fn).2) (ha : a = (d.bar2Window fn).1 + off) :
    bar2AccessEffect fn (.read off n) d = (d.dramGet 0 (d.fnDomain fn) a n).2 := by
  have hno : ¬ (fn.val = 0 ∧ d.stagingOpen = true) := fun ⟨hfn, hopen⟩ => by simp [hstaging (Fin.ext hfn)] at hopen
  rw [ha, bar2AccessEffect, if_neg (by simp [hbound, hpower]), if_neg hno]
  exact if_pos ⟨hin, hn⟩

end

theorem bar2AccessEffect_of_unbound {fn : Nat} (h : d.fnBound fn = false) (op : Bar2Op) : bar2AccessEffect fn op d = d :=
  if_pos (.inl h)

/-- A read that DRAM permits returns its bytes, and leaves them. -/
theorem Dev.dramGet_of_permitted {port dom a n : Nat} (h : d.dramDeny dom a n = 0) :
    (d.dramGet port dom a n).1 = d.unpoison port a (d.dramRead a n) ∧ (d.dramGet port dom a n).2.dram = d.dram := by
  rw [Dev.dramGet]
  dsimp only
  rw [if_pos h]
  exact ⟨rfl, Dev.countLines_keeps (fun e => e.dram) (fun _ _ _ => rfl) _ _ _⟩

/-- Settles O47, by what DRAM makes of the write or read that the window asks for. -/
theorem windowWritesDram : Obligations.WindowWritesDram := by
  refine ⟨?_, ?_, ?_, ?_⟩
  · intro s fn off a b hbound hpower hstaging hb hin ha hdeny hwf
    have hdram : (s.dev.dramPut 0 (s.dev.fnDomain fn) a b).dram = memWrite s.dev.dram a b := by
      rw [Dev.dramPut_of_permitted hdeny, Dev.countLines_keeps (fun e => e.dram) fun _ _ _ => rfl]
      rfl
    refine ⟨_, answers_of_effect _ rfl (bar2AccessEffect_of_write hbound hpower hstaging hb hin ha), ?_, ?_, fun x hx => ?_, ?_, ?_⟩
    · rw [Dev.dramRead, hdram, memRead_memWrite_self]
    · rw [hdram]
      exact Memory.wf_memWrite _ _ _ hwf
    · rw [Dev.dramRead, hdram, memRead_memWrite_of_apart hx, Dev.dramRead]
    · rw [Dev.dramPut_of_permitted hdeny, Dev.countLines_keeps (fun e => e.tim) fun _ _ _ => rfl]
      rfl
    · rw [Dev.dramPut_of_permitted hdeny, Dev.countLines_keeps (fun e => e.bpm) fun _ _ _ => rfl]
      rfl
  · intro s fn off a k b hbound hpower hstaging hb hin ha hk hdeny
    subst hk
    exact ⟨_, answers_of_effect _ rfl ((bar2AccessEffect_of_write hbound hpower hstaging hb hin ha).trans (Dev.dramPut_of_denied hdeny)),
      Dev.dramReport_sameRecords _ _ _ _, rfl⟩
  · intro s fn off n a hbound hpower hstaging hn hin ha hdeny
    obtain ⟨hbytes, hdram⟩ := Dev.dramGet_of_permitted (port := 0) hdeny
    exact ⟨_, answers_of_effect _ rfl (bar2AccessEffect_of_read hbound hpower hstaging hn hin ha), hdram, rfl,
      fun hclean => hbytes.trans (Dev.unpoison_of_nil hclean _ _ _)⟩
  · intro s fn op hunbound
    exact answers_of_effect _ rfl (bar2AccessEffect_of_unbound hunbound op)

end Sys2Proof.Machine

/-! ## Egress: decisions, frame ends, gate changes and flushes (R292, R294, R295, R301) -/

namespace Sys2Proof.Machine

variable {d : Dev} {p : Nat}

/-- A port that is UP with its transmitter free takes its waiting LV writes, and starts the frame that the rules choose. -/
theorem dequeueDecisionEffect_of_choice {lead : Nat} {f : QFrame} {d' e : Dev} (hup : d.portUp p = true) (hfree : tat none d.egs.tx p = none)
    (htake : d' = d.lvTake fun a => d.shaperPort a == some p)
    (hchoice : d'.choose p (gateUnits ((d'.tb (d'.fld (Reg.TIM_PORT_CFG p) 10 8)).time + lead * 2 ^ 40)) = (some f, e)) :
    dequeueDecisionEffect p lead d = e.txStart p lead f := by
  rw [dequeueDecisionEffect, if_neg (by simp [hup, hfree]), ← htake]
  dsimp only
  rw [hchoice]

/-- A frame that is bad, or whose verdict is no longer awaited, ends as it stands. -/
theorem frameTxEndEffect_of_verdict {t : TxFrame} (htx : tat none d.egs.tx p = some t)
    (hverdict : t.bad = true ∨ t.frame.cutOf.any d.inFlight = false) : frameTxEndEffect p d = d.txEnd p t := by
  have hlate : lateVerdictEffect p d = d := by
    rw [lateVerdictEffect, htx]
    exact if_pos (by rcases hverdict with h | h <;> simp [h])
  rw [frameTxEndEffect, hlate, htx]

/-- SD0's access to a register of EGS is performed. -/
theorem Dev.egsBy_of_sd0 {q : Requester} {a : Access} (haccess : d.access q = some a) (hdom : a.dom = 0)
    (hpower : d.regionOff 16 = false) (addr : Nat) (ok : Access → Bool) (f : Access → Dev → Dev) : d.egsBy q addr ok f = f a d := by
  rw [Dev.egsBy, Dev.by_of_access haccess, if_neg (by simp [hpower]), if_pos (by simp [hdom])]

/-- A gate change at port `p` for the instant `tc`. -/
def Dev.gateScheduled (d : Dev) (p tc : Nat) : Dev :=
  ({ d with egs := { d.egs with change := tset 0 d.egs.change p tc } } : Dev).setBit (Reg.EGS_GATE_STAT p) 31 true

/-- CHANGE at a port without a pending change schedules one, at the first cycle at least 2 µs ahead. -/
theorem Dev.gateChange_of_idle {v : Word} (hchange : wbit v 0 = true) (hidle : d.gatePending p = false) :
    d.gateChange p v = d.gateScheduled p (firstCycle (d.adminBase p) (d.fld (Reg.EGS_GATE_ADMIN_CYCLE p) 29 0)
      (((d.tb (d.fld (Reg.TIM_PORT_CFG p) 10 8)).time + 2 ^ 40 - 1) / 2 ^ 40 + 2000)) := by
  rw [Dev.gateChange, if_neg (by simp [hchange]), if_neg (by simp [hidle])]
  rfl

section
variable (d p) (tc : Nat)

theorem Dev.gateScheduled_pending : (d.gateScheduled p tc).gatePending p = true := Dev.setBit_bit_self _ _ _ _ (by decide)

theorem Dev.gateScheduled_change : tat 0 (d.gateScheduled p tc).egs.change p = tc := tat_tset_self _ _ _ _

/-- The other ports' changes stay as they are. -/
theorem Dev.gateScheduled_of_ne {r : Nat} (h : r ≠ p) : (d.gateScheduled p tc).gatePending r = d.gatePending r ∧
    tat 0 (d.gateScheduled p tc).egs.change r = tat 0 d.egs.change r := by
  refine ⟨?_, tat_tset_of_ne _ _ h _⟩
  have hreg : Reg.EGS_GATE_STAT r ≠ Reg.EGS_GATE_STAT p := by
    simp only [Reg.EGS_GATE_STAT]
    omega
  exact congrArg (wbit · 31) (Dev.setReg_reg_of_ne _ hreg _)

/-- A change that is scheduled moves no frame and writes no memory. -/
theorem Dev.gateScheduled_frame : (d.gateScheduled p tc).egs.tx = d.egs.tx ∧ (d.gateScheduled p tc).egs.leaves = d.egs.leaves ∧
    (d.gateScheduled p tc).dram = d.dram := by
  rw [Dev.gateScheduled, Dev.setBit_egs, Dev.setBit_dram]
  exact ⟨rfl, rfl, rfl⟩

end

theorem gateChangedEffect_of_pending (h : d.gatePending p = true) :
    gateChangedEffect p d =
      (d.advance (d.clocksTo (d.fld (Reg.TIM_PORT_CFG p) 10 8) (tat 0 d.egs.change p * 2 ^ 40))).gateChanged p := if_pos h

/-! ### Dropping a frame and flushing a port leave the ports that were flushed (R294) -/

theorem Dev.setDesc_egs (d : Dev) (id : Nat) (x : Desc) : (d.setDesc id x).egs = d.egs := rfl

theorem Dev.setHdr_egs (d : Dev) (l r : Nat) : (d.setHdr l r).egs = d.egs := rfl

theorem Dev.outCount_egs (d : Dev) (k off : Nat) : (d.outCount k off).egs = d.egs := rfl

theorem Dev.returnChain_egs (d : Dev) (id : Nat) : (d.returnChain id).egs = d.egs := by
  rw [Dev.returnChain, Dev.setFree_keeps _ Dev.raise_egs fun d a _ => d.setReg_egs a, Dev.setFld_egs]
  exact Dev.forEach_keeps d (fun e => e.egs) fun _ _ _ => rfl

theorem Dev.release_egs (d : Dev) (agent op id inst : Nat) : (d.release agent op id inst).1.egs = d.egs := by
  have hshare : ∀ h : Desc, (if h.shares = 0 then ((d.setDesc id h).returnChain id, 0)
      else (d.setDesc id { h with state := if h.lastDone then 3 else if h.shares = 1 then 1 else 2 }, 0) : Dev × Nat).1.egs = d.egs := by
    intro h
    split
    · exact (Dev.returnChain_egs _ _).trans (Dev.setDesc_egs _ _ _)
    · exact Dev.setDesc_egs _ _ _
  rw [Dev.release]
  split
  · rfl
  · split
    · rfl
    · split
      · rfl
      · split
        · rfl
        · exact hshare _

theorem Dev.sendLog_egs (d : Dev) (f : QFrame) (egress : Option Nat) : (d.sendLog f egress).egs = d.egs := by
  rw [Dev.sendLog]
  split
  · rw [Dev.setHdr_egs]
    exact (d.dramPut_reported _ _ _ _).egs
  · rfl

theorem Dev.frameDone_egs (d : Dev) (f : QFrame) (status value : Nat) (ts : List Byte) : (d.frameDone f status value ts).egs = d.egs := by
  rw [Dev.frameDone]
  split
  · rw [Dev.complete]
    split
    · rfl
    · rfl
  · rfl

/-- A frame that is dropped has left its queue before: EGS itself stays as it is. -/
theorem Dev.egsDrop_egs (d : Dev) (f : QFrame) (c : Nat) : (d.egsDrop f c).egs = d.egs := by
  have hrelease : (d.release 49 4 f.chain (f.chain / 2 ^ 22)).1.egs = d.egs := d.release_egs _ _ _ _
  rw [Dev.egsDrop, Dev.frameDone_egs, Dev.sendLog_egs, ← hrelease]
  generalize (d.release 49 4 f.chain (f.chain / 2 ^ 22)).1 = e
  cases f.stream with
  | none => exact Dev.count_egs _ _ _
  | some k => exact (Dev.outCount_egs _ _ _).trans (Dev.count_egs _ _ _)

theorem Dev.setDeficit_flushed (d : Dev) (node c : Nat) (v : Nat × Bool) : (d.setDeficit node c v).egs.flushed = d.egs.flushed := by
  rw [Dev.setDeficit]
  split
  · rfl
  · rw [Dev.setReg_egs]

theorem Dev.leaveRing_flushed (d : Dev) (node c : Nat) : (d.leaveRing node c).egs.flushed = d.egs.flushed := by
  rw [Dev.leaveRing]
  split
  · exact Dev.setDeficit_flushed _ _ _ _
  · rfl

theorem Dev.sweepPath_flushed (d : Dev) (q : Nat) : (d.sweepPath q).egs.flushed = d.egs.flushed := by
  have hleave : ∀ (e : Dev) (p : Prop) [Decidable p] (node c : Nat),
      (if p then e.leaveRing node c else e).egs.flushed = e.egs.flushed := by
    intro e p _ node c
    split
    · exact e.leaveRing_flushed node c
    · rfl
  rw [Dev.sweepPath, hleave, hleave, hleave]

theorem Dev.flushLeaf_flushed (d : Dev) (q : Nat) : (d.flushLeaf q).egs.flushed = d.egs.flushed := by
  rw [Dev.flushLeaf, Dev.sweepPath_flushed]
  exact Dev.forEach_keeps _ (fun e => e.egs.flushed) fun e f _ => congrArg Egs.flushed (e.egsDrop_egs f _)

/-- A flush of a port drops frames, and marks no port. -/
theorem Dev.flushPort_flushed (d : Dev) (p : Nat) : (d.flushPort p).egs.flushed = d.egs.flushed := by
  rw [Dev.flushPort, Dev.forEach_keeps _ (fun e => e.egs.flushed) fun e f _ => congrArg Egs.flushed (e.egsDrop_egs f _)]
  exact Dev.forEach_keeps _ (fun e => e.egs.flushed) fun e q _ => e.flushLeaf_flushed q

/-- A port that has been out of UP long enough is flushed, and marked as flushed. -/
theorem egsFlushEffect_of_down {e : Dev} (hdown : d.portUp p = false) (hfirst : p ∉ d.egs.flushed)
    (hlimit : d.fld (Reg.EGS_PORT_CFG p) 27 16 ≠ 0) (he : e = d.flushPort p) :
    egsFlushEffect p d = ({ e with egs := { e.egs with flushed := addMark e.egs.flushed p } } : Dev).raise Ev.EGS_FLUSH p := by
  have hflushed : e.egs.flushed = d.egs.flushed := he ▸ d.flushPort_flushed p
  rw [hflushed, egsFlushEffect, if_neg (by simp [hdown, hfirst, hlimit]), ← he]

/-- Settles O45, clause by clause in the order of the statement. -/
theorem egressCommandsComplete : Obligations.EgressCommandsComplete := by
  refine ⟨?_, ?_, ?_, ?_, ?_⟩
  · intro s p lead hup hfree
    exact ⟨_, rfl, fun f e hchoice =>
      answers_of_effect (dequeueDecisionEffect p lead) rfl (dequeueDecisionEffect_of_choice hup hfree rfl hchoice)⟩
  · intro s p t htx hverdict
    exact answers_of_effect (frameTxEndEffect p) rfl (frameTxEndEffect_of_verdict htx hverdict)
  · intro s q a p v haccess hdom hpower hchange hidle
    have heffect : gateChangeEffect q p v s.dev = s.dev.gateChange p v := Dev.egsBy_of_sd0 haccess hdom hpower _ _ _
    have hscheduled := heffect.trans (Dev.gateChange_of_idle hchange hidle)
    obtain ⟨htx, hleaves, hdram⟩ := s.dev.gateScheduled_frame p (firstCycle (s.dev.adminBase p)
      (s.dev.fld (Reg.EGS_GATE_ADMIN_CYCLE p) 29 0) (((s.dev.tb (s.dev.fld (Reg.TIM_PORT_CFG p) 10 8)).time + 2 ^ 40 - 1) / 2 ^ 40 + 2000))
    refine ⟨_, answers_of_effect (gateChangeEffect q p v) rfl hscheduled, Dev.gateScheduled_pending _ _ _, ?_,
      fun r hr => Dev.gateScheduled_of_ne _ _ _ (Fin.val_ne_of_ne hr), htx, hleaves, hdram⟩
    rw [Dev.gateScheduled_change]
  · intro s p hpending
    exact answers_of_effect (gateChangedEffect p) rfl (gateChangedEffect_of_pending hpending)
  · intro s p hdown hfirst hlimit
    exact ⟨_, rfl, answers_of_effect (egsFlushEffect p) rfl (egsFlushEffect_of_down hdown hfirst hlimit rfl)⟩

end Sys2Proof.Machine

/-! ## Commands of a trained DRAM controller (R308 to R316) -/

namespace Sys2Proof.Machine

variable {d : Dev} {k : Nat}

section
variable {port dom addr : Nat} {data : Option Nat} {r : DramReq} (htrained : d.trained (d.dmcOf addr) = true)
include htrained

/-- A permitted request enters its controller's queue, or stalls at its port. -/
theorem dramRequestEffect_of_permitted (hdeny : d.dramDeny dom (64 * (addr / 64)) 64 = 0) (hk : k = d.dmcOf addr)
    (hr : r = ⟨port, portClass port, addr / 64, data, d.tim.clocks, d.inPanic k port⟩) :
    dramRequestEffect port dom addr data d = if 64 ≤ (d.dmcUnit k).held data.isSome then
        d.setDmc k { d.dmcUnit k with stalled := (d.dmcUnit k).stalled ++ [r] }
      else d.enterQueue k r := by
  subst hk hr
  rw [dramRequestEffect]
  dsimp only
  rw [if_neg (by simp [hdeny, htrained]), if_neg (by simp [hdeny])]

theorem dramRequestEffect_of_denied {n : Nat} (hn : n = d.dramDeny dom (64 * (addr / 64)) 64) (hdeny : n = 1 ∨ n = 2) :
    dramRequestEffect port dom addr data d = d.dramReport n port dom (64 * (addr / 64)) := by
  subst hn
  rw [dramRequestEffect]
  dsimp only
  rw [if_neg (by simp [htrained]; omega), if_pos (by omega)]

end

section
variable (htrained : d.trained k = true)
include htrained

theorem refreshDueEffect_of_trained : refreshDueEffect k d =
    let e := d.setOwed k (min 127 (d.owed k + d.refreshUnit k))
    if e.forced k then e.issueRefresh k true else e := by
  rw [refreshDueEffect, if_neg (by simp [htrained])]

theorem delayUpdateEffect_of_trained : delayUpdateEffect k d = (d.lvRegion (48 + k)).delayUpdate k := if_pos htrained

theorem dmcPanicLongEffect_of_first {port : Nat} (hpanic : d.inPanic k port = true) (hlimit : d.fld (Reg.DMC_QOS k) 31 16 ≠ 0)
    (hfirst : 16 * k + port ∉ d.dmc.longMark) : dmcPanicLongEffect k port d =
      ({ d with dmc := { d.dmc with longMark := addMark d.dmc.longMark (16 * k + port) } } : Dev).raise Ev.DMC_PANIC_LONG k 0 [b8 port] := by
  rw [dmcPanicLongEffect]
  exact if_neg (by simp [htrained, hpanic, hlimit, hfirst])

theorem mr4PollEffect_of_trained {mr4 rate wrErr : Nat} {above : Bool} {e f : Dev}
    (he : e = (d.lvRegion (48 + k)).setFld (Reg.DMC_STAT k) 20 16 mr4)
    (hf : f = if e.bit (Reg.DMC_CFG k) 8 then e.count (Reg.DMC_LECC_WR k) wrErr else e) :
    mr4PollEffect k mr4 rate above wrErr d =
      let u : DmcUnit := { f.dmcUnit k with
        hot := rate == 4 || above
        updateDue := (f.dmcUnit k).updateDue || (decide (0 < f.fld (Reg.DMC_RETRAIN k) 19 16) &&
          decide (f.fld (Reg.DMC_RETRAIN k) 19 16 ≤ gap (mr4 % 32) (f.dmcUnit k).updateTemp)) }
      if (rate == 4 || above) && !(f.dmcUnit k).hot then (f.setDmc k u).raise Ev.DMC_HOT k 0 [b8 mr4] else f.setDmc k u := by
  subst hf he
  rw [mr4PollEffect, if_neg (by simp [htrained])]

/-- A command slot that issues no read ends with what it did. -/
theorem dramCommandSlotEffect_of_none {link : Nat} {e : Dev} (hslot : (d.bankTimers k).slotStep k = (e, none)) :
    dramCommandSlotEffect k link d = e := by
  rw [dramCommandSlotEffect, if_neg (by simp [htrained]), hslot]

section
variable {link : Nat} {e f : Dev} {r : DramReq} (hslot : (d.bankTimers k).slotStep k = (e, some r))
include hslot

/-- A read that a command slot issues takes its link's result. -/
theorem dramCommandSlotEffect_of_good (hlink : e.linkResult k r link = (f, none)) : dramCommandSlotEffect k link d = f := by
  rw [dramCommandSlotEffect, if_neg (by simp [htrained]), hslot]
  dsimp only
  rw [hlink]

theorem dramCommandSlotEffect_of_bad {x : Nat × Nat} (hlink : e.linkResult k r link = (f, some x)) :
    dramCommandSlotEffect k link d = f.poisoned x.1 x.2 := by
  rw [dramCommandSlotEffect, if_neg (by simp [htrained]), hslot]
  dsimp only
  rw [hlink]

end

end

/-- Settles O46, clause by clause in the order of the statement. -/
theorem dramCommandsComplete : Obligations.DramCommandsComplete := by
  refine ⟨?_, ?_, fun s k htrained => ⟨?_, ?_, ?_, ?_, fun link => ⟨?_, ?_, ?_⟩⟩⟩
  · intro s port dom addr data k r hk htrained hdeny hr
    have heffect := dramRequestEffect_of_permitted (hk ▸ htrained) hdeny hk hr
    rw [Option.isSome_map] at heffect
    refine ⟨fun hroom => answers_of_effect _ rfl (heffect.trans (if_neg (Nat.not_le.mpr hroom))), fun hfull =>
      answers_of_effect _ rfl (heffect.trans (if_pos hfull))⟩
  · intro s port dom addr data n htrained hn hdeny
    exact answers_of_effect _ rfl (dramRequestEffect_of_denied htrained hn hdeny)
  · exact ⟨_, rfl, answers_of_effect (refreshDueEffect k) rfl (refreshDueEffect_of_trained htrained)⟩
  · exact answers_of_effect (delayUpdateEffect k) rfl (delayUpdateEffect_of_trained htrained)
  · intro port hpanic hlimit hfirst
    exact answers_of_effect (dmcPanicLongEffect k port) rfl (dmcPanicLongEffect_of_first htrained hpanic hlimit hfirst)
  · intro mr4 rate above wrErr
    exact ⟨_, _, _, rfl, rfl, rfl,
      answers_of_effect (mr4PollEffect k mr4.toNat rate above wrErr) rfl (mr4PollEffect_of_trained htrained rfl rfl)⟩
  · intro d hslot
    exact answers_of_effect (dramCommandSlotEffect k link) rfl (dramCommandSlotEffect_of_none htrained hslot)
  · intro d e r hslot hlink
    exact answers_of_effect (dramCommandSlotEffect k link) rfl (dramCommandSlotEffect_of_good htrained hslot hlink)
  · intro d e r x hslot hlink
    exact answers_of_effect (dramCommandSlotEffect k link) rfl (dramCommandSlotEffect_of_bad htrained hslot hlink)

end Sys2Proof.Machine

/-! ## The record store's command windows (R324, R328, R333 to R335, R338) -/

namespace Sys2Proof.Machine

variable {d e : Dev} {q : Requester} {a : Access} {w : Nat}

/-- A command of a window that opens leaves the device `f` makes, with its result shown. -/
theorem Dev.nfcWindow_of_opens {f : Dev → Dev × Nat} {r : Nat} (hopens : Opens d q 56 w a) (hf : f d = (e, r)) :
    d.nfcWindow q w f = e.setReg (Reg.NFC_CMD_STAT w) (w32 r) := by
  rw [Dev.nfcWindow, Dev.window_of_opens hopens, hf]

/-- SD0 gives its own commands in window 0. -/
theorem Dev.nfcSd0_of_opens {f : Dev → Dev × Nat} {r : Nat} (hopens : Opens d q 56 0 a) (hf : f d = (e, r)) :
    d.nfcSd0 q 0 f = e.setReg (Reg.NFC_CMD_STAT 0) (w32 r) :=
  Dev.nfcWindow_of_opens hopens ((if_neg (not_not_intro rfl)).trans hf)

theorem answers_of_nfcWindow {c : Instr} {s : State} {f : Dev → Dev × Nat} (hopens : Opens s.dev q 56 w a) (hc : exec c s = s.run (fun d => d.nfcWindow q w f))
    (hf : f s.dev = (e, 0)) : Answers c s (e.setReg (Reg.NFC_CMD_STAT w) 0) :=
  answers_of_effect _ hc (Dev.nfcWindow_of_opens hopens hf)

/-! ### MOUNT (R328) -/

/-- MOUNT of a store that is not in use, whose lowest die is on an enabled channel and whose ROOT was written at epoch `ep`. -/
theorem Dev.mount_of_root {l ep : Nat} (hdram : d.dramUp = true) (hretired : d.retired = false)
    (hstate : d.storeState = 0 ∨ 4 ≤ d.storeState) (hdies : d.dies ≠ []) (hchannel : d.bit Reg.NFC_CTL (d.dies.headD 0 / 4) = true)
    (hroot : d.nand.root = some (l, ep)) :
    d.mount = if Config.rootReadable d.tim.free = false then (d.draw.2.setStore 6).raise Ev.NFC_MOUNT_FAIL 0
      else if ep = d.recEpoch then d.draw.2.mountLog
      else (d.draw.2.setStore 5).raise Ev.NFC_EPOCH 0 := by
  have hmay : ¬ (d.dramUp = false ∨ d.storeState = 1 ∨ d.storeState = 2 ∨ d.storeState = 3 ∨ d.retired = true) := by
    simp [hdram, hretired]
    omega
  have hfound : (if d.draw.2.dies = [] ∨ d.draw.2.bit Reg.NFC_CTL (d.dies.headD 0 / 4) = false then none else d.draw.2.nand.root) =
      some (l, ep) := by
    rw [if_neg]
    · exact hroot
    · exact not_or_intro hdies (ne_false_of_eq_true hchannel)
  rw [Dev.mount]
  dsimp only
  rw [if_neg hmay, hfound]
  dsimp only
  have hepoch : d.draw.2.recEpoch = d.recEpoch := rfl
  rw [hepoch, ite_not]
  rfl

/-! ### Tracks (R324, R335) -/

/-- CLOSE of a slot in use that the window may close, for a row that is not late (R324). -/
theorem nfcCloseEffect_of_open {v : Word} (hopens : Opens d q 56 w a) (huse : (d.track (wfld v 9 0)).st ≠ 0)
    (hown : w = 0 ∨ (d.track (wfld v 9 0)).dom = w) (htime : d.rowLate (d.reg (Reg.NFC_REC w 3)).toNat = false) :
    nfcCloseEffect q w v d = (d.setTrack (wfld v 9 0) { d.track (wfld v 9 0) with stop := (d.reg (Reg.NFC_REC w 3)).toNat }).setReg
      (Reg.NFC_CMD_STAT w) 0 := by
  refine Dev.nfcWindow_of_opens hopens ?_
  dsimp only
  rw [if_neg huse, if_neg (by omega), if_neg (by simp [htime])]

/-- READ_TRACK shows SD0 every slot, and another window its own slots in use (R335). -/
theorem readTrackEffect_of_own {v : Word} (hopens : Opens d q 56 w a)
    (hown : w = 0 ∨ (d.track (wfld v 9 0)).st ≠ 0 ∧ (d.track (wfld v 9 0)).dom = w) :
    readTrackEffect q w v d = (d.setRegsNat (Reg.NFC_REC w 0) (trackNat (d.track (wfld v 9 0))) 8).setReg (Reg.NFC_CMD_STAT w) 0 := by
  refine Dev.nfcWindow_of_opens hopens ?_
  dsimp only
  rw [if_neg (by omega), if_neg (by omega)]

/-! ### Units (R334) -/

section
variable {n addr : Nat} (hopens : Opens d q 56 w a) (hn : n = d.regsNat (Reg.NFC_REC w 0) 2)
  (haddr : addr = d.regsNat (Reg.NFC_REC w 2) 2) (hready : d.storeState = 2)
include hopens hn haddr hready

/-- READ_UNIT writes a unit that is not released and is the window's own, as its read went. -/
theorem readUnitEffect_of_found {u : NandUnit} (hkept : d.releaseLsn ≤ n) (hfound : d.findUnit n = some u)
    (hown : w = 0 ∨ byteAt u.bytes 28 % 16 = w) :
    readUnitEffect q w d =
      ((d.readUnit n).2.dramPut 13 w addr (unitShown u (d.readUnit n).1.1)).setReg (Reg.NFC_CMD_STAT w) 0 := by
  subst hn haddr
  refine Dev.nfcWindow_of_opens hopens ?_
  dsimp only
  rw [if_neg (not_not_intro hready), if_neg (Nat.not_lt.mpr hkept), hfound]
  exact if_neg (by omega)

/-- READ_UNIT of a unit that is released or nowhere writes that there is none. -/
theorem readUnitEffect_of_none (hnone : n < d.releaseLsn ∨ d.findUnit n = none) :
    readUnitEffect q w d = (d.dramPut 13 w addr (unitShown ⟨0, [], none, false⟩ 3)).setReg (Reg.NFC_CMD_STAT w) 0 := by
  subst hn haddr
  have hfind : (if d.regsNat (Reg.NFC_REC w 0) 2 < d.releaseLsn then none else d.findUnit (d.regsNat (Reg.NFC_REC w 0) 2)) = none := by
    split
    · rfl
    · next hkept => exact hnone.resolve_left hkept
  refine Dev.nfcWindow_of_opens hopens ?_
  dsimp only
  rw [if_neg (not_not_intro hready), hfind]

end

/-! ### House records and RELEASE (R333, R334) -/

section
variable {n : Nat} (hopens : Opens d q 56 0 a) (hready : d.storeState = 2)
include hopens hready

/-- APPEND_HOUSE queues a record of DRAM's bytes while there is space. -/
theorem appendHouseEffect_of_space (hn : n = (d.reg (Reg.NFC_REC 0 4)).toNat) (hfits : n ≤ 4032) (hspace : d.storeFull = false) :
    appendHouseEffect q 0 d =
      ((d.dramGet 13 0 (d.regsNat (Reg.NFC_REC 0 2) 2) n).2.appendPlain 4 (d.dramGet 13 0 (d.regsNat (Reg.NFC_REC 0 2) 2) n).1).setReg
        (Reg.NFC_CMD_STAT 0) 0 := by
  subst hn
  refine Dev.nfcSd0_of_opens hopens ?_
  dsimp only
  rw [if_neg (Nat.not_lt.mpr hfits), if_neg (by simp [hready, hspace])]

/-- RELEASE raises the released LSN, and superblocks below it are erased. -/
theorem nfcReleaseEffect_of_lt (hn : n = d.regsNat (Reg.NFC_REC 0 0) 2) (hraises : d.releaseLsn < n) :
    nfcReleaseEffect q 0 d =
      (((d.setReg64 Reg.NFC_RELEASE_LSN_LO Reg.NFC_RELEASE_LSN_HI n).eraseReleased).checkpoint).setReg (Reg.NFC_CMD_STAT 0) 0 := by
  subst hn
  refine Dev.nfcSd0_of_opens hopens ?_
  dsimp only
  rw [if_neg (not_not_intro hready), if_neg (Nat.not_le.mpr hraises)]

/-- RELEASE never lowers it. -/
theorem nfcReleaseEffect_of_le (hn : n = d.regsNat (Reg.NFC_REC 0 0) 2) (hstays : n ≤ d.releaseLsn) :
    nfcReleaseEffect q 0 d = d.setReg (Reg.NFC_CMD_STAT 0) 0 := by
  subst hn
  refine Dev.nfcSd0_of_opens hopens ?_
  dsimp only
  rw [if_neg (not_not_intro hready), if_pos hstays]

end

/-! ### FORMAT (R338) -/

/-- FORMAT's blocks: those marked at the factory are retired, every good one is to be erased. -/
def Dev.formatBlocks (d : Dev) : Dev :=
  d.forEach (List.range d.superblocks) (fun d s =>
    let d := d.forEach ((d.blockMembers s).filter (fun m => Config.factoryMark m s)) (fun d m => d.retireBlock s m)
    if d.sblkGood s then d.setSblk s { d.sblk s with st := 4 } else d)

theorem Dev.retireBlock_root (d : Dev) (s m : Nat) : (d.retireBlock s m).nand.root = d.nand.root := by
  rw [Dev.retireBlock]
  split
  · rfl
  · rw [Dev.raise_nand, Dev.count_nand]
    rfl

/-- No block is the ROOT's: FORMAT leaves it. -/
theorem Dev.formatBlocks_root (d : Dev) : d.formatBlocks.nand.root = d.nand.root := by
  refine d.forEach_keeps (fun e => e.nand.root) fun e s _ => ?_
  have hretire := e.forEach_keeps (fun e => e.nand.root) (f := fun d m => d.retireBlock s m)
    (l := (e.blockMembers s).filter (fun m => Config.factoryMark m s)) fun e m _ => e.retireBlock_root s m
  dsimp only
  split
  · exact hretire
  · exact hretire

/-- The store as FORMAT leaves it: nothing queued, no head, FORMATTING. -/
def Dev.formatStarted (d : Dev) : Dev :=
  ({ d.formatBlocks with nfc := { d.formatBlocks.nfc with queue := [], head := none } } : Dev).setStore 3

theorem Dev.formatStarted_root (d : Dev) : d.formatStarted.nand.root = d.nand.root := by
  rw [Dev.formatStarted, Dev.setStore, Dev.setFld_nand]
  exact d.formatBlocks_root

theorem Dev.formatStarted_nfc (d : Dev) : d.formatStarted.nfc.queue = [] ∧ d.formatStarted.nfc.head = none := by
  rw [Dev.formatStarted, Dev.setStore, Dev.setFld_nfc]
  exact ⟨rfl, rfl⟩

theorem Dev.formatStarted_state (d : Dev) : d.formatStarted.storeState = 3 := Dev.setFld_fld_self _ _ _ _ _ (by decide)

/-- FORMAT of a store without a track in use that neither mounts nor formats. -/
theorem nfcFormatEffect_of_idle (hopens : Opens d q 56 0 a) (hidle : d.nfc.tracks.any (fun t => t.2.st != 0) = false)
    (hmounting : d.storeState ≠ 1) (hformatting : d.storeState ≠ 3) (hretired : d.retired = false) :
    nfcFormatEffect q 0 d = d.formatStarted.setReg (Reg.NFC_CMD_STAT 0) 0 := by
  refine Dev.nfcSd0_of_opens hopens ?_
  dsimp only
  rw [if_neg (by simp [hidle]), if_neg (by simp [hmounting, hformatting, hretired])]
  rfl

/-- Settles O48, window by window. -/
theorem storeCommandsComplete : Obligations.StoreCommandsComplete := by
  refine ⟨?_, ?_, ?_⟩
  · intro s q a hopens hdram hretired hstate hdies hchannel l e hroot
    exact answers_of_effect (nfcMountEffect q) rfl
      ((Dev.sd0_of_opens hopens _).trans (Dev.mount_of_root hdram hretired hstate hdies hchannel hroot))
  · intro s q a w v hopens
    refine ⟨fun e he => ?_, fun huse hown htime => ?_, fun hown => ?_, fun n addr u hn haddr hready hkept hfound hown => ?_,
      fun n addr hn haddr hready hnone => ?_⟩
    · exact answers_of_nfcWindow hopens rfl he
    · exact answers_of_effect (nfcCloseEffect q w v) rfl
        (nfcCloseEffect_of_open hopens huse hown htime)
    · exact answers_of_effect (readTrackEffect q w v) rfl (readTrackEffect_of_own hopens hown)
    · exact answers_of_effect (readUnitEffect q w) rfl (readUnitEffect_of_found hopens hn haddr hready hkept hfound hown)
    · exact answers_of_effect (readUnitEffect q w) rfl (readUnitEffect_of_none hopens hn haddr hready hnone)
  · intro s q a n hopens
    refine ⟨fun hn hfits hready hspace => ?_, fun hn hready => ⟨fun hraises => ?_, fun hstays => ?_⟩,
      fun hidle hmounting hformatting hretired => ?_⟩
    · exact ⟨_, rfl, answers_of_effect (appendHouseEffect q 0) rfl (appendHouseEffect_of_space hopens hready hn hfits hspace)⟩
    · exact answers_of_effect (nfcReleaseEffect q 0) rfl (nfcReleaseEffect_of_lt hopens hready hn hraises)
    · exact answers_of_effect (nfcReleaseEffect q 0) rfl (nfcReleaseEffect_of_le hopens hready hn hstays)
    · obtain ⟨hqueue, hhead⟩ := s.dev.formatStarted_nfc
      refine ⟨_, answers_of_effect (nfcFormatEffect q 0) rfl (nfcFormatEffect_of_idle hopens hidle hmounting hformatting hretired),
        ?_, ?_, ?_, ?_, ?_⟩
      · exact (congrArg (wfld · 2 0) (Dev.setReg_reg_of_ne _ (by decide) _)).trans s.dev.formatStarted_state
      · rw [Dev.setReg_nfc, hqueue]
      · rw [Dev.setReg_nfc, hhead]
      · rw [Dev.setReg_nand, Dev.formatStarted_root]
      · rw [Dev.fld, Dev.setReg_reg_self]
        rfl

end Sys2Proof.Machine

/-! ## The record store's own work (R327, R330 to R332, R338) -/

namespace Sys2Proof.Machine

variable {d : Dev} {b : Nat}

/-- The end of a format, whose blocks have been erased in `e` and whose LSNs go on above every one in use. -/
theorem nfcFormatDoneEffect_of_formatting {failed : List (Nat × Nat)} {top : Nat} {e f : Dev} (hstate : d.storeState = 3)
    (htop : top = max d.nfc.top (((List.range d.superblocks).flatMap (fun b =>
      (d.sblk b).pages.flatMap (fun p => p.units.map (fun u => u.lsn)))).foldl max 0))
    (he : e = d.forEach ((List.range d.superblocks).filter (fun b => (d.sblk b).st == 4)) (fun d b =>
      d.erased b ((failed.filter (fun f => f.1 == b)).map (fun f => f.2))))
    (hf : f = if ({ e with nfc := { e.nfc with top := top } } : Dev).headLsn ≤ top then
        ({ e with nfc := { e.nfc with top := top } } : Dev).setReg64 Reg.NFC_HEAD_LSN_LO Reg.NFC_HEAD_LSN_HI (top + 1)
      else { e with nfc := { e.nfc with top := top } }) :
    nfcFormatDoneEffect failed d = (((f.setStore 2).openHead).checkpoint).raise Ev.NFC_FORMAT_DONE 0 := by
  rw [nfcFormatDoneEffect, if_neg (not_not_intro hstate), hf, he, htop]

section
variable {ok : Bool} (hhead : d.nfc.head = some b) (hfull : d.pageUnits ≤ d.nfc.queue.length)
  (hstate : d.storeState = 2 ∨ d.storeState = 3)
include hhead hfull hstate

/-- A page programmed is on the medium and leaves the queue; the head moves past it. -/
theorem pageProgramDoneEffect_of_programmed {e f : Dev}
    (he : e = d.setSblk b { d.sblk b with pages := (d.sblk b).pages ++ [⟨d.nfc.page, d.nfc.member, d.nfc.queue.take d.pageUnits⟩] })
    (hf : f = ({ e with nfc := { e.nfc with queue := e.nfc.queue.drop d.pageUnits } } : Dev)) :
    pageProgramDoneEffect true d =
      ((f.setReg64 Reg.NFC_UNITS_LO Reg.NFC_UNITS_HI (f.reg64 Reg.NFC_UNITS_LO Reg.NFC_UNITS_HI + d.pageUnits)).headAdvance b).durableCheck := by
  rw [pageProgramDoneEffect]
  dsimp only
  rw [if_neg (by simp [hhead]), hhead]
  dsimp only
  rw [if_neg (by omega), if_pos rfl, hf, he]

/-- A page that failed retires its block, and the head moves past it. -/
theorem pageProgramDoneEffect_of_failed :
    pageProgramDoneEffect false d = ((d.retireBlock b d.nfc.member).headAdvance b).spaceCheck := by
  rw [pageProgramDoneEffect]
  dsimp only
  rw [if_neg (by simp [hhead]), hhead]
  dsimp only
  rw [if_neg (by omega)]
  rfl

end

section
variable (hready : d.storeState = 2)
include hready

theorem eraseDoneEffect_of_erasing (herasing : (d.sblk b).st = 4) (failed : List Nat) :
    eraseDoneEffect b failed d = ((d.erased b failed).spaceCheck).wearCheck := if_pos ⟨herasing, hready⟩

/-- Padding fills the open word line of the head: `row` units of a page row, `n` of a word line, `m` of them there. -/
theorem padFillEffect_of_lagging {n row m : Nat} (hhead : d.nfc.head = some b)
    (hlags : d.reg64 Reg.NFC_DURABLE_LSN_LO Reg.NFC_DURABLE_LSN_HI ≠ d.nfc.top)
    (hrow : row = (d.blockMembers b).length * d.pageUnits) (hn : n = if d.tlc then 3 * row else d.pageUnits)
    (hm : m = (if d.tlc then row * (d.nfc.page % 3) +
      ((d.blockMembers b).filter (fun m => decide (m < d.nfc.member))).length * d.pageUnits else 0) + d.nfc.queue.length) :
    padFillEffect d = d.forEach (List.range ((n - m % n) % n)) (fun d _ => d.appendPlain 5 []) := by
  rw [padFillEffect, hhead]
  dsimp only
  rw [if_neg (by simp [hready, hlags]), hm, hn, hrow]

theorem checkpointEffect_of_ready : checkpointEffect d = d.checkpoint := if_pos hready

/-- The patrol reads every unit of a FULL block; a weak one marks the block for refresh. -/
theorem patrolEffect_of_full {r : Dev × Bool} (hfull : (d.sblk b).st = 2) (hon : d.fld Reg.NFC_PATROL 31 24 ≠ 0)
    (hr : r = ((d.sblk b).pages.flatMap (fun p => p.units)).foldl (fun (x : Dev × Bool) u =>
      (if (x.1.readUnit u.lsn).1.1 = 0 then (x.1.readUnit u.lsn).2 else (x.1.readUnit u.lsn).2.dropUnit b u.lsn,
        x.2 || decide (d.fld Reg.NFC_PATROL 23 20 ≤ (x.1.readUnit u.lsn).1.2.1 ∨ d.fld Reg.NFC_PATROL 7 0 < (x.1.readUnit u.lsn).1.2.2)))
      (d, false)) :
    patrolEffect b d = if r.2 then r.1.markRefresh b else r.1 := by
  rw [patrolEffect]
  dsimp only
  rw [if_neg (by simp [hfull, hready, hon]), hr]

end

/-- A block whose copies have all been written is to be erased, and a checkpoint says so. -/
theorem refreshDoneEffect_of_copied (hrefresh : (d.sblk b).st = 3)
    (hcopied : (d.sblk b).pages.any (fun p => p.units.any (fun u => d.nfc.queue.any (fun q => q.copy && q.lsn == u.lsn))) = false) :
    refreshDoneEffect b d =
      (((d.setSblk b { d.sblk b with st := 4 }).checkpoint).count Reg.NFC_REFRESHED).raise Ev.NFC_REFRESH 0 := by
  rw [refreshDoneEffect]
  dsimp only
  rw [hcopied]
  exact if_neg (by simp [hrefresh])

/-- Settles O49, clause by clause in the order of the statement. -/
theorem storeWorkCompletes : Obligations.StoreWorkCompletes := by
  refine ⟨?_, ?_, ?_, ?_, ?_, ?_, ?_⟩
  · intro s failed hstate
    refine ⟨_, _, _, rfl, rfl, rfl, ?_⟩
    have hc : exec (.nfcFormatDone failed) s = s.run (nfcFormatDoneEffect (failed.map fun f => (f.1.toNat, f.2.val))) := rfl
    exact answers_of_effect _ hc (nfcFormatDoneEffect_of_formatting hstate rfl rfl rfl)
  · intro s b hhead hfull hstate
    exact ⟨⟨_, _, rfl, rfl, answers_of_effect (pageProgramDoneEffect true) rfl
      (pageProgramDoneEffect_of_programmed hhead hfull hstate rfl rfl)⟩,
      answers_of_effect (pageProgramDoneEffect false) rfl (pageProgramDoneEffect_of_failed hhead hfull hstate)⟩
  · intro s block failed herasing hready
    have hc : exec (.eraseDone block failed) s = s.run (eraseDoneEffect block.toNat (failed.map fun m => m.val)) := rfl
    exact answers_of_effect _ hc (eraseDoneEffect_of_erasing hready herasing _)
  · intro s b n row m hhead hready hlags hrow hn hm
    exact answers_of_effect padFillEffect rfl (padFillEffect_of_lagging hready hhead hlags hrow hn hm)
  · intro s hready
    exact answers_of_effect checkpointEffect rfl (checkpointEffect_of_ready hready)
  · intro s block hfull hready hon
    exact ⟨_, rfl, answers_of_effect (patrolEffect block.toNat) rfl (patrolEffect_of_full hready hfull hon rfl)⟩
  · intro s block hrefresh hcopied
    exact answers_of_effect (refreshDoneEffect block.toNat) rfl (refreshDoneEffect_of_copied hrefresh hcopied)

end Sys2Proof.Machine

/-! ## The host's commands: doorbells, messages, rings on and off, resets and the link (R346, R347, R354, R356 to R358) -/

namespace Sys2Proof.Machine

variable {d : Dev}

/-! ### Doorbells (R346, R347) -/

section
variable {fn dom r : Nat} {v : Word} (hserves : d.fnServes fn dom = true)
include hserves

theorem doorbellPiEffect_of_serves :
    doorbellPiEffect fn dom r v d = if d.dbAccepts (ringKey dom r) v.toNat then d.setReg (rHost (ringKey dom r)) v
      else d.dbBad (ringKey dom r) := by
  rw [doorbellPiEffect]
  exact if_neg (by simp [hserves])

theorem doorbellLimitEffect_of_serves (l : List HostFields) :
    doorbellLimitEffect fn dom r v l d = if d.dbAccepts (ringKey dom (6 + r)) v.toNat then
        (d.packetUnit 8).limitTo (ringKey dom (6 + r)) v.toNat l
      else d.dbBad (ringKey dom (6 + r)) := by
  rw [doorbellLimitEffect]
  exact if_neg (by simp [hserves])

end

/-! ### Messages that wait for company (R354, R386) -/

/-- A ring's records that are written and not signalled are signalled when their time is out. -/
theorem msixCoalTimeoutEffect_of_ring {dom src k : Nat} (hk : k = ringKey dom src) (hsrc : src ≠ 16)
    (htime : d.fld (Reg.HST_RING_COAL dom src) 31 16 ≠ 0) (hunsig : tat 0 d.hst.unsig k ≠ 0) :
    msixCoalTimeoutEffect dom src d =
      ({ d with hst := { d.hst with unsig := tset 0 d.hst.unsig k 0 } } : Dev).message (d.serving dom) (d.fld (rCfg k) 8 0) := by
  subst hk
  rw [msixCoalTimeoutEffect, if_neg hsrc]
  exact if_neg (not_or_intro htime hunsig)

/-- So are a log's. -/
theorem msixCoalTimeoutEffect_of_log {dom src : Nat} (hsrc : src = 16) (htime : d.fld (Reg.SWT_LOG_COAL dom) 31 16 ≠ 0) (hunsig : tat 0 d.swt.unsig dom ≠ 0) :
    msixCoalTimeoutEffect dom src d =
      ({ d with swt := { d.swt with unsig := tset 0 d.swt.unsig dom 0 } } : Dev).message (d.serving dom) (d.fld (Reg.SWT_LOG_CFG dom) 8 0) := by
  rw [msixCoalTimeoutEffect, if_pos hsrc]
  exact if_neg (not_or_intro htime hunsig)

/-! ### Rings on and off (R356, R358) -/

theorem dmaErrEffect_of_on {dom r : Nat} (hon : d.ringOn (ringKey dom r) = true) :
    dmaErrEffect dom r d =
      ((d.setReg (rStat (ringKey dom r)) (w32 (2 ^ 31 + 2))).count Reg.HST_DMA_ERR).raise Ev.DMA_ERR (ringKey dom r) dom := by
  rw [dmaErrEffect]
  exact if_neg (by simp [hon])

/-- The ring window of a domain opens where the domain's window does. -/
theorem ringEnWriteEffect_of_opens {q : Requester} {a : Access} {x : Nat} {r : Fin 16} (h : Opens d q 5 x a) (v : Word) :
    ringEnWriteEffect q x r v d = d.ringCfgWrite (ringKey x r) v := by
  obtain ⟨haccess, hmay, hpower⟩ := h
  rw [ringEnWriteEffect, Dev.ringWindow, Dev.by_of_access haccess, if_neg (by simp [hpower]), ringKey_div, if_pos hmay]

/-- EN turns a ring on with both indices zero. -/
theorem Dev.ringCfgWrite_of_on {k : Nat} {v : Word} (hoff : d.bit (rCfg k) 31 = false) (hon : wbit v 31 = true) :
    d.ringCfgWrite k v = ((d.setReg (rCfg k) (w32 (v.toNat &&& (ringCfgHl + 2 ^ 31)))).setReg (rDev k) 0).setReg (rHost k) 0 := by
  rw [Dev.ringCfgWrite, if_neg (by simp [hoff])]
  exact if_pos hon

/-- EN 0 that changes none of the fields held while the ring runs turns it off. -/
theorem Dev.ringCfgWrite_of_off {k : Nat} {v : Word} (hon : d.bit (rCfg k) 31 = true) (hoff : wbit v 31 = false)
    (hsame : (d.reg (rCfg k)).toNat &&& ringCfgHl = v.toNat &&& ringCfgHl) : d.ringCfgWrite k v = d.ringOff k := by
  have hheld : ((d.reg (rCfg k)).toNat &&& ringCfgHl != v.toNat &&& ringCfgHl) = false := by
    rw [hsame, bne_self_eq_false]
  rw [Dev.ringCfgWrite, if_pos hon]
  dsimp only
  rw [hheld, if_neg Bool.false_ne_true, if_neg (ne_true_of_eq_false hoff)]

/-! ### Resets and the link (R357) -/

theorem hstFlrEffect_of_bound {fn dom : Nat} (hfn : fn ≠ 0) (hpower : d.regionOff 5 = false) (hdom : dom = d.fnDomain fn)
    (hbound : dom ≠ 0) :
    hstFlrEffect fn d = ((d.forEach (List.range 16) (fun d r => d.ringOff (ringKey dom r))).clearMsix fn).raise Ev.HST_FLR fn dom := by
  subst hdom
  rw [hstFlrEffect, if_neg (by simp [hfn, hpower])]
  dsimp only
  rw [if_neg hbound]

theorem hstLinkEffect_of_ne {v w : Word} (hw : w = w32 (v.toNat &&& 0x1FF3F)) (hchange : d.reg Reg.HST_LINK_STAT ≠ w) :
    hstLinkEffect v d = (d.setReg Reg.HST_LINK_STAT w).raise Ev.HST_LINK 0 0 (leBytes 4 w.toNat) := by
  subst hw
  exact if_neg hchange

/-- Settles O50, clause by clause in the order of the statement. -/
theorem hostCommandsComplete : Obligations.HostCommandsComplete := by
  refine ⟨?_, ?_, ?_, ?_, ?_, ?_, ?_, ?_⟩
  · intro s fn x r v hserves
    exact ⟨fun haccepts => answers_of_effect (doorbellPiEffect fn x r v) rfl ((doorbellPiEffect_of_serves hserves).trans (if_pos haccepts)),
      fun hrefuses => answers_of_effect (doorbellPiEffect fn x r v) rfl
        ((doorbellPiEffect_of_serves hserves).trans (if_neg (ne_true_of_eq_false hrefuses)))⟩
  · intro s fn x r v l hserves
    exact ⟨fun haccepts => answers_of_effect (doorbellLimitEffect fn x r v l) rfl
        ((doorbellLimitEffect_of_serves hserves l).trans (if_pos haccepts)),
      fun hrefuses => answers_of_effect (doorbellLimitEffect fn x r v l) rfl
        ((doorbellLimitEffect_of_serves hserves l).trans (if_neg (ne_true_of_eq_false hrefuses)))⟩
  · intro s x src k hk
    refine ⟨fun hsrc htime hunsig => ?_, fun hsrc htime hunsig => ?_⟩
    · exact answers_of_effect (msixCoalTimeoutEffect x src) rfl (msixCoalTimeoutEffect_of_ring hk hsrc htime hunsig)
    · exact answers_of_effect (msixCoalTimeoutEffect x src) rfl (msixCoalTimeoutEffect_of_log hsrc htime hunsig)
  · intro s x r hon
    exact answers_of_effect (dmaErrEffect x r) rfl (dmaErrEffect_of_on hon)
  · intro s q a x r v k hopens hk
    subst hk
    exact ⟨fun hoff hon => answers_of_effect (ringEnWriteEffect q x r v) rfl
        ((ringEnWriteEffect_of_opens hopens v).trans (Dev.ringCfgWrite_of_on hoff hon)),
      fun hon hoff hsame => answers_of_effect (ringEnWriteEffect q x r v) rfl
        ((ringEnWriteEffect_of_opens hopens v).trans (Dev.ringCfgWrite_of_off hon hoff hsame))⟩
  · intro s fn hfn hpower hdom
    exact answers_of_effect (hstFlrEffect fn) rfl (hstFlrEffect_of_bound (Fin.val_ne_of_ne hfn) hpower rfl hdom)
  · intro s v w hw hchange
    exact answers_of_effect (hstLinkEffect v) rfl (hstLinkEffect_of_ne hw hchange)
  · intro s fn on
    exact ⟨_, answers_of_effect (busMasterEnableEffect fn on) rfl rfl, tat_tset_self _ _ _ _, fun j hj => tat_tset_of_ne _ _ hj _,
      rfl, rfl⟩

end Sys2Proof.Machine

/-! ## Descriptors of command and injection rings (R349, R350) -/

namespace Sys2Proof.Machine

variable {d e : Dev}

/-! ### Command rings (R349) -/

section
variable {dom r op : Nat} {x : CmdDesc}

/-- A good descriptor of a ring that may run one is taken and run. -/
theorem Dev.cmdRun_of_good {k : Nat} (hk : k = ringKey dom r) (hidle : tat none d.hst.waits k = none) (htake : d.takeDesc k = some e)
    (hgood : cmdGood x op = true) (f : Dev → Dev) : d.cmdRun dom r op x f = f e := by
  subst hk
  rw [Dev.cmdRun, if_neg (by simp [hidle]), htake]
  exact if_pos hgood

end

/-- A ring's requester by the number of its domain. -/
theorem ring_ofNat (x : Fin 16) : Requester.ring (Fin.ofNat 16 x) = .ring x := congrArg Requester.ring (Fin.ofNat_val_eq_self x)

/-- Ring `k` with the WAIT that polls there replaced. -/
def Dev.waitEnd (d : Dev) (k : Nat) (w : Option Waiting) : Dev :=
  { d with hst := { d.hst with waits := tset none d.hst.waits k w } }

/-- A poll ends the WAIT when the word matches or its time is out, and counts it otherwise (R349). -/
theorem Dev.waitPoll_eq {x : Fin 16} {r k : Nat} {w : Waiting} {p : Word × Dev} (hk : k = ringKey x r)
    (hp : p = readAny (.ring x) w.addr d) :
    d.waitPoll x r w = if p.1.toNat &&& w.mask = w.value then (p.2.waitEnd k none).complete k w.tag 0 0 noTs w.notify
      else if w.left = 0 then (p.2.waitEnd k none).complete k w.tag 2 0 noTs w.notify
      else p.2.waitEnd k (some { w with left := w.left - 1 }) := by
  subst hp hk
  rw [Dev.waitPoll, ring_ofNat]
  rfl

theorem waitPollEffect_of_on {dom r k : Nat} {w : Waiting} (hk : k = ringKey dom r) (hwaits : tat none d.hst.waits k = some w)
    (hon : d.ringOn k = true) : waitPollEffect dom r d = d.waitPoll dom r w := by
  subst hk
  rw [waitPollEffect, hwaits]
  exact if_pos hon

/-! ### Injection rings (R350) -/

/-- A descriptor that a ring may run, whose leg is its domain's, asks its pool for a chain of `n` buffers. -/
structure Injects (d : Dev) (k dom n : Nat) (i : InjDesc) (e : Dev) : Prop where
  key : k / 16 = dom
  idle : tat none d.hst.inject k = none
  kind : i.kind ≠ 3
  long : 60 ≤ i.frame.length
  fits : i.frame.length + 4 ≤ d.maxFrame (d.injectPort i)
  take : d.takeDesc k = some e
  leg : i.legValid = true → e.mayLeg dom i.leg.toNat = true
  toward : i.kind ≠ 0 → i.legValid = true
  buffers : n = buffersFor (e.fld (Reg.BPM_POOL_CFG (e.fld Reg.HST_INJ_POOL 2 0)) 7 0) (i.frame.length + 64)

namespace Injects

variable {k dom n : Nat} {i : InjDesc}

theorem injectDesc_eq (h : Injects d k dom n i e) :
    d.injectDesc k i = if (e.injectTry i k).1 then (e.injectTry i k).2
      else { (e.injectTry i k).2 with hst := { (e.injectTry i k).2.hst with
        inject := tset none (e.injectTry i k).2.hst.inject k (some (i, 0)) } } := by
  obtain ⟨hkey, hidle, hkind, hlong, hfits, htake, hleg, htoward, -⟩ := h
  have hgood : ¬ (d.ringOn k = true ∧ (i.kind = 3 ∨ i.frame.length < 60 ∨ d.maxFrame (d.injectPort i) < i.frame.length + 4)) := by
    rintro ⟨-, h | h | h⟩
    · exact hkind h
    · omega
    · omega
  have hdomain : (i.legValid && !e.mayLeg dom i.leg.toNat) = false := by
    cases hvalid : i.legValid with
    | false => rfl
    | true => simp [hleg hvalid]
  have hbad : ¬ (i.kind ≠ 0 ∧ i.legValid = false) := fun ⟨hne, hno⟩ => Bool.false_ne_true (hno.symm.trans (htoward hne))
  rw [Dev.injectDesc, if_neg (by simp [hidle]), if_neg hgood, htake]
  dsimp only
  rw [hkey, hdomain, if_neg Bool.false_ne_true, if_neg hbad]

/-- With a chain, the frame goes out as its KIND says. -/
theorem injectDesc_of_some (h : Injects d k dom n i e) {id : Nat} {g : Dev}
    (halloc : e.alloc (e.fld Reg.HST_INJ_POOL 2 0) 42 n dom = (some id, g)) : d.injectDesc k i = g.injectRun i k id := by
  have htry : e.injectTry i k = (true, g.injectRun i k id) := by
    obtain ⟨hkey, -, -, -, -, -, -, -, hn⟩ := h
    rw [Dev.injectTry, ← hn, hkey, halloc]
  rw [h.injectDesc_eq, htry]
  exact if_pos rfl

/-- Without one, it waits. -/
theorem injectDesc_of_none (h : Injects d k dom n i e) {g : Dev}
    (halloc : e.alloc (e.fld Reg.HST_INJ_POOL 2 0) 42 n dom = (none, g)) :
    d.injectDesc k i = { g with hst := { g.hst with inject := tset none g.hst.inject k (some (i, 0)) } } := by
  have htry : e.injectTry i k = (false, g) := by
    obtain ⟨hkey, -, -, -, -, -, -, -, hn⟩ := h
    rw [Dev.injectTry, ← hn, hkey, halloc]
  rw [h.injectDesc_eq, htry]
  exact if_neg Bool.false_ne_true

end Injects

section
variable {dom r k : Nat} {i : InjDesc} (hk : k = ringKey dom (2 + r)) (hpower : d.regionOff 5 = false) (hkind : i.kind ≠ 3)
include hk hpower hkind

theorem injectRawEffect_of_kind : injectRawEffect dom r i d = d.injectDesc k { i with kind := 0 } := by
  rw [injectRawEffect, if_neg (by simp [hpower]), if_neg hkind, hk]

theorem injectSrtcpEffect_of_kind : injectSrtcpEffect dom r i d = d.injectDesc k { i with kind := 1 } := by
  rw [injectSrtcpEffect, if_neg (by simp [hpower]), if_neg hkind, hk]

theorem injectRtpEffect_of_kind : injectRtpEffect dom r i d = d.injectDesc k { i with kind := 2 } := by
  rw [injectRtpEffect, if_neg (by simp [hpower]), if_neg hkind, hk]

end

/-- Settles O51: command rings by the descriptor's operation, polls by the word read, injections by what the pool gives. -/
theorem ringDescriptorsComplete : Obligations.RingDescriptorsComplete := by
  refine ⟨?_, ?_, ?_⟩
  · intro s x r c k e hk hidle htake
    have hrun : ∀ {op : Nat} (f : Dev → Dev), cmdGood c op = true → s.dev.cmdRun x r op c f = f e := fun f hgood =>
      Dev.cmdRun_of_good hk hidle htake hgood f
    subst hk
    refine ⟨fun hgood => ?_, fun hgood => ?_, fun hgood => ?_, fun hgood => ?_, fun hgood => ?_⟩
    · exact answers_of_effect (cmdWriteEffect x r c) rfl (hrun _ hgood)
    · exact answers_of_effect (cmdDmaWriteEffect x r c) rfl (hrun _ hgood)
    · rw [← ring_ofNat x]
      exact answers_of_effect (cmdReadEffect x r c) rfl (hrun _ hgood)
    · exact answers_of_effect (cmdWaitEffect x r c) rfl (hrun _ hgood)
    · exact answers_of_effect (cmdNopEffect x r c) rfl (hrun _ hgood)
  · intro s x r w k p hk hwaits hon hp
    have heffect := (waitPollEffect_of_on hk hwaits hon).trans (Dev.waitPoll_eq hk hp)
    refine ⟨fun hmatch => ?_, fun hno hout => ?_, fun hno hleft => ?_⟩
    · exact answers_of_effect (waitPollEffect x r) rfl (heffect.trans (if_pos hmatch))
    · exact answers_of_effect (waitPollEffect x r) rfl (heffect.trans ((if_neg hno).trans (if_pos hout)))
    · exact answers_of_effect (waitPollEffect x r) rfl (heffect.trans ((if_neg hno).trans (if_neg hleft)))
  · intro s x r i k n e hpower hk hidle hkind hlong hfits htake hleg hn
    have hkey : k / 16 = x := by
      rw [hk, ringKey]
      omega
    have hinjects : ∀ kind : BitVec 2, kind ≠ 3 → (kind ≠ 0 → i.legValid = true) →
        Injects s.dev k x n { i with kind := kind } e := fun kind hne htoward =>
      ⟨hkey, hidle, hne, hlong, hfits, htake, hleg, htoward, hn⟩
    have hraw : Injects s.dev k x n { i with kind := 0 } e := hinjects 0 (by decide) fun h => (h rfl).elim
    refine ⟨fun id g halloc => ⟨?_, fun hvalid => ⟨?_, ?_⟩⟩, fun g halloc => ?_⟩
    · exact answers_of_effect (injectRawEffect x r i) rfl
        ((injectRawEffect_of_kind hk hpower hkind).trans (hraw.injectDesc_of_some halloc))
    · exact answers_of_effect (injectSrtcpEffect x r i) rfl
        ((injectSrtcpEffect_of_kind hk hpower hkind).trans ((hinjects 1 (by decide) fun _ => hvalid).injectDesc_of_some halloc))
    · exact answers_of_effect (injectRtpEffect x r i) rfl
        ((injectRtpEffect_of_kind hk hpower hkind).trans ((hinjects 2 (by decide) fun _ => hvalid).injectDesc_of_some halloc))
    · exact answers_of_effect (injectRawEffect x r i) rfl
        ((injectRawEffect_of_kind hk hpower hkind).trans (hraw.injectDesc_of_none halloc))

end Sys2Proof.Machine

/-! ## Life-cycle and OTP commands (R359 to R361, R366) -/

namespace Sys2Proof.Machine

variable {d : Dev} {q : Requester} {a : Access} {v : Word}

theorem Dev.secResult_zero (d : Dev) : d.secResult 0 = d.setFld Reg.SEC_CMD_STAT 3 0 0 := by
  rw [Dev.secResult]
  exact if_pos rfl

/-- A SEC command of SD0 while no other runs is performed, and one that succeeds shows result 0. -/
theorem Dev.secCmd_of_opens {e : Dev} {f : Dev → Dev × Nat} (hopens : Opens d q 1 0 a) (hidle : d.bit Reg.SEC_CMD_STAT 31 = false)
    (hf : f d = (e, 0)) : d.secCmd q f = e.setFld Reg.SEC_CMD_STAT 3 0 0 := by
  rw [Dev.secCmd, Dev.sd0_of_opens hopens, if_neg (by simp [hidle]), hf, Dev.secResult_zero]

section
variable (hopens : Opens d q 1 0 a) (hidle : d.bit Reg.SEC_CMD_STAT 31 = false)
include hopens hidle

section
variable {f : Nat} (hf : f = wfld v 3 0) (hfield : f ≤ 10)
include hf hfield

theorem otpReadEffect_of_field (hread : wfld v 31 30 = 1) :
    otpReadEffect q v d = (d.setRegsNat (Reg.SEC_OTP_DATA 0) (otpField d.sec.otp f) 12).setFld Reg.SEC_CMD_STAT 3 0 0 := by
  subst hf
  rw [otpReadEffect, if_neg (not_not_intro hread)]
  exact Dev.secCmd_of_opens hopens hidle (if_neg (by omega))

/-- A field that is not yet programmed is, in a life-cycle state that lets it be. -/
theorem otpProgramEffect_of_field (hprogram : wfld v 31 30 = 2) (hfresh : otpDone d.sec.otp f = false)
    (hstate : d.sec.otp.lc ≤ if f = 0 then 0 else 1) :
    otpProgramEffect q v d =
      (((d.setOtp (otpSet f (d.regsNat (Reg.SEC_OTP_DATA 0) 12))).showOtp).setFld Reg.SEC_CMD_STAT 3 0 0) := by
  subst hf
  rw [otpProgramEffect, if_neg (not_not_intro hprogram)]
  refine Dev.secCmd_of_opens hopens hidle ?_
  dsimp only
  rw [if_neg (by omega), hfresh, if_neg Bool.false_ne_true, if_neg (Nat.not_lt.mpr hstate)]

end

section
variable {n : Nat} (hgo : wbit v 31 = true) (hn : n = wfld v 6 0) (hbound : n ≤ 64)
include hgo hn hbound

/-- The firmware's floor rises to at most the version that runs. -/
theorem floorCmdEffect_of_firmware (hset : wbit v 7 = false) (hrises : d.sec.otp.fwFloor < n)
    (hruns : n ≤ (d.reg Reg.SEC_FW_VERSION).toNat) :
    floorCmdEffect q v d = ((d.setOtp (fun o => { o with fwFloor := n })).showOtp).setFld Reg.SEC_CMD_STAT 3 0 0 := by
  subst hn
  rw [floorCmdEffect, if_neg (by simp [hgo])]
  refine Dev.secCmd_of_opens hopens hidle ?_
  simp only [hset, Bool.false_eq_true, if_false]
  exact if_neg (by omega)

theorem floorCmdEffect_of_pattern (hset : wbit v 7 = true) (hrises : d.sec.otp.patFloor < n)
    (hruns : n ≤ (d.reg Reg.PAT_SEC_VERSION).toNat) :
    floorCmdEffect q v d = ((d.setOtp (fun o => { o with patFloor := n })).showOtp).setFld Reg.SEC_CMD_STAT 3 0 0 := by
  subst hn
  rw [floorCmdEffect, if_neg (by simp [hgo])]
  refine Dev.secCmd_of_opens hopens hidle ?_
  simp only [hset, if_true]
  exact if_neg (by omega)

end

theorem revokeEffect_of_unused {i : Nat} (hgo : wbit v 31 = true) (hi : i = wfld v 2 0) (hretired : d.retired = false)
    (hunused : d.keyInUse i = false) :
    revokeEffect q v d = (((d.setOtp (fun o => { o with revoke := o.revoke ||| 2 ^ i })).setFld Reg.SEC_FLOORS (16 + i) (16 + i) 0).showOtp).setFld
      Reg.SEC_CMD_STAT 3 0 0 := by
  subst hi
  rw [revokeEffect, if_neg (by simp [hgo])]
  refine Dev.secCmd_of_opens hopens hidle ?_
  dsimp only
  rw [if_neg (by simp [hretired]), if_neg (by simp [hunused])]

section
variable {t : Nat} {boot : BootEnv} (hgo : wbit v 31 = true) (ht : t = wfld v 2 0)
include hgo ht

/-- A change that Table 21-2 asks nothing more of is made at once. -/
theorem lcCmdEffect_of_free (hask : d.lcAsk d.lcState t = 0) : lcCmdEffect q v boot d = d.lcChange d.lcState t boot := by
  subst ht
  rw [lcCmdEffect, Dev.sd0_of_opens hopens, if_neg (by simp [hgo, hidle])]
  simp only [hask]

/-- One that asks for a response is made when the response is good, and refused otherwise. -/
theorem lcCmdEffect_of_response (hask : d.lcAsk d.lcState t = 3) :
    lcCmdEffect q v boot d = if (d.lcVerify t).1 then (d.lcVerify t).2.lcChange d.lcState t boot
      else ((d.lcVerify t).2.setFld Reg.SEC_CMD_STAT 3 0 3).raise Ev.SEC_REFUSED 0 0 [3] := by
  subst ht
  rw [lcCmdEffect, Dev.sd0_of_opens hopens, if_neg (by simp [hgo, hidle])]
  simp only [hask]
  exact congrArg (ite _ _) rfl

end

end

/-- Settles O53, clause by clause in the order of the statement. -/
theorem lifeCycleCommandsComplete : Obligations.LifeCycleCommandsComplete := by
  refine ⟨?_, ?_, ?_, ?_⟩
  · intro s q a v f hopens hidle hf hfield
    exact ⟨fun hread => answers_of_effect (otpReadEffect q v) rfl (otpReadEffect_of_field hopens hidle hf hfield hread),
      fun hprogram hfresh hstate => answers_of_effect (otpProgramEffect q v) rfl
        (otpProgramEffect_of_field hopens hidle hf hfield hprogram hfresh hstate)⟩
  · intro s q a v n hopens hidle hgo hn hbound
    exact ⟨fun hset hrises hruns => answers_of_effect (floorCmdEffect q v) rfl
        (floorCmdEffect_of_firmware hopens hidle hgo hn hbound hset hrises hruns),
      fun hset hrises hruns => answers_of_effect (floorCmdEffect q v) rfl
        (floorCmdEffect_of_pattern hopens hidle hgo hn hbound hset hrises hruns)⟩
  · intro s q a v i hopens hidle hgo hi hretired hunused
    exact answers_of_effect (revokeEffect q v) rfl (revokeEffect_of_unused hopens hidle hgo hi hretired hunused)
  · intro s q a v boot t hopens hidle hgo ht
    exact ⟨fun hask => answers_of_effect (lcCmdEffect q v boot) rfl (lcCmdEffect_of_free hopens hidle hgo ht hask),
      fun hask => answers_of_effect (lcCmdEffect q v boot) rfl (lcCmdEffect_of_response hopens hidle hgo ht hask)⟩

end Sys2Proof.Machine

/-! ## Debug, bind-off, random and monitor commands (R367 to R377) -/

namespace Sys2Proof.Machine

variable {d : Dev} {q : Requester} {a : Access} {v : Word}

/-- A debug command out of P3 is made for the debug port and for SD0. -/
theorem Dev.secDebug_of_may (hpower : d.power ≠ 3) (hmay : q = .debug ∨ ∃ a : Access, Opens d q 1 0 a) (f : Dev → Dev) :
    d.secDebug q f = f d := by
  by_cases hq : q = .debug
  · subst hq
    exact if_neg hpower
  · obtain ⟨a, hopens⟩ := hmay.resolve_left hq
    rw [Dev.secDebug_of_ne_debug hq, if_neg hpower, Dev.sd0_of_opens hopens]

theorem Dev.bit_congr {e : Dev} {r : Nat} (h : e.reg r = d.reg r) (i : Nat) : e.bit r i = d.bit r i := congrArg (wbit · i) h

theorem Dev.setSec_reg (d : Dev) (x : Sec) (r : Nat) : ({ d with sec := x } : Dev).reg r = d.reg r := rfl

theorem Dev.chalOff_reg_of_ne {r : Nat} (h : r ≠ Reg.SEC_DBG_STAT) : d.chalOff.reg r = d.reg r := by
  rw [Dev.chalOff, Dev.setSec_reg, Dev.setBit_reg_of_ne d h]

theorem Dev.dbgResult_reg_of_ne {r : Nat} (h : r ≠ Reg.SEC_DBG_STAT) (x : Nat) : (d.dbgResult x).reg r = d.reg r :=
  Dev.setFld_reg_of_ne d h 3 0 x

section
variable (hpower : d.power ≠ 3) (hmay : q = .debug ∨ ∃ a : Access, Opens d q 1 0 a)
include hpower hmay

/-- A new challenge ends the old one, and is filled at once or waits for random bytes. -/
theorem dbgChallengeEffect_of_open (hcmd : wfld v 31 28 = 1) (hopen : d.dbgFails < 8) :
    dbgChallengeEffect q v d = if d.bit Reg.SEC_RNG_STAT 0 then (d.chalOff.dbgResult 0).challenge
      else { d.chalOff.dbgResult 0 with sec := { (d.chalOff.dbgResult 0).sec with chalWait := true } } := by
  have hvalid : (d.chalOff.dbgResult 0).bit Reg.SEC_RNG_STAT 0 = d.bit Reg.SEC_RNG_STAT 0 :=
    Dev.bit_congr ((Dev.dbgResult_reg_of_ne (by decide) 0).trans (Dev.chalOff_reg_of_ne (by decide))) 0
  rw [dbgChallengeEffect, if_neg (not_not_intro hcmd), Dev.secDebug_of_may hpower hmay, if_neg (Nat.not_le.mpr hopen)]
  dsimp only
  rw [hvalid]

theorem dbgUnlockEffect_of_challenge (hcmd : wfld v 31 28 = 2) (hvalid : d.bit Reg.SEC_DBG_STAT 30 = true)
    (hstate : d.lcState = 2 ∨ d.lcState = 3) :
    dbgUnlockEffect q v d = if (d.verifyResponse 0 (wfld v 1 0)).1 then ((d.verifyResponse 0 (wfld v 1 0)).2.dbgResult 0).moveLevel (wfld v 1 0)
      else (d.verifyResponse 0 (wfld v 1 0)).2.dbgResult 1 := by
  rw [dbgUnlockEffect, if_neg (not_not_intro hcmd), Dev.secDebug_of_may hpower hmay, if_neg (by simp [hvalid]), if_neg (by omega)]

theorem dbgSetEffect_of_limit (hcmd : wfld v 31 28 = 3) (hlimit : wfld v 1 0 ≤ d.level ∨ wfld v 1 0 ≤ d.setLimit) :
    dbgSetEffect q v d = (d.dbgResult 0).moveLevel (wfld v 1 0) := by
  rw [dbgSetEffect, if_neg (not_not_intro hcmd), Dev.secDebug_of_may hpower hmay]
  exact if_neg (by omega)

end

/-! ### Bind-off -/

theorem Dev.bindKeys_slot_of_bound {p : Nat → Bool} {k : Nat} (hp : p (d.slotDom k) = true) : (d.bindKeys p).slot k = 0 := by
  have hnone : lookup (d.cip.slots.filter fun e => !p (d.slotDom e.1)) k = none :=
    lookup_eq_none_of_keys fun c hc hk => by
      have hkept := (List.mem_filter.mp hc).2
      rw [hk, hp] at hkept
      exact Bool.false_ne_true hkept
  exact congrArg (Option.getD · 0) hnone

theorem Dev.bindKeys_slot_of_kept {p : Nat → Bool} {k : Nat} (hp : p (d.slotDom k) = false) : (d.bindKeys p).slot k = d.slot k :=
  congrArg (Option.getD · 0)
    (lookup_filter_of_kept (p := fun j => !p (d.slotDom j)) (congrArg not hp) d.cip.slots)

/-- A bind-off that runs: the domain's keys are gone, SEC is busy with it. -/
def Dev.bindWiping (d : Dev) (x : Nat) : Dev :=
  { (d.bindKeys (fun y => y == x)).setBit Reg.SEC_CMD_STAT 31 true with sec := { d.sec with binding := some x } }

/-! What it leaves, its result shown. -/

theorem Dev.setFld_slot (d : Dev) (r hi lo v k : Nat) : (d.setFld r hi lo v).slot k = d.slot k := rfl

theorem Dev.setBit_slot (d : Dev) (r i : Nat) (b : Bool) (k : Nat) : (d.setBit r i b).slot k = d.slot k := rfl

theorem Dev.setSec_slot (d : Dev) (x : Sec) (k : Nat) : ({ d with sec := x } : Dev).slot k = d.slot k := rfl

theorem Dev.bindWiping_slot (d : Dev) (x k : Nat) :
    ((d.bindWiping x).setFld Reg.SEC_CMD_STAT 3 0 0).slot k = (d.bindKeys fun y => y == x).slot k := by
  rw [Dev.setFld_slot, Dev.bindWiping, Dev.setSec_slot, Dev.setBit_slot]

theorem Dev.bindWiping_binding (d : Dev) (x : Nat) : ((d.bindWiping x).setFld Reg.SEC_CMD_STAT 3 0 0).sec.binding = some x := by
  rw [Dev.setFld_sec, Dev.bindWiping]

theorem Dev.bindWiping_dram (d : Dev) (x : Nat) : ((d.bindWiping x).setFld Reg.SEC_CMD_STAT 3 0 0).dram = d.dram := by
  rw [Dev.setFld_dram, Dev.bindWiping, Dev.setBit_dram, Dev.bindKeys]

theorem Dev.bindWiping_busy (d : Dev) (x : Nat) : ((d.bindWiping x).setFld Reg.SEC_CMD_STAT 3 0 0).bit Reg.SEC_CMD_STAT 31 = true := by
  rw [Dev.setFld_bit_of_disjoint (d.bindWiping x) _ 3 0 31 0 (by decide) (by decide), Dev.bindWiping, Dev.bit_congr (Dev.setSec_reg _ _ _),
    Dev.setBit_bit_self _ _ 31 true (by decide)]

theorem bindCmdEffect_of_rest {x : Nat} (hopens : Opens d q 1 0 a) (hidle : d.bit Reg.SEC_CMD_STAT 31 = false)
    (hgo : wbit v 31 = true) (hx : x = wfld v 3 0) (hne : x ≠ 0) (hlegs : d.legsUp x = false) (hrings : d.ringsUp x = false) :
    bindCmdEffect q v d = (d.bindWiping x).setFld Reg.SEC_CMD_STAT 3 0 0 := by
  subst hx
  rw [bindCmdEffect, if_neg (by simp [hgo])]
  refine Dev.secCmd_of_opens hopens hidle ?_
  dsimp only
  rw [if_neg hne, hlegs, hrings]
  exact if_neg Bool.false_ne_true

theorem secDomBoundEffect_of_binding {x : Nat} {e : Dev} (hbinding : d.sec.binding = some x)
    (he : e = (d.wipeCarves x).setBit Reg.SEC_CMD_STAT 31 false) :
    secDomBoundEffect d = ({ e with sec := { e.sec with binding := none } } : Dev).raise Ev.SEC_DOM_BOUND x := by
  subst he
  rw [secDomBoundEffect, hbinding]

/-! ### Random bytes -/

theorem rngReadEffect_of_opens (hopens : Opens d q 1 0 a) :
    rngReadEffect q d = if d.bit Reg.SEC_RNG_STAT 0 then (d.random 4).2.setReg Reg.SEC_RNG (w32 (leNat (d.random 4).1))
      else d.setReg Reg.SEC_RNG 0 := by
  rw [rngReadEffect, Dev.sd0_of_opens hopens]

theorem rngValidRestoredEffect_eq (d : Dev) :
    rngValidRestoredEffect d = if d.sec.chalWait then (d.setBit Reg.SEC_RNG_STAT 0 true).challenge
      else d.setBit Reg.SEC_RNG_STAT 0 true := by
  rw [rngValidRestoredEffect]
  exact congrArg (fun b : Bool => if b then _ else _) (congrArg Sec.chalWait (Dev.setBit_sec d _ _ _))

/-! ### The monitor -/

/-- The count of trips does not see the cause that is marked before it. -/
theorem secMonTripEffect_eq {cause : Nat} (hcause : cause < 3) {boot : BootEnv} {e f : Dev}
    (he : e = (d.resetTo 3 2).setBit Reg.SEC_MON_STAT cause true)
    (hf : f = e.setFld Reg.SEC_MON_STAT 31 24 (min 255 (e.fld Reg.SEC_MON_STAT 31 24 + 1))) :
    secMonTripEffect cause boot d = ({ f with sec := { f.sec with monTrip := true } } : Dev).castMay boot := by
  have hcount : e.fld Reg.SEC_MON_STAT 31 24 = (d.resetTo 3 2).fld Reg.SEC_MON_STAT 31 24 :=
    he ▸ Dev.setFld_fld_of_disjoint (d.resetTo 3 2) _ cause cause 31 24 _ (by omega) (Or.inr (by omega))
  rw [secMonTripEffect, ← hcount, ← he, ← hf]

/-- Settles O55, clause by clause in the order of the statement. -/
theorem securityCommandsComplete : Obligations.SecurityCommandsComplete := by
  refine ⟨fun s q v hpower hmay => ⟨fun hcmd hopen => ⟨?_, ?_⟩, ?_, ?_⟩, ?_, ?_, ?_, ?_, ?_, ?_, ?_⟩
  · intro hvalid
    exact ⟨_, rfl, answers_of_effect (dbgChallengeEffect q v) rfl ((dbgChallengeEffect_of_open hpower hmay hcmd hopen).trans (if_pos hvalid))⟩
  · intro hvalid
    exact ⟨_, rfl, answers_of_effect (dbgChallengeEffect q v) rfl
      ((dbgChallengeEffect_of_open hpower hmay hcmd hopen).trans (if_neg (by simp [hvalid])))⟩
  · intro hcmd hvalid hstate
    exact answers_of_effect (dbgUnlockEffect q v) rfl (dbgUnlockEffect_of_challenge hpower hmay hcmd hvalid hstate)
  · intro hcmd hlimit
    exact answers_of_effect (dbgSetEffect q v) rfl (dbgSetEffect_of_limit hpower hmay hcmd hlimit)
  · exact fun s => answers_of_effect challengeExpiryEffect rfl rfl
  · intro s q a v x hopens hidle hgo hx hne hlegs hrings
    refine ⟨_, answers_of_effect (bindCmdEffect q v) rfl (bindCmdEffect_of_rest hopens hidle hgo hx hne hlegs hrings),
      s.dev.bindWiping_binding x, fun k hk => ?_, fun k hk => ?_,
      Dev.setFld_fld_self _ _ _ _ _ (by decide), s.dev.bindWiping_busy x, s.dev.bindWiping_dram x⟩
    · exact (s.dev.bindWiping_slot x k).trans (Dev.bindKeys_slot_of_bound (beq_iff_eq.mpr hk))
    · exact (s.dev.bindWiping_slot x k).trans (Dev.bindKeys_slot_of_kept (beq_eq_false_iff_ne.mpr hk))
  · intro s x hbinding
    exact ⟨_, rfl, answers_of_effect secDomBoundEffect rfl (secDomBoundEffect_of_binding hbinding rfl)⟩
  · intro s q a hopens
    exact ⟨fun hvalid => answers_of_effect (rngReadEffect q) rfl ((rngReadEffect_of_opens hopens).trans (if_pos hvalid)),
      fun hvalid => answers_of_effect (rngReadEffect q) rfl ((rngReadEffect_of_opens hopens).trans (if_neg (by simp [hvalid])))⟩
  · exact fun s => answers_of_effect secRngFailEffect rfl rfl
  · intro s
    exact ⟨fun hwait => answers_of_effect rngValidRestoredEffect rfl ((rngValidRestoredEffect_eq s.dev).trans (if_pos hwait)),
      fun hwait => answers_of_effect rngValidRestoredEffect rfl ((rngValidRestoredEffect_eq s.dev).trans (if_neg (by simp [hwait])))⟩
  · exact fun s cause boot => ⟨_, _, rfl, rfl, answers_of_effect (secMonTripEffect cause boot) rfl (secMonTripEffect_eq cause.isLt rfl rfl)⟩

end Sys2Proof.Machine

/-! ## Reset sources (R393 to R399) -/

namespace Sys2Proof.Machine

variable {d : Dev} {q : Requester} {a : Access} {v : Word} {boot : BootEnv}

theorem resetNReleaseEffect_of_held (hheld : d.sys.pinLow = true ∨ d.fld Reg.SYS_CASTON 11 8 = 0) :
    resetNReleaseEffect boot d = ({ d with sys := { d.sys with pinLow := false } } : Dev).castMay boot := if_pos hheld

theorem thermalTripEndEffect_of_held (hheld : d.sys.thermal = true) :
    thermalTripEndEffect boot d = ({ d with sys := { d.sys with thermal := false } } : Dev).castMay boot := if_pos hheld

section
variable (hopens : Opens d q 0 0 a)
include hopens

/-- SYS_RST_CMD with its key resets cold, or warm where it does not ask for cold. -/
theorem Dev.rstCmd_of_key (hkey : wfld v 31 16 = 0xA5C3) :
    d.rstCmd q v boot = if wbit v 0 then (d.resetTo 3 3).castMay boot else if wbit v 1 then (d.resetTo 2 4).castMay boot else d := by
  rw [Dev.rstCmd, Dev.sd0_of_opens hopens, if_neg (not_not_intro hkey)]

theorem sysPushEffect_of_open (hpush : wbit v 0 = true) (hopen : d.stagingOpen = true) :
    sysPushEffect q v boot d = ((d.setFld Reg.SYS_CASTON 7 0 0).setBit Reg.SYS_CASTON 30 false).castCheck boot true := by
  rw [sysPushEffect, Dev.sd0_of_opens hopens]
  exact if_neg (by simp [hpush, hopen])

end

theorem Dev.pcieSource_one (d : Dev) (bit : Nat) (boot : BootEnv) : d.pcieSource 1 bit boot = (d.resetTo 2 bit).castMay boot := if_pos rfl

theorem Dev.pcieSource_two (d : Dev) (bit : Nat) (boot : BootEnv) : d.pcieSource 2 bit boot = (d.resetTo 3 bit).castMay boot := by
  rw [Dev.pcieSource, if_neg (by decide), if_pos rfl]

theorem Dev.pcieSource_zero (hready : d.ready = true) (bit : Nat) (boot : BootEnv) :
    d.pcieSource 0 bit boot = (d.setBit Reg.SYS_RST_STAT bit true).pcieReset boot := by
  rw [Dev.pcieSource, if_neg (by decide), if_neg (by decide), if_pos hready]

theorem pciePerstEffect_of_ready (hready : d.ready = true) :
    pciePerstEffect boot d = d.pcieSource (d.fld Reg.SYS_RST_CFG 1 0) 5 boot := if_pos hready

/-- Settles O57, source by source in the order of the statement. -/
theorem resetCommandsComplete : Obligations.ResetCommandsComplete := by
  refine ⟨?_, ?_, ?_, ?_, ?_, ?_, ?_, ?_, ?_⟩
  · exact fun s boot => ⟨_, rfl, answers_of_effect (powerOnResetEffect boot) rfl rfl⟩
  · exact fun s => ⟨_, rfl, answers_of_effect resetPinEffect rfl rfl⟩
  · exact fun s => ⟨_, rfl, answers_of_effect thermalTripEffect rfl rfl⟩
  · exact fun s boot hheld => answers_of_effect (resetNReleaseEffect boot) rfl (resetNReleaseEffect_of_held hheld)
  · exact fun s boot hheld => answers_of_effect (thermalTripEndEffect boot) rfl (thermalTripEndEffect_of_held hheld)
  · intro s q a v boot hopens hkey
    have heffect := Dev.rstCmd_of_key (boot := boot) hopens hkey
    exact ⟨fun hcold => answers_of_effect (rstCmdColdEffect q v boot) rfl (heffect.trans (if_pos hcold)),
      fun hcold hwarm => answers_of_effect (rstCmdWarmEffect q v boot) rfl
        (heffect.trans ((if_neg (by simp [hcold])).trans (if_pos hwarm)))⟩
  · intro s boot hready
    exact ⟨answers_of_effect (pciePerstEffect boot) rfl (pciePerstEffect_of_ready hready),
      answers_of_effect (pcieHotResetEffect boot) rfl rfl, answers_of_effect (pfFlrEffect boot) rfl rfl⟩
  · exact fun d bit boot hready => ⟨Dev.pcieSource_zero hready bit boot, d.pcieSource_one bit boot, d.pcieSource_two bit boot⟩
  · exact fun s q a v boot hopens hpush hopen => answers_of_effect (sysPushEffect q v boot) rfl (sysPushEffect_of_open hopens hpush hopen)

end Sys2Proof.Machine

/-! ## Power, references and temperature (R391, R400, R402) -/

namespace Sys2Proof.Machine

variable {d : Dev} {q : Requester} {a : Access}

/-! ### Requests -/

section
variable (hopens : Opens d q 0 0 a) (hidle : d.powerBusy = false)
include hopens hidle

/-- A request that nothing refuses starts its transition; the entry to P3 waits for D3hot first. -/
theorem Dev.powerCmd_of_allowed {st : Nat} (hallowed : d.powerCheck st = 0) :
    d.powerCmd q st = if st = 3 then
        { (d.setBit Reg.SYS_PWR_STAT 31 true).setFld Reg.SYS_PWR_STAT 6 4 0 with sys := { d.sys with d3wait := true } }
      else d.powerStart st := by
  rw [Dev.powerCmd, Dev.sd0_of_opens hopens, if_neg (by simp [hidle])]
  exact if_neg (not_not_intro hallowed)

theorem Dev.powerCmd_of_ne_three {st : Nat} (hallowed : d.powerCheck st = 0) (hst : st ≠ 3) : d.powerCmd q st = d.powerStart st :=
  (Dev.powerCmd_of_allowed hopens hidle hallowed).trans (if_neg hst)

theorem pwrCmdP3Effect_of_allowed {e : Dev} (hallowed : d.powerCheck 3 = 0)
    (he : e = (d.setBit Reg.SYS_PWR_STAT 31 true).setFld Reg.SYS_PWR_STAT 6 4 0) :
    pwrCmdP3Effect q d = { e with sys := { d.sys with d3wait := true } } :=
  he ▸ (Dev.powerCmd_of_allowed hopens hidle hallowed).trans (if_pos rfl)

end

/-- ORDER refuses a request for the state that stands, and every request in P3. -/
theorem Dev.powerCheck_of_order {st : Nat} (h : d.power = st ∨ d.power = 3) : d.powerCheck st = 1 := if_pos h

/-- In order, a request is allowed, or refused for a swap; that never for P0. -/
theorem Dev.powerCheck_in_order {st : Nat} (h : ¬ (d.power = st ∨ d.power = 3)) :
    d.powerCheck st = 0 ∨ d.powerCheck st = 2 ∧ st ≠ 0 := by
  rw [Dev.powerCheck, if_neg h]
  by_cases hzero : st = 0
  · exact Or.inl (if_pos hzero)
  · rw [if_neg hzero]
    split
    · split
      · exact Or.inl rfl
      · split
        · exact Or.inr ⟨rfl, hzero⟩
        · exact Or.inl rfl
    · split
      · exact Or.inr ⟨rfl, hzero⟩
      · exact Or.inl rfl

/-! ### Transitions -/

theorem pfD3hotEffect_of_waiting (hwait : d.sys.d3wait = true) :
    pfD3hotEffect d = ({ d with sys := { d.sys with d3wait := false } } : Dev).powerStart 3 := if_pos hwait

theorem wakeEffect_of_enabled {pcie : Bool} (hpower : d.power = 3) (hidle : d.powerBusy = false)
    (henabled : d.bit Reg.SYS_PWR_CFG (if pcie then 0 else 1) = true) (hto : d.fld Reg.SYS_PWR_CFG 5 4 < 3) :
    wakeEffect pcie d = d.powerStart (d.fld Reg.SYS_PWR_CFG 5 4) := by
  rw [wakeEffect, if_pos ⟨hpower, hidle, henabled⟩, Nat.mod_eq_of_lt hto]

theorem sysPwrDoneEffect_of_busy {e : Dev} (hbusy : d.powerBusy = true) (hwait : d.sys.d3wait = false)
    (he : e = if d.sys.pwrTo < d.power then d.powerUp d.sys.pwrTo else d) :
    sysPwrDoneEffect d = (e.setBit Reg.SYS_PWR_STAT 31 false).raise Ev.SYS_PWR_DONE 0 0 [b8 e.sys.pwrOld, b8 e.sys.pwrTo] := by
  rw [sysPwrDoneEffect, if_neg (by simp [hbusy, hwait]), he]

/-! ### References and temperature -/

section
variable {ref : Nat} {e : Dev} (href : ref ≠ 0) (hruns : d.bit Reg.SYS_CLK_STAT (8 + ref) = true)
  (he : e = (d.setBit Reg.SYS_CLK_STAT (8 + ref) false).raise Ev.SYS_REF_LOST 0 0 [b8 (8 + ref)])
include href hruns he

/-- A reference that stops takes down what it clocks: the host link, or its ports. -/
theorem sysRefLostEffect_of_running :
    sysRefLostEffect ref d = if ref = 3 then hstLinkEffect 0 e
      else e.forEach (e.refPorts ref) (fun d p => linkDownEffect p 0 (d.bit (Reg.NET_PORT_STAT p) 6) true d) := by
  rw [sysRefLostEffect, if_neg (by simp [href, hruns]), he]

end

theorem sysTempWarnEffect_eq {tj : BitVec 16} {e : Dev} (he : e = d.setFld Reg.SYS_TEMP 15 0 tj.toNat) :
    sysTempWarnEffect tj d =
      if sInt 16 (d.fld Reg.SYS_TEMP 15 0) < sInt 16 (d.fld Reg.SYS_TEMP_WARN 15 0) ∧ sInt 16 (d.fld Reg.SYS_TEMP_WARN 15 0) ≤ tj.toInt
      then e.raise Ev.SYS_TEMP_WARN 0 else e := by
  rw [sysTempWarnEffect, he]

/-- Settles O59, clause by clause in the order of the statement. -/
theorem powerCommandsComplete : Obligations.PowerCommandsComplete := by
  refine ⟨?_, ?_, ?_, ?_, ?_, ?_, ?_⟩
  · intro s q a hopens hidle
    exact ⟨fun hallowed => answers_of_effect (pwrCmdP0Effect q) rfl (Dev.powerCmd_of_ne_three hopens hidle hallowed (by decide)),
      fun hallowed => answers_of_effect (pwrCmdP1Effect q) rfl (Dev.powerCmd_of_ne_three hopens hidle hallowed (by decide)),
      fun hallowed => answers_of_effect (pwrCmdP2Effect q) rfl (Dev.powerCmd_of_ne_three hopens hidle hallowed (by decide)),
      fun hallowed => ⟨_, rfl, answers_of_effect (pwrCmdP3Effect q) rfl (pwrCmdP3Effect_of_allowed hopens hidle hallowed rfl)⟩⟩
  · intro d x _ _
    by_cases horder : d.power = x ∨ d.power = 3
    · have hcheck := Dev.powerCheck_of_order horder
      omega
    · have hcheck := Dev.powerCheck_in_order horder
      omega
  · exact fun s hwait => answers_of_effect pfD3hotEffect rfl (pfD3hotEffect_of_waiting hwait)
  · intro s pcie hpower hidle henabled hto
    exact answers_of_effect (wakeEffect pcie) rfl (wakeEffect_of_enabled hpower hidle henabled hto)
  · intro s hbusy hwait
    exact ⟨_, rfl, answers_of_effect sysPwrDoneEffect rfl (sysPwrDoneEffect_of_busy hbusy hwait rfl)⟩
  · intro s ref d href hruns hd
    have heffect := sysRefLostEffect_of_running (Fin.val_ne_of_ne href) hruns hd
    exact ⟨fun hpcie => answers_of_effect (sysRefLostEffect ref) rfl (heffect.trans (if_pos hpcie)),
      fun hports => answers_of_effect (sysRefLostEffect ref) rfl (heffect.trans (if_neg hports))⟩
  · intro s tj d hd
    have heffect := sysTempWarnEffect_eq hd
    exact ⟨fun hbelow hreached => answers_of_effect (sysTempWarnEffect tj) rfl (heffect.trans (if_pos ⟨hbelow, hreached⟩)),
      fun hquiet => answers_of_effect (sysTempWarnEffect tj) rfl (heffect.trans (if_neg hquiet))⟩

end Sys2Proof.Machine

/-! ## EXT.N of an accumulator of zero (R136, R437) -/

namespace Sys2Proof.Machine

variable {c : Core} {d : Dev} {n k m f v w : Nat}

/-- Of zero the exponent is the largest a shift takes, and the shift it reports is 0. -/
theorem normShift_zero : normShift 0 = (31, 0) := by decide

/-- Zero extracted by any shift EXT.N uses is zero. -/
theorem extractNorm_value_of_zero {a : Nat} (ha : a = 0) : (extractTo 32 (sInt 72 a) (32 - (normShift a).1).toNat).1 = 0 := by
  rw [ha, normShift_zero]
  decide

/-- A core with two results set out, the first setting FLG. -/
def Core.pairIssued (c : Core) (f k v m w : Nat) : Core := Core.push { c.push (.reg k) v 0 with flg := f } (.reg m) w 0

/-- Results for two registers are both let through. -/
theorem landing_pair (hne : k ≠ m) :
    landing [⟨.reg k, v, 0⟩, ⟨.reg m, w, 0⟩] = ([⟨.reg k, v, 0⟩, ⟨.reg m, w, 0⟩], false) := by
  have hkm : m ≠ k := hne.symm
  simp [landing, hkm]

/-- Results for two D registers land side by side at the end of their word. -/
theorem Core.pairIssued_land (hpipe : c.pipe = []) (hk : k < 0x10) (hm : m < 0x10) (hne : k ≠ m) :
    (c.issuing.pairIssued f k v m w).land = { c.issuing with regs := tset 0 (tset 0 c.regs k (v % 2 ^ 32)) m (w % 2 ^ 32), flg := f } := by
  have hpair : (c.issuing.pairIssued f k v m w).pipe = [⟨.reg k, v, 0⟩, ⟨.reg m, w, 0⟩] :=
    congrArg (fun p => (p ++ [⟨.reg k, v, 0⟩]) ++ [⟨.reg m, w, 0⟩]) hpipe
  have hland : (c.issuing.pairIssued f k v m w).land = (Core.landReg { c.issuing with pipe := [], flg := f } k v).landReg m w := by
    rw [Core.land, hpair]
    simp only [List.filter, BEq.rfl, bne_self_eq_false, landing_pair hne]
    rfl
  rw [hland, Core.landReg_of_lt hk, Core.landReg_of_lt hm, ← hpipe]
  rfl

/-- A lone operation at no cost of cycles that leaves the core as `c`: what is due lands, the core goes on behind its word and spends
one cycle. -/
theorem Dev.perform_made_of_slotOp {op : SlotOp} {e : Dev} (hslot : issueSlot op ≠ 4) (hbranch : c.branch = none) (hloop : c.b2 3 = 0)
    (hstep : c.land.step = false) (hop : Dev.slotOp n (d.core n) (d.setCore n (d.core n).issuing, 0) op = (e, 0))
    (hmade : CoreMade (d.setCore n (d.core n).issuing) n c e) : CoreMade d n ((c.passed 4).spent 1) (d.perform n [op]) := by
  have hword := (((d.setCore_made n (d.core n).issuing).trans hmade).trans (e.setCore_made n (c.passed 4))).trans (Dev.spend_made _ n 1)
  rw [Dev.setCore_core_self] at hword
  rw [Dev.perform_lone, hop]
  dsimp only
  rw [hmade.self, Core.sequence_of_straight hslot hbranch hloop]
  dsimp only
  have hgo : ¬ ((c.passed 4).spent 1).step = true := ne_true_of_eq_false hstep
  rwa [Dev.flowEffect_of_slot_ne _ _ hslot, if_neg (hword.self ▸ hgo)]

/-- A device after the extraction of zero. -/
def Dev.zeroExtracted (d : Dev) (n k m f : Nat) : Dev := (d.aluResult n k 0 f).result n m 0 0

/-- EXT.N of zero sends two zeros out. -/
theorem Dev.extractNorm_of_zero {a : Nat} (hzero : c.accSeen a = 0) :
    d.extractNorm n c k m a = d.zeroExtracted n k m (flagsOf (d.core n).flg 0) := by
  rw [Dev.extractNorm, extractNorm_value_of_zero hzero, hzero, normShift_zero]
  rfl

theorem Dev.zeroExtracted_made : CoreMade d n ((d.core n).pairIssued f k 0 m 0) (d.zeroExtracted n k m f) := by
  have hfirst := d.setCore_made n { (d.core n).push (.reg k) 0 0 with flg := f }
  have hsecond := hfirst.trans (Dev.setCore_made _ n ((d.core n).pairIssued f k 0 m 0))
  rw [Dev.zeroExtracted, Dev.result, Dev.modCore, Dev.aluResult, Dev.modCore, Dev.setCore_core_self]
  exact hsecond

/-- EXT.N of zero, alone in its word, makes one core: both of its registers take 0. -/
theorem Dev.perform_extN_of_zero {k m : Fin 16} {acc : Fin 4} (hne : k ≠ m) (hpipe : (d.core n).pipe = [])
    (hbranch : (d.core n).branch = none) (hloop : (d.core n).b2 3 = 0) (hstep : (d.core n).step = false)
    (hzero : (d.core n).accSeen acc = 0) :
    CoreMade d n ((((d.core n).issuing.pairIssued (flagsOf (d.core n).flg 0) k 0 m 0).passed 4).spent 1)
      (d.perform n [.extN k m acc]) := by
  have hmade : CoreMade (d.setCore n (d.core n).issuing) n ((d.core n).issuing.pairIssued (flagsOf (d.core n).flg 0) k 0 m 0)
      ((d.setCore n (d.core n).issuing).zeroExtracted n k m (flagsOf (d.core n).flg 0)) := by
    have hboth := Dev.zeroExtracted_made (d := d.setCore n (d.core n).issuing) (n := n) (k := k) (m := m)
      (f := flagsOf (d.core n).flg 0)
    rwa [Dev.setCore_core_self] at hboth
  have hop : Dev.slotOp n (d.core n) (d.setCore n (d.core n).issuing, 0) (.extN k m acc) =
      ((d.setCore n (d.core n).issuing).zeroExtracted n k m (flagsOf (d.core n).flg 0), 0) := by
    rw [Dev.slotOp, Dev.extractNorm_of_zero hzero, Dev.setCore_core_self]
    rfl
  refine Dev.perform_made_of_slotOp (by simp [issueSlot]) hbranch hloop ?_ hop hmade
  rw [Core.pairIssued_land hpipe k.isLt m.isLt (Fin.val_ne_of_ne hne)]
  exact hstep

/-- Settles O32: the word makes one core, in which both zeros have landed. -/
theorem extNOfZero : Obligations.ExtNOfZero := by
  intro s n k m acc hissues hne hpipe hbranch hloop hstep hzero
  obtain ⟨hself, -, -, -⟩ := Dev.perform_extN_of_zero hne hpipe hbranch hloop hstep hzero
  rw [Core.passed, Core.pairIssued_land hpipe k.isLt m.isLt (Fin.val_ne_of_ne hne)] at hself
  have hregs : ((s.dev.perform n [.extN k m acc]).core n).regs = tset 0 (tset 0 (s.dev.core n).regs k 0) m 0 := by
    rw [hself]
    rfl
  refine ⟨_, answers_of_issues rfl hissues, ?_⟩
  simp only [Core.r, hregs]
  exact ⟨(tat_tset_of_ne _ _ (Fin.val_ne_of_ne hne) _).trans (tat_tset_self _ _ _ _), tat_tset_self _ _ _ _,
    fun j hjk hjm => (tat_tset_of_ne _ _ hjm _).trans (tat_tset_of_ne _ _ hjk _)⟩

end Sys2Proof.Machine
